-- ==== Sys2Proof/Word.lean ====
section
/-! DEFINITION. The words of the node: bytes, 32-bit register words, 64-bit words, and a requester's ID. -/

namespace Sys2Proof

/-- A byte of a transfer or of a memory. -/
abbrev Byte := BitVec 8
/-- A register (spec 00_scope.md, "Registers": registers are 32 bits wide). -/
abbrev W32 := BitVec 32
/-- A word (spec 00_scope.md, "Numbers, sizes and time": a word is 64 bits). -/
abbrev Word := BitVec 64
/-- A requester ID: a 12-bit node ID; 0xFFF is the control core (R154, Table 7-1). -/
abbrev ReqId := BitVec 12
/-- The 384 bits of a seed or of a piece of additional input (R77, R98). -/
abbrev Seed384 := BitVec 384

end Sys2Proof
end

