-- ==== Sys2Proof/Syntax.lean ====
section
/-! DEFINITION. The commands of the node: one constructor of Instr for each row of spec/opcode_table.json, with the
row's operands. A command is what a host, a local host, the control core, a pin or a unit of the node does in one whole
step; values that the environment chooses (raw bits, error-correction outcomes, flash data, test outcomes) are operands. -/

namespace Sys2Proof

/-- The way an access comes: ring port A or B, the local serial port, or the control core (Table 7-1). -/
inductive Path where
  | portA | portB | lsp | core
  deriving DecidableEq, Repr, Inhabited

/-- A ring port (R239). -/
inductive PortId where
  | a | b
  deriving DecidableEq, Repr, Inhabited

/-- Who makes an access: its path, its requester ID, and what a ring request carries: its transaction number, and HOLD of a read that is
neither of a delivery window nor of CMP_DATA (R241, R244). -/
structure Acc where
  path : Path
  req : ReqId
  txn : BitVec 16
  hold : Bool
  deriving DecidableEq, Repr, Inhabited

/-- An Ilser frame: the header fields of Table 10-2, and the payload bytes (R241). -/
structure Frame where
  type : BitVec 6
  vc : BitVec 2
  src : BitVec 12
  dst : BitVec 12
  hops : BitVec 12
  hold : Bool
  unchecked : Bool
  resent : Bool
  late : Bool
  txn : BitVec 16
  status : BitVec 4
  len : BitVec 9
  addr : BitVec 48
  h2 : Word
  payload : List Byte
  deriving DecidableEq, Repr, Inhabited

/-- What the node samples at internal reset release (R331, R349, R358): straps, TAMPER_N, the reserved test pin, and the
outcome of the OTP load (words corrected, an uncorrectable error). -/
structure ResetPins where
  role : Bool
  bootSel1 : Bool
  bootSel0 : Bool
  tamperN : Bool
  testEn : Bool
  otpCorrected : W32
  otpUncorrectable : Bool
  deriving DecidableEq, Repr, Inhabited

/-- The IEEE 1149.1 instructions the node supports (R359). -/
inductive JtagHold where
  | bypass | idcode | samplePreload | extest | clamp | highz
  deriving DecidableEq, Repr, Inhabited

/-- The boot flash as the mask ROM finds it (R332 to R335): the bytes of window 0 from offset 0 (primary) and from
0x80_0000 (secondary), and whether the confirmation passes of the boot and microcode signatures agree (R229). -/
structure BootFlash where
  primary : List Byte
  secondary : List Byte
  agreeBoot : Bool
  agreeUcode : Bool
  deriving DecidableEq, Repr, Inhabited

/-- A register of the CAL block that CAL_OVERRIDE_WRITE writes (R345). -/
inductive CalReg where
  | cutCell
  | cutWit
  | timeTrim
  | cell (n : Nat)
  | wit (b : Nat)
  deriving DecidableEq, Repr, Inhabited

/-- What the PACE window measured (R18 to R21): RATIO, TJ, the mean race rate, and the rates of cells and witnesses. -/
structure PaceMeasure where
  ratio : BitVec 16
  tj : BitVec 16
  race : BitVec 16
  cells : List (BitVec 12)
  wits : List (BitVec 8)
  deriving DecidableEq, Repr, Inhabited

/-- What the SECDED code finds on one word read (R125). -/
inductive EccResult where
  | ok | corrected | uncorrectable
  deriving DecidableEq, Repr, Inhabited

/-- What the SECDED code finds on the words of a grant, in queue order; a word past the list reads without error. -/
abbrev GrantEcc := List EccResult

/-- A wait that can reach its stall limit (R140): a consumer on a queue, a RESEED's wait for seeds, a job's wait for a
ring path. -/
inductive WaitId where
  | queue (q key : Nat)
  | seeds (job : Nat)
  | path (job : Nat)
  deriving DecidableEq, Repr, Inhabited

/-- A unit that the bench test command names (R238). -/
inductive BenchUnit where
  | bench (n : Nat)
  | hash
  deriving DecidableEq, Repr, Inhabited

/-- An access to a bench operand window (R220). -/
inductive WindowOp where
  | read (len : Nat)
  | write (bytes : List Byte)
  deriving DecidableEq, Repr, Inhabited

/-- The bytes of a register write: whole words, and the bytes past the last of them (R313). -/
structure RegBytes where
  words : List W32
  rest : List Byte
  deriving DecidableEq, Repr, Inhabited

/-- The length of a register read: `4 * words + rest` bytes (R313). -/
structure RegLength where
  words : Nat
  rest : Nat
  deriving DecidableEq, Repr, Inhabited

/-- What comes in on LSP_MOSI: the bits of a low period of LSP_SEL_1, and those of each low period after it, with the length in ns of the
high period between (R295). -/
structure LowPeriods where
  bits : List Bool
  more : List (Nat × List Bool)
  deriving DecidableEq, Repr, Inhabited

/-- The commands of the node, one for each row of spec/opcode_table.json. -/
inductive Instr where
  /-- VIN_RISE. -/
  | vinRise (selL : Bool) (selC : Bool)
  /-- INTERNAL_RESET_RELEASE. -/
  | internalResetRelease (x : ResetPins)
  /-- RESET_ASSERT. -/
  | resetAssert
  /-- BROWN_OUT. -/
  | brownOut
  /-- JTAG_RESET_HOLD. -/
  | jtagResetHold (i : JtagHold)
  /-- ROM_BOOT. -/
  | romBoot (x : BootFlash)
  /-- BOOT_DONE. -/
  | bootDone (a : Acc)
  /-- TAMPER. -/
  | tamper (ns : Nat)
  /-- CAL_RESTORE. -/
  | calRestore (a : Acc) (groups : BitVec 4) (lock : Bool) (pin : Bool)
  /-- CAL_LOCK. -/
  | calLock (a : Acc) (groups : BitVec 4) (pin : Bool)
  /-- CAL_RESTORE_PIN. -/
  | calRestorePin (a : Acc) (groups : BitVec 4) (lock : Bool)
  /-- CAL_OVERRIDE_WRITE. -/
  | calOverrideWrite (a : Acc) (r : CalReg) (v : W32)
  /-- SIL_HLT_RESP_WRITE. -/
  | silHltRespWrite (a : Acc) (v : W32)
  /-- COMPAT_ENTER. -/
  | compatEnter (a : Acc) (pin : Bool)
  /-- COMPAT_LEAVE. -/
  | compatLeave (a : Acc) (pin : Bool)
  /-- COMPAT_PIN. -/
  | compatPin (a : Acc) (en : Bool)
  /-- SLOW_CLOCK_SELECT. -/
  | slowClockSelect (a : Acc) (v : W32)
  /-- SLOWCLK_LOST. -/
  | slowclkLost
  /-- PACE_WINDOW_END. -/
  | paceWindowEnd (x : PaceMeasure)
  /-- RACE. -/
  | race (n : Nat) (bit : Bool)
  /-- WITNESS_SAMPLE. -/
  | witnessSample (b : Nat) (bit : Bool)
  /-- GRN_EN_WRITE. -/
  | grnEnWrite (a : Acc) (b : Nat) (v : W32)
  /-- GRN_RESTART. -/
  | grnRestart (a : Acc) (src : BitVec 7)
  /-- GRN_RETIRE. -/
  | grnRetire (a : Acc) (board : Bool) (idx : BitVec 7)
  /-- CAPTURE_START. -/
  | captureStart (a : Acc) (src : BitVec 7) (pin : Bool)
  /-- CAPTURE_PIN. -/
  | capturePin (a : Acc) (src : BitVec 7) (start : Bool)
  /-- GRN_RAW_DATA_READ. -/
  | grnRawDataRead (a : Acc)
  /-- HLT_SNAP. -/
  | hltSnap (a : Acc)
  /-- HLT_SNAP_DONE. -/
  | hltSnapDone
  /-- HLT_RETRY_PIN. -/
  | hltRetryPin (a : Acc) (ms : BitVec 16)
  /-- SEED_READY. -/
  | seedReady (b : Nat)
  /-- SEED_HANDOVER. -/
  | seedHandover
  /-- HELD_SEED_AGED. -/
  | heldSeedAged (b : Nat)
  /-- PLANE_KAT_DONE. -/
  | planeKatDone (b : Nat) (compOk : Bool) (hashOk : Bool)
  /-- PLN_KAT_CMD. -/
  | plnKatCmd (a : Acc) (mask : BitVec 8)
  /-- TAL_SNAP. -/
  | talSnap (a : Acc)
  /-- TAL_SNAP_DONE. -/
  | talSnapDone
  /-- LANE_SEGMENT. -/
  | laneSegment (n : Nat) (cut : Option Nat)
  /-- LANE_KAT_DONE. -/
  | laneKatDone (n : Nat) (ok : Bool)
  /-- LANE_TIME_CAP. -/
  | laneTimeCap (n : Nat)
  /-- LANE_HANDSHAKE_TIMEOUT. -/
  | laneHandshakeTimeout (n : Nat)
  /-- LAN_EN_WRITE. -/
  | lanEnWrite (a : Acc) (v : W32)
  /-- LAN_RESEED_CMD. -/
  | lanReseedCmd (a : Acc) (mask : BitVec 16)
  /-- LAN_KAT_CMD. -/
  | lanKatCmd (a : Acc) (mask : BitVec 16)
  /-- LAN_QBIND_WRITE. -/
  | lanQbindWrite (a : Acc) (q : Nat) (v : W32)
  /-- MIX_PIECE_ABSORB. -/
  | mixPieceAbsorb (n : Nat)
  /-- SEGMENT_OFFER. -/
  | segmentOffer (n : Nat)
  /-- PATROL_READ. -/
  | patrolRead (addr : Nat) (e : EccResult)
  /-- AGE_SCRUB. -/
  | ageScrub (q : Nat)
  /-- QUEUE_ENABLE. -/
  | queueEnable (a : Acc) (q : Nat) (v : W32)
  /-- QUEUE_DISABLE. -/
  | queueDisable (a : Acc) (q : Nat) (v : W32)
  /-- QUEUE_FLUSH. -/
  | queueFlush (a : Acc) (q : Nat) (v : W32)
  /-- QUEUE_CONFIG_WRITE. -/
  | queueConfigWrite (a : Acc) (q : Nat) (size : Bool) (v : W32)
  /-- DQ_MIN_READ. -/
  | dqMinRead (a : Acc) (q : Nat)
  /-- DQ_WPTR_READ. -/
  | dqWptrRead (a : Acc) (q : Nat)
  /-- STK_TAG_SEL_WRITE. -/
  | stkTagSelWrite (a : Acc) (v : W32)
  /-- DELIVERY_READ. -/
  | deliveryRead (a : Acc) (q : Nat) (len : Nat) (hold : Bool)
  /-- DELIVERY_WINDOW_WRITE. -/
  | deliveryWindowWrite (a : Acc) (q : Nat)
  /-- GRANT_ALLOT. -/
  | grantAllot (q : Nat) (e : GrantEcc)
  /-- STALL_LIMIT_EXPIRE. -/
  | stallLimitExpire (w : WaitId)
  /-- MARK_FORCED. -/
  | markForced (q : Nat)
  /-- RESULT_WRITE_DROP. -/
  | resultWriteDrop (p : PortId) (txn : BitVec 16)
  /-- DIST_CANDIDATE. -/
  | distCandidate (j : Nat)
  /-- ARRAY_CLEAR_DONE. -/
  | arrayClearDone
  /-- SUBMISSION_WRITE. -/
  | submissionWrite (a : Acc) (w : Nat) (bytes : List Byte)
  /-- DRAW. -/
  | draw
  /-- DRAWN. -/
  | drawn
  /-- DRAWP. -/
  | drawp
  /-- MIX. -/
  | mix
  /-- RESEED. -/
  | reseed
  /-- PEG. -/
  | peg
  /-- AT. -/
  | atInstr
  /-- BEACON. -/
  | beacon
  /-- VERIFY. -/
  | verify
  /-- BATCH. -/
  | batch
  /-- DIGEST. -/
  | digest
  /-- TALLY. -/
  | tally
  /-- TEST. -/
  | test
  /-- NOTE. -/
  | note
  /-- ABORT. -/
  | abort
  /-- RESTORE. -/
  | restore
  /-- END. -/
  | endMark
  /-- UNKNOWN_OPCODE. -/
  | unknownOpcode
  /-- AT_LAUNCH. -/
  | atLaunch (j : Nat)
  /-- BEACON_GRANT_REQUEST. -/
  | beaconGrantRequest (j : Nat)
  /-- BEACON_LAUNCH. -/
  | beaconLaunch (j : Nat)
  /-- FENCE_RELEASE. -/
  | fenceRelease (req : ReqId)
  /-- EVENT_QUEUE_STORE. -/
  | eventQueueStore
  /-- JOB_TAG_SEL_WRITE. -/
  | jobTagSelWrite (a : Acc) (v : W32)
  /-- JOB_PEAK_READ. -/
  | jobPeakRead (a : Acc)
  /-- BENCH_CLAIM. -/
  | benchClaim (a : Acc) (n : Nat)
  /-- BENCH_RELEASE. -/
  | benchRelease (a : Acc) (n : Nat)
  /-- BENCH_IDLE_TIMEOUT. -/
  | benchIdleTimeout (n : Nat)
  /-- BENCH_JOB_START. -/
  | benchJobStart
  /-- BENCH_VERDICT. -/
  | benchVerdict (n : Nat) (agree : Bool)
  /-- BENCH_CLEAR_DONE. -/
  | benchClearDone (n : Nat)
  /-- BENCH_KAT_CMD. -/
  | benchKatCmd (a : Acc) (v : W32)
  /-- BENCH_KAT_DONE. -/
  | benchKatDone (u : BenchUnit) (ok : Bool)
  /-- UCODE_STORE_ERROR. -/
  | ucodeStoreError (unc : Bool)
  /-- BENCH_WINDOW_ACCESS. -/
  | benchWindowAccess (a : Acc) (n : Nat) (off : Nat) (op : WindowOp)
  /-- HASH_TURN_DONE. -/
  | hashTurnDone
  /-- PORT_TRAIN. -/
  | portTrain (p : PortId)
  /-- IDENT_RX. -/
  | identRx (p : PortId) (w : Word)
  /-- LINK_RX. -/
  | linkRx (p : PortId) (w : Word)
  /-- FRAME_CRC_ERROR. -/
  | frameCrcError (p : PortId) (badBlock : Bool)
  /-- REPLAY_TIMER. -/
  | replayTimer (p : PortId)
  /-- PORT_RESTORE_TIMER. -/
  | portRestoreTimer (p : PortId)
  /-- PORT_RESTORE_CMD. -/
  | portRestoreCmd (a : Acc) (v : W32)
  /-- LOSS_OF_LOCK. -/
  | lossOfLock (p : PortId)
  /-- HIGH_BER. -/
  | highBer (p : PortId)
  /-- RETRANSMISSION_LIMIT. -/
  | retransmissionLimit (p : PortId)
  /-- CREDIT_TIMEOUT. -/
  | creditTimeout (p : PortId)
  /-- BREAK_RX. -/
  | breakRx (p : PortId) (f : Frame)
  /-- RING_RX_BAD. -/
  | ringRxBad (p : PortId) (f : Frame)
  /-- TRANSIT_FRAME. -/
  | transitFrame (p : PortId) (f : Frame) (resid : BitVec 40)
  /-- WR_ACK_RX. -/
  | wrAckRx (p : PortId) (f : Frame)
  /-- RD_RSP_RX. -/
  | rdRspRx (p : PortId) (f : Frame)
  /-- UNMAPPED_ACCESS. -/
  | unmappedAccess (a : Acc) (addr : Nat) (wr : Bool)
  /-- ENUM. -/
  | enumFrame (p : PortId) (f : Frame)
  /-- BEACON_RX. -/
  | beaconRx (p : PortId) (f : Frame)
  /-- ANNOUNCE_TX. -/
  | announceTx
  /-- ANNOUNCE_RX. -/
  | announceRx (p : PortId) (f : Frame)
  /-- MGR_STANDBY_TIMEOUT. -/
  | mgrStandbyTimeout
  /-- HELLO_TX. -/
  | helloTx
  /-- HELLO_RX. -/
  | helloRx (p : PortId) (f : Frame)
  /-- WORKER_SLOT_EXPIRE. -/
  | workerSlotExpire (k : Nat)
  /-- PEER_TX. -/
  | peerTx (k : Nat)
  /-- PEER_RX. -/
  | peerRx (p : PortId) (f : Frame)
  /-- GATHER_TX. -/
  | gatherTx (k : Nat)
  /-- GATHER_RX. -/
  | gatherRx (p : PortId) (f : Frame)
  /-- REPORT_TALLY_RX. -/
  | reportTallyRx (p : PortId) (f : Frame)
  /-- REPORT_HEALTH_RX. -/
  | reportHealthRx (p : PortId) (f : Frame)
  /-- GATHER_STALE. -/
  | gatherStale (k : Nat)
  /-- ALARM_RX. -/
  | alarmRx (p : PortId) (f : Frame)
  /-- FABRIC_ALARM_RX. -/
  | fabricAlarmRx (p : PortId) (f : Frame)
  /-- SYNC_TX. -/
  | syncTx
  /-- SYNC_RX. -/
  | syncRx (p : PortId) (f : Frame)
  /-- CK_TIME_LOST. -/
  | ckTimeLost
  /-- CK_TIME_RESTORED. -/
  | ckTimeRestored
  /-- TIME_SET. -/
  | timeSet (a : Acc) (adj : Bool) (pin : Bool)
  /-- TIME_ADJ. -/
  | timeAdj (a : Acc) (pin : Bool)
  /-- TIM_CMD_PIN. -/
  | timCmdPin (a : Acc) (set : Bool) (adj : Bool)
  /-- SYNC_IN_EDGE. -/
  | syncInEdge
  /-- TIME_HOLDOVER. -/
  | timeHoldover
  /-- SYNC_OUT_PULSE. -/
  | syncOutPulse
  /-- SYNC_OUT_PULSE_END. -/
  | syncOutPulseEnd
  /-- SYNCOUT_START_WRITE. -/
  | syncoutStartWrite (a : Acc) (v : W32)
  /-- ROLE_SWITCH. -/
  | roleSwitch (a : Acc) (v : W32)
  /-- LSP_TRANSFER. -/
  | lspTransfer (mosi : LowPeriods)
  /-- ENGINE_READ. -/
  | engineRead
  /-- ENGINE_WRITE. -/
  | engineWrite
  /-- ENGINE_NOP. -/
  | engineNop
  /-- LSP_RX_DATA_READ. -/
  | lspRxDataRead (a : Acc)
  /-- LSP_TX_DATA_WRITE. -/
  | lspTxDataWrite (a : Acc) (v : W32)
  /-- ENGINE_SWITCH. -/
  | engineSwitch
  /-- XIP_READ. -/
  | xipRead (a : Acc) (w : Nat) (off : Nat) (len : Nat)
  /-- XIP_WRITE. -/
  | xipWrite (a : Acc) (w : Nat) (off : Nat) (bytes : List Byte)
  /-- FLASH_POLL. -/
  | flashPoll (sr : Byte)
  /-- POLL_TIMEOUT. -/
  | pollTimeout
  /-- RAW_COMMAND. -/
  | rawCommand (a : Acc) (v : W32)
  /-- XIP_TRANSACTION_DONE. -/
  | xipTransactionDone (data : List Byte)
  /-- FLASH_LOCK. -/
  | flashLock (a : Acc) (l0 : Bool) (l1 : Bool) (pin : Bool)
  /-- FLASH_LOCK_PIN. -/
  | flashLockPin (a : Acc) (l0 : Bool) (l1 : Bool)
  /-- REGISTER_WRITE. -/
  | registerWrite (a : Acc) (off : Nat) (ws : RegBytes)
  /-- GUARD_ARM. -/
  | guardArm (a : Acc) (off : Nat) (v : W32)
  /-- GUARD_COMPLEMENT. -/
  | guardComplement (a : Acc) (off : Nat) (w : W32)
  /-- GUARD_TIMEOUT. -/
  | guardTimeout (req : ReqId)
  /-- MBX_CLAIM. -/
  | mbxClaim (a : Acc) (item : BitVec 16)
  /-- MBX_RELEASE. -/
  | mbxRelease (a : Acc)
  /-- MBX_DATA7_READ. -/
  | mbxData7Read (a : Acc)
  /-- MBX_HOLD_TIMEOUT. -/
  | mbxHoldTimeout
  /-- MBX_UID_READ. -/
  | mbxUidRead (a : Acc)
  /-- MBX_CLASS_TABLE_READ. -/
  | mbxClassTableRead (a : Acc) (pg : BitVec 5)
  /-- MBX_CLASS_TABLE_WRITE. -/
  | mbxClassTableWrite (a : Acc) (pg : BitVec 5)
  /-- MBX_OTP_INFO_READ. -/
  | mbxOtpInfoRead (a : Acc)
  /-- MBX_KEY_DIGEST_READ. -/
  | mbxKeyDigestRead (a : Acc) (hi : Bool)
  /-- MBX_TALLY_PAGE_READ. -/
  | mbxTallyPageRead (a : Acc) (pg : BitVec 3)
  /-- MBX_UCODE_DIGEST_READ. -/
  | mbxUcodeDigestRead (a : Acc)
  /-- MBX_GATHER_TALLY_READ. -/
  | mbxGatherTallyRead (a : Acc) (pg : BitVec 3)
  /-- MBX_GATHER_HEALTH_READ. -/
  | mbxGatherHealthRead (a : Acc)
  /-- MBX_TIME_CAPTURE. -/
  | mbxTimeCapture (a : Acc)
  /-- MBX_SYNC_IN_STAMP. -/
  | mbxSyncInStamp (a : Acc)
  /-- MBX_EVENT_REMOVE. -/
  | mbxEventRemove (a : Acc)
  /-- MBX_EVENT_PEEK. -/
  | mbxEventPeek (a : Acc)
  /-- CMP_DATA_READ. -/
  | cmpDataRead (a : Acc)
  /-- CMP_CELL_EN_WRITE. -/
  | cmpCellEnWrite (a : Acc) (v : W32)
  /-- CMP_REFRESH. -/
  | cmpRefresh (a : Acc)
  /-- CMP_FAIL_CNT_READ. -/
  | cmpFailCntRead (a : Acc)
  /-- CLEARING_READ. -/
  | clearingRead (a : Acc) (off : Nat) (n : RegLength)
  /-- CK_RING_ABSENT. -/
  | ckRingAbsent
  /-- JOB_ENGINE_LOST. -/
  | jobEngineLost
  deriving DecidableEq, Repr, Inhabited

end Sys2Proof
end

