-- ==== Sys2Proof/Config.lean ====
section
/-! DEFINITION. What one part fixes (its OTP and mask ROM) and the free values: constants without a body, so that no
proof can lean on a value that the spec leaves open. notes/assumptions says of each why it is open. -/

namespace Sys2Proof.Config

/-- The 128-bit unique identifier in OTP (mailbox item 0x0000, R101) (DESIGN CHOICE, notes/assumptions/5). -/
opaque uid : BitVec 128
/-- The factory balance trim of a cell (GRN_FACT_n.FACTORY_TRIM) (DESIGN CHOICE, notes/assumptions/5). -/
opaque factoryTrim : Nat → BitVec 6
/-- The factory comparator offset of a witness (CAL_WIT_b at reset) (DESIGN CHOICE, notes/assumptions/5). -/
opaque witOffset : Nat → BitVec 8
/-- The customer key digest in OTP; none on an engineering sample (R334) (DESIGN CHOICE, notes/assumptions/5). -/
opaque keyDigest : Option (BitVec 384)
/-- The mask ROM version (SIL_STAT.ROM_VERSION) (DESIGN CHOICE, notes/assumptions/5). -/
opaque romVersion : BitVec 12
/-- The OTP layout version (mailbox item 0x0200) (DESIGN CHOICE, notes/assumptions/5). -/
opaque otpLayout : BitVec 16
/-- The modulus of Kolenati's RSA-4096 microcode key in the mask ROM (R335) (DESIGN CHOICE, notes/assumptions/5). -/
opaque kolenatiModulus : BitVec 4096
/-- The message that is hashed into the mask key, from the first-seasoning samples of every source, in the order the part takes them; the
spec gives no order (R128) (DEDUCED, notes/assumptions/45). -/
opaque maskMessage : List (List Bool) → List Byte
/-- Whether a CK_SLOW edge falls in the n-th CK_TIME period since reset; the two clocks have no stated phase (DESIGN CHOICE,
notes/assumptions/3). -/
opaque slowEdge : Nat → Bool
/-- Whether a change of CLK_SEL costs two ticks rather than one (R275), for the n-th draw (DESIGN CHOICE, notes/assumptions/95). -/
opaque clkSelTwo : Nat → Bool
/-- Whether a TAMPER_N pulse between 50 and 200 ns counts (R348), for the n-th draw (DESIGN CHOICE, notes/assumptions/25). -/
opaque tamperCounts : Nat → Bool
/-- Whether a high period of LSP_SEL_1 between 10 and 40 ns ends the transfer (R295), for the n-th draw (DESIGN CHOICE, notes/assumptions/96). -/
opaque selectEnds : Nat → Bool
/-- Kolenati's manufacturer code in the IDCODE, which the BSDL file gives and the spec does not (R359) (PRESUMED, notes/assumptions/122).
-/
opaque jtagMaker : BitVec 11
/-- The value of a neighbour's sample before the neighbour has completed any (R69), for the n-th draw (DEDUCED, notes/assumptions/30). -/
opaque firstNeighbour : Nat → Bool
/-- Bits of a value that the spec leaves open, for the n-th draw (DESIGN CHOICE, notes/assumptions/4). -/
opaque freeWord : Nat → Word
/-- The link delay that an ECHO exchange measures, in ns, for the n-th draw (R251) (DEDUCED, notes/assumptions/77). -/
opaque linkDelay : Nat → BitVec 20

end Sys2Proof.Config
end

