-- ==== Sys2Proof/Machine/Bits.lean ====
section
/-! DEFINITION. Bit-field, byte-order and list helpers that the named operations share. -/

namespace Sys2Proof.Machine

/-- Bits [lo + n - 1 : lo] of a register word, as a number. -/
def fld (w : W32) (lo n : Nat) : Nat := (w.toNat >>> lo) % 2 ^ n

/-- Bits [lo + n - 1 : lo] of a 64-bit word, as a number. -/
def fldW (w : Word) (lo n : Nat) : Nat := (w.toNat >>> lo) % 2 ^ n

/-- Bit i of a register word. -/
def bitAt (w : W32) (i : Nat) : Bool := w.getLsbD i

/-- A flag as a number. -/
def b2n (b : Bool) : Nat := if b then 1 else 0

/-- A register word from its fields: each pair is a field's lowest bit and its value. -/
def packR (fs : List (Nat × Nat)) : W32 :=
  BitVec.ofNat 32 (fs.foldl (fun acc f => acc + f.2 <<< f.1) 0)

/-- A number clamped to the range from lo to hi (a field stored with clamps). -/
def clampN (lo hi v : Nat) : Nat := if v < lo then lo else if hi < v then hi else v

/-- The mask whose bit i is `f i`, over the first n bits. -/
def maskOf (n : Nat) (f : Nat → Bool) : Nat :=
  (List.range n).foldl (fun acc i => acc + (if f i then 2 ^ i else 0)) 0

/-- The indices below n whose bit is set in the mask. -/
def maskList (n m : Nat) : List Nat := (List.range n).filter (fun i => m.testBit i)

/-- Replace entry i of a list by its image. -/
def upd {α : Type} : List α → Nat → (α → α) → List α
  | [], _, _ => []
  | x :: xs, 0, f => f x :: xs
  | x :: xs, i + 1, f => x :: upd xs i f

/-- The eight bytes of a word, least significant byte first (R100). -/
def bytesLE (n : Nat) (v : Nat) : List Byte :=
  (List.range n).map (fun i => BitVec.ofNat 8 (v >>> (8 * i)))

/-- The n bytes of a value, most significant byte first. -/
def bytesBE (n : Nat) (v : Nat) : List Byte :=
  (List.range n).map (fun i => BitVec.ofNat 8 (v >>> (8 * (n - 1 - i))))

/-- The value of bytes given least significant byte first. -/
def leNat : List Byte → Nat
  | [] => 0
  | b :: bs => b.toNat + 256 * leNat bs

/-- The value of bytes given most significant byte first. -/
def beNat (bs : List Byte) : Nat := bs.foldl (fun acc b => acc * 256 + b.toNat) 0

/-- The bytes of a list of 64-bit words, each least significant byte first (R100). -/
def wordsToBytes (ws : List Word) : List Byte := ws.flatMap (fun w => bytesLE 8 w.toNat)

/-- The bytes of a list of 32-bit words, each least significant byte first. -/
def w32ToBytes (ws : List W32) : List Byte := ws.flatMap (fun w => bytesLE 4 w.toNat)

/-- A byte list cut into pieces of n bytes; the fuel bounds the number of pieces. -/
def chunksN {α : Type} (n : Nat) : Nat → List α → List (List α)
  | 0, _ => []
  | f + 1, l => if l.isEmpty then [] else l.take n :: chunksN n f (l.drop n)

/-- A list cut into pieces of n entries, the last one shorter when the length is no multiple. -/
def chunks {α : Type} (n : Nat) (l : List α) : List (List α) := chunksN n l.length l

/-- Bytes taken as 64-bit words, least significant byte first (R155). -/
def bytesToWords (bs : List Byte) : List Word := (chunks 8 bs).map (fun c => BitVec.ofNat 64 (leNat c))

/-- Bytes taken as 32-bit words, least significant byte first. -/
def bytesToW32 (bs : List Byte) : List W32 := (chunks 4 bs).map (fun c => BitVec.ofNat 32 (leNat c))

/-- Bytes padded with zeros at the end to n bytes. -/
def padTo (n : Nat) (bs : List Byte) : List Byte := bs ++ List.replicate (n - bs.length) 0

/-- The number of entries that satisfy a test. -/
def countP {α : Type} (p : α → Bool) (l : List α) : Nat := (l.filter p).length

/-- The entry with the least key, the first one among equals. -/
def argMin {α : Type} (key : α → Nat) : List α → Option α
  | [] => none
  | x :: xs =>
    match argMin key xs with
    | none => some x
    | some y => if key y < key x then some y else some x

/-- A setting in milliseconds as CK_SLOW cycles, rounded down (R378) (DESIGN CHOICE, notes/assumptions/3 and 105). -/
def msToSlow (ms : Nat) : Nat := ms * 32768 / 1000

/-- A count of CK_SLOW cycles as whole milliseconds. -/
def slowToMs (n : Nat) : Nat := n * 1000 / 32768

/-- The number of bits of a value: 0 for 0 (R149). -/
def bitLen : Nat → Nat
  | 0 => 0
  | n + 1 => Nat.log2 (n + 1) + 1

/-- A saturating addition. -/
def satAdd (top a b : Nat) : Nat := if top < a + b then top else a + b

end Sys2Proof.Machine
end

