-- ==== Sys2Proof/Machine/Aes.lean ====
section
/-! DEFINITION. AES-256 in encryption (FIPS 197), on bytes and on 128-bit values. -/

namespace Sys2Proof.Machine

/-- The AES S-box, values for inputs 0 to 15. -/
def aesSbox0 : List Byte :=
  [0x63, 0x7c, 0x77, 0x7b, 0xf2, 0x6b, 0x6f, 0xc5,
   0x30, 0x01, 0x67, 0x2b, 0xfe, 0xd7, 0xab, 0x76]

/-- The AES S-box, values for inputs 16 to 31. -/
def aesSbox1 : List Byte :=
  [0xca, 0x82, 0xc9, 0x7d, 0xfa, 0x59, 0x47, 0xf0,
   0xad, 0xd4, 0xa2, 0xaf, 0x9c, 0xa4, 0x72, 0xc0]

/-- The AES S-box, values for inputs 32 to 47. -/
def aesSbox2 : List Byte :=
  [0xb7, 0xfd, 0x93, 0x26, 0x36, 0x3f, 0xf7, 0xcc,
   0x34, 0xa5, 0xe5, 0xf1, 0x71, 0xd8, 0x31, 0x15]

/-- The AES S-box, values for inputs 48 to 63. -/
def aesSbox3 : List Byte :=
  [0x04, 0xc7, 0x23, 0xc3, 0x18, 0x96, 0x05, 0x9a,
   0x07, 0x12, 0x80, 0xe2, 0xeb, 0x27, 0xb2, 0x75]

/-- The AES S-box, values for inputs 64 to 79. -/
def aesSbox4 : List Byte :=
  [0x09, 0x83, 0x2c, 0x1a, 0x1b, 0x6e, 0x5a, 0xa0,
   0x52, 0x3b, 0xd6, 0xb3, 0x29, 0xe3, 0x2f, 0x84]

/-- The AES S-box, values for inputs 80 to 95. -/
def aesSbox5 : List Byte :=
  [0x53, 0xd1, 0x00, 0xed, 0x20, 0xfc, 0xb1, 0x5b,
   0x6a, 0xcb, 0xbe, 0x39, 0x4a, 0x4c, 0x58, 0xcf]

/-- The AES S-box, values for inputs 96 to 111. -/
def aesSbox6 : List Byte :=
  [0xd0, 0xef, 0xaa, 0xfb, 0x43, 0x4d, 0x33, 0x85,
   0x45, 0xf9, 0x02, 0x7f, 0x50, 0x3c, 0x9f, 0xa8]

/-- The AES S-box, values for inputs 112 to 127. -/
def aesSbox7 : List Byte :=
  [0x51, 0xa3, 0x40, 0x8f, 0x92, 0x9d, 0x38, 0xf5,
   0xbc, 0xb6, 0xda, 0x21, 0x10, 0xff, 0xf3, 0xd2]

/-- The AES S-box, values for inputs 128 to 143. -/
def aesSbox8 : List Byte :=
  [0xcd, 0x0c, 0x13, 0xec, 0x5f, 0x97, 0x44, 0x17,
   0xc4, 0xa7, 0x7e, 0x3d, 0x64, 0x5d, 0x19, 0x73]

/-- The AES S-box, values for inputs 144 to 159. -/
def aesSbox9 : List Byte :=
  [0x60, 0x81, 0x4f, 0xdc, 0x22, 0x2a, 0x90, 0x88,
   0x46, 0xee, 0xb8, 0x14, 0xde, 0x5e, 0x0b, 0xdb]

/-- The AES S-box, values for inputs 160 to 175. -/
def aesSbox10 : List Byte :=
  [0xe0, 0x32, 0x3a, 0x0a, 0x49, 0x06, 0x24, 0x5c,
   0xc2, 0xd3, 0xac, 0x62, 0x91, 0x95, 0xe4, 0x79]

/-- The AES S-box, values for inputs 176 to 191. -/
def aesSbox11 : List Byte :=
  [0xe7, 0xc8, 0x37, 0x6d, 0x8d, 0xd5, 0x4e, 0xa9,
   0x6c, 0x56, 0xf4, 0xea, 0x65, 0x7a, 0xae, 0x08]

/-- The AES S-box, values for inputs 192 to 207. -/
def aesSbox12 : List Byte :=
  [0xba, 0x78, 0x25, 0x2e, 0x1c, 0xa6, 0xb4, 0xc6,
   0xe8, 0xdd, 0x74, 0x1f, 0x4b, 0xbd, 0x8b, 0x8a]

/-- The AES S-box, values for inputs 208 to 223. -/
def aesSbox13 : List Byte :=
  [0x70, 0x3e, 0xb5, 0x66, 0x48, 0x03, 0xf6, 0x0e,
   0x61, 0x35, 0x57, 0xb9, 0x86, 0xc1, 0x1d, 0x9e]

/-- The AES S-box, values for inputs 224 to 239. -/
def aesSbox14 : List Byte :=
  [0xe1, 0xf8, 0x98, 0x11, 0x69, 0xd9, 0x8e, 0x94,
   0x9b, 0x1e, 0x87, 0xe9, 0xce, 0x55, 0x28, 0xdf]

/-- The AES S-box, values for inputs 240 to 255. -/
def aesSbox15 : List Byte :=
  [0x8c, 0xa1, 0x89, 0x0d, 0xbf, 0xe6, 0x42, 0x68,
   0x41, 0x99, 0x2d, 0x0f, 0xb0, 0x54, 0xbb, 0x16]

/-- The AES S-box of FIPS 197. -/
def aesSbox : List Byte :=
  aesSbox0 ++ aesSbox1 ++ aesSbox2 ++ aesSbox3 ++
  aesSbox4 ++ aesSbox5 ++ aesSbox6 ++ aesSbox7 ++
  aesSbox8 ++ aesSbox9 ++ aesSbox10 ++ aesSbox11 ++
  aesSbox12 ++ aesSbox13 ++ aesSbox14 ++ aesSbox15

/-- One byte through the S-box. -/
def aesSub (b : Byte) : Byte := aesSbox.getD b.toNat 0

/-- Multiplication by x in the field of FIPS 197. -/
def aesXtime (b : Byte) : Byte := if b.getLsbD 7 then (b <<< 1) ^^^ 0x1b else b <<< 1

/-- One column through MixColumns. -/
def aesMixCol (c : List Byte) : List Byte :=
  let a := c.getD 0 0
  let b := c.getD 1 0
  let d := c.getD 2 0
  let e := c.getD 3 0
  let t := a ^^^ b ^^^ d ^^^ e
  [a ^^^ t ^^^ aesXtime (a ^^^ b), b ^^^ t ^^^ aesXtime (b ^^^ d),
   d ^^^ t ^^^ aesXtime (d ^^^ e), e ^^^ t ^^^ aesXtime (e ^^^ a)]

/-- Bytewise exclusive or. -/
def xorBytes (a b : List Byte) : List Byte := List.zipWith (· ^^^ ·) a b

/-- ShiftRows on the 16 bytes of a state held column by column. -/
def aesShiftRows (s : List Byte) : List Byte :=
  (List.range 16).map (fun i => s.getD ((i + 4 * (i % 4)) % 16) 0)

/-- One middle round with its round key. -/
def aesRound (s k : List Byte) : List Byte :=
  xorBytes ((chunks 4 (aesShiftRows (s.map aesSub))).flatMap aesMixCol) k

/-- The round constant of key expansion step i (from 1). -/
def aesRcon : Nat → Byte
  | 0 => 0x8d
  | i + 1 => aesXtime (aesRcon i)

/-- The next four-byte word of the AES-256 key schedule: index i, previous word, word eight back. -/
def aesNextWord (i : Nat) (prev back : List Byte) : List Byte :=
  let t :=
    if i % 8 = 0 then
      xorBytes ((prev.drop 1 ++ prev.take 1).map aesSub) [aesRcon (i / 8), 0, 0, 0]
    else if i % 8 = 4 then prev.map aesSub
    else prev
  xorBytes t back

/-- The key schedule from word i on, given the last eight words (oldest first). -/
def aesExpandFrom : Nat → Nat → List (List Byte) → List (List Byte)
  | 0, _, _ => []
  | n + 1, i, win =>
    let w := aesNextWord i (win.getD 7 []) (win.headD [])
    w :: aesExpandFrom n (i + 1) (win.drop 1 ++ [w])

/-- The 15 round keys of a 32-byte key, 16 bytes each. -/
def aesKeys (key : List Byte) : List (List Byte) :=
  let w0 := chunks 4 key
  chunks 16 ((w0 ++ aesExpandFrom 52 8 w0).flatten)

/-- The rounds over the round keys that remain; the last one has no MixColumns. -/
def aesRoundsFrom : List (List Byte) → List Byte → List Byte
  | [], s => s
  | [k], s => xorBytes (aesShiftRows (s.map aesSub)) k
  | k :: ks, s => aesRoundsFrom ks (aesRound s k)

/-- AES-256 encryption of a 16-byte block under a 32-byte key. -/
def aes256Bytes (key blk : List Byte) : List Byte :=
  match aesKeys key with
  | [] => blk
  | k :: ks => aesRoundsFrom ks (xorBytes blk k)

/-- AES-256 encryption of a 128-bit value, most significant byte first. -/
def aes256 (key : BitVec 256) (v : BitVec 128) : BitVec 128 :=
  BitVec.ofNat 128 (beNat (aes256Bytes (bytesBE 32 key.toNat) (bytesBE 16 v.toNat)))

end Sys2Proof.Machine
end

