-- ==== Sys2Proof/Machine/Drbg.lean ====
section
/-! DEFINITION. The CTR_DRBG of a lane: SP 800-90A Rev. 1, section 10.2.1, AES-256 without derivation function
(R98 to R101). -/

namespace Sys2Proof.Machine

/-- The working state of a CTR_DRBG: Key, V and the reseed counter (R101). -/
structure Drbg where
  key : BitVec 256
  v : BitVec 128
  ctr : Nat
  deriving DecidableEq, Repr, Inhabited

/-- The zeroized working state. -/
def Drbg.zero : Drbg := ⟨0, 0, 0⟩

/-- n AES output blocks from V + 1 on, and V after them (ctr_len is 128: V wraps modulo 2^128). -/
def ctrBlocks (key : BitVec 256) : Nat → BitVec 128 → List (BitVec 128) × BitVec 128
  | 0, v => ([], v)
  | n + 1, v =>
    let r := ctrBlocks key n (v + 1)
    (aes256 key (v + 1) :: r.1, r.2)

/-- CTR_DRBG_Update with 384 bits of provided data. -/
def Drbg.update (d : Drbg) (data : Seed384) : Drbg :=
  let b := ctrBlocks d.key 3 d.v
  let temp : Nat := b.1.foldl (fun acc x => acc * 2 ^ 128 + x.toNat) 0
  let t : Seed384 := BitVec.ofNat 384 temp ^^^ data
  { d with key := t.extractLsb' 128 256, v := t.extractLsb' 0 128 }

/-- CTR_DRBG_Instantiate: Key and V start at zero; the seed material is the seed XOR the
personalization string; the reseed counter starts at 1 (R101). -/
def Drbg.instantiate (seed pers : Seed384) : Drbg :=
  { Drbg.update ⟨0, 0, 0⟩ (seed ^^^ pers) with ctr := 1 }

/-- CTR_DRBG_Reseed with additional input (zeros when there is none, R113). -/
def Drbg.reseed (d : Drbg) (seed add : Seed384) : Drbg :=
  { d.update (seed ^^^ add) with ctr := 1 }

/-- CTR_DRBG_Generate of nblk AES blocks: additional input enters both Updates (R112); without it
only the closing Update runs, on zeros. -/
def Drbg.generate (d : Drbg) (nblk : Nat) (add : Option Seed384) : List (BitVec 128) × Drbg :=
  let d0 := match add with
    | some a => d.update a
    | none => d
  let b := ctrBlocks d0.key nblk d0.v
  (b.1, { ({ d0 with v := b.2 } : Drbg).update (add.getD 0) with ctr := d0.ctr + 1 })

/-- The two words of one AES output block: bytes 0 to 7 make the first, least significant byte first (R100). -/
def blockWords (b : BitVec 128) : List Word :=
  bytesToWords (bytesBE 16 b.toNat)

/-- The n words of a Generate call; the odd half of a last block is no word (R99). -/
def Drbg.words (d : Drbg) (n : Nat) (add : Option Seed384) : List Word × Drbg :=
  let r := d.generate ((n + 1) / 2) add
  ((r.1.flatMap blockWords).take n, r.2)

end Sys2Proof.Machine
end

