-- ==== Sys2Proof/Machine/Mem.lean ====
section
/-! DEFINITION. A byte memory as a list of (address, byte) pairs in one canonical form: addresses strictly
rising, no entry equal to what an unlisted address reads as (zero). -/

namespace Sys2Proof.Machine

/-- A byte memory; an unlisted address reads as zero. -/
abbrev Mem := List Host.Cell

/-- What an address that is not listed reads as (DESIGN CHOICE, notes/assumptions/9). -/
def memDefault : Byte := 0

/-- Read one byte (DESIGN CHOICE, notes/assumptions/9). -/
def memGet : Mem → Nat → Byte
  | [], _ => memDefault
  | (k, v) :: m, a => if k = a then v else memGet m a

/-- Write one byte, keeping the canonical form. -/
def memSet : Mem → Nat → Byte → Mem
  | [], a, b => if b = memDefault then [] else [(a, b)]
  | (k, v) :: m, a, b =>
    if a < k then (if b = memDefault then (k, v) :: m else (a, b) :: (k, v) :: m)
    else if a = k then (if b = memDefault then m else (a, b) :: m)
    else (k, v) :: memSet m a b

/-- Write bytes at ascending addresses. -/
def memWrite : Mem → Nat → List Byte → Mem
  | m, _, [] => m
  | m, a, b :: bs => memWrite (memSet m a b) (a + 1) bs

/-- Read n bytes at ascending addresses. -/
def memRead (m : Mem) (a n : Nat) : List Byte := (List.range n).map (fun i => memGet m (a + i))

/-- Every listed address is above the bound, addresses rise strictly, and no entry is the default. -/
def memWfFrom : Nat → Mem → Bool
  | _, [] => true
  | lo, (k, v) :: m => decide (lo ≤ k) && decide (v ≠ memDefault) && memWfFrom (k + 1) m

/-- The canonical form of a memory (DESIGN CHOICE, notes/assumptions/9). -/
def memWf (m : Mem) : Bool := memWfFrom 0 m

/-- Read a 64-bit word at a byte address, least significant byte first. -/
def memWord (m : Mem) (a : Nat) : Word := BitVec.ofNat 64 (leNat (memRead m a 8))

/-- Read a 32-bit word at a byte address, least significant byte first. -/
def memW32 (m : Mem) (a : Nat) : W32 := BitVec.ofNat 32 (leNat (memRead m a 4))

end Sys2Proof.Machine
end

