-- ==== Sys2Proof/Machine/FrontState.lean ====
section
/-! DEFINITION. State of the entropy front end: sources and boards (02_grain_cells.md), health tests
(03_seasoning_and_health.md), planes and the tally (04_plane_and_tally.md). Plain data. -/

namespace Sys2Proof.Machine

/-- Cell and witness states, Table 2-2 (R38). -/
inductive SrcState where
  | off | seasoning | live | stopped | capture | retired
  deriving DecidableEq, Repr, Inhabited

/-- The code of a source state in GRN_CELL_STAT_n and GRN_WIT_STAT_b (Table 2-2). -/
def SrcState.code : SrcState → Nat
  | .off => 0 | .seasoning => 1 | .live => 2 | .stopped => 3 | .capture => 4 | .retired => 5

/-- A source in one of these states takes samples (Table 2-2, R52). -/
def SrcState.races : SrcState → Bool
  | .seasoning | .live | .capture | .retired => true
  | .off | .stopped => false

/-- A source in SEASONING or LIVE. -/
def SrcState.active : SrcState → Bool
  | .seasoning | .live => true
  | _ => false

/-- One sub-block of 4,096 samples of the estimator (R69): ones, equal adjacent pairs inside it, whether
its first sample equals the sample before it, samples equal to the neighbour's, and the neighbour's ones. -/
structure EstBlk where
  ones : Nat
  eq : Nat
  cross : Bool
  xeq : Nat
  tones : Nat
  deriving DecidableEq, Repr, Inhabited

/-- The estimator of one source (R69): the sub-block being filled, the last 16 full ones (oldest first), and the
latest values. -/
structure Est where
  pos : Nat
  cur : EstBlk
  blks : List EstBlk
  valid : Bool
  ones : BitVec 16
  lag1 : BitVec 16
  xc : BitVec 16
  deriving DecidableEq, Repr, Inhabited

/-- Values of a source at the last estimator snapshot (R70). -/
structure EstSnap where
  valid : Bool
  ones : BitVec 16
  lag1 : BitVec 16
  xc : BitVec 16
  deriving DecidableEq, Repr, Inhabited

/-- The seasoning sums of a source (R58, Table 3-3) and its test outcomes so far. -/
structure Seas where
  pos : Nat
  ones : Nat
  eq : Nat
  last : Bool
  xeq : Nat
  tones : Nat
  rctFail : Bool
  aptFail : Bool
  deriving DecidableEq, Repr, Inhabited

/-- One grain cell or witness source with its health tests (R38, R52 to R61, R69). `fails` holds the CK_SLOW times of
its failures, newest first; `first` the samples of its first seasoning after reset, newest first (R128). -/
structure Source where
  st : SrcState
  retired : Bool
  byHealth : Bool
  last : Option Bool
  rctLast : Bool
  rctRun : Nat
  aptRef : Bool
  aptPos : Nat
  aptCnt : Nat
  seas : Seas
  line : List Bool
  fails : List Nat
  cntSeas : BitVec 8
  cntApt : BitVec 8
  cntRct : BitVec 8
  lastEvt : Option Nat
  est : Est
  snap : EstSnap
  rate : BitVec 12
  first : List Bool
  firstDone : Bool
  deriving DecidableEq, Repr, Inhabited

/-- Board states, Table 2-4 (R40). -/
inductive BoardState where
  | seasoning | live | held | retired
  deriving DecidableEq, Repr, Inhabited

/-- The code of a board state in GRN_BOARD_STAT_b (Table 2-4). -/
def BoardState.code : BoardState → Nat
  | .seasoning => 0 | .live => 1 | .held => 2 | .retired => 3

/-- A board: its state and its retirement cause (GRN_BOARD_STAT_b). -/
structure Board where
  st : BoardState
  cause : BitVec 3
  deriving DecidableEq, Repr, Inhabited

/-- Raw-sample capture (R45 to R48): GRN_RAW_STAT, GRN_RAW_PTR, the 4 KiB capture buffer, and GRN_RAW_CTRL.SOURCE. -/
structure Capture where
  busy : Bool
  done : Bool
  pinned : Bool
  hltFail : Bool
  source : BitVec 7
  bits : Nat
  wasRetired : Bool
  ptr : BitVec 10
  buf : Mem
  ctrlSrc : BitVec 7
  deriving DecidableEq, Repr, Inhabited

/-- GRN block: cells, witnesses, boards, enables, capture and error bits. -/
structure Grn where
  cells : List Source
  wits : List Source
  boards : List Board
  en : List (BitVec 8)
  err : BitVec 4
  retireReg : W32
  cap : Capture
  deriving DecidableEq, Repr, Inhabited

/-- HLT block: retry window, first fatal cause, sticky summary, snapshot sequence, discarded blocks per board, and the
OGN-120 failure counter (R72). `alarm` is the model's own: an alarm raised in this step whose effects follow within it. -/
structure Hlt where
  retryPin : Bool
  retryMs : BitVec 16
  fatal : Bool
  fatalIdx : BitVec 8
  fatalCause : BitVec 8
  alarm : Bool
  sum : BitVec 7
  snapPend : Nat
  wvalid : BitVec 8
  seq : BitVec 16
  disc : List W32
  cmpFail : BitVec 16
  deriving DecidableEq, Repr, Inhabited

/-- Plane states, Table 4-2 (R81). -/
inductive PlnState where
  | idle | kat | fill | waitWit | cond | hold | halt
  deriving DecidableEq, Repr, Inhabited

/-- The code of a plane state in PLN_STAT_b (Table 4-2). -/
def PlnState.code : PlnState → Nat
  | .idle => 0 | .kat => 1 | .fill => 2 | .waitWit => 3 | .cond => 4 | .hold => 5 | .halt => 6

/-- Who asked for a known-answer run: reset, a command register, or a TEST job (by its acceptance number). -/
inductive KatWho where
  | reset
  | cmd
  | job (id : Nat)
  deriving DecidableEq, Repr, Inhabited

/-- A run that a command register or a TEST instruction asked for is a commanded run (R85, R119) (DEDUCED, notes/assumptions/38). -/
def KatWho.commanded : KatWho → Bool
  | .reset => false
  | .cmd | .job _ => true

/-- A block of a plane: raw bits taken, compressor state, compressed bits and witness samples (newest first), credit
in 1/256 bit, mark, serial, and whether a return to native has doomed it while in COND (R66). -/
structure Block where
  raw : Nat
  comp : BitVec 128
  bits : List Bool
  wits : List Bool
  credit : Nat
  marked : Bool
  serial : BitVec 48
  doomed : Bool
  deriving DecidableEq, Repr, Inhabited

/-- A finished seed: its value, its block's credit and mark, when its block closed and when it was first held (order
numbers), the CK_SLOW count since which it is held, and the held-seed age. -/
structure Seed where
  v : Seed384
  credit : Nat
  marked : Bool
  closedAt : Nat
  heldAt : Nat
  heldSlow : Nat
  deriving DecidableEq, Repr, Inhabited

/-- One plane (R73 to R85). `store` is the elastic store in arrival order: position 0 to 7 for a cell, 8 for the witness. `kats` are the
known-answer runs it has yet to make, the present one first. `failT` is the CK_TIME period in which a health failure last sent its block
to kerf (R63) (DEDUCED, notes/assumptions/118). -/
structure Plane where
  st : PlnState
  serial : BitVec 48
  blk : Option Block
  closedAt : Nat
  seed : Option Seed
  store : List (Nat × Bool)
  kats : List KatWho
  witLast : BitVec 9
  seeds : W32
  kerf : W32
  seedsCmp : W32
  failT : Option Nat
  deriving DecidableEq, Repr, Inhabited

/-- PLN block: planes, the last commanded known-answer run, the TEST jobs that wait for it to end (R96), hold limit and error
bit. -/
structure Pln where
  planes : List Plane
  katBusy : Bool
  katDone : Bool
  katPass : BitVec 8
  katFail : BitVec 8
  katRan : BitVec 8
  runq : List Nat
  holdMax : BitVec 7
  err : Bool
  deriving DecidableEq, Repr, Inhabited

/-- The counters and gauges of the tally (R86, R87, R89, Table 4-8). -/
structure Books where
  creditIn : Word
  creditSeeded : Word
  creditKerf : Word
  creditPending : Word
  ckHealth : Word
  ckMode : Word
  ckRetire : Word
  ckAged : Word
  ckHalt : Word
  seeds : Word
  blocksKerf : Word
  seedsMarked : Word
  gen : Word
  delivered : Word
  kerf : Word
  resident : Word
  inflight : Word
  wkAge : Word
  wkFlush : Word
  wkFault : Word
  wkFailover : Word
  wkReject : Word
  wkHalt : Word
  wdMarked : Word
  wdCoef : Word
  deriving DecidableEq, Repr, Inhabited

/-- TAL block: the books, the epoch, the snapshot buffer and the snapshots commanded and not yet taken. -/
structure Tal where
  books : Books
  epoch : Word
  bufValid : Bool
  buf : List Word
  snapEpoch : W32
  snapPend : Nat
  deriving DecidableEq, Repr, Inhabited

/-- Causes of credit kerf, Table 4-5. -/
inductive CreditKerf where
  | health | mode | retire | aged | halt
  deriving DecidableEq, Repr

/-- Causes of word kerf, Table 4-7. -/
inductive WordKerf where
  | age | flush | fault | failover | reject | halt
  deriving DecidableEq, Repr

end Sys2Proof.Machine
end

