-- ==== Sys2Proof/Machine/StackState.lean ====
section
/-! DEFINITION. State of the expander lanes (05_expander_lanes.md) and of the stack with its delivery queues and the
distribution unit (06_stack_and_delivery_queues.md). Plain data. -/

namespace Sys2Proof.Machine

/-- Lane states, Table 5-2 (R102). -/
inductive LaneState where
  | off | kat | start | run | stretch | wait | fault | halt
  deriving DecidableEq, Repr, Inhabited

/-- The code of a lane state in LAN_STAT_n (Table 5-2). -/
def LaneState.code : LaneState → Nat
  | .off => 0 | .kat => 1 | .start => 2 | .run => 3 | .stretch => 4 | .wait => 5 | .fault => 6 | .halt => 7

/-- A lane in one of these states counts as in service (Table 5-2). -/
def LaneState.inService : LaneState → Bool
  | .start | .run | .stretch | .wait => true
  | _ => false

/-- A lane in one of these states asks for a seed (Table 5-2). -/
def LaneState.asks : LaneState → Bool
  | .start | .stretch | .wait => true
  | _ => false

/-- The tag of a segment: lane, seed generation, mark, and CK_SLOW time of its first accepted word (R104, R135). -/
structure Tag where
  lane : Nat
  gen : W32
  marked : Bool
  t : Nat
  deriving DecidableEq, Repr, Inhabited

/-- A finished segment waiting for a queue: its words, its tag (the time is set when a queue accepts it), and the queue that it was
started for (R115). -/
structure Segment where
  words : List Word
  tag : Tag
  q : Nat
  deriving DecidableEq, Repr, Inhabited

/-- One prediction-resistance request on a lane: the consumer's key, the order number of its job's acceptance, and
whether its dedicated reseed is done (R110). -/
structure PrReq where
  key : Nat
  accepted : Nat
  seeded : Bool
  deriving DecidableEq, Repr, Inhabited

/-- A piece of MIX data waiting in a lane's store, with the job it belongs to (R112). -/
structure Piece where
  data : Seed384
  job : Nat
  deriving DecidableEq, Repr, Inhabited

/-- One expander lane (R98 to R122). `asked` is the order number of the outstanding seed request; `due` a reseed due
by time, force or native return; `unmarkedOnly` the condition of R66; `nextQ` where the next offer starts. -/
structure Lane where
  st : LaneState
  drbg : Drbg
  gen : W32
  marked : Bool
  segs : Nat
  out : Nat
  fault : BitVec 2
  stalls : BitVec 16
  stretched : BitVec 16
  peak : Nat
  seedSlow : Nat
  asked : Option Nat
  due : Bool
  unmarkedOnly : Bool
  pr : List PrReq
  pieces : List Piece
  seg : Option Segment
  peerUsed : Nat
  nextQ : Nat
  offPend : Bool
  kats : List KatWho
  katPass : Bool
  deriving DecidableEq, Repr, Inhabited

/-- LAN block. The peer slot holds the latest contribution, numbered from 1; `peerSlow` is the CK_SLOW time
of its arrival (R113). -/
structure Lan where
  lanes : List Lane
  base : BitVec 9
  max : BitVec 9
  timeMs : BitVec 7
  en : BitVec 16
  err : BitVec 4
  peerEn : Bool
  katBusy : Bool
  katDone : Bool
  katFailed : Bool
  katFailLane : BitVec 4
  peer : Seed384
  peerNo : Nat
  peerSlow : Option Nat
  peerCnt : BitVec 16
  bind : List (BitVec 16)
  rebound : List Bool
  deriving DecidableEq, Repr, Inhabited

/-- Where a word of a queue stands: resident, resident and allotted to a consumer, in flight, or finished. -/
inductive EntSt where
  | res
  | allot (key : Nat)
  | fly
  | done
  deriving DecidableEq, Repr, Inhabited

/-- One word between the mark and the write pointer of a queue: its slot (a pointer value modulo 2N) and tag. -/
structure QEntry where
  slot : Nat
  tag : Tag
  st : EntSt
  deriving DecidableEq, Repr, Inhabited

/-- Queue states, Table 6-1. -/
inductive QState where
  | off | on | draining | void
  deriving DecidableEq, Repr, Inhabited

/-- The code of a queue state in DQ_STAT_n (Table 6-1). -/
def QState.code : QState → Nat
  | .off => 0 | .on => 1 | .draining => 2 | .void => 3

/-- What waits on a queue: a stalling read with its length in bytes, a register read that takes in CMP_DATA with the values of the registers
before and after it (R313), a job by its number, or a peer contribution for a worker slot (R138). -/
inductive WaitFor where
  | read (a : Acc) (len : Nat)
  | burst (a : Acc) (pre post : List W32)
  | job (id : Nat)
  | peer (slot : Nat)
  deriving DecidableEq, Repr, Inhabited

/-- A random word given to a consumer: value, tag, and its queue and slot unless it came straight from a lane. -/
structure AWord where
  v : Word
  tag : Tag
  src : Option (Nat × Nat)
  deriving DecidableEq, Repr, Inhabited

/-- One consumer waiting on a queue: its key, requester, words asked, when this wait began (ticks, CK_SLOW, order
number), when its first wait began (order number), the re-serve precedence of R207, whether the queue was ORDERED when it
began (R195), whether a lane serves it (R110), and the words allotted to it and read while its grant still lacks some (R126). -/
structure Waiter where
  key : Nat
  req : ReqId
  need : Nat
  what : WaitFor
  tick : Nat
  slow : Nat
  ord : Nat
  first : Nat
  front : Bool
  ordd : Bool
  pr : Bool
  held : List AWord
  deriving DecidableEq, Repr, Inhabited

/-- A weighted round robin (R197): the requesters still to be served in the round in progress, units left of the turn of
the first of them (0 before it begins), those that had their turn and go on contending, those that had it, stopped and
contend again, and those that had it and stopped. -/
structure Rr where
  cur : List ReqId
  left : Nat
  had : List ReqId
  app : List ReqId
  out : List ReqId
  deriving DecidableEq, Repr, Inhabited

/-- One delivery queue (R129 to R147): configuration, sticky flags, write pointer, the entries from the mark to the
write pointer, its waiters, its round robin, and the pointers D and M as the fatal alarm found them (R152, R195). -/
structure DQueue where
  st : QState
  lowEvt : Bool
  highEvt : Bool
  ordered : Bool
  base : BitVec 11
  size : BitVec 4
  high : BitVec 15
  low : BitVec 15
  stallEnd : Bool
  underrun : Bool
  aged : Bool
  markForced : Bool
  lowHit : Bool
  highHit : Bool
  min : Nat
  wptr : Nat
  ents : List QEntry
  capR : BitVec 21
  capM : BitVec 21
  kerf : W32
  stallEnds : BitVec 16
  waits : List Waiter
  rr : Rr
  highT : Option Nat
  lowT : Option Nat
  frozen : Option (Nat × Nat)
  deriving DecidableEq, Repr, Inhabited

/-- One region of the array (R124 to R127). -/
structure Region where
  retired : Bool
  link : Option Nat
  subOf : Option Nat
  ce : BitVec 16
  deriving DecidableEq, Repr, Inhabited

/-- STK and DQ block with the array (masked words), the mask key and the distribution unit. `cmpBit` is the OGN-120 refresh
bit, `cmpAcc` the order number of the refresh whose words the window delivers next, and `cmpLane` the lane that they come from (R123). -/
structure Stk where
  queues : List DQueue
  regions : List Region
  array : Mem
  maskKey : BitVec 256
  keyReady : Bool
  clearing : Bool
  maxAge : BitVec 19
  stallUs : BitVec 17
  err : BitVec 5
  ce : W32
  ue : BitVec 16
  rgnSel : BitVec 7
  passes : BitVec 16
  period : BitVec 10
  tagSel : W32
  tagInfo : W32
  tagGen : W32
  building : Option Nat
  cand : W32
  rej : W32
  cmpBit : Bool
  cmpLane : Option Nat
  cmpAcc : Option Nat
  deriving DecidableEq, Repr, Inhabited

end Sys2Proof.Machine
end

