-- ==== Sys2Proof/Machine/JobState.lean ====
section
/-! DEFINITION. State of the job engine (07_akcon_job_instructions.md, 08_ordering_and_recovery.md), the event queue, and
the benches with the hash unit (09_big_number_engine.md). Plain data. -/

namespace Sys2Proof.Machine

/-- One accepted instruction word not yet parsed: its value, the command queue that took it, and the path of the write
that carried it (R154, R158, R182). -/
structure SWord where
  w : Word
  cq : Nat
  path : Path
  deriving DecidableEq, Repr, Inhabited

/-- The scope of a PEG, Table 8-2 (R191). -/
inductive PegScope where
  | req | data | all
  deriving DecidableEq, Repr, Inhabited

/-- A fence: its scope and its place among the order numbers of its requester's jobs (R191). -/
structure Fence where
  scope : PegScope
  ord : Nat
  deriving DecidableEq, Repr, Inhabited

/-- One requester's instruction stream (R158): buffered words, the words discarded so far while it looks for END (R163),
an AT that waits for the instruction it holds, and the fences not yet released. -/
structure Stream where
  req : ReqId
  words : List SWord
  discard : Option Nat
  discardPath : Path
  atHead : Option (BitVec 32)
  atPath : Path
  fences : List Fence
  deriving DecidableEq, Repr, Inhabited

/-- How a data write of a job stands: waiting or sent, finished by an acknowledgement, by an error response, by force
(R147, R151), or declared lost at a failover. -/
inductive WState where
  | sent | acked | failed | forced | lost
  deriving DecidableEq, Repr, Inhabited

/-- One data write of a job: its number, destination offset, length in bytes, state, the tag of its first word, and whether
a later write of the job replaces it (R207). -/
structure JWrite where
  no : Nat
  off : Nat
  len : Nat
  st : WState
  tag : Option Tag
  old : Bool
  deriving DecidableEq, Repr, Inhabited

/-- Where a job stands: held by AT, held by a fence, waiting for words, seeds, a bench or a path, running, stopped and
waiting for its writes, waiting to write its record, and waiting for the record's acknowledgement. -/
inductive JPhase where
  | held
  | fenced
  | waiting
  | running
  | ending
  | record
  | recordSent
  deriving DecidableEq, Repr, Inhabited

/-- What a job's outstanding source read is for; `masks` is no read but the input of MGF1 for PSS, which the hash unit takes (R216). -/
inductive ReadFor where
  | digest
  | message
  | key
  | sig
  | table
  | entryKey (i : Nat)
  | entrySig (i : Nat)
  | entryMsg (i : Nat)
  | masks
  deriving DecidableEq, Repr, Inhabited

/-- A source read of a job: what it is for, the whole range, bytes already here, and, while one read of at most
256 bytes is outstanding, its length. -/
structure SrcRead where
  what : ReadFor
  addr : Nat
  total : Nat
  got : List Byte
  asked : Nat
  xip : Bool
  deriving DecidableEq, Repr, Inhabited

/-- One entry of a BATCH as fetched: addresses, message length, and the key, signature and digest bytes (R231, R232). -/
structure BatchEntry where
  keyAddr : Nat
  sigAddr : Nat
  msgAddr : Nat
  mlen : Nat
  key : List Byte
  sig : List Byte
  k : List Byte
  deriving DecidableEq, Repr, Inhabited

/-- One job, or one record that belongs to no accepted job (`accepted` false). `id` is its order number: jobs of one requester are earlier
and later by it (R189). `got` counts words allotted (DRAW) or results made (DRAWN), `made` the bytes of the original order already issued;
`grants` the words given and not yet used, grant by grant, and `regrants` those for the lost writes `rewrites` (R207); `mix` per lane the
next piece to place and the pieces absorbed (R112); `mask` the lanes or units not yet done (R111, R178); `masked` says that MGF1 for PSS is
done (R216); `target` and `t0` the extended times of an AT and of a BEACON (R283); `verdict` the status it ends with once its data is
written. -/
structure Job where
  id : Nat
  accepted : Bool
  prog : Bool
  req : ReqId
  tag : BitVec 12
  op : BitVec 8
  head : Word
  ops : List Word
  path : Path
  raddr : Option Nat
  fbase : BitVec 22
  phase : JPhase
  target : Option (BitVec 48)
  t0 : BitVec 48
  stop : Option (BitVec 8)
  count : Nat
  late : Bool
  rerouted : Bool
  confirmed : Bool
  unchecked : Bool
  timeFix : Option (BitVec 32 × BitVec 8)
  first : Option Tag
  qfirst : Option Nat
  qord : Bool
  qdone : Bool
  grants : List (List AWord)
  regrants : List (List AWord)
  got : Nat
  made : Nat
  out : List Byte
  reout : List Byte
  writes : List JWrite
  rewrites : List (Nat × Nat)
  perm : List Nat
  permI : Nat
  launched : Nat
  asked : Nat
  mask : BitVec 16
  passed : Nat
  mix : List (Nat × Nat × Nat)
  read : Option SrcRead
  digest : Option (List Byte)
  hashing : Bool
  bench : Option Nat
  keyBytes : List Byte
  sigBytes : List Byte
  masked : Bool
  entries : List BatchEntry
  coefs : List Word
  victim : Option Nat
  verdict : Option (BitVec 8)
  waitSlow : Nat
  waitTick : Nat
  deriving DecidableEq, Repr, Inhabited

/-- JOB block. `rr` is the parser's round robin (R198). -/
structure JobEng where
  streams : List Stream
  jobs : List Job
  rr : Rr
  err : BitVec 7
  peak : Nat
  cqCnt : List W32
  records : W32
  progErr : W32
  reqSel : BitVec 12
  tagSel : W32
  tagStat : W32
  stopped : Bool
  deriving DecidableEq, Repr, Inhabited

/-- An event entry: four words (R184, Table 7-8). -/
structure Entry where
  w0 : Word
  w1 : Word
  w2 : Word
  w3 : Word
  deriving DecidableEq, Repr, Inhabited

/-- EVT block with the event queue (R184 to R187). -/
structure Evt where
  queue : List Entry
  irqEn : Bool
  ringEn : Bool
  ringNode : BitVec 12
  lost : Bool
  thresh : BitVec 11
  lostCnt : W32
  seq : BitVec 16
  mask : List W32
  deriving DecidableEq, Repr, Inhabited

/-- Bench states, Table 9-1 (R217). -/
inductive BenchState where
  | load | kat | idle | busy | zero | retired | halt
  deriving DecidableEq, Repr, Inhabited

/-- The code of a bench state in BNE_STAT_n (Table 9-1). -/
def BenchState.code : BenchState → Nat
  | .load => 0 | .kat => 1 | .idle => 2 | .busy => 3 | .zero => 4 | .retired => 5 | .halt => 6

/-- A bench in one of these states is in service (R217). -/
def BenchState.inService : BenchState → Bool
  | .idle | .busy | .zero => true
  | _ => false

/-- One bench (R217 to R222): state, owner, pending release, mismatches, retirement cause, present job and phase, its
32 KiB operand memory, waiting known-answer runs, and what the clear in ZERO leaves (to retire, to clear ownership). -/
structure Bench where
  st : BenchState
  owner : Option ReqId
  relPend : Bool
  mismatch : BitVec 2
  cause : BitVec 2
  job : Option Nat
  phase : BitVec 3
  mem : Mem
  kats : List KatWho
  retiring : Bool
  zeroAll : Bool
  jobs : W32
  idleSlow : Nat
  katPass : Bool
  deriving DecidableEq, Repr, Inhabited

/-- BNE block with the hash unit. `hashRr` and `benchRr` are the round robins of R216 and R222. -/
structure Bne where
  benches : List Bench
  idleMs : BitVec 14
  katBusy : Bool
  katDone : Bool
  katFailed : Bool
  hashPass : Bool
  hashKats : List KatWho
  err : BitVec 5
  loaded : Bool
  version : BitVec 16
  ucode : List Byte
  ue : BitVec 16
  ce : BitVec 16
  hashBytes : W32
  hashRr : Rr
  benchRr : Rr
  deriving DecidableEq, Repr, Inhabited

end Sys2Proof.Machine
end

