-- ==== Sys2Proof/Machine/RingState.lean ====
section
/-! DEFINITION. State of the ring ports and the manager-worker hierarchy (10_ilser_ring_and_hierarchy.md), the time base
(11_fabric_time_and_launches.md) and the local serial port (12_local_serial_port.md). Plain data. -/

namespace Sys2Proof.Machine

/-- What a frame of a port is, for what follows its send, acknowledgement or loss (R253, R257): data write w of a job, its
record, an event frame, the record of a job in an event frame, a held response by its key, another response, a source read,
a beacon launch, a peer contribution, a transit frame with the port and pool it arrived in, or any other frame. -/
inductive TxKind where
  | data (job w : Nat)
  | record (job : Nat)
  | event
  | jobEvent (job : Nat)
  | held (key : Nat)
  | resp
  | read (job : Nat)
  | beacon (job : Nat)
  | peer
  | transit (p : PortId) (pool : Nat)
  | plain
  deriving DecidableEq, Repr, Inhabited

/-- A frame waiting in or sent from a port: its kind, the queue slots of its words, how many words it carries that the
tally still follows, how many of them are marked, its random payload in words for R15, whether its words have left the
stack, its link sequence number, the ticks of its last and of its first send, and replays. -/
structure TxFrame where
  f : Frame
  kind : TxKind
  refs : List (Nat × Nat)
  words : Nat
  marked : Nat
  rand : Nat
  fly : Bool
  lseq : BitVec 12
  tick : Nat
  sent : Nat
  replays : Nat
  deriving DecidableEq, Repr, Inhabited

/-- Port states, Table 10-7 (R254). -/
inductive PortState where
  | down | train | ready | service
  deriving DecidableEq, Repr, Inhabited

/-- The code of a port state in RING_PORT_STAT_p (Table 10-7). -/
def PortState.code : PortState → Nat
  | .down => 0 | .train => 1 | .ready => 2 | .service => 3

/-- One ring port (R239 to R261). `credits` and `returns` follow the order of Table 10-5; `open_` counts random words
sent and not finished (R15); `heldKeys` are the held slots in use (R245). -/
structure Port where
  st : PortState
  cause : BitVec 3
  partner : BitVec 12
  partnerReady : Bool
  hiBer : Bool
  lock : BitVec 2
  delayValid : Bool
  delay : BitVec 20
  err : BitVec 5
  crc : W32
  replay : W32
  txq : List TxFrame
  store : List TxFrame
  txSeq : BitVec 12
  rxAck : BitVec 12
  nakDue : Bool
  echoDue : Bool
  credits : List Nat
  returns : List Nat
  heldKeys : List Nat
  readyTick : Nat
  everService : Bool
  ackTick : Nat
  creditTick : List Nat
  identTx : Word
  linkTx : Word
  badT : Option Nat
  own : Nat
  deriving DecidableEq, Repr, Inhabited

/-- A request the node sent that awaits its response: transaction, destination, port, kind, queue slots, words the tally
follows, marked words, random payload, and the tick of its first send. -/
structure Outst where
  txn : BitVec 16
  dst : BitVec 12
  port : PortId
  kind : TxKind
  refs : List (Nat × Nat)
  words : Nat
  marked : Nat
  rand : Nat
  sent : Nat
  deriving DecidableEq, Repr, Inhabited

/-- Manager modes, RING_MGR_STAT.MODE (R265). -/
inductive MgrMode where
  | worker | active | standby
  deriving DecidableEq, Repr, Inhabited

/-- The code of a manager mode. -/
def MgrMode.code : MgrMode → Nat
  | .worker => 0 | .active => 1 | .standby => 2

/-- A worker in the manager's table with its latest reports (R267, R269). -/
structure Worker where
  id : BitVec 12
  heardTick : Nat
  tally : Option (List Word)
  health : Option (List Word)
  reportSlow : Option Nat
  staleTold : Bool
  peerTick : Option Nat
  gatherTick : Option Nat
  deriving DecidableEq, Repr, Inhabited

/-- A broadcast the node remembers (R247, R259): type, source, second key, tick, and the port it came from or, for its own,
went out of. -/
structure SeenB where
  ty : BitVec 6
  src : BitVec 12
  key : Nat
  tick : Nat
  port : PortId
  deriving DecidableEq, Repr, Inhabited

/-- RING block. `noPath` is the tick since which no port is in SERVICE. `seen`
remembers broadcasts (R247, R259). -/
structure Ring where
  pa : Port
  pb : Port
  enumDone : Bool
  nodeId : BitVec 12
  win : BitVec 22
  fbase : BitVec 22
  autoRestore : Bool
  bcastB : Bool
  creditTo : BitVec 9
  debounce : BitVec 9
  retryMax : BitVec 5
  replayUs : BitVec 6
  restoreMs : BitVec 14
  foRemote : BitVec 16
  foLocal : BitVec 16
  foLast : W32
  foLost : BitVec 15
  foTick : Option Nat
  noPath : Nat
  rxBad : W32
  route : List W32
  txn : BitVec 16
  eseq : W32
  bseq : BitVec 16
  outst : List Outst
  seen : List SeenB
  mode : MgrMode
  manager : BitVec 12
  peerEn : Bool
  pq : BitVec 4
  gatherMs : BitVec 16
  workers : List (Option Worker)
  peerSkip : BitVec 5
  foreign : BitVec 5
  foreignT : Option Nat
  gatherSel : BitVec 6
  gatherSeq : W32
  annSeq : W32
  annTick : Option Nat
  lowerTick : Nat
  helloTick : Option Nat
  helloDue : Bool
  syncTick : Option Nat
  faValid : Bool
  faCount : BitVec 3
  faOrigins : List (BitVec 12)
  faOrigin : BitVec 12
  faCause : BitVec 8
  faIndex : BitVec 8
  faRepeat : List (BitVec 12 × BitVec 8 × BitVec 8 × Nat)
  healthFails : W32
  deriving DecidableEq, Repr, Inhabited

/-- Discipline states (R280). -/
inductive Disc where
  | free | acquire | track | holdover
  deriving DecidableEq, Repr, Inhabited

/-- The code of a discipline state in TIM_STAT.DISC. -/
def Disc.code : Disc → Nat
  | .free => 0 | .acquire => 1 | .track => 2 | .holdover => 3

/-- A TIM_CMD pair held while CK_TIME is lost (R275). -/
inductive HeldTime where
  | set (wrap : BitVec 16) (ns : BitVec 32)
  | adj (v : W32)
  deriving DecidableEq, Repr, Inhabited

/-- TIM block (R273 to R287). `cnt` is the 48.32 counter, `prev` its value before the latest tick; the phase is in units of 2^-32 ns; `lastT` the tick of the
previous accepted sample; `ref` the last SYNC_IN reference. -/
structure Tim where
  cnt : BitVec 80
  prev : BitVec 80
  syncPol : Bool
  syncEn : Bool
  clkSel : Bool
  src : BitVec 2
  disc : Disc
  clkOk : Bool
  steps : BitVec 16
  inc : W32
  f : W32
  offset : W32
  phase : Int
  phaseT : Nat
  skipF : Bool
  lastT : Option Nat
  metT : Option Nat
  skipTicks : Nat
  slewLimit : BitVec 20
  maxPpm : BitVec 9
  holdMs : BitVec 13
  gain : BitVec 3
  late : BitVec 17
  syncTxEn : Bool
  syncTxMs : BitVec 10
  inPeriod : W32
  inAccepted : BitVec 16
  inIgnored : BitVec 16
  inLast : Option Nat
  inRef : Option (BitVec 48)
  inStamp : BitVec 80
  inIgnT : Option Nat
  outNs : BitVec 32
  outWrap : BitVec 16
  outWrapReg : BitVec 16
  outPeriod : W32
  outWidth : BitVec 16
  outEmitted : BitVec 16
  outSkipped : BitVec 16
  outNext : Option (BitVec 48)
  outLast : Option (BitVec 48)
  outActive : Bool
  outStart : Nat
  outLen : Nat
  setNs : W32
  setWrap : BitVec 16
  adj : W32
  cmdPin : Bool
  launchLate : BitVec 16
  launchRej : BitVec 16
  trackSlow : Nat
  held : Option HeldTime
  deriving DecidableEq, Repr, Inhabited

/-- An engine command as received on the local serial port: command word, data words, and whether it is malformed
(R297, R298). -/
structure EngCmd where
  word : W32
  data : List W32
  bad : Bool
  deriving DecidableEq, Repr, Inhabited

/-- A pending engine response: header and data words still to be shifted out, first unsent word index, the random words
behind the data (in order), whether any is marked, and the count of response words with which the first of them is out (R299). -/
structure EngResp where
  words : List W32
  sent : Nat
  rand : List AWord
  moved : Nat
  unchecked : Bool
  lead : Nat
  deriving DecidableEq, Repr, Inhabited

/-- What an access to the serial flash is for. -/
inductive XipFor where
  | access (acc : Acc)
  | digest (job : Nat)
  | raw
  deriving DecidableEq, Repr, Inhabited

/-- One use of the flash bus, in arrival order (R305): window, read length or bytes to write, offset, for a write the bytes
already programmed, whether it polls, the ticks of its last poll and of its last program cycle, whether its first transaction
has begun, and the command word of a raw command. -/
structure XipOp where
  what : XipFor
  win : Nat
  write : Bool
  off : Nat
  len : Nat
  data : List Byte
  done : Nat
  polling : Bool
  pollTick : Nat
  progTick : Nat
  started : Bool
  cmd : W32
  deriving DecidableEq, Repr, Inhabited

/-- Bus settings of one window (R302 to R304, R308). -/
structure XipCfg where
  lateSample : Bool
  mode : BitVec 2
  div : BitVec 8
  rdOp : BitVec 8
  addrHi : BitVec 8
  dummy : BitVec 5
  addr4 : Bool
  ppOp : BitVec 8
  wrenOp : BitVec 8
  rdsrOp : BitVec 8
  busyPol : Bool
  busyBit : BitVec 3
  page : BitVec 4
  timeoutMs : BitVec 16
  intervalUs : BitVec 16
  gap : BitVec 8
  post : BitVec 8
  pre : BitVec 8
  lastSr : BitVec 8
  deriving DecidableEq, Repr, Inhabited

/-- A serial transaction on the flash bus: select, opcode, address bytes, dummy cycles, bytes written, bytes read (R303, R304, R306), and
the bus settings of its window: SPI mode, late sampling, clock divider (R302) (DEDUCED, notes/assumptions/102). -/
structure XipTx where
  win : Nat
  op : Byte
  addr : List Byte
  dummy : Nat
  wr : List Byte
  rd : Nat
  mode : BitVec 2
  late : Bool
  div : BitVec 8
  deriving DecidableEq, Repr, Inhabited

/-- LSP block (R289 to R310): slave side (engine, raw words; `miso` what the last transfer sent), master side (XIP queue, raw
commands, locks; `bus` the transactions of the present use of the bus, `bankOut` what LSP_DSEL_0 to LSP_DSEL_3 drive). -/
structure Lsp where
  role : Bool
  engine : Bool
  engEff : Bool
  lsbFirst : Bool
  mode : BitVec 2
  len : BitVec 6
  lastStatus : BitVec 8
  short : Bool
  errPend : Bool
  err : BitVec 5
  rx : List (Nat × W32)
  tx : List W32
  transfers : BitVec 16
  shorts : BitVec 16
  cmd : Option EngCmd
  waiting : Bool
  resp : Option EngResp
  cseq : BitVec 16
  miso : List Bool
  w0 : XipCfg
  w1 : XipCfg
  decEn : Bool
  bank : BitVec 4
  bankOut : BitVec 4
  mstErr : BitVec 5
  mstCmd : W32
  mstAddr : W32
  mstBusy : Bool
  mstDone : Bool
  lock0 : Bool
  lock1 : Bool
  lockPin : Bool
  buf : List W32
  ops : List XipOp
  bus : List XipTx
  slavePend : Bool
  deriving DecidableEq, Repr, Inhabited

end Sys2Proof.Machine
end

