-- ==== Sys2Proof/Machine/SysState.lean ====
section
/-! DEFINITION. State of the chip as a whole: power and pins, clocks, SYS, SIL, CAL and MBX blocks, and the control core
(00, 01, 13, 14 and 15 of the spec). Plain data. -/

namespace Sys2Proof.Machine

/-- Power phases (R331, R356, R360): no VIN, rails up but in internal reset, running. -/
inductive PwrPhase where
  | off | inReset | running
  deriving DecidableEq, Repr, Inhabited

/-- Power, reset and straps. `jtag` the current test instruction, `jtagHold` whether it holds the node in internal reset (R359). `bankL`,
`bankC`: latched I/O bank voltages, 3.3 V when true (R356). `otpCe` words
corrected at the OTP load. -/
structure Pwr where
  phase : PwrPhase
  is832 : Bool
  bankL : Bool
  bankC : Bool
  role : Bool
  bootSel : BitVec 2
  tamperN : Bool
  jtag : JtagHold
  jtagHold : Bool
  resetLow : Bool
  ready : Bool
  otpCe : W32
  otpUe : Bool
  deriving DecidableEq, Repr, Inhabited

/-- The copies of the slow-domain fields as of the latest CK_SLOW edge: RECENT of each cell and witness, and what the ages of LAN_PEER_STAT
and of each worker's RING_GATHER_STAT count from (R319) (DESIGN CHOICE, notes/assumptions/11). -/
structure SlowCopy where
  cells : List Nat
  wits : List Nat
  peer : Option Nat
  reports : List (Option Nat)
  deriving DecidableEq, Repr, Inhabited

/-- Clocks and the model's own counters: CK_TIME periods since reset, CK_SLOW edges since reset, the order number the next event takes,
and the number of free values drawn (DESIGN CHOICE, notes/assumptions/4); and the slow-domain copies. -/
structure Clk where
  ticks : Nat
  slow : Nat
  ord : Nat
  free : Nat
  ckRing : Bool
  ckTime : Bool
  copy : SlowCopy
  deriving DecidableEq, Repr, Inhabited

/-- An armed guarded value (R320, R321). -/
structure Armed where
  req : ReqId
  off : Nat
  val : W32
  slow : Nat
  deriving DecidableEq, Repr, Inhabited

/-- SYS block. `lockT` holds the CK_SLOW time of each requester's last LOCK_VIOL record (R323, R381). -/
structure Sys where
  bootDone : Bool
  tamper : Bool
  compatPin : Bool
  compatEn : Bool
  viol : Bool
  violReq : BitVec 12
  violOff : BitVec 16
  lockT : List (ReqId × Nat)
  gBroken : Bool
  gMismatch : Bool
  gNoSlot : Bool
  gRefused : Bool
  gReq : BitVec 12
  gOff : BitVec 16
  armed : List Armed
  slowExt : Bool
  fellBack : Bool
  slowSel : Bool
  paceValid : Bool
  paceSeq : BitVec 12
  paceRatio : BitVec 16
  paceMin : BitVec 16
  tjValid : Bool
  paceTj : BitVec 16
  paceRace : BitVec 16
  paceLow : BitVec 16
  deriving DecidableEq, Repr, Inhabited

/-- SIL block with the access class table (R342): 256 words of 16 two-bit entries. -/
structure Sil where
  delivReady : Bool
  dev : Bool
  secondary : Bool
  stage : BitVec 4
  fail : BitVec 4
  uc : BitVec 2
  compatOk : Bool
  contCount : Bool
  seasCount : Bool
  floor : BitVec 4
  reseedCap : BitVec 9
  reqLimit : BitVec 7
  lspId : BitVec 12
  weights : W32
  perms : List W32
  queues : List W32
  classes : List W32
  deriving DecidableEq, Repr, Inhabited

/-- CAL block (R345 to R347): the override registers as written, CAL_RESTORE.PIN and LOCK, and CAL_STAT. -/
structure Cal where
  pin : Bool
  lock : Bool
  otpCe : Bool
  restores : BitVec 16
  cutCell : W32
  cutWit : W32
  timeTrim : W32
  cells : List W32
  wits : List W32
  deriving DecidableEq, Repr, Inhabited

/-- MBX block (R324 to R326). -/
structure Mbx where
  op : BitVec 2
  item : BitVec 16
  valid : Bool
  err : BitVec 4
  holder : Option ReqId
  data : List W32
  slow : Nat
  deriving DecidableEq, Repr, Inhabited

/-- The control core's side (R337): its 256 KiB RAM, whether it runs, its entry point, the status and data of its last
access to the window, and the stalling read it waits on. -/
structure CoreIo where
  ram : Mem
  halted : Bool
  entry : Option (BitVec 32)
  status : BitVec 4
  data : List Byte
  unchecked : Bool
  waiting : Bool
  deriving DecidableEq, Repr, Inhabited

end Sys2Proof.Machine
end

