-- ==== Sys2Proof/Machine/State.lean ====
section
/-! DEFINITION. The state of the node as plain data, its stops, and the state right after internal reset release. -/

namespace Sys2Proof.Machine

/-- Reasons a command could stop the model with a fault. There is none: the node answers every access, an unmapped one
too (R312), so nobody raises a fault, which is safe. -/
inductive Fault where
  deriving DecidableEq, Repr

/-- Reasons the model refuses a command. -/
inductive Refusal where
  /-- Raised by an arm of exec that has no meaning yet, with the row's mnemonic. Safe: no effect is claimed. -/
  | notModelled (mnemonic : String)
  deriving DecidableEq, Repr, Inhabited

/-- The whole state of the node, and the commands that wait, first in first out. -/
structure State where
  pwr : Pwr
  clk : Clk
  sys : Sys
  sil : Sil
  cal : Cal
  mbx : Mbx
  core : CoreIo
  grn : Grn
  hlt : Hlt
  pln : Pln
  tal : Tal
  lan : Lan
  stk : Stk
  job : JobEng
  evt : Evt
  bne : Bne
  ring : Ring
  tim : Tim
  lsp : Lsp
  pending : List Instr
  deriving DecidableEq, Repr, Inhabited

/-- The number of boards of the variant (Table 0-1). -/
def boardsOf (is832 : Bool) : Nat := if is832 then 4 else 8

/-- The number of lanes of the variant (Table 0-1). -/
def lanesOf (is832 : Bool) : Nat := if is832 then 8 else 16

/-- The number of benches of the variant (Table 0-1). -/
def benchesOf (is832 : Bool) : Nat := if is832 then 2 else 4

/-- An estimator sub-block before its first sample. -/
def EstBlk.zero : EstBlk := ⟨0, 0, false, 0, 0⟩

/-- The estimator at reset (R69). -/
def Est.zero : Est := ⟨0, EstBlk.zero, [], false, 0, 0, 0⟩

/-- Seasoning sums before the first sample. -/
def Seas.zero : Seas := ⟨0, 0, 0, false, 0, 0, false, false⟩

/-- A source at reset release: in SEASONING, with every count at zero (R38, Table 2-3). -/
def Source.atReset : Source where
  st := .seasoning
  retired := false
  byHealth := false
  last := none
  rctLast := false
  rctRun := 0
  aptRef := false
  aptPos := 0
  aptCnt := 0
  seas := Seas.zero
  line := []
  fails := []
  cntSeas := 0
  cntApt := 0
  cntRct := 0
  lastEvt := none
  est := Est.zero
  snap := ⟨false, 0, 0, 0⟩
  rate := 0
  first := []
  firstDone := false

/-- A plane at reset release: in KAT with its reset run to make (Table 4-3, R85). -/
def Plane.atReset : Plane where
  st := .kat
  serial := 0
  blk := none
  closedAt := 0
  seed := none
  store := []
  kats := [.reset]
  witLast := 0
  seeds := 0
  kerf := 0
  seedsCmp := 0
  failT := none

/-- The tally at reset: every counter and gauge zero (R86). -/
def Books.zero : Books :=
  ⟨0, 0, 0, 0, 0, 0, 0, 0, 0, 0, 0, 0, 0, 0, 0, 0, 0, 0, 0, 0, 0, 0, 0, 0, 0⟩

/-- A lane at reset release: in KAT with its reset run to make (Table 5-3, R119). -/
def Lane.atReset : Lane where
  st := .kat
  drbg := Drbg.zero
  gen := 0
  marked := false
  segs := 0
  out := 0
  fault := 0
  stalls := 0
  stretched := 0
  peak := 0
  seedSlow := 0
  asked := none
  due := false
  unmarkedOnly := false
  pr := []
  pieces := []
  seg := none
  peerUsed := 0
  nextQ := 0
  offPend := false
  kats := [.reset]
  katPass := false

/-- A round robin with nobody in it. -/
def Rr.empty : Rr := ⟨[], 0, [], [], []⟩

/-- A queue at reset release, Table 6-2: ON, empty, at the reset layout of the variant. -/
def DQueue.atReset (is832 : Bool) (q : Nat) : DQueue where
  st := .on
  lowEvt := false
  highEvt := false
  ordered := false
  base := BitVec.ofNat 11 (if is832 then 0x40 * q else 0x80 * q)
  size := if is832 then 6 else 7
  high := if is832 then 0x200 else 0x400
  low := if is832 then 0x080 else 0x100
  stallEnd := false
  underrun := false
  aged := false
  markForced := false
  lowHit := false
  highHit := false
  min := 0
  wptr := 0
  ents := []
  capR := 0
  capM := 0
  kerf := 0
  stallEnds := 0
  waits := []
  rr := Rr.empty
  highT := none
  lowT := none
  frozen := none

/-- A region at reset. -/
def Region.atReset : Region := ⟨false, none, none, 0⟩

/-- A bench at reset release: in LOAD, its operand memory clear (Table 9-2). -/
def Bench.atReset : Bench where
  st := .load
  owner := none
  relPend := false
  mismatch := 0
  cause := 0
  job := none
  phase := 0
  mem := []
  kats := []
  retiring := false
  zeroAll := false
  jobs := 0
  idleSlow := 0
  katPass := false

/-- A port at reset: DOWN, no partner (Table 10-7). -/
def Port.atReset : Port where
  st := .down
  cause := 0
  partner := 0xFFF
  partnerReady := false
  hiBer := false
  lock := 0
  delayValid := false
  delay := 0
  err := 0
  crc := 0
  replay := 0
  txq := []
  store := []
  txSeq := 0
  rxAck := 0xFFF
  nakDue := false
  echoDue := false
  credits := [0, 0, 0, 0, 0, 0, 0]
  returns := [0, 0, 0, 0, 0, 0, 0]
  heldKeys := []
  readyTick := 0
  everService := false
  ackTick := 0
  creditTick := List.replicate 7 0
  identTx := 0
  linkTx := 0
  badT := none
  own := 0

/-- Bus settings of a window at reset (R303 and the field tables of 12_local_serial_port.md). -/
def XipCfg.atReset : XipCfg where
  lateSample := false
  mode := 0
  div := 0x0E
  rdOp := 0x03
  addrHi := 0
  dummy := 0
  addr4 := false
  ppOp := 0x02
  wrenOp := 0x06
  rdsrOp := 0x05
  busyPol := false
  busyBit := 0
  page := 4
  timeoutMs := 0x000A
  intervalUs := 0x000A
  gap := 4
  post := 2
  pre := 2
  lastSr := 0

/-- The CAL_CELL_n register at reset: enables 0, TRIM and CREDIT from OTP (0x40 on shipped parts). -/
def calCellReset (n : Nat) : W32 :=
  BitVec.ofNat 32 ((Config.factoryTrim n).toNat <<< 22 + 0x40 <<< 14)

/-- The manager table at reset: 63 free slots. -/
def workersAtReset : List (Option Worker) := List.replicate 63 none

/-- The state right after internal reset release of a part: the variant, its straps and pins as sampled, and the outcome of the OTP load.
Registers hold the reset values of the spec's field tables (DESIGN CHOICE, notes/assumptions/5, 6, 8; DEDUCED, notes/assumptions/7;
PRESUMED, notes/assumptions/122). -/
def State.atRelease (is832 : Bool) (x : ResetPins) : State where
  pwr := ⟨.running, is832, false, false, x.role && !is832, BitVec.ofNat 2 (2 * b2n x.bootSel1 + b2n x.bootSel0),
    x.tamperN, .idcode, false, false, false, x.otpCorrected, x.otpUncorrectable⟩
  clk := ⟨0, 0, 1, 0, true, true, ⟨[], [], none, []⟩⟩
  sys :=
    { bootDone := false, tamper := false, compatPin := false, compatEn := false, viol := false, violReq := 0
      violOff := 0, lockT := [], gBroken := false, gMismatch := false, gNoSlot := false, gRefused := false
      gReq := 0, gOff := 0, armed := [], slowExt := false, fellBack := false, slowSel := false
      paceValid := false, paceSeq := 0, paceRatio := 0, paceMin := 0xFFFF, tjValid := false, paceTj := 0
      paceRace := 0, paceLow := 0x02C0 }
  sil :=
    { delivReady := false, dev := false, secondary := false, stage := 0, fail := 0, uc := 0
      compatOk := false, contCount := false, seasCount := false, floor := 3, reseedCap := 0x040
      reqLimit := 0x40, lspId := 0xFFE, weights := 0x01010101
      perms := [0x00000000, 0x00000081, 0x000000AF, 0xFFFF00FF]
      queues := List.replicate 16 0x000000EE
      classes := List.replicate 256 0x55555555 }
  cal :=
    { pin := false, lock := false, otpCe := x.otpCorrected != 0, restores := 0, cutCell := 0x03A00079
      cutWit := 0x032B003D, timeTrim := 0
      cells := (List.range (8 * boardsOf is832)).map calCellReset
      wits := (List.range (boardsOf is832)).map (fun b => (Config.witOffset b).zeroExtend 32) }
  mbx := ⟨0, 0, false, 0, none, List.replicate 8 0, 0⟩
  core := ⟨[], false, none, 0, [], false, false⟩
  grn :=
    { cells := List.replicate (8 * boardsOf is832) Source.atReset
      wits := List.replicate (boardsOf is832) Source.atReset
      boards := List.replicate (boardsOf is832) ⟨.seasoning, 0⟩
      en := List.replicate (boardsOf is832) 0xFF
      err := 0, retireReg := 0
      cap := ⟨false, false, false, false, 0, 0, false, 0, [], 0⟩ }
  hlt :=
    { retryPin := false, retryMs := 0x03E8, fatal := false, fatalIdx := 0, fatalCause := 0, alarm := false, sum := 0
      snapPend := 0, wvalid := 0, seq := 0, disc := List.replicate (boardsOf is832) 0, cmpFail := 0 }
  pln :=
    { planes := List.replicate (boardsOf is832) Plane.atReset
      katBusy := false, katDone := false, katPass := 0, katFail := 0, katRan := 0, runq := [], holdMax := 0x64, err := false }
  tal := ⟨Books.zero, 0, false, [], 0, 0⟩
  lan :=
    { lanes := List.replicate (lanesOf is832) Lane.atReset
      base := 1, max := 0x040, timeMs := 0x64, en := if is832 then 0x00FF else 0xFFFF, err := 0, peerEn := true
      katBusy := false, katDone := false, katFailed := false, katFailLane := 0
      peer := 0, peerNo := 0, peerSlow := none, peerCnt := 0
      bind := (List.range 16).map (fun q => BitVec.ofNat 16 (2 ^ (q % lanesOf is832)))
      rebound := List.replicate 16 false }
  stk :=
    { queues := (List.range 16).map (DQueue.atReset is832)
      regions := List.replicate (if is832 then 64 else 128) Region.atReset
      array := [], maskKey := 0, keyReady := false, clearing := false, maxAge := 0x2710, stallUs := 0x03E8
      err := 0, ce := 0, ue := 0, rgnSel := 0, passes := 0, period := 0x064
      tagSel := 0, tagInfo := 0, tagGen := 0, building := none, cand := 0, rej := 0, cmpBit := false, cmpLane := none
      cmpAcc := none }
  job :=
    { streams := [], jobs := [], rr := Rr.empty, err := 0, peak := 0
      cqCnt := [0, 0, 0, 0], records := 0, progErr := 0, reqSel := 0, tagSel := 0, tagStat := 0, stopped := false }
  evt :=
    { queue := [], irqEn := false, ringEn := false, ringNode := 0, lost := false, thresh := 1, lostCnt := 0
      seq := 0, mask := [0x3F0781FE, 0x00000301, 0x07FF001F, 0x000F003F] }
  bne :=
    { benches := List.replicate (benchesOf is832) Bench.atReset
      idleMs := 0x0064, katBusy := false, katDone := false, katFailed := false, hashPass := false
      hashKats := [.reset], err := 0, loaded := false, version := 0, ucode := [], ue := 0, ce := 0
      hashBytes := 0, hashRr := Rr.empty, benchRr := Rr.empty }
  ring :=
    { pa := Port.atReset, pb := Port.atReset, enumDone := false, nodeId := 0xFFF, win := 0, fbase := 0
      autoRestore := true, bcastB := false, creditTo := 0x032, debounce := 0x080, retryMax := 0x08
      replayUs := 0x14, restoreMs := 0x0064, foRemote := 0, foLocal := 0, foLast := 0, foLost := 0
      foTick := none, noPath := 0, rxBad := 0, route := List.replicate 128 0, txn := 0, eseq := 0, bseq := 0, outst := []
      seen := [], mode := if x.role && !is832 then .active else .worker, manager := 0xFFF
      peerEn := true, pq := 0xF, gatherMs := 0x03E8
      workers := workersAtReset, peerSkip := 0, foreign := 0, foreignT := none, gatherSel := 0, gatherSeq := 0
      annSeq := 0, annTick := none, lowerTick := 0, helloTick := none, helloDue := false, syncTick := none
      faValid := false, faCount := 0, faOrigins := [], faOrigin := 0, faCause := 0, faIndex := 0, faRepeat := []
      healthFails := 0 }
  tim :=
    { cnt := 0, prev := 0, syncPol := false, syncEn := false, clkSel := false, src := 1, disc := .acquire, clkOk := false
      steps := 0, inc := 0x08000000, f := 0, offset := 0, phase := 0, phaseT := 1, skipF := true, lastT := none, metT := none
      skipTicks := 0, slewLimit := 0x3E8, maxPpm := 0xC8, holdMs := 0xC8, gain := 3, late := 0x3E8
      syncTxEn := true, syncTxMs := 0x00A, inPeriod := 0x3B9ACA00, inAccepted := 0, inIgnored := 0, inLast := none
      inRef := none, inStamp := 0, inIgnT := none, outNs := 0, outWrap := 0, outWrapReg := 0
      outPeriod := 0x3B9ACA00, outWidth := 0x3E8, outEmitted := 0, outSkipped := 0, outNext := none
      outLast := none, outActive := false, outStart := 0, outLen := 0, setNs := 0, setWrap := 0, adj := 0
      cmdPin := false, launchLate := 0, launchRej := 0, trackSlow := 0, held := none }
  lsp :=
    { role := false, engine := true, engEff := true, lsbFirst := false, mode := 0, len := 0x20, lastStatus := 0
      short := false, errPend := false, err := 0, rx := [], tx := [], transfers := 0, shorts := 0, cmd := none
      waiting := false, resp := none, cseq := 0, miso := [], w0 := XipCfg.atReset, w1 := XipCfg.atReset
      decEn := false, bank := 0, bankOut := 0, mstErr := 0, mstCmd := 0, mstAddr := 0
      mstBusy := false, mstDone := false, lock0 := false, lock1 := false, lockPin := false
      buf := List.replicate 16 0, ops := [], bus := [], slavePend := false }
  pending := []

/-- The pins as State.reset takes them: straps low, TAMPER_N high, no OTP error (DESIGN CHOICE, notes/assumptions/6). -/
def ResetPins.quiet : ResetPins := ⟨false, false, false, true, false, 0, false⟩

/-- The state right after internal reset release of an OGN-864 with its straps low and TAMPER_N high (R331, R332) (DESIGN CHOICE,
notes/assumptions/6). -/
def State.reset : State := State.atRelease false ResetPins.quiet

end Sys2Proof.Machine
end

