-- ==== Sys2Proof/Machine/Ops.lean ====
section
/-! DEFINITION. Named operations every unit uses: variant and mode, order numbers and free values, event records (R184 to
R188), frames of the node's own, the tally's books (R86 to R93), and raising the fatal alarm (R68). -/

namespace Sys2Proof.Machine

/-- Boards of this part. -/
def nBoards (s : State) : Nat := boardsOf s.pwr.is832
/-- Grain cells of this part. -/
def nCells (s : State) : Nat := 8 * boardsOf s.pwr.is832
/-- Lanes of this part. -/
def nLanes (s : State) : Nat := lanesOf s.pwr.is832
/-- Benches of this part. -/
def nBenches (s : State) : Nat := benchesOf s.pwr.is832
/-- Words of the stack of this part (R124). -/
def nStackWords (s : State) : Nat := if s.pwr.is832 then 524288 else 1048576
/-- Regions of the stack of this part (R124). -/
def nRegions (s : State) : Nat := if s.pwr.is832 then 64 else 128

/-- The node is out of internal reset. -/
def running (s : State) : Bool := decide (s.pwr.phase = .running)

/-- The fatal alarm is raised or tamper hold is active. -/
def halted (s : State) : Bool := s.hlt.fatal || s.sys.tamper

/-- The control core's requester ID (Table 7-1). -/
def coreId : ReqId := 0xFFF

/-- Apply a function when a condition holds. -/
def onlyIf {α : Type} (c : Bool) (f : α → α) (x : α) : α := if c then f x else x

/-- Take an order number: events that carry later numbers came later. -/
def bumpOrd (s : State) : State := { s with clk := { s.clk with ord := s.clk.ord + 1 } }

/-- Draw a free value: the counter advances (DESIGN CHOICE, notes/assumptions/4). -/
def bumpFree (s : State) : State := { s with clk := { s.clk with free := s.clk.free + 1 } }

/-- The nanosecond count of fabric time (R273). -/
def nowNs (s : State) : BitVec 32 := s.tim.cnt.extractLsb' 32 32
/-- The wrap counter of fabric time. -/
def nowWrap (s : State) : BitVec 16 := s.tim.cnt.extractLsb' 64 16
/-- Fabric time in whole ns, 48 bits. -/
def now48 (s : State) : BitVec 48 := s.tim.cnt.extractLsb' 32 48

/-- N CK_SLOW cycles have not yet passed since the given time (R381) (DESIGN CHOICE, notes/assumptions/105). -/
def withinSlow (s : State) (t : Option Nat) (n : Nat) : Bool :=
  match t with
  | some t => decide (s.clk.slow < t + n)
  | none => false

/-- Ticks of CK_TIME in a count of microseconds (DESIGN CHOICE, notes/assumptions/105). -/
def usTicks (us : Nat) : Nat := us * 125

/-! ### Frames -/

/-- Fill a frame of the node's own with the header fields that are not zero. -/
def mkFrame (s : State) (type vc dst : Nat) : Frame :=
  { type := BitVec.ofNat 6 type, vc := BitVec.ofNat 2 vc, src := s.ring.nodeId, dst := BitVec.ofNat 12 dst
    hops := 0xFFF, hold := false, unchecked := false, resent := false, late := false, txn := 0, status := 0
    len := 0, addr := 0, h2 := 0, payload := [] }

/-- A frame ready to wait in a port, carrying no random words. -/
def plainTx (kind : TxKind) (f : Frame) : TxFrame :=
  ⟨f, kind, [], 0, 0, 0, false, 0, 0, 0, 0⟩

/-- The state of a port. -/
def portOf (r : Ring) : PortId → Port
  | .a => r.pa
  | .b => r.pb

/-- Replace the state of a port. -/
def updPort (r : Ring) (p : PortId) (f : Port → Port) : Ring :=
  match p with
  | .a => { r with pa := f r.pa }
  | .b => { r with pb := f r.pb }

/-- The other port. -/
def otherPort : PortId → PortId
  | .a => .b
  | .b => .a

/-- A port's index: 0 A, 1 B. -/
def portIdx : PortId → Nat
  | .a => 0
  | .b => 1

/-- The port a destination node is routed to (RING_ROUTE_i, R257, R261): the other one while it is not in SERVICE and the other is
(DEDUCED, notes/assumptions/85). -/
def routePort (r : Ring) (dst : Nat) : PortId :=
  let p : PortId := if (r.route.getD (dst / 32) 0).getLsbD (dst % 32) then .b else .a
  if (portOf r p).st ≠ .service ∧ (portOf r (otherPort p)).st = .service then otherPort p else p

/-- The port of the node's broadcasts (R247). -/
def bcastPort (r : Ring) : PortId :=
  let p : PortId := if r.bcastB then .b else .a
  if (portOf r p).st ≠ .service ∧ (portOf r (otherPort p)).st = .service then otherPort p else p

/-- Put a frame at the end of what waits in a port. -/
def queueTx (p : PortId) (t : TxFrame) (r : Ring) : Ring :=
  updPort r p (fun q => { q with txq := q.txq ++ [t] })

/-- Queue a frame of the node's own on the port its destination is routed to. -/
def sendTx (t : TxFrame) (r : Ring) : Ring :=
  queueTx (if t.f.dst = 0xFFF then bcastPort r else routePort r t.f.dst.toNat) t r

/-- Queue an event frame; its ESEQ counts the event frames made, this one among them (R246) (DEDUCED, notes/assumptions/90 and 91). -/
def sendEvent (s : State) (dst : Nat) (kind : TxKind) (payload : List Byte) (r : Ring) : Ring :=
  sendTx (plainTx kind { mkFrame s 0x05 2 dst with
    h2 := (r.eseq + 1).zeroExtend 64, len := BitVec.ofNat 9 payload.length, payload := payload })
    { r with eseq := r.eseq + 1 }

/-! ### Event records -/

/-- The bytes of an event entry, each word least significant byte first (DEDUCED, notes/assumptions/91). -/
def entryBytes (e : Entry) : List Byte := wordsToBytes [e.w0, e.w1, e.w2, e.w3]

/-- An event entry of Table 7-8 with the present time, epoch and next sequence number. -/
def mkEntry (s : State) (kind code idx detail : Nat) (p0 p1 : Word) : Entry :=
  { w0 := BitVec.ofNat 64 (kind + code <<< 8 + (idx % 65536) <<< 16 + (nowNs s).toNat <<< 32)
    w1 := BitVec.ofNat 64 ((nowWrap s).toNat + (s.tim.steps.toNat % 256) <<< 16
            + (s.tal.epoch.toNat % 256) <<< 24 + (detail % 65536) <<< 32 + s.evt.seq.toNat <<< 48)
    w2 := p0, w3 := p1 }

/-- Codes that cannot be disabled and use the reserve of the event queue: SOURCE_RETIRED, BOARD_RETIRED, FATAL_ALARM
(R185, R187). -/
def reservedEvent (code : Nat) : Bool := code == 0x02 || code == 0x03 || code == 0x0F

/-- The event code is enabled in EVT_MASK_i (R187). -/
def eventEnabled (v : Evt) (code : Nat) : Bool :=
  reservedEvent code || (v.mask.getD (code / 32) 0).getLsbD (code % 32)

/-- Entries the queue may hold before a record of this code is dropped (R185). -/
def eventRoom (code : Nat) : Nat := if reservedEvent code then 1024 else 896

/-- Store an event record or drop it as lost; its sequence number is taken either way (R184, R185). -/
def evtStore (v : Evt) (code : Nat) (e : Entry) : Evt :=
  if v.queue.length < eventRoom code then { v with queue := v.queue ++ [e], seq := v.seq + 1 }
  else { v with lost := true, lostCnt := v.lostCnt + 1, seq := v.seq + 1 }

/-- Write an event record (R184 to R188): nothing if its code is disabled; otherwise it is stored or dropped, and sent as
an event frame when RING_EN is 1. -/
def postEvent (code idx detail : Nat) (extra : Word) (s : State) : State :=
  let made := eventEnabled s.evt code
  let e := mkEntry s 2 code idx detail extra 0
  { s with
    evt := if made then evtStore s.evt code e else s.evt
    ring := if made && s.evt.ringEn then sendEvent s s.evt.ringNode.toNat .event (entryBytes e) s.ring else s.ring }

/-- Write an event record without EXTRA. -/
def post (code idx detail : Nat) (s : State) : State := postEvent code idx detail 0 s

/-! ### The tally's books -/

/-- Change the books. -/
def updBooks (f : Books → Books) (s : State) : State := { s with tal := { s.tal with books := f s.tal.books } }

/-- A plane takes a raw bit with its credit (R87). -/
def bkCreditIn (c : Nat) (b : Books) : Books :=
  { b with creditIn := b.creditIn + BitVec.ofNat 64 c, creditPending := b.creditPending + BitVec.ofNat 64 c }

/-- A lane acknowledges a seed: the whole credit of its block is seeded (R80). -/
def bkSeeded (c : Nat) (marked : Bool) (b : Books) : Books :=
  { b with
    creditSeeded := b.creditSeeded + BitVec.ofNat 64 c, creditPending := b.creditPending - BitVec.ofNat 64 c
    seeds := b.seeds + 1, seedsMarked := b.seedsMarked + BitVec.ofNat 64 (b2n marked) }

/-- A block or a held seed goes to kerf under its cause (R87, Table 4-5). -/
def bkCreditKerf (why : CreditKerf) (c : Nat) (b : Books) : Books :=
  let n : Word := BitVec.ofNat 64 c
  let add (k : CreditKerf) (x : Word) : Word := if why = k then x + n else x
  { b with
    creditKerf := b.creditKerf + n, creditPending := b.creditPending - n, blocksKerf := b.blocksKerf + 1
    ckHealth := add .health b.ckHealth, ckMode := add .mode b.ckMode, ckRetire := add .retire b.ckRetire
    ckAged := add .aged b.ckAged, ckHalt := add .halt b.ckHalt }

/-- A lane's self-check releases n words: they are generated and in flight (R89). -/
def bkGen (n : Nat) (b : Books) : Books :=
  { b with gen := b.gen + BitVec.ofNat 64 n, inflight := b.inflight + BitVec.ofNat 64 n }

/-- The stack write port accepts n words: from in flight to resident (R89). -/
def bkToResident (n : Nat) (b : Books) : Books :=
  { b with inflight := b.inflight - BitVec.ofNat 64 n, resident := b.resident + BitVec.ofNat 64 n }

/-- n words leave the stack: from resident to in flight (R89). -/
def bkToFlight (n : Nat) (b : Books) : Books :=
  { b with resident := b.resident - BitVec.ofNat 64 n, inflight := b.inflight + BitVec.ofNat 64 n }

/-- n words in flight are delivered, m of them marked (R14, R89). -/
def bkDelivered (n m : Nat) (b : Books) : Books :=
  { b with
    inflight := b.inflight - BitVec.ofNat 64 n, delivered := b.delivered + BitVec.ofNat 64 n
    wdMarked := b.wdMarked + BitVec.ofNat 64 m }

/-- n delivered words were batch coefficients (Table 4-8, word 26). -/
def bkCoef (n : Nat) (b : Books) : Books := { b with wdCoef := b.wdCoef + BitVec.ofNat 64 n }

/-- n words go to kerf under their cause: from resident, or from in flight (R89, Table 4-7). -/
def bkKerf (why : WordKerf) (fromStack : Bool) (n : Nat) (b : Books) : Books :=
  let k : Word := BitVec.ofNat 64 n
  let add (c : WordKerf) (x : Word) : Word := if why = c then x + k else x
  { b with
    resident := if fromStack then b.resident - k else b.resident
    inflight := if fromStack then b.inflight else b.inflight - k
    kerf := b.kerf + k
    wkAge := add .age b.wkAge, wkFlush := add .flush b.wkFlush, wkFault := add .fault b.wkFault
    wkFailover := add .failover b.wkFailover, wkReject := add .reject b.wkReject, wkHalt := add .halt b.wkHalt }

/-- The bound of words in flight, Table 1-2 (R14). -/
def inflightBound (s : State) : Nat := if s.pwr.is832 then 16660 else 16724

/-- The checks of a snapshot: both identities, both bounds, and both sums of causes (R93). -/
def booksOk (s : State) (b : Books) : Bool :=
  decide (b.creditIn = b.creditSeeded + b.creditKerf + b.creditPending)
    && decide (b.gen = b.delivered + b.kerf + b.resident + b.inflight)
    && decide (b.creditPending.toNat ≤ countP (fun x => decide (x.st ≠ .retired)) s.grn.boards * 262144)
    && decide (b.inflight.toNat ≤ inflightBound s)
    && decide (b.resident.toNat ≤ nStackWords s)
    && decide (b.creditKerf = b.ckHealth + b.ckMode + b.ckRetire + b.ckAged + b.ckHalt)
    && decide (b.kerf = b.wkAge + b.wkFlush + b.wkFault + b.wkFailover + b.wkReject + b.wkHalt)

/-- The 32 words of a snapshot record that carries the given epoch (R94, Table 4-8). -/
def snapRecord (s : State) (epoch : Word) : List Word :=
  let b := s.tal.books
  [epoch,
   BitVec.ofNat 64 ((nowNs s).toNat + (nowWrap s).toNat <<< 32 + (s.tim.steps.toNat % 256) <<< 48),
   b.creditIn, b.creditSeeded, b.creditKerf, b.creditPending,
   b.ckHealth, b.ckMode, b.ckRetire, b.ckAged, b.ckHalt,
   b.seeds, b.blocksKerf, b.seedsMarked, b.gen, b.delivered] ++
  [b.kerf, b.resident, b.inflight, b.wkAge, b.wkFlush, b.wkFault, b.wkFailover, b.wkReject,
   b.wkHalt, b.wdMarked, b.wdCoef, 0, 0, 0, 0, 0]

/-! ### The fatal alarm -/

/-- Raise the fatal alarm: HLT_FATAL records the first cause, and a FATAL_ALARM record is written (R68, R350). What the
alarm does to every unit follows in the same step (`settle`). -/
def raiseFatal (cause idx : Nat) (s : State) : State :=
  if s.hlt.fatal then s
  else post 0x0F idx cause
    { s with hlt := { s.hlt with
        fatal := true, fatalCause := BitVec.ofNat 8 cause, fatalIdx := BitVec.ofNat 8 idx, alarm := true } }

/-- A snapshot: the epoch advances, the checks of R93 run, and a broken check raises the fatal alarm (R91 to R93). -/
def takeSnapshot (s : State) : State :=
  let s1 := { s with tal := { s.tal with epoch := s.tal.epoch + 1 } }
  if booksOk s s.tal.books then s1 else raiseFatal 0x08 2 s1

end Sys2Proof.Machine
end

