-- ==== Sys2Proof/Machine/Sha.lean ====
section
/-! DEFINITION. The hash functions of FIPS 180-4 that the node computes: SHA-256, SHA-384 and SHA-512. -/

namespace Sys2Proof.Machine

/-- Constants of 64 bits each, four to a packed number, the first in the top bits. -/
def unpack64 (rows : List Nat) : List (BitVec 64) :=
  rows.flatMap (fun n => [3, 2, 1, 0].map (fun j => BitVec.ofNat 64 (n >>> (64 * j))))

/-- The round constants of SHA-512 (FIPS 180-4): the first 64 bits of the fractional parts of the cube
roots of the first 80 primes. SHA-256 takes the first 32 bits of the first 64 of them. -/
def shaCube : List (BitVec 64) :=
  unpack64 (
   [0x428a2f98d728ae227137449123ef65cdb5c0fbcfec4d3b2fe9b5dba58189dbbc,
    0x3956c25bf348b53859f111f1b605d019923f82a4af194f9bab1c5ed5da6d8118,
    0xd807aa98a303024212835b0145706fbe243185be4ee4b28c550c7dc3d5ffb4e2,
    0x72be5d74f27b896f80deb1fe3b1696b19bdc06a725c71235c19bf174cf692694,
    0xe49b69c19ef14ad2efbe4786384f25e30fc19dc68b8cd5b5240ca1cc77ac9c65,
    0x2de92c6f592b02754a7484aa6ea6e4835cb0a9dcbd41fbd476f988da831153b5,
    0x983e5152ee66dfaba831c66d2db43210b00327c898fb213fbf597fc7beef0ee4,
    0xc6e00bf33da88fc2d5a79147930aa72506ca6351e003826f142929670a0e6e70,
    0x27b70a8546d22ffc2e1b21385c26c9264d2c6dfc5ac42aed53380d139d95b3df,
    0x650a73548baf63de766a0abb3c77b2a881c2c92e47edaee692722c851482353b] ++
   [0xa2bfe8a14cf10364a81a664bbc423001c24b8b70d0f89791c76c51a30654be30,
    0xd192e819d6ef5218d69906245565a910f40e35855771202a106aa07032bbd1b8,
    0x19a4c116b8d2d0c81e376c085141ab532748774cdf8eeb9934b0bcb5e19b48a8,
    0x391c0cb3c5c95a634ed8aa4ae3418acb5b9cca4f7763e373682e6ff3d6b2b8a3,
    0x748f82ee5defb2fc78a5636f43172f6084c87814a1f0ab728cc702081a6439ec,
    0x90befffa23631e28a4506cebde82bde9bef9a3f7b2c67915c67178f2e372532b,
    0xca273eceea26619cd186b8c721c0c207eada7dd6cde0eb1ef57d4f7fee6ed178,
    0x06f067aa72176fba0a637dc5a2c898a6113f9804bef90dae1b710b35131c471b,
    0x28db77f523047d8432caab7b40c724933c9ebe0a15c9bebc431d67c49c100d4c,
    0x4cc5d4becb3e42b6597f299cfc657e2a5fcb6fab3ad6faec6c44198c4a475817])

/-- The initial hash value of SHA-512: the square roots of the first 8 primes in the same way. SHA-256
takes the first 32 bits of each. -/
def shaRoot : List (BitVec 64) :=
  unpack64
   [0x6a09e667f3bcc908bb67ae8584caa73b3c6ef372fe94f82ba54ff53a5f1d36f1,
    0x510e527fade682d19b05688c2b3e6c1f1f83d9abfb41bd6b5be0cd19137e2179]

/-- The initial hash value of SHA-384: the square roots of the ninth to the sixteenth prime (R77). -/
def shaRoot384 : List (BitVec 64) :=
  unpack64
   [0xcbbb9d5dc1059ed8629a292a367cd5079159015a3070dd17152fecd8f70e5939,
    0x67332667ffc00b318eb44a8768581511db0c2e0d64f98fa747b5481dbefa4fa4]

/-- The first 32 bits of each constant. -/
def upperHalves (l : List (BitVec 64)) : List (BitVec 32) := l.map (fun x => BitVec.ofNat 32 (x.toNat >>> 32))

/-- What tells one function of the family from another, over words of w bits: the round constants, and
the amounts of its four word functions. The two of a round rotate by all three amounts; the two of the
message schedule rotate by two and shift by the third. -/
structure ShaForm (w : Nat) where
  ks : List (BitVec w)
  onA : Nat × Nat × Nat
  onE : Nat × Nat × Nat
  near : Nat × Nat × Nat
  far : Nat × Nat × Nat

/-- SHA-256. -/
def shaForm32 : ShaForm 32 :=
  { ks := upperHalves (shaCube.take 64), onA := (2, 13, 22), onE := (6, 11, 25), near := (7, 18, 3), far := (17, 19, 10) }

/-- SHA-384 and SHA-512. -/
def shaForm64 : ShaForm 64 :=
  { ks := shaCube, onA := (28, 34, 39), onE := (14, 18, 41), near := (1, 8, 7), far := (19, 61, 6) }

/-- A word function of a round: three rotations, exclusive-ored. -/
def spin {w : Nat} (n : Nat × Nat × Nat) (x : BitVec w) : BitVec w :=
  x.rotateRight n.1 ^^^ (x.rotateRight n.2.1 ^^^ x.rotateRight n.2.2)

/-- A word function of the schedule: two rotations and a shift, exclusive-ored. -/
def blur {w : Nat} (n : Nat × Nat × Nat) (x : BitVec w) : BitVec w :=
  x.rotateRight n.1 ^^^ (x.rotateRight n.2.1 ^^^ (x >>> n.2.2))

/-- One round on the eight working variables: `kw` is the round constant plus the schedule word. Where
a bit of `e` is set the choice takes `f`, else `g`; the majority takes the bit two of `a`, `b`, `c` hold. -/
def shaTurn {w : Nat} (p : ShaForm w) (kw : BitVec w) : List (BitVec w) → List (BitVec w)
  | [a, b, c, d, e, f, g, h] =>
    let mixed := kw + h + spin p.onE e + (g ^^^ (e &&& (f ^^^ g)))
    [mixed + spin p.onA a + ((a &&& b) ||| (c &&& (a ||| b))), a, b, c, mixed + d, e, f, g]
  | v => v

/-- The schedule word 16 places after the first of the window of 16 words. -/
def shaNext {w : Nat} (p : ShaForm w) (q : List (BitVec w)) : BitVec w :=
  blur p.far (q.getD 14 0) + q.getD 9 0 + (blur p.near (q.getD 1 0) + q.getD 0 0)

/-- The rounds for the constants `ks` that remain, over the window `q` of the 16 schedule words next due. -/
def shaTurns {w : Nat} (p : ShaForm w) :
    List (BitVec w) → List (BitVec w) → List (BitVec w) → List (BitVec w)
  | [], _, v => v
  | k :: ks, q, v => shaTurns p ks (q.tail ++ [shaNext p q]) (shaTurn p (k + q.headD 0) v)

/-- The words of a byte string, w/8 bytes each, most significant byte first. -/
def wordsBE (w : Nat) (m : List Byte) : List (BitVec w) :=
  (chunks (w / 8) m).map (fun c => BitVec.ofNat w (beNat c))

/-- A block of 16 words folded into the hash value. -/
def shaFold {w : Nat} (p : ShaForm w) (hv : List (BitVec w)) (block : List Byte) : List (BitVec w) :=
  List.zipWith (fun x y => y + x) hv (shaTurns p p.ks (wordsBE w block) hv)

/-- The message padded to whole blocks of 2w bytes: a one bit, zeros, and its length in bits in the last
w/4 bytes. -/
def shaPadded (w : Nat) (m : List Byte) : List Byte :=
  let size := 2 * w
  let used := (m.length + w / 4) % size
  m ++ 0x80#8 :: (List.replicate (size - 1 - used) 0 ++ bytesBE (w / 4) (8 * m.length))

/-- The hash value after a whole message, as bytes, most significant byte of each word first. -/
def shaBytes {w : Nat} (p : ShaForm w) (hv : List (BitVec w)) (m : List Byte) : List Byte :=
  ((chunks (2 * w) (shaPadded w m)).foldl (shaFold p) hv).flatMap (fun x => bytesBE (w / 8) x.toNat)

/-- SHA-256 of a byte message. -/
def sha256 (m : List Byte) : List Byte := shaBytes shaForm32 (upperHalves shaRoot) m

/-- SHA-512 of a byte message. -/
def sha512 (m : List Byte) : List Byte := shaBytes shaForm64 shaRoot m

/-- SHA-384 of a byte message: the rounds of SHA-512 from its own initial value, cut to 48 bytes. -/
def sha384 (m : List Byte) : List Byte := (shaBytes shaForm64 shaRoot384 m).take 48

/-- The digest that a hash code names: 1 SHA-256, 2 SHA-384, 3 SHA-512 (R175, R177). -/
def hashOf (alg : Nat) (m : List Byte) : List Byte :=
  if alg = 1 then sha256 m else if alg = 2 then sha384 m else sha512 m

/-- The digest length in bytes of a hash code. -/
def hashLen (alg : Nat) : Nat := if alg = 1 then 32 else if alg = 2 then 48 else 64

end Sys2Proof.Machine
end

