-- ==== Sys2Proof/Machine/Planes.lean ====
section
/-! DEFINITION. Operations of the planes and boards: modes and effective calibration (R30, R32, R53, R56), the compressor and the
hash conditioner (R73 to R85), kerf of blocks and seeds (Table 4-5), board states (R40) and the fatal floor (R62). -/

namespace Sys2Proof.Machine

/-! ### Modes and effective values -/

/-- The continuous family uses the count-only response (R53). -/
def contCount (s : State) : Bool := s.sil.contCount || s.sys.compatEn
/-- The seasoning family uses the count-only response (R53). -/
def seasCount (s : State) : Bool := s.sil.seasCount || s.sys.compatEn
/-- Either family uses the count-only response (R54). -/
def countOnly (s : State) : Bool := contCount s || seasCount s

/-- The OTP credit cap of a cell: 0x40 on shipped parts (GRN_FACT_n). -/
def factoryCap : Nat := 0x40

/-- The CAL_CELL_n register of a cell. -/
def calCell (s : State) (n : Nat) : W32 := s.cal.cells.getD n 0

/-- The effective trim of a cell (R30). -/
def effTrim (s : State) (n : Nat) : Nat :=
  if bitAt (calCell s n) 31 then fld (calCell s n) 22 6 else (Config.factoryTrim n).toNat

/-- The effective credit of a cell in 1/256 bit (R32). -/
def effCredit (s : State) (n : Nat) : Nat :=
  if bitAt (calCell s n) 30 then clampN 0x20 factoryCap (fld (calCell s n) 14 8) else factoryCap

/-- The effective comparator offset of a witness (R345). -/
def effOffset (s : State) (b : Nat) : BitVec 8 :=
  let r := s.cal.wits.getD b 0
  if bitAt r 31 then r.setWidth 8 else Config.witOffset b

/-- The effective RCT and APT cutoffs of a cell (R56, Table 3-2). -/
def cutCell (s : State) : Nat × Nat :=
  if bitAt s.cal.cutCell 31 then
    (clampN 48 121 (fld s.cal.cutCell 0 8), clampN 680 928 (fld s.cal.cutCell 16 11))
  else (121, 928)

/-- The effective RCT and APT cutoffs of a witness (R56, Table 3-2). -/
def cutWit (s : State) : Nat × Nat :=
  if bitAt s.cal.cutWit 31 then
    (clampN 40 61 (fld s.cal.cutWit 0 8), clampN 680 811 (fld s.cal.cutWit 16 11))
  else (61, 811)

/-- The effective time trim, signed, in 2^-24 ns (R346). -/
def effTimeTrim (s : State) : Int :=
  if bitAt s.cal.timeTrim 31 then (s.cal.timeTrim.setWidth 16 : BitVec 16).toInt else 0

/-! ### Sources, boards and planes by index -/

/-- A source by its code: 0x00 to 0x3F a cell, 0x40 + b a witness. -/
def srcOf (g : Grn) (code : Nat) : Option Source :=
  if code < 0x40 then g.cells[code]? else g.wits[code - 0x40]?

/-- Change a source. -/
def updSrc (code : Nat) (f : Source → Source) (g : Grn) : Grn :=
  if code < 0x40 then { g with cells := upd g.cells code f }
  else { g with wits := upd g.wits (code - 0x40) f }

/-- The board of a source (R28). -/
def boardOfSrc (code : Nat) : Nat := if code < 0x40 then code / 8 else code - 0x40

/-- The cells of a board, in position order. -/
def boardCells (g : Grn) (b : Nat) : List Source := (g.cells.drop (8 * b)).take 8

/-- The floor count of a board: its cells in SEASONING or LIVE (R40) (DEDUCED, notes/assumptions/108). -/
def floorCount (g : Grn) (b : Nat) : Nat := countP (fun c => c.st.active) (boardCells g b)

/-- The board's cells that are LIVE. -/
def liveCount (g : Grn) (b : Nat) : Nat := countP (fun c => decide (c.st = .live)) (boardCells g b)

/-- The state of a board; an absent board reads as retired. -/
def boardSt (g : Grn) (b : Nat) : BoardState := (g.boards[b]?.map (·.st)).getD .retired

/-- Boards not retired (HLT_MODE.LIVE_BOARDS). -/
def boardsNotRetired (g : Grn) : Nat := countP (fun x => decide (x.st ≠ .retired)) g.boards

/-- Change the GRN block. -/
def updGrn (f : Grn → Grn) (s : State) : State := { s with grn := f s.grn }

/-- Change one plane. -/
def updPlane (b : Nat) (f : Plane → Plane) (s : State) : State :=
  { s with pln := { s.pln with planes := upd s.pln.planes b f } }

/-- A plane by its board. -/
def planeOf (s : State) (b : Nat) : Option Plane := s.pln.planes[b]?

/-! ### The compressor and the hash conditioner -/

/-- One step of the compressor on a raw bit (R76). -/
def compStep (c : BitVec 128) (r : Bool) : BitVec 128 :=
  if c.getLsbD 127 ^^ r then (c <<< 1) ^^^ 0x87 else c <<< 1

/-- The compressed bit the compressor emits from its state (R76). -/
def compOut (c : BitVec 128) : Bool := c.getLsbD 127 ^^ c.getLsbD 63

/-- A block takes one raw cell bit with its credit: every fourth bit emits a compressed bit (R76, R78). -/
def blockTake (bit : Bool) (credit : Nat) (k : Block) : Block :=
  let c := compStep k.comp bit
  { k with
    raw := k.raw + 1, comp := c, credit := k.credit + credit
    bits := if k.raw % 4 = 3 then compOut c :: k.bits else k.bits }

/-- Bits as a number, the first one most significant. -/
def bitsBE (l : List Bool) : Nat := l.foldl (fun acc b => 2 * acc + b2n b) 0

/-- The 1,360-bit message of the hash conditioner, Table 4-1, as bytes (R77). -/
def condMessage (b : Nat) (k : Block) (marked : Bool) : List Byte :=
  let wits := k.wits.reverse
  bytesBE 1 b ++ bytesBE 1 (b2n marked) ++ bytesBE 6 k.serial.toNat ++ bytesBE 128 (bitsBE k.bits.reverse)
    ++ bytesBE 2 wits.length ++ bytesBE 32 (bitsBE (wits ++ List.replicate (256 - wits.length) false))

/-- The seed of a block: the leftmost 384 bits of the SHA-512 digest of its message (R77). -/
def condSeed (b : Nat) (k : Block) (marked : Bool) : Seed384 :=
  BitVec.ofNat 384 (beNat ((sha512 (condMessage b k marked)).take 48))

/-! ### Blocks -/

/-- The credit of a raw bit of cell n as the plane takes it: zero while either family counts only (R54, R34, R78). -/
def takeCredit (s : State) (n : Nat) : Nat := if countOnly s then 0 else effCredit s n

/-- A plane's block closes: COND, WIT_LAST and the closing order number (R74, Table 4-3). -/
def closeBlock (b : Nat) (s : State) : State :=
  bumpOrd (updPlane b (fun p => match p.blk with
    | some k => { p with st := .cond, witLast := BitVec.ofNat 9 k.wits.length, closedAt := s.clk.ord }
    | none => p) s)

/-- After a bit is taken: a full block closes, or waits for its witness (R36, Table 4-3). -/
def blockCheck (b : Nat) (s : State) : State :=
  match (planeOf s b).bind (·.blk) with
  | some k =>
    if k.raw = 4096 then
      if 30 ≤ k.wits.length then closeBlock b s
      else updPlane b (fun p => { p with st := .waitWit }) s
    else s
  | none => s

/-- A plane in FILL takes a raw bit of the cell at a position; the credit is credited-in (R73, R87). -/
def takeCellBit (b pos : Nat) (bit : Bool) (s : State) : State :=
  let c := takeCredit s (8 * b + pos)
  blockCheck b (updBooks (bkCreditIn c)
    (updPlane b (fun p => { p with blk := p.blk.map (blockTake bit c) }) s))

/-- A plane takes a witness sample, up to 256 in a block (R74). -/
def takeWitBit (b : Nat) (bit : Bool) (s : State) : State :=
  blockCheck b (updPlane b (fun p => { p with blk := p.blk.map (fun k =>
    if k.wits.length < 256 then { k with wits := bit :: k.wits } else k) }) s)

/-- How many samples of a position the elastic store holds (R75). -/
def storeCap (pos : Nat) : Nat := if pos = 8 then 8 else 64

/-- A cleared sample of a LIVE source leaves its delay line towards the plane: taken, kept in the elastic store while the
plane conditions, or not taken (R36, R73 to R75). Position 8 is the witness. -/
def deliverSample (b pos : Nat) (bit : Bool) (s : State) : State :=
  match planeOf s b with
  | none => s
  | some p =>
    match p.st with
    | .fill => if pos = 8 then takeWitBit b bit s else takeCellBit b pos bit s
    | .waitWit => if pos = 8 then takeWitBit b bit s else s
    | .cond =>
      if countP (fun e => decide (e.1 = pos)) p.store < storeCap pos then
        updPlane b (fun q => { q with store := q.store ++ [(pos, bit)] }) s
      else s
    | _ => s

/-- A plane starts its next block: the serial increments, the block is marked while count-only holds, and the elastic
store is drained first (R75, R77). -/
def startBlock (b : Nat) (s : State) : State :=
  match planeOf s b with
  | none => s
  | some p =>
    let k : Block := ⟨0, 0, [], [], 0, countOnly s, p.serial + 1, false⟩
    p.store.foldl (fun t e => deliverSample b e.1 e.2 t)
      (updPlane b (fun q => { q with st := .fill, serial := q.serial + 1, blk := some k, store := [] }) s)

/-- What a plane does once its block or seed is gone: a known-answer run that waits, else a block if the board is LIVE, else IDLE (Table
4-3, R85) (DEDUCED, notes/assumptions/37). -/
def planeNext (b : Nat) (s : State) : State :=
  match planeOf s b with
  | none => s
  | some p =>
    if p.kats ≠ [] then updPlane b (fun q => { q with st := .kat, store := [] }) s
    else if p.seed.isSome then updPlane b (fun q => { q with st := .hold, store := [] }) s
    else if boardSt s.grn b = .live then startBlock b s
    else updPlane b (fun q => { q with st := .idle, store := [] }) s

/-- HLT_DISC_b counts blocks and seeds lost to health failures and mode changes (DEDUCED, notes/assumptions/33). -/
def bumpDisc (why : CreditKerf) (b : Nat) (s : State) : State :=
  match why with
  | .health | .mode => { s with hlt := { s.hlt with disc := upd s.hlt.disc b (· + 1) } }
  | _ => s

/-- Send the block of a plane to kerf, if there is one (Table 4-5). -/
def kerfBlock (why : CreditKerf) (b : Nat) (s : State) : State :=
  match (planeOf s b).bind (·.blk) with
  | none => s
  | some k => bumpDisc why b (updBooks (bkCreditKerf why k.credit)
      (updPlane b (fun p => { p with blk := none, kerf := p.kerf + 1 }) s))

/-- Send the held seed of a plane to kerf, if there is one (Table 4-5). -/
def kerfSeed (why : CreditKerf) (b : Nat) (s : State) : State :=
  match (planeOf s b).bind (·.seed) with
  | none => s
  | some k => bumpDisc why b (updBooks (bkCreditKerf why k.credit)
      (updPlane b (fun p => { p with seed := none, kerf := p.kerf + 1 }) s))

/-- A block in progress: in FILL or WAIT_WIT, or waiting in IDLE (R60). -/
def blockInProgress (p : Plane) : Bool :=
  p.blk.isSome && (decide (p.st = .fill) || decide (p.st = .waitWit) || decide (p.st = .idle))

/-- Send a board's block in progress to kerf; its plane is left without one (R60, R66). -/
def kerfInProgress (why : CreditKerf) (b : Nat) (s : State) : State :=
  match planeOf s b with
  | none => s
  | some p => if blockInProgress p then kerfBlock why b s else s

/-- A block that holds nothing yet. -/
def Block.blank (k : Block) : Bool := decide (k.raw = 0) && k.wits.isEmpty

/-- A health failure sends the board's block in progress to kerf (R60), once for failures that coincide: the block started after the first
of them, still empty in the same CK_TIME period, stays (R63) (DEDUCED, notes/assumptions/118). -/
def failBlock (b : Nat) (s : State) : State :=
  match planeOf s b with
  | none => s
  | some p =>
    if decide (p.failT = some s.clk.ticks) && (p.blk.map (·.blank)).getD true then s
    else updPlane b (fun q => { q with failT := some s.clk.ticks }) (kerfInProgress .health b s)

/-- A plane whose block in progress was discarded starts the next one if its board is LIVE, and otherwise goes to IDLE, where a
known-answer run that waits starts (Table 4-3, R85) (DEDUCED, notes/assumptions/34 and 37). -/
def planeResume (b : Nat) (s : State) : State :=
  match planeOf s b with
  | none => s
  | some p =>
    if p.blk.isNone ∧ (p.st = .fill ∨ p.st = .waitWit ∨ p.st = .idle) then
      if boardSt s.grn b = .live then startBlock b s
      else updPlane b (fun q => { q with st := if q.kats ≠ [] then .kat else .idle, store := [] }) s
    else s

/-- A mode change discards a board's block in progress; the plane starts the next one if its board is LIVE (Table 4-3, R66) (DEDUCED,
notes/assumptions/34). -/
def discardBlock (why : CreditKerf) (b : Nat) (s : State) : State :=
  planeResume b (kerfInProgress why b s)

/-- A plane enters HALT: its block and held seed go to kerf (Table 4-3). -/
def haltPlane (why : CreditKerf) (b : Nat) (s : State) : State :=
  match planeOf s b with
  | none => s
  | some p =>
    if p.st = .halt then s
    else updPlane b (fun q => { q with st := .halt, store := [] }) (kerfSeed why b (kerfBlock why b s))

/-! ### Boards -/

/-- What a plane does when its board's state has changed (Table 4-3). -/
def planeOnBoard (b : Nat) (s : State) : State :=
  match planeOf s b with
  | none => s
  | some p =>
    match boardSt s.grn b with
    | .live =>
      if p.st = .idle then
        match p.blk with
        | some k => updPlane b (fun q => { q with st := if k.raw = 4096 then .waitWit else .fill }) s
        | none => startBlock b s
      else s
    | .held =>
      if (p.st = .fill ∨ p.st = .waitWit) ∧ ((p.blk.map (fun k => decide (k.wits.length < 30))).getD true) then
        updPlane b (fun q => { q with st := .idle, store := [] }) s
      else s
    | _ => s

/-- The state of a board's witness. -/
def witSt (g : Grn) (b : Nat) : Option SrcState := g.wits[b]?.map (·.st)

/-- The board's state after one of its sources changed: LIVE, HELD or as it was (R40, Table 2-4). `left` says that its witness has
just left LIVE or gone into CAPTURE, which holds a board in SEASONING too (R46). -/
def boardRefresh (left : Bool) (b : Nat) (s : State) : State :=
  let wl := decide (witSt s.grn b = some .live)
  let go (st : BoardState) : State :=
    planeOnBoard b (updGrn (fun g => { g with boards := upd g.boards b (fun x => { x with st := st }) }) s)
  match boardSt s.grn b with
  | .seasoning => if wl ∧ 4 ≤ liveCount s.grn b then go .live else if left then go .held else s
  | .live => if wl then s else go .held
  | .held => if wl then go .live else s
  | .retired => s

/-- Set a sticky bit of HLT_SUM. -/
def setSum (i : Nat) (s : State) : State :=
  { s with hlt := { s.hlt with sum := s.hlt.sum ||| BitVec.ofNat 7 (2 ^ i) } }

/-- Retire a board: its plane halts with its block in kerf, a BOARD_RETIRED record is written, and the fatal floor is
checked (R40, R62). -/
def retireBoard (b cause : Nat) (s : State) : State :=
  if boardSt s.grn b = .retired then s
  else
    let s1 := setSum 3 (updGrn (fun g =>
      { g with boards := upd g.boards b (fun _ => ⟨.retired, BitVec.ofNat 3 cause⟩) }) s)
    let s2 := haltPlane .retire b (post 0x03 b cause s1)
    if boardsNotRetired s2.grn < s2.sil.floor.toNat then raiseFatal 0x01 b s2 else s2

end Sys2Proof.Machine
end

