-- ==== Sys2Proof/Machine/Sources.lean ====
section
/-! DEFINITION. Operations of the grain cells and witness sources: races, health tests, seasoning, the estimator, failures and
their responses (R52 to R72), and the GRN and HLT controls (R38 to R48, R70). -/

namespace Sys2Proof.Machine

/-! ### Changes of a source's state -/

/-- A retired source keeps its mark until reset; a source that leaves SEASONING has ended its first seasoning. -/
def Source.leave (x : Source) : Source :=
  { x with line := [], firstDone := x.firstDone || decide (x.st = .seasoning) }

/-- A source enters SEASONING: its delay line is empty and its tests and sums start afresh (R58, R59) (DEDUCED, notes/assumptions/28). -/
def Source.season (x : Source) : Source :=
  { x.leave with st := .seasoning, rctRun := 0, aptPos := 0, aptCnt := 0, seas := Seas.zero }

/-- A source goes LIVE: its first continuous window starts with the next sample, the RCT run carries over (R59). -/
def Source.goLive (x : Source) : Source := { x.leave with st := .live, aptPos := 0, aptCnt := 0 }

/-- A source retires (R61). -/
def Source.retire (byHealth : Bool) (x : Source) : Source :=
  { x.leave with st := .retired, retired := true, byHealth := byHealth }

/-- Every source of the part, cells first. -/
def allSources (g : Grn) : List Source := g.cells ++ g.wits

/-- The mask key is formed once every source has ended its first seasoning (R128) (DEDUCED, notes/assumptions/45). -/
def keyCheck (s : State) : State :=
  if !s.stk.keyReady && !s.sys.tamper && (allSources s.grn).all (·.firstDone) then
    let d := sha512 (Config.maskMessage ((allSources s.grn).map (fun x => x.first.reverse)))
    { s with stk := { s.stk with maskKey := BitVec.ofNat 256 (beNat (d.take 32)), keyReady := true } }
  else s

/-- Move a source by a transition of Table 2-3; its board follows (R40, R46). -/
def goSrc (code : Nat) (f : Source → Source) (s : State) : State :=
  let b := boardOfSrc code
  let s1 := updGrn (updSrc code f) s
  let now := witSt s1.grn b
  let left := decide (witSt s.grn b = some .live ∧ now ≠ some .live) || decide (now = some .capture)
  keyCheck (boardRefresh left b s1)

/-- Retire a source: SRC_RETIRED, a SOURCE_RETIRED record, and its board's own retirement (R61, R62). -/
def retireSource (code : Nat) (byHealth : Bool) (s : State) : State :=
  let b := boardOfSrc code
  let s1 := keyCheck (post 0x02 code 0 (setSum 2 (updGrn (updSrc code (Source.retire byHealth)) s)))
  if 0x40 ≤ code then retireBoard b 2 s1
  else if floorCount s1.grn b < 4 then retireBoard b 1 s1
  else s1

/-! ### Failures -/

/-- The CK_SLOW time of an earlier failure lies within the retry window of a failure now (R61, R378). -/
def inRetry (s : State) (t : Nat) : Bool := decide (s.clk.slow - t ≤ msToSlow s.hlt.retryMs.toNat)

/-- RECENT of a source: failures within the retry window up to now; 3 only after retirement by health. -/
def recent (s : State) (x : Source) : Nat :=
  min (if x.byHealth then 3 else 2) (countP (inRetry s) x.fails)

/-- A counter that stops at 0xFF. -/
def inc8 (v : BitVec 8) : BitVec 8 := if v = 0xFF then v else v + 1

/-- Write a HEALTH_FAIL record, or suppress it within a millisecond of the source's last one (R71, R381) (DEDUCED, notes/assumptions/20).
-/
def healthRecord (code test : Nat) (seas : Bool) (s : State) : State :=
  match srcOf s.grn code with
  | none => s
  | some x =>
    if withinSlow s x.lastEvt 32 then setSum 5 s
    else
      let s1 := post 0x01 code (test + x.st.code * 16 + b2n seas * 256) s
      if eventEnabled s.evt 0x01 then
        updGrn (updSrc code (fun y => { y with lastEvt := some s.clk.slow }))
          { s1 with ring := { s1.ring with healthFails := s1.ring.healthFails + 1 } }
      else s1

/-- Count a failure in the counters of HLT_CNT_n or HLT_WCNT_b, in HLT_SUM, and in the OGN-120 counter (R59, R63, R72) (DEDUCED,
notes/assumptions/33). -/
def countFailure (code : Nat) (seas rct apt : Bool) (s : State) : State :=
  let s1 := updGrn (updSrc code (fun x =>
    { x with
      cntSeas := if seas then inc8 x.cntSeas else x.cntSeas
      cntRct := if rct && !seas then inc8 x.cntRct else x.cntRct
      cntApt := if apt && !seas then inc8 x.cntApt else x.cntApt })) s
  let s2 := setSum (if seas then 4 else if code < 0x40 then 0 else 1) s1
  if code < 8 then
    { s2 with hlt := { s2.hlt with cmpFail := if s2.hlt.cmpFail = 0xFFFF then 0xFFFF else s2.hlt.cmpFail + 1 } }
  else s2

/-- Enter a failure into the retry record (R61). -/
def noteRetry (code : Nat) (s : State) : State :=
  updGrn (updSrc code (fun x => { x with fails := (s.clk.slow :: x.fails).take 3 })) s

/-- Both earlier failures lie within the retry window (R61). -/
def thirdInWindow (s : State) (x : Source) : Bool :=
  match x.fails with
  | a :: b :: _ => inRetry s a && inRetry s b
  | _ => false

/-- A test fails on a sample of a source, or its seasoning estimate lies outside a bound (R45, R60, R61, R64); HLT_SUM.COUNTED is set where
the response counts only, of a RETIRED source too (DEDUCED, notes/assumptions/28, 34 and 110). -/
def sourceFails (code : Nat) (seas rct apt : Bool) (s : State) : State :=
  match srcOf s.grn code with
  | none => s
  | some x =>
    let b := boardOfSrc code
    let test := if rct then 1 else if apt then 2 else 3
    let counted := if seas then seasCount s else contCount s
    if x.st = .capture then
      healthRecord code test seas (updGrn (fun g => { g with cap := { g.cap with hltFail := true } })
        (countFailure code seas rct apt s))
    else if x.st = .retired ∨ counted then
      healthRecord code test seas (onlyIf counted (setSum 6) (noteRetry code (countFailure code seas rct apt s)))
    else
      let s1 := if seas then s else failBlock b s
      let s2 := noteRetry code (countFailure code seas rct apt s1)
      let s3 := if thirdInWindow s x then retireSource code true s2 else goSrc code Source.season s2
      healthRecord code test seas (planeResume b s3)

/-! ### The tests -/

/-- The RCT on one sample: the new run length and whether it fails (R55) (DEDUCED, notes/assumptions/29). -/
def rctStep (cut : Nat) (x : Source) (bit : Bool) : Nat × Bool :=
  let n := if x.rctRun ≠ 0 ∧ x.rctLast = bit then x.rctRun + 1 else 1
  (n, decide (cut ≤ n))

/-- The APT on one sample: reference, position, count, and whether it fails (R55). -/
def aptStep (cut : Nat) (x : Source) (bit : Bool) : Bool × Nat × Nat × Bool :=
  if x.aptPos = 0 then (bit, 1, 1, false)
  else
    let n := if bit = x.aptRef then x.aptCnt + 1 else x.aptCnt
    (x.aptRef, x.aptPos + 1, n, decide (cut ≤ n))

/-- Both tests on one sample: the source after it, and whether the RCT and the APT fail. After a failure both start again with the next
sample; a window ends at 1,024 samples (R55) (DEDUCED, notes/assumptions/28 and 29). -/
def testStep (rc ac : Nat) (bit : Bool) (x : Source) : Source × Bool × Bool :=
  let r := rctStep rc x bit
  let a := aptStep ac x bit
  if r.2 || a.2.2.2 then
    ({ x with rctLast := bit, rctRun := 0, aptRef := a.1, aptPos := 0, aptCnt := 0 }, r.2, a.2.2.2)
  else
    ({ x with
        rctLast := bit, rctRun := r.1, aptRef := a.1
        aptPos := if a.2.1 = 1024 then 0 else a.2.1, aptCnt := a.2.2.1 }, false, false)

/-! ### The estimator -/

/-- Saturate to 16 bits, two's complement (R69). -/
def sat16 (v : Int) : BitVec 16 :=
  if v < -32768 then 0x8000 else if 32767 < v then 0x7FFF else BitVec.ofInt 16 v

/-- The lag-1 correlation of a window as a fraction: n samples, e equal adjacent pairs, o ones (R69). -/
def lagFrac (n e o : Nat) : Int × Int :=
  let m : Int := 2 * (o : Int) - n
  ((2 * (e : Int) - (n - 1)) * (n * n) - m * m * (n - 1), (n : Int) * n * (n - 1))

/-- The cross-correlation of a window as a fraction: n samples, e equal pairs, o ones, t ones of the neighbour (R69) (DEDUCED,
notes/assumptions/30). -/
def xcFrac (n e o t : Nat) : Int × Int :=
  ((2 * (e : Int) - n) * n - (2 * (o : Int) - n) * (2 * (t : Int) - n), (n : Int) * n)

/-- A fraction with 15 fraction bits, truncated toward zero, saturated (R69). -/
def frac15 (f : Int × Int) : BitVec 16 := sat16 (Int.tdiv (f.1 * 32768) f.2)

/-- The values of a window of 16 full sub-blocks (R69). -/
def estValues (x : Est) : Est :=
  let o := (x.blks.map (·.ones)).sum
  let e := (x.blks.map (·.eq)).sum + countP (·.cross) (x.blks.drop 1)
  { x with
    valid := true
    ones := if 65535 < o then 0xFFFF else BitVec.ofNat 16 o
    lag1 := frac15 (lagFrac 65536 e o)
    xc := frac15 (xcFrac 65536 ((x.blks.map (·.xeq)).sum) o ((x.blks.map (·.tones)).sum)) }

/-- The estimator takes one sample; `prev` is the sample before it, `t` the neighbour's latest (R69). -/
def estStep (prev : Option Bool) (bit t : Bool) (x : Est) : Est :=
  let same := decide (prev = some bit)
  let k : EstBlk :=
    { ones := x.cur.ones + b2n bit
      eq := x.cur.eq + b2n (same && decide (x.pos ≠ 0))
      cross := if x.pos = 0 then same else x.cur.cross
      xeq := x.cur.xeq + b2n (decide (bit = t))
      tones := x.cur.tones + b2n t }
  if x.pos + 1 = 4096 then
    let l := x.blks ++ [k]
    let l := if 16 < l.length then l.drop 1 else l
    let y := { x with pos := 0, cur := EstBlk.zero, blks := l }
    if l.length = 16 then estValues y else y
  else { x with pos := x.pos + 1, cur := k }

/-! ### Seasoning -/

/-- The seasoning sums take one sample (R58). -/
def seasStep (bit t rct apt : Bool) (q : Seas) : Seas :=
  { pos := q.pos + 1, ones := q.ones + b2n bit
    eq := q.eq + b2n (decide (q.pos ≠ 0) && decide (q.last = bit))
    last := bit, xeq := q.xeq + b2n (decide (bit = t)), tones := q.tones + b2n t
    rctFail := q.rctFail || rct, aptFail := q.aptFail || apt }

/-- A fraction's magnitude is at most 0.200 (Table 3-3). -/
def withinFifth (f : Int × Int) : Bool := decide (5 * f.1.natAbs ≤ f.2.natAbs)

/-- Every estimate of Table 3-3 lies within its bound. `xc` says whether the cross-cell correlation is tested (DEDUCED,
notes/assumptions/28). -/
def seasOk (witness xc : Bool) (q : Seas) : Bool :=
  (if witness then decide (359 ≤ q.ones ∧ q.ones ≤ 665) else decide (410 ≤ q.ones ∧ q.ones ≤ 614))
    && withinFifth (lagFrac 1024 q.eq q.ones)
    && (!xc || withinFifth (xcFrac 1024 q.xeq q.ones q.tones))

/-- A test has failed in the seasoning so far (DEDUCED, notes/assumptions/109). -/
def Seas.failed (q : Seas) : Bool := q.rctFail || q.aptFail

/-- A seasoning sample has been tested; `before` says that a test had failed in this seasoning already. Native, a failure restarts or
retires the source at once. Count-only, the first failing sample of a seasoning is counted and nothing else follows. At the 1,024th
sample the source goes LIVE if it passes or counts only; a seasoning that failed a test while it counted only, and ends native,
restarts (R58, R59, R64) (DEDUCED, notes/assumptions/109). -/
def seasonSample (code : Nat) (xcTested before rct apt : Bool) (s : State) : State :=
  match srcOf s.grn code with
  | none => s
  | some x =>
    let failing := rct || apt
    let last := decide (x.seas.pos = 1024)
    let ok := seasOk (decide (0x40 ≤ code)) xcTested x.seas
    if seasCount s then
      let s1 := onlyIf last (goSrc code Source.goLive) s
      if failing && !before then sourceFails code true rct apt s1
      else if last && !ok && !x.seas.failed then sourceFails code true false false s1
      else s1
    else if failing then sourceFails code true rct apt s
    else if !last then s
    else if x.seas.failed then goSrc code Source.season s
    else if ok then goSrc code Source.goLive s
    else sourceFails code true false false s

/-! ### Samples -/

/-- The samples a delay line holds: 1,144 of a cell, 1,084 of a witness (R57) (DEDUCED, notes/assumptions/31). -/
def lineLen (code : Nat) : Nat := if code < 0x40 then 1144 else 1084

/-- The position of a source in its plane's elastic store: 0 to 7 a cell, 8 the witness. -/
def posOfSrc (code : Nat) : Nat := if code < 0x40 then code % 8 else 8

/-- A LIVE source's sample enters its delay line; native, the oldest leaves once the line is full; count-only, the whole line leaves at
once (R57, R64) (DEDUCED, notes/assumptions/31). -/
def lineSample (code : Nat) (bit : Bool) (s : State) : State :=
  match srcOf s.grn code with
  | none => s
  | some x =>
    let l := bit :: x.line
    if contCount s then
      l.reverse.foldl (fun t v => deliverSample (boardOfSrc code) (posOfSrc code) v t)
        (updGrn (updSrc code (fun y => { y with line := [] })) s)
    else if l.length = lineLen code then
      deliverSample (boardOfSrc code) (posOfSrc code) (l.getLastD false)
        (updGrn (updSrc code (fun y => { y with line := l.dropLast })) s)
    else updGrn (updSrc code (fun y => { y with line := l })) s

/-- The capture ends: DONE, a CAPTURE_DONE record, and the source seasons again or returns to RETIRED; a cell whose enable bit was cleared
meanwhile then goes to OFF (R47, Table 2-3) (DEDUCED, notes/assumptions/32). -/
def captureEnd (code : Nat) (s : State) : State :=
  let s1 := post 0x05 code 0 (updGrn (fun g => { g with cap := { g.cap with busy := false, done := true } }) s)
  let s2 := goSrc code (if s.grn.cap.wasRetired then fun x => { x with st := .retired } else Source.season) s1
  if code < 0x40 ∧ !(s.grn.en.getD (code / 8) 0).getLsbD (code % 8) then
    goSrc code (fun x => { x.leave with st := .off }) s2
  else s2

/-- Store captured bit k in bit k mod 32 of buffer word k / 32 (R47) (DEDUCED, notes/assumptions/32). -/
def captureBit (bit : Bool) (c : Capture) : Capture :=
  let a := c.bits / 8
  let v := memGet c.buf a
  { c with bits := c.bits + 1, buf := memSet c.buf a (if bit then v ||| BitVec.ofNat 8 (2 ^ (c.bits % 8)) else v) }

/-- A captured sample goes to the buffer; the 32,768th ends the capture (R45, R47) (DEDUCED, notes/assumptions/32). -/
def captureSample (code : Nat) (bit rct apt : Bool) (s : State) : State :=
  let s1 := updGrn (fun g => { g with cap := captureBit bit g.cap }) s
  let s2 := onlyIf (rct || apt) (sourceFails code false rct apt) s1
  if s2.grn.cap.bits = 32768 then captureEnd code s2 else s2

/-- The neighbour of a cell (R28); a witness has none (DEDUCED, notes/assumptions/30). -/
def neighbourOf (g : Grn) (code : Nat) : Option Source :=
  if code < 0x40 then g.cells[8 * (code / 8) + (code % 8 + 1) % 8]? else none

/-- A source completes a sample: the estimator, the health tests, and what follows from them in its state (R27, R35, R52 to R60, R69)
(DEDUCED, notes/assumptions/30). -/
def sample (code : Nat) (bit : Bool) (s : State) : State :=
  match srcOf s.grn code with
  | none => s
  | some x =>
    if !x.st.races then s
    else
      let nb := neighbourOf s.grn code
      let known := (nb.bind (·.last)).isSome || decide (0x40 ≤ code)
      let t := match nb.bind (·.last) with
        | some v => v
        | none => if known then false else Config.firstNeighbour s.clk.free
      let racing := (nb.map (·.st.races)).getD false
      let cut := if code < 0x40 then cutCell s else cutWit s
      let r := testStep cut.1 cut.2 bit { x with est := estStep x.last bit t x.est, last := some bit }
      let inSeas := decide (x.st = .seasoning)
      let y : Source :=
        { r.1 with
          seas := if inSeas then seasStep bit t r.2.1 r.2.2 x.seas else x.seas
          first := if inSeas && !x.firstDone then bit :: x.first else x.first }
      let s1 := onlyIf (!known) bumpFree (updGrn (updSrc code (fun _ => y)) s)
      match x.st with
      | .seasoning => seasonSample code racing x.seas.failed r.2.1 r.2.2 s1
      | .live =>
        if r.2.1 || r.2.2 then
          let s2 := sourceFails code false r.2.1 r.2.2 s1
          if contCount s then lineSample code bit s2 else s2
        else lineSample code bit s1
      | .capture => captureSample code bit r.2.1 r.2.2 s1
      | _ => onlyIf (r.2.1 || r.2.2) (sourceFails code false r.2.1 r.2.2) s1

/-! ### GRN controls -/

/-- Set an error bit of GRN_ERR and write its GRN_REFUSED record. -/
def grnRefuse (bit : Nat) (s : State) : State :=
  post 0x04 0 bit (updGrn (fun g => { g with err := g.err ||| BitVec.ofNat 4 (2 ^ bit) }) s)

/-- A cell counts toward its board's floor after an enable write that gives it this bit (R41). -/
def countsAfter (bit : Bool) (x : Source) : Bool :=
  bit && (x.st.active || (decide (x.st = .off) && !x.retired))

/-- What an enable bit does to a cell: OFF, SEASONING, or RETIRED again (R41, Table 2-3). -/
def enableCell (bit : Bool) (x : Source) : Source :=
  match x.st with
  | .seasoning | .live | .retired => if bit then x else { x.leave with st := .off }
  | .off => if bit then (if x.retired then { x with st := .retired } else x.season) else x
  | _ => x

/-- A write of GRN_EN_b (R41). -/
def grnEnWrite (b : Nat) (v : W32) (s : State) : State :=
  let cells := boardCells s.grn b
  let n := countP id (List.zipWith (fun (p : Nat) x => countsAfter (bitAt v p) x) (List.range 8) cells)
  if boardSt s.grn b ≠ .retired ∧ n < 4 then grnRefuse 0 s
  else
    (List.range 8).foldl (fun t p => goSrc (8 * b + p) (enableCell (bitAt v p)) t)
      (updGrn (fun g => { g with en := upd g.en b (fun _ => v.setWidth 8) }) s)

/-- A write of GRN_CMD with RESTART (R42). -/
def grnRestart (code : Nat) (s : State) : State :=
  match srcOf s.grn code with
  | some x => if x.st.active then goSrc code Source.season s else grnRefuse 1 s
  | none => grnRefuse 1 s

/-- Retiring one more board leaves at least the fatal floor (R43). -/
def floorAllows (s : State) : Bool := decide (s.sil.floor.toNat + 1 ≤ boardsNotRetired s.grn)

/-- A retirement of GRN_RETIRE is allowed (R43). -/
def retireOk (board : Bool) (idx : Nat) (s : State) : Bool :=
  if board then decide (boardSt s.grn (idx % 8) ≠ .retired) && floorAllows s
  else
    match srcOf s.grn idx with
    | none => false
    | some x =>
      x.st.active &&
        (if 0x40 ≤ idx then decide (boardSt s.grn (idx - 0x40) = .retired) || floorAllows s
         else decide (5 ≤ floorCount s.grn (idx / 8)))

/-- A guarded write of GRN_RETIRE (R43) (DEDUCED, notes/assumptions/46). -/
def grnRetire (board : Bool) (idx : Nat) (s : State) : State :=
  if retireOk board idx s then
    let s1 := updGrn (fun g => { g with retireReg := packR [(8, b2n board), (0, idx % 128)] }) s
    if board then retireBoard (idx % 8) 3 s1 else retireSource idx false s1
  else grnRefuse 3 s

/-- A capture start is allowed (R46) (DEDUCED, notes/assumptions/32). -/
def captureOk (code : Nat) (s : State) : Bool :=
  match srcOf s.grn code with
  | none => false
  | some x =>
    !s.grn.cap.busy && x.st.races &&
      (decide (0x40 ≤ code) || !x.st.active || decide (5 ≤ floorCount s.grn (code / 8)))

/-- A capture starts: the buffer is cleared and the source is withdrawn (R46, R47). -/
def captureStart (code : Nat) (s : State) : State :=
  if captureOk code s then
    let was := ((srcOf s.grn code).map (fun x => decide (x.st = .retired))).getD false
    goSrc code (fun x => { x.leave with st := .capture })
      (updGrn (fun g => { g with cap :=
        { g.cap with
          busy := true, done := false, hltFail := false, source := BitVec.ofNat 7 code
          bits := 0, wasRetired := was, ptr := 0, buf := [] } }) s)
  else grnRefuse 2 s

/-- A read of GRN_RAW_DATA advances the pointer (R47). -/
def rawAdvance (s : State) : State :=
  updGrn (fun g => { g with cap := { g.cap with ptr := g.cap.ptr + 1 } }) s

/-! ### HLT controls -/

/-- Copy a source's latest estimator values into the snapshot (R70). -/
def snapSource (x : Source) : Source := { x with snap := ⟨x.est.valid, x.est.ones, x.est.lag1, x.est.xc⟩ }

/-- A write of 1 to HLT_CMD.SNAP asks for a snapshot (R70). -/
def hltSnapAsk (s : State) : State := { s with hlt := { s.hlt with snapPend := s.hlt.snapPend + 1 } }

/-- A pending estimator snapshot completes: one consistent set, and SEQ increments (R70) (DESIGN CHOICE, notes/assumptions/10). -/
def hltSnapTake (s : State) : State :=
  if s.hlt.snapPend = 0 then s
  else
    { s with
      grn := { s.grn with cells := s.grn.cells.map snapSource, wits := s.grn.wits.map snapSource }
      hlt := { s.hlt with
        snapPend := s.hlt.snapPend - 1, seq := s.hlt.seq + 1
        wvalid := BitVec.ofNat 8 (maskOf 8 (fun b => ((s.grn.wits[b]?).map (·.est.valid)).getD false)) } }

end Sys2Proof.Machine
end

