-- ==== Sys2Proof/Machine/CalOps.lean ====
section
/-! DEFINITION. Calibration overrides and their restoration (R30, R33, R345 to R347). -/

namespace Sys2Proof.Machine

/-- The user fields of a calibration group after a restore: factory values, enables 0 (R347) (DESIGN CHOICE, notes/assumptions/5). -/
def calFactory (s : State) (cell wit cut time : Bool) : Cal :=
  { s.cal with
    cells := if cell then (List.range (nCells s)).map calCellReset else s.cal.cells
    wits := if wit then (List.range (nBoards s)).map (fun b => (Config.witOffset b).zeroExtend 32) else s.cal.wits
    cutCell := if cut then 0x03A00079 else s.cal.cutCell
    cutWit := if cut then 0x032B003D else s.cal.cutWit
    timeTrim := if time then 0 else s.cal.timeTrim }

/-- The nominal increment with the effective time trim (R346). -/
def nominalInc (s : State) : W32 := BitVec.ofInt 32 (0x08000000 + effTimeTrim s)

/-- A source whose effective trim or offset changed seasons again if it is in SEASONING or LIVE; no failure is counted
(R30, R346). -/
def calRestart (code : Nat) (s : State) : State :=
  if ((srcOf s.grn code).map (fun (x : Source) => x.st.active)).getD false then goSrc code Source.season s else s

/-- New calibration registers take effect (R30, R33, R56, R346). -/
def calApply (c : Cal) (s : State) : State :=
  let s1 := { s with cal := c }
  let cells := (List.range (nCells s)).filter (fun n => decide (effTrim s n ≠ effTrim s1 n))
  let wits := (List.range (nBoards s)).filter (fun b => decide (effOffset s b ≠ effOffset s1 b))
  let s2 := (cells ++ wits.map (0x40 + ·)).foldl (fun t code => calRestart code t) s1
  if effTimeTrim s = effTimeTrim s1 then s2 else { s2 with tim := { s2.tim with inc := nominalInc s1 } }

/-- Restore calibration groups: cells, witnesses, cutoffs, time trim from bit 0 (R347). -/
def calRestoreGroups (req : ReqId) (groups : BitVec 4) (s : State) : State :=
  let c := calFactory s (groups.getLsbD 0) (groups.getLsbD 1) (groups.getLsbD 2) (groups.getLsbD 3)
  let s1 := calApply { c with restores := c.restores + 1 } s
  post 0x72 req.toNat groups.toNat s1

end Sys2Proof.Machine
end

