-- ==== Sys2Proof/Machine/BigNum.lean ====
section
/-! DEFINITION. Signature verification as the benches perform it (R224 to R227, R232): RSA of RFC 8017, ECDSA of FIPS 186-5
and Ed25519 of RFC 8032, on natural numbers. -/

namespace Sys2Proof.Machine

/-! ### Modular arithmetic -/

/-- Square and multiply, least significant bit first; the fuel is the exponent's bit length. -/
def powModGo (m : Nat) : Nat → Nat → Nat → Nat → Nat
  | 0, _, _, acc => acc
  | f + 1, b, e, acc => powModGo m f (b * b % m) (e / 2) (if e % 2 = 1 then acc * b % m else acc)

/-- b ^ e mod m. -/
def powMod (b e m : Nat) : Nat := powModGo m (bitLen e) (b % m) e (1 % m)

/-- The inverse modulo a prime, 0 for 0. -/
def invMod (a p : Nat) : Nat := powMod a (p - 2) p

/-- a - b modulo m, for a and b below m. -/
def subMod (a b m : Nat) : Nat := (a + (m - b % m)) % m

/-! ### Verdicts: a status code of Table 0-5 -/

/-- The encoding, the point or the equation does not match: VERIFY_FAIL. -/
def vFail : BitVec 8 := 0x30
/-- REFUSED_ZERO. -/
def vZero : BitVec 8 := 0x31
/-- REFUSED_ONE. -/
def vOne : BitVec 8 := 0x32
/-- REFUSED_RANGE. -/
def vRange : BitVec 8 := 0x33
/-- NOT_ON_CURVE. -/
def vCurve : BitVec 8 := 0x34
/-- BAD_LENGTH. -/
def vLength : BitVec 8 := 0x35
/-- CONFIRM_MISMATCH. -/
def vMismatch : BitVec 8 := 0x3F
/-- The signature verifies: OK. -/
def vPass : BitVec 8 := 0x00

/-- The first check of a list that fails gives its code; with none, the verdict follows (R227). -/
def firstFail : List (Bool × BitVec 8) → BitVec 8 → BitVec 8
  | [], v => v
  | (ok, c) :: l, v => if ok then firstFail l v else c

/-! ### RSA -/

/-- DigestInfo of RFC 8017 with NULL parameters, without the digest (R225). -/
def digestInfo (hash : Nat) : List Byte :=
  if hash = 1 then bytesBE 19 0x3031300d060960864801650304020105000420
  else if hash = 2 then bytesBE 19 0x3041300d060960864801650304020205000430
  else bytesBE 19 0x3051300d060960864801650304020305000440

/-- EMSA-PKCS1-v1_5 of a digest in k bytes. -/
def pkcs1Em (hash k : Nat) (digest : List Byte) : List Byte :=
  let t := digestInfo hash ++ digest
  [0x00, 0x01] ++ List.replicate (k - t.length - 3) 0xFF ++ [0x00] ++ t

/-- MGF1 with the same hash (R225). -/
def mgf1 (hash : Nat) (seed : List Byte) (len : Nat) : List Byte :=
  ((List.range ((len + hashLen hash - 1) / hashLen hash)).flatMap
    (fun i => hashOf hash (seed ++ bytesBE 4 i))).take len

/-- Bytes the hash unit absorbs for one mask (R216). -/
def mgf1Bytes (hash k : Nat) : Nat :=
  ((k - hashLen hash - 1 + hashLen hash - 1) / hashLen hash) * (hashLen hash + 4)

/-- EMSA-PSS-VERIFY over an encoded message of emBits = 8k - 1 bits; salt 0xFFFF accepts any salt length (R225). -/
def pssOk (hash k salt : Nat) (digest em : List Byte) : Bool :=
  let h := hashLen hash
  let masked := em.take (k - h - 1)
  let hh := (em.drop (k - h - 1)).take h
  let mask := mgf1 hash hh (k - h - 1)
  let db0 := List.zipWith (· ^^^ ·) masked mask
  let db : List Byte := match db0 with
    | b :: bs => (b &&& 0x7F) :: bs
    | [] => []
  let zeros := if salt = 0xFFFF then (db.takeWhile (fun b => decide (b = 0))).length else k - h - salt - 2
  let sep := db.getD zeros 0
  let saltBytes := db.drop (zeros + 1)
  decide (h + 2 ≤ k) && decide (em.getLastD 0 = 0xBC) && decide ((masked.headD 0).toNat < 0x80)
    && (db.take zeros).all (fun b => decide (b = 0)) && decide (sep = 0x01)
    && decide (hashOf hash (List.replicate 8 0 ++ digest ++ saltBytes) = hh)

/-- An RSA verification: the checks of Table 9-4, then the encoding (R224, R225, R227). -/
def rsaVerify (pss : Bool) (hash bits salt : Nat) (key sig digest : List Byte) : BitVec 8 :=
  let k := bits / 8
  let n := beNat (key.take k)
  let e := beNat ((key.drop k).take 4)
  let s := beNat sig
  let em := bytesBE k (powMod s e n)
  let ok := if pss then pssOk hash k salt digest em else decide (em = pkcs1Em hash k digest)
  firstFail
    [(decide (bitLen n = bits), vLength), (decide (n % 2 = 1), vRange), (decide (e ≠ 0), vZero), (decide (e ≠ 1), vOne),
     (decide (e % 2 = 1 ∧ 3 ≤ e), vRange), (decide (s ≠ 0), vZero), (decide (s ≠ 1), vOne), (decide (s < n), vRange)]
    (if ok then vPass else vFail)

/-! ### ECDSA -/

/-- A prime curve with a = -3: field, order, b, base point, and the byte length of a coordinate. -/
structure Curve where
  p : Nat
  n : Nat
  b : Nat
  gx : Nat
  gy : Nat
  len : Nat

/-- P-256. -/
def p256 : Curve where
  p := 0xffffffff00000001000000000000000000000000ffffffffffffffffffffffff
  n := 0xffffffff00000000ffffffffffffffffbce6faada7179e84f3b9cac2fc632551
  b := 0x5ac635d8aa3a93e7b3ebbd55769886bc651d06b0cc53b0f63bce3c3e27d2604b
  gx := 0x6b17d1f2e12c4247f8bce6e563a440f277037d812deb33a0f4a13945d898c296
  gy := 0x4fe342e2fe1a7f9b8ee7eb4a7c0f9e162bce33576b315ececbb6406837bf51f5
  len := 32

/-- P-384. -/
def p384 : Curve where
  p := 2 ^ 384 - 2 ^ 128 - 2 ^ 96 + 2 ^ 32 - 1
  n := 0xffffffffffffffffffffffffffffffffffffffffffffffffc7634d81f4372ddf581a0db248b0a77aecec196accc52973
  b := 0xb3312fa7e23ee7e4988e056be3f82d19181d9c6efe8141120314088f5013875ac656398d8a2ed19d2a85c8edd3ec2aef
  gx := 0xaa87ca22be8b05378eb1c71ef320ad746e1d3b628ba79b9859f741e082542a385502f25dbf55296c3a545e3872760ab7
  gy := 0x3617de4a96262c6f5d9e98bf9292dc29f8f41dbd289a147ce9da3113b5f0b8c00a60b1ce1d7e819d7a431d7c90ea0e5f
  len := 48

/-- P-521. -/
def p521 : Curve where
  p := 2 ^ 521 - 1
  n := 0x01fffffffffffffffffffffffffffffffffffffffffffffffffffffffffffffffffa51868783bf2f966b7fcc0148f709a5d03bb5c9b8899c47aebb6fb71e91386409
  b := 0x0051953eb9618e1c9a1f929a21a0b68540eea2da725b99b315f3b8b489918ef109e156193951ec7e937b1652c0bd3bb1bf073573df883d2c34f1ef451fd46b503f00
  gx := 0x00c6858e06b70404e9cd9e3ecb662395b4429c648139053fb521f828af606b4d3dbaa14b5e77efe75928fe1dc127a2ffa8de3348b3c1856a429bf97e7e31c2e5bd66
  gy := 0x011839296a789a3bc0045c8a5fb42c7d1bd998f54449579b446817afbd17273e662c97ee72995ef42640c550b9013fad0761353c7086a272c24088be94769fd16650
  len := 66

/-- A point of a prime curve; none is the point at infinity. -/
abbrev WPoint := Option (Nat × Nat)

/-- The point with a given slope through two points. -/
def wChord (c : Curve) (l : Nat) (a b : Nat × Nat) : Nat × Nat :=
  let x := subMod (subMod (l * l % c.p) a.1 c.p) b.1 c.p
  (x, subMod (l * subMod a.1 x c.p % c.p) a.2 c.p)

/-- Point addition. -/
def wAdd (c : Curve) : WPoint → WPoint → WPoint
  | none, q => q
  | p, none => p
  | some a, some b =>
    if a.1 = b.1 then
      if (a.2 + b.2) % c.p = 0 then none
      else some (wChord c (subMod (3 * a.1 * a.1 % c.p) 3 c.p * invMod (2 * a.2 % c.p) c.p % c.p) a b)
    else some (wChord c (subMod b.2 a.2 c.p * invMod (subMod b.1 a.1 c.p) c.p % c.p) a b)

/-- Scalar multiplication; the fuel is the scalar's bit length. -/
def wMulGo (c : Curve) : Nat → Nat → WPoint → WPoint → WPoint
  | 0, _, _, acc => acc
  | f + 1, k, p, acc => wMulGo c f (k / 2) (wAdd c p p) (if k % 2 = 1 then wAdd c acc p else acc)

/-- Scalar multiplication. -/
def wMul (c : Curve) (k : Nat) (p : WPoint) : WPoint := wMulGo c (bitLen k) k p none

/-- The digest as an integer: its leftmost min(N, hash length) bits (R226). -/
def ecDigest (c : Curve) (digest : List Byte) : Nat :=
  beNat digest >>> (8 * digest.length - bitLen c.n)

/-- An ECDSA verification: the checks of Table 9-4, then FIPS 186-5, section 6.4.2 (R226, R227). -/
def ecdsaVerify (c : Curve) (key sig digest : List Byte) : BitVec 8 :=
  let x := beNat ((key.drop 1).take c.len)
  let y := beNat ((key.drop (1 + c.len)).take c.len)
  let r := beNat (sig.take c.len)
  let s := beNat ((sig.drop c.len).take c.len)
  let w := invMod s c.n
  let pt := wAdd c (wMul c (ecDigest c digest * w % c.n) (some (c.gx, c.gy))) (wMul c (r * w % c.n) (some (x, y)))
  firstFail
    [(decide (key.headD 0 = 0x04), vLength), (decide (x < c.p ∧ y < c.p), vRange), (decide ((x, y) ≠ (0, 0)), vZero),
     (decide (y * y % c.p = subMod ((x * x * x + c.b) % c.p) (3 * x) c.p), vCurve),
     (decide (r ≠ 0 ∧ s ≠ 0), vZero), (decide (r < c.n ∧ s < c.n), vRange)]
    (if (pt.map (fun q => decide (q.1 % c.n = r))).getD false then vPass else vFail)

/-! ### Ed25519 -/

/-- The field prime of Ed25519. -/
def edP : Nat := 2 ^ 255 - 19
/-- The group order L of Ed25519. -/
def edL : Nat := 2 ^ 252 + 27742317777372353535851937790883648493
/-- The curve constant d = -121665 / 121666. -/
def edD : Nat := subMod 0 (121665 * invMod 121666 edP % edP) edP
/-- A square root of -1. -/
def edI : Nat := powMod 2 ((edP - 1) / 4) edP

/-- The complete addition law on affine points. -/
def edAdd (a b : Nat × Nat) : Nat × Nat :=
  let t := edD * (a.1 * b.1 % edP) % edP * (a.2 * b.2 % edP) % edP
  ((a.1 * b.2 + b.1 * a.2) % edP * invMod (1 + t) edP % edP,
   (a.2 * b.2 + a.1 * b.1) % edP * invMod (subMod 1 t edP) edP % edP)

/-- Scalar multiplication; the fuel is the scalar's bit length. -/
def edMulGo : Nat → Nat → Nat × Nat → Nat × Nat → Nat × Nat
  | 0, _, _, acc => acc
  | f + 1, k, p, acc => edMulGo f (k / 2) (edAdd p p) (if k % 2 = 1 then edAdd acc p else acc)

/-- Scalar multiplication. -/
def edMul (k : Nat) (p : Nat × Nat) : Nat × Nat := edMulGo (bitLen k) k p (0, 1)

/-- The negative of a point. -/
def edNeg (p : Nat × Nat) : Nat × Nat := (subMod 0 p.1 edP, p.2)

/-- The x coordinate for a y coordinate and a sign bit, RFC 8032, section 5.1.3. -/
def edRecoverX (y sign : Nat) : Option Nat :=
  let u := subMod (y * y % edP) 1 edP
  let v := (edD * (y * y % edP) + 1) % edP
  let w := u * invMod v edP % edP
  let x0 := powMod w ((edP + 3) / 8) edP
  let x1 := if x0 * x0 % edP = w then x0 else x0 * edI % edP
  if x1 * x1 % edP ≠ w then none
  else if x1 = 0 ∧ sign = 1 then none
  else some (if x1 % 2 = sign then x1 else subMod 0 x1 edP)

/-- Decode a point of 32 bytes, RFC 8032, section 5.1.3. -/
def edDecode (b : List Byte) : Option (Nat × Nat) :=
  let v := leNat b
  let y := v % 2 ^ 255
  if y < edP then (edRecoverX y (v / 2 ^ 255)).map (fun x => (x, y)) else none

/-- The base point: y = 4/5, x even. -/
def edB : Nat × Nat :=
  let y := 4 * invMod 5 edP % edP
  ((edRecoverX y 0).getD 0, y)

/-- The checks of Table 9-4 on a key A and a signature R, S; none when all pass (R227). -/
def edRefusal (key sig : List Byte) : Option (BitVec 8) :=
  if (edDecode key).isNone then some vCurve
  else if (edDecode (sig.take 32)).isNone then some vCurve
  else if leNat (sig.drop 32) < edL then none
  else some vRange

/-- The cofactored equation [8][S]B = [8]R + [8][k]A (R226). -/
def edHolds (key sig : List Byte) (k : Nat) : Bool :=
  match edDecode key, edDecode (sig.take 32) with
  | some a, some r =>
    decide (edMul 8 (edMul (leNat (sig.drop 32)) edB) = edAdd (edMul 8 r) (edMul 8 (edMul (k % edL) a)))
  | _, _ => false

/-- An Ed25519 verification; `k` is the SHA-512 digest of R, A and the message (R226, R227). -/
def edVerify (key sig k : List Byte) : BitVec 8 :=
  match edRefusal key sig with
  | some c => c
  | none => if edHolds key sig (leNat k) then vPass else vFail

/-- The combined equation of R232, step 4: keys, signatures, k values and coefficients of the live entries. -/
def edBatchHolds (es : List (List Byte × List Byte × Nat × Nat)) : Bool :=
  let sum := (es.map (fun e => e.2.2.2 * leNat (e.2.1.drop 32))).sum % edL
  let pt := es.foldl (fun acc e =>
    match edDecode e.1, edDecode (e.2.1.take 32) with
    | some a, some r =>
      edAdd (edAdd acc (edNeg (edMul e.2.2.2 r))) (edNeg (edMul (e.2.2.2 * e.2.2.1 % edL) a))
    | _, _ => acc) (edMul sum edB)
  decide (edMul 8 pt = (0, 1))

/-- The verdict or refusal of one VERIFY: ALG of Table 7-5, digest or Ed25519 value k (R224 to R227) (DESIGN CHOICE,
notes/assumptions/74). -/
def sigVerify (alg hash bits salt : Nat) (key sig digest : List Byte) : BitVec 8 :=
  if alg = 0x01 then rsaVerify false hash bits salt key sig digest
  else if alg = 0x02 then rsaVerify true hash bits salt key sig digest
  else if alg = 0x10 then ecdsaVerify p256 key sig digest
  else if alg = 0x11 then ecdsaVerify p384 key sig digest
  else if alg = 0x12 then ecdsaVerify p521 key sig digest
  else edVerify key sig digest

/-- The lengths of a public key and of a signature (Table 9-3). -/
def sigLens (alg bits : Nat) : Nat × Nat :=
  if alg = 0x01 ∨ alg = 0x02 then (bits / 8 + 4, bits / 8)
  else if alg = 0x10 then (65, 64)
  else if alg = 0x11 then (97, 96)
  else if alg = 0x12 then (133, 132)
  else (32, 64)

end Sys2Proof.Machine
end

