-- ==== Sys2Proof/Machine/Words.lean ====
section
/-! DEFINITION. Queues and words: level, mark and watermarks (R132, R136, R141), and the moves of words between the stack, the
handshake stages and their end, each with its books (R89). -/

namespace Sys2Proof.Machine

/-- A queue by its index. -/
def queueOf (s : State) (q : Nat) : Option DQueue := s.stk.queues[q]?

/-- Change a queue. -/
def updQ (q : Nat) (f : DQueue → DQueue) (s : State) : State :=
  { s with stk := { s.stk with queues := upd s.stk.queues q f } }

/-- The word of an entry is still in the stack. -/
def EntSt.here : EntSt → Bool
  | .res | .allot _ => true
  | .fly | .done => false

/-- The level of a queue: its resident words (R132). -/
def level (d : DQueue) : Nat := countP (fun e => e.st.here) d.ents

/-- The resident words of a queue that are not allotted. -/
def unallotted (d : DQueue) : Nat := countP (fun e => decide (e.st = .res)) d.ents

/-- The depth N of a queue in words (R129). -/
def depth (d : DQueue) : Nat := 512 * 2 ^ d.size.toNat

/-- The mark M: the oldest slot not yet released (R132); after the fatal alarm as it stood (R152). -/
def markPtr (d : DQueue) : Nat :=
  match d.frozen with
  | some f => f.2
  | none => (d.ents.head?.map (·.slot)).getD d.wptr

/-- The read pointer D: the next word to be taken (R132); after the fatal alarm as it stood (R152). -/
def readPtr (d : DQueue) : Nat :=
  match d.frozen with
  | some f => f.1
  | none => ((d.ents.find? (fun e => e.st.here)).map (·.slot)).getD d.wptr

/-- Slots from one pointer to another, modulo 2N. -/
def ptrDiff (d : DQueue) (a b : Nat) : Nat := (b + 2 * depth d - a) % (2 * depth d)

/-- The free space F = N − (W − M) (R132). -/
def freeSpace (d : DQueue) : Nat := depth d - ptrDiff d (markPtr d) d.wptr

/-- Write a QUEUE_HIGH or QUEUE_LOW record if its enable is set, at most one a millisecond (R136, R381) (DEDUCED, notes/assumptions/52).
-/
def watermarkEvent (q : Nat) (high : Bool) (s : State) : State :=
  match queueOf s q with
  | none => s
  | some d =>
    let code := if high then 0x1A else 0x1B
    let t := if high then d.highT else d.lowT
    if (if high then d.highEvt else d.lowEvt) && eventEnabled s.evt code && !withinSlow s t 32 then
      post code q 0 (updQ q (fun e =>
        { e with
          highT := if high then some s.clk.slow else e.highT
          lowT := if high then e.lowT else some s.clk.slow }) s)
    else s

/-- Change a queue's words: the level's watermark crossings and its minimum follow (R136, R137). -/
def relevel (q : Nat) (f : DQueue → DQueue) (s : State) : State :=
  match queueOf s q with
  | none => s
  | some d =>
    let d1 := f d
    let a := level d
    let b := level d1
    let up := decide (a < d.high.toNat * 64) && decide (d.high.toNat * 64 ≤ b)
    let down := decide (d.low.toNat * 64 ≤ a) && decide (b < d.low.toNat * 64)
    let s1 := updQ q (fun _ =>
      { d1 with highHit := d1.highHit || up, lowHit := d1.lowHit || down, min := min d1.min b }) s
    onlyIf down (watermarkEvent q false) (onlyIf up (watermarkEvent q true) s1)

/-- Give the entries of some slots a new state (DEDUCED, notes/assumptions/47). -/
def setEnts (slots : List Nat) (st : EntSt) (d : DQueue) : DQueue :=
  { d with ents := d.ents.map (fun e => if slots.contains e.slot then { e with st := st } else e) }

/-- The mark advances over finished words; a DRAINING queue whose words are all finished enters OFF (R131, R141). -/
def advanceMark (d : DQueue) : DQueue :=
  let l := d.ents.dropWhile (fun e => decide (e.st = .done))
  { d with ents := l, st := if d.st = .draining ∧ l = [] then .off else d.st }

/-- The slots of one queue among references to words. -/
def slotsIn (q : Nat) (refs : List (Nat × Nat)) : List Nat :=
  (refs.filter (fun r => decide (r.1 = q))).map (·.2)

/-- The queues that references to words name. -/
def refQueues (refs : List (Nat × Nat)) : List Nat := (refs.map (·.1)).eraseDups

/-- Words of the stack pass the read pointer: from resident to in flight (R89, R148). -/
def toFlight (refs : List (Nat × Nat)) (s : State) : State :=
  (refQueues refs).foldl (fun t q => relevel q (setEnts (slotsIn q refs) .fly) t)
    (updBooks (bkToFlight refs.length) s)

/-- Words behind the mark are finished, and the mark advances (R141). -/
def finishSlots (refs : List (Nat × Nat)) (s : State) : State :=
  (refQueues refs).foldl (fun t q => relevel q (fun d => advanceMark (setEnts (slotsIn q refs) .done d)) t) s

/-- n words in flight, m of them marked, are delivered (R14). -/
def deliverWords (refs : List (Nat × Nat)) (n m : Nat) (s : State) : State :=
  finishSlots refs (updBooks (bkDelivered n m) s)

/-- n words in flight go to kerf (R89) (DEDUCED, notes/assumptions/48). -/
def kerfFlight (why : WordKerf) (refs : List (Nat × Nat)) (n : Nat) (s : State) : State :=
  finishSlots refs (updBooks (bkKerf why false n) s)

/-- Words still in the stack go to kerf (R89) (DEDUCED, notes/assumptions/48). -/
def kerfStack (why : WordKerf) (refs : List (Nat × Nat)) (s : State) : State :=
  finishSlots refs (updBooks (bkKerf why true refs.length) s)

/-- DQ_KERF_n counts words of a queue that went to kerf by age, flush, region fault or mark forcing (DEDUCED, notes/assumptions/48). -/
def countQKerf (q n : Nat) (s : State) : State := updQ q (fun d => { d with kerf := d.kerf + BitVec.ofNat 32 n }) s

/-- Where words were taken from the stack. -/
def awRefs (ws : List AWord) : List (Nat × Nat) := ws.filterMap (·.src)

/-- Marked words among some words. -/
def awMarked (ws : List AWord) : Nat := countP (fun w => w.tag.marked) ws

/-- Words given to a consumer and never sent go to kerf: those still in the stack from there, those that came from a
lane from flight (R139). -/
def kerfWords (why : WordKerf) (ws : List AWord) (s : State) : State :=
  let refs := awRefs ws
  updBooks (bkKerf why false (ws.length - refs.length)) (kerfStack why refs s)

/-- Words given to a consumer leave at once and are delivered (R14). -/
def passWords (ws : List AWord) (s : State) : State :=
  deliverWords (awRefs ws) ws.length (awMarked ws) (toFlight (awRefs ws) s)

end Sys2Proof.Machine
end

