-- ==== Sys2Proof/Machine/Access.lean ====
section
/-! DEFINITION. Access classes and permissions (R337, R342 to R344, Table 14-5), weights, and the weighted round robin (R197). -/

namespace Sys2Proof.Machine

/-- The access class of a requester (R342). -/
def classOf (s : State) (r : ReqId) : Nat := fld (s.sil.classes.getD (r.toNat / 16) 0) (2 * (r.toNat % 16)) 2

/-- Permission bits of SIL_CLASS_PERM_c below WR. -/
inductive Perm where
  | submit | lane | verify | audit | maint | xipRd | xipWr | read
  deriving DecidableEq, Repr

/-- The bit of a permission in SIL_CLASS_PERM_c. -/
def Perm.bit : Perm → Nat
  | .submit => 0 | .lane => 1 | .verify => 2 | .audit => 3 | .maint => 4 | .xipRd => 5 | .xipWr => 6 | .read => 7

/-- A requester holds a permission bit; 0xFFF holds every one (R337, R343). -/
def permBit (s : State) (r : ReqId) (i : Nat) : Bool :=
  decide (r = coreId) || bitAt (s.sil.perms.getD (classOf s r) 0) i

/-- A requester holds a permission. -/
def permits (s : State) (r : ReqId) (p : Perm) : Bool := permBit s r p.bit

/-- A requester may write registers of block 0x1000 · k. -/
def permitsWr (s : State) (r : ReqId) (k : Nat) : Bool := permBit s r (16 + k)

/-- SIL_QUEUE_q. -/
def silQueue (s : State) (q : Nat) : W32 := s.sil.queues.getD q 0

/-- An owned queue admits its owner and 0xFFF only; another queue the classes of a mask that starts at bit lo (R344). -/
def queuePerm (s : State) (r : ReqId) (q lo : Nat) : Bool :=
  let w := silQueue s q
  decide (r = coreId) ||
    (if bitAt w 31 then decide (fld w 16 12 = r.toNat) else bitAt w (lo + classOf s r))

/-- A requester may read a queue's delivery window (R344). -/
def mayRead (s : State) (r : ReqId) (q : Nat) : Bool := queuePerm s r q 0

/-- A requester may name a queue as a source (R344). -/
def mayDraw (s : State) (r : ReqId) (q : Nat) : Bool := queuePerm s r q 4

/-- A requester may write the owned registers of a queue (R344). -/
def mayConfigure (s : State) (r : ReqId) (q : Nat) : Bool :=
  let w := silQueue s q
  decide (r = coreId) || !bitAt w 31 || decide (fld w 16 12 = r.toNat)

/-- The weight W(r) of a requester (R197). -/
def weightOf (s : State) (r : ReqId) : Nat :=
  if r = coreId then 4 else clampN 1 4 (fld s.sil.weights (8 * classOf s r) 3)

/-! ### Weighted round robin -/

/-- The round robin once the contenders are known: those that stopped leave, those that start are appended to this round or,
after a turn in it, to the next; when nobody is left in this round the next one begins (R197). -/
def rrSync (cont : List ReqId) (r : Rr) : Rr :=
  let inC (x : ReqId) : Bool := cont.contains x
  let spent : List ReqId := match r.cur with
    | x :: _ => if !inC x && r.left ≠ 0 then [x] else []
    | [] => []
  let headIn : Bool := match r.cur with
    | x :: _ => inC x
    | [] => false
  let cur := r.cur.filter inC
  let had := r.had.filter inC
  let app := r.app.filter inC ++ r.out.filter inC
  let out := (r.out ++ r.had ++ r.app ++ spent).filter (fun x => !inC x)
  let fresh := cont.filter (fun x => !(cur.contains x || had.contains x || app.contains x))
  if cur.isEmpty && fresh.isEmpty then ⟨had ++ app, 0, [], [], []⟩
  else ⟨cur ++ fresh, if headIn then r.left else 0, had, app, out⟩

/-- One unit of service for the requester whose turn it is, of weight w; after its last unit the turn passes (R197). -/
def rrUse (w : Nat) (r : Rr) : Rr :=
  match r.cur with
  | [] => r
  | x :: xs =>
    let left := (if r.left = 0 then w else r.left) - 1
    if left ≠ 0 then { r with left := left }
    else if xs.isEmpty then ⟨r.had ++ [x] ++ r.app, 0, [], [], []⟩
    else { r with cur := xs, left := 0, had := r.had ++ [x] }

/-- The requester whose turn it is. -/
def rrHead (r : Rr) : Option ReqId := r.cur.head?

end Sys2Proof.Machine
end

