-- ==== Sys2Proof/Machine/Array.lean ====
section
/-! DEFINITION. The array of the stack: addresses, regions and masks (R124 to R128, R133), and words allotted to a consumer that do not
reach it (R126, R139). -/

namespace Sys2Proof.Machine

/-- The stack word address of a queue's slot (R129). -/
def slotAddr (d : DQueue) (slot : Nat) : Nat := d.base.toNat * 512 + slot % depth d

/-- The region of a stack word address (R124). -/
def regionAt (a : Nat) : Nat := a / 8192

/-- A region by its index. -/
def regionOf (s : State) (r : Nat) : Region := s.stk.regions.getD r Region.atReset

/-- A retired region without a substitute: its slots are void (R126, R133). -/
def regionVoid (s : State) (r : Nat) : Bool := (regionOf s r).retired && (regionOf s r).link.isNone

/-- The region that serves the accesses to a region (R127). -/
def physRegion (s : State) (r : Nat) : Nat := ((regionOf s r).link).getD r

/-- The physical word address of a stack word address (R127). -/
def physAddr (s : State) (a : Nat) : Nat := physRegion s (regionAt a) * 8192 + a % 8192

/-- The mask of the word at a physical word address (R128). -/
def maskWord (s : State) (a : Nat) : Word :=
  (aes256 s.stk.maskKey (BitVec.ofNat 128 (a / 2))).extractLsb' (64 * (a % 2)) 64

/-- Write a word to the array, masked (R128). -/
def arrayWrite (a : Nat) (w : Word) (s : State) : State :=
  let p := physAddr s a
  { s with stk := { s.stk with array := memWrite s.stk.array (8 * p) (bytesLE 8 (w ^^^ maskWord s p).toNat) } }

/-- Read a word of the array, unmasked (R128). -/
def arrayRead (s : State) (a : Nat) : Word :=
  let p := physAddr s a
  memWord s.stk.array (8 * p) ^^^ maskWord s p

/-- The unallotted words of a queue that satisfy a test go to kerf (R126, R142, R145). -/
def kerfQueue (q : Nat) (why : WordKerf) (p : DQueue → QEntry → Bool) (s : State) : State :=
  match queueOf s q with
  | none => s
  | some d =>
    let l := (d.ents.filter (fun e => decide (e.st = .res) && p d e)).map (fun e => (q, e.slot))
    if l.isEmpty then s else countQKerf q l.length (kerfStack why l s)

/-- A wait by its key. -/
def waitOf (s : State) (q key : Nat) : Option Waiter :=
  (queueOf s q).bind (fun d => d.waits.find? (fun w => decide (w.key = key)))

/-- Change a wait. -/
def updWait (q key : Nat) (f : Waiter → Waiter) (s : State) : State :=
  updQ q (fun d => { d with waits := d.waits.map (fun w => if w.key = key then f w else w) }) s

/-- A word that was read for a consumer is resident again, with its value. -/
def putBack (q : Nat) (v : AWord) (s : State) : State :=
  match v.src, queueOf s q with
  | some r, some d =>
    let s1 := updQ q (setEnts [r.2] .res) s
    if regionVoid s (regionAt (slotAddr d r.2)) then s1 else arrayWrite (slotAddr d r.2) v.v s1
  | _, _ => s

/-- Words read for a grant that never completes are no longer allotted: they are resident again, or go to kerf with their void region
(R126, R133) (DEDUCED, notes/assumptions/50). -/
def releaseAllot (q key : Nat) (s : State) : State :=
  match waitOf s q key with
  | none => s
  | some w =>
    if w.held.isEmpty then s
    else
      kerfQueue q .fault (fun d e => regionVoid s (regionAt (slotAddr d e.slot)))
        (updWait q key (fun x => { x with held := [] }) (w.held.foldl (fun t v => putBack q v t) s))

end Sys2Proof.Machine
end

