-- ==== Sys2Proof/Machine/LaneBase.lean ====
section
/-! DEFINITION. Lanes by index, seed demand, the limits of R107, and the placing of prediction-resistance requests (R102, R105 to
R111). -/

namespace Sys2Proof.Machine

/-- A lane by its index. -/
def laneOf (s : State) (n : Nat) : Option Lane := s.lan.lanes[n]?

/-- Change a lane. -/
def updLane (n : Nat) (f : Lane → Lane) (s : State) : State :=
  { s with lan := { s.lan with lanes := upd s.lan.lanes n f } }

/-- LIMIT in 4 KiB units (R107). -/
def effLimit (s : State) : Nat := min s.lan.max.toNat s.sil.reseedCap.toNat
/-- EBASE in 4 KiB units (R107). -/
def effBase (s : State) : Nat := min s.lan.base.toNat (effLimit s)

/-- Lanes in service (Table 5-2). -/
def inService (s : State) (n : Nat) : Bool := ((laneOf s n).map (·.st.inService)).getD false

/-- LAN_QBIND_q.LANES. -/
def bindOf (s : State) (q : Nat) : Nat := (s.lan.bind.getD q 0).toNat

/-- The lanes bound to a queue that are in service. -/
def boundInService (s : State) (q : Nat) : List Nat := (maskList (nLanes s) (bindOf s q)).filter (inService s)

/-- A lane raises its seed request, or keeps the one it has (R108). -/
def raiseRequest (n : Nat) (s : State) : State :=
  bumpOrd (updLane n (fun l => { l with asked := some (l.asked.getD s.clk.ord) }) s)

/-- A queue takes another segment: it is ON, below its high watermark, and has room for 64 words (R134). -/
def offerOk (d : DQueue) : Bool :=
  decide (d.st = .on) && decide (level d < d.high.toNat * 64) && decide (64 ≤ freeSpace d)

/-- The queues a lane offers to, in their order: those it is bound to, or, for a finished segment, the queue it was started for alone
(R115). -/
def offerOrder (s : State) (n nextQ : Nat) : List Nat :=
  match (laneOf s n).bind (·.seg) with
  | some g => [g.q]
  | none => ((List.range 16).map (fun i => (nextQ + i) % 16)).filter (fun q => (bindOf s q).testBit n)

/-- A running RESEED that a lane has not yet satisfied names the lane (R172). -/
def reseedNames (s : State) (n : Nat) : Bool :=
  s.job.jobs.any (fun j => decide (j.op = 0x09) && j.accepted && j.stop.isNone && decide (j.phase ≠ .held) &&
    decide (j.phase ≠ .fenced) && j.mask.getLsbD n)

/-- A lane is back-pressured: no queue takes its segment and no job draws from it (R13, R115) (DEDUCED, notes/assumptions/119). -/
def backPressured (s : State) (n : Nat) (l : Lane) : Bool :=
  l.pr.isEmpty && !reseedNames s n &&
    !(offerOrder s n l.nextQ).any (fun q => ((queueOf s q).map offerOk).getD false)

/-- A lane that produces words stops at its segment boundary and asks for a seed (R106); a back-pressured one keeps its state and draws
none (R13) (DEDUCED, notes/assumptions/119). -/
def laneWait (n : Nat) (s : State) : State :=
  match laneOf s n with
  | none => s
  | some l =>
    if (l.st = .run ∨ l.st = .stretch) ∧ !backPressured s n l then raiseRequest n (updLane n (fun x => { x with st := .wait }) s)
    else s

/-- A reseed becomes due on a lane by time, command or force (R105) (DESIGN CHOICE, notes/assumptions/113; DEDUCED,
notes/assumptions/119). -/
def makeDue (n : Nat) (s : State) : State := laneWait n (updLane n (fun l => { l with due := true }) s)

/-- The lane stands at a segment boundary now (DESIGN CHOICE, notes/assumptions/40). -/
def atBoundary (l : Lane) : Bool := decide (l.st = .start) || decide (l.st = .wait) || l.seg.isSome

/-- The lane that a prediction-resistance consumer of queue q chooses: the fewest such jobs waiting, then the next segment boundary, then
the lowest index (R110). Between lanes whose boundaries the model does not time the choice is a free value (DESIGN CHOICE,
notes/assumptions/43). -/
def prChoose (s : State) (q : Nat) : Option Nat :=
  let c := boundInService s q
  let prs (n : Nat) : Nat := ((laneOf s n).map (·.pr.length)).getD 0
  let least := (argMin prs c).map prs
  let c1 := c.filter (fun n => decide (some (prs n) = least))
  match c1.find? (fun n => ((laneOf s n).map atBoundary).getD false) with
  | some n => some n
  | none => c1[(Config.freeWord s.clk.free).toNat % c1.length]?

/-- Add a prediction-resistance request to a lane; its dedicated reseed becomes due when it is first (R110). -/
def prAdd (n : Nat) (p : PrReq) (s : State) : State :=
  match laneOf s n with
  | none => s
  | some l => onlyIf l.pr.isEmpty (laneWait n) (updLane n (fun x => { x with pr := l.pr ++ [p] }) s)

/-- A consumer's prediction-resistance request exists on some lane. -/
def prHeld (s : State) (key : Nat) : Bool := s.lan.lanes.any (fun l => l.pr.any (fun p => decide (p.key = key)))

/-- Place a prediction-resistance consumer of a queue on a lane; with none in service it waits for one (R110) (DESIGN CHOICE,
notes/assumptions/43). -/
def prPlace (q key accepted : Nat) (s : State) : State :=
  if prHeld s key then s
  else
    match prChoose s q with
    | none => s
    | some n => bumpFree (prAdd n ⟨key, accepted, false⟩ s)

/-- Remove a consumer's prediction-resistance requests; a lane whose next such job has not had its reseed waits for it. -/
def prDrop (key : Nat) (s : State) : State :=
  let f (l : Lane) : Lane := { l with pr := l.pr.filter (fun p => decide (p.key ≠ key)) }
  let s1 := { s with lan := { s.lan with lanes := s.lan.lanes.map f } }
  (List.range (nLanes s)).foldl (fun t n =>
    match laneOf t n with
    | some l => if (l.pr.head?.map (fun p => !p.seeded)).getD false then laneWait n t else t
    | none => t) s1

end Sys2Proof.Machine
end

