-- ==== Sys2Proof/Machine/JobOps.lean ====
section
/-! DEFINITION. Jobs and consumers: waits on queues (R138, R140), words given to a consumer, data writes in destination order
(R167, R207), the end of a job, and completion records (R180 to R183). -/

namespace Sys2Proof.Machine

/-! ### Status codes (Table 0-5) -/

/-- OK. -/
def stOk : BitVec 8 := 0x00
/-- NO_ENTROPY. -/
def stNoEntropy : BitVec 8 := 0x10
/-- FLUSHED. -/
def stFlushed : BitVec 8 := 0x11
/-- LATE_REJECTED. -/
def stLate : BitVec 8 := 0x12
/-- STALL_LIMIT. -/
def stStall : BitVec 8 := 0x13
/-- DENIED. -/
def stDenied : BitVec 8 := 0x20
/-- BAD_INSTR. -/
def stBadInstr : BitVec 8 := 0x21
/-- TAG_BUSY. -/
def stTagBusy : BitVec 8 := 0x22
/-- ABORTED. -/
def stAborted : BitVec 8 := 0x40
/-- FATAL. -/
def stFatal : BitVec 8 := 0x7F

/-! ### Jobs by number -/

/-- A job by its order number. -/
def jobOf (s : State) (id : Nat) : Option Job := s.job.jobs.find? (fun j => decide (j.id = id))

/-- Change a job. -/
def updJob (id : Nat) (f : Job → Job) (s : State) : State :=
  { s with job := { s.job with jobs := s.job.jobs.map (fun j => if j.id = id then f j else j) } }

/-- Take a job out of the engine: its tag is free again (R160). -/
def dropJob (id : Nat) (s : State) : State :=
  { s with job := { s.job with jobs := s.job.jobs.filter (fun j => decide (j.id ≠ id)) } }

/-- The job is accepted and not an ABORT: it counts against the in-flight limits (R161). -/
def counts (j : Job) : Bool := j.accepted && decide (j.op ≠ 0x38)

/-- Jobs in flight, ABORTs excluded (JOB_STAT.INFLIGHT). -/
def inflightAll (s : State) : Nat := countP counts s.job.jobs

/-- Jobs of a requester in flight, ABORTs excluded. -/
def inflightOf (s : State) (r : ReqId) : Nat := countP (fun j => counts j && decide (j.req = r)) s.job.jobs

/-- The stream of a requester. -/
def streamOf (s : State) (r : ReqId) : Option Stream := s.job.streams.find? (fun x => decide (x.req = r))

/-- Change a requester's stream. -/
def updStream (r : ReqId) (f : Stream → Stream) (s : State) : State :=
  { s with job := { s.job with streams := s.job.streams.map (fun x => if x.req = r then f x else x) } }

/-! ### Instruction fields of a job -/

/-- The source queue of a drawing job. -/
def jobSq (j : Job) : Nat := fldW j.head 32 4
/-- The job asks for prediction resistance. -/
def jobPr (j : Job) : Bool := j.head.getLsbD 54
/-- Operand word k. -/
def jobWord (j : Job) (k : Nat) : Word := j.ops.getD k 0
/-- The job draws from its source queue. -/
def jobDraws (j : Job) : Bool :=
  decide (j.op = 0x01) || decide (j.op = 0x02) || decide (j.op = 0x03) || decide (j.op = 0x12) || decide (j.op = 0x21)

/-- The destination word of a job that has one. -/
def jobDest (j : Job) : Word :=
  if j.op = 0x01 ∨ j.op = 0x03 ∨ j.op = 0x30 then jobWord j 0
  else if j.op = 0x02 ∨ j.op = 0x21 then jobWord j 1
  else jobWord j 2

/-- KIND of the destination is 1, a FIFO (Table 7-3). -/
def destFifo (w : Word) : Bool := decide (fldW w 62 2 = 1)
/-- Bytes per write: FW for a FIFO, at most 256 for memory (Table 7-3). -/
def destChunk (w : Word) : Nat := if destFifo w then 8 * 2 ^ fldW w 56 2 else 256
/-- ADDR of the destination. -/
def destAddr (w : Word) : Nat := fldW w 0 48

/-- The node that a fabric address names (R380). -/
def nodeOfAddr (fbase : BitVec 22) (a : Nat) : Option Nat :=
  let w := a / 0x4000000
  if fbase.toNat ≤ w ∧ w - fbase.toNat ≤ 0xFFE then some (w - fbase.toNat) else none

/-- The units that a DRAW, DRAWN or DRAWP needs in all: words, integers, swaps. -/
def jobTotal (j : Job) : Nat :=
  if j.op = 0x01 then fldW j.head 0 14
  else if j.op = 0x02 then fldW j.head 0 15
  else fldW j.head 0 13 - 1

/-! ### Frames of the node's own -/

/-- Take a transaction number for a request the node sends. -/
def withTxn (f : BitVec 16 → State → State) (s : State) : State :=
  f s.ring.txn { s with ring := { s.ring with txn := s.ring.txn + 1 } }

/-- Queue a request to a fabric address (R380). -/
def sendRequest (type addr len : Nat) (payload : List Byte) (fbase : BitVec 22) (t : TxFrame) (s : State) : State :=
  withTxn (fun n s1 =>
    let dst := (nodeOfAddr fbase addr).getD 0xFFE
    { s1 with ring := sendTx { t with f :=
      { mkFrame s1 type 0 dst with
        txn := n, len := BitVec.ofNat 9 len, addr := BitVec.ofNat 48 addr, payload := payload
        unchecked := decide (t.marked ≠ 0) } } s1.ring }) s

/-- Queue the response to a ring access: by its route once ring service has begun, before that on the port it arrived on
(R254, R264). -/
def sendReply (p : PortId) (t : TxFrame) (s : State) : State :=
  { s with ring := if s.sys.bootDone then sendTx t s.ring else queueTx p t s.ring }

/-- A response frame: RD_RSP or WR_ACK with the request's transaction (R243) (DESIGN CHOICE, notes/assumptions/21). -/
def replyFrame (s : State) (a : Acc) (write : Bool) (status : Nat) (data : List Byte) (unchecked : Bool) : Frame :=
  { mkFrame s (if write then 0x04 else 0x02) 1 a.req.toNat with
    txn := a.txn, status := BitVec.ofNat 4 status, len := BitVec.ofNat 9 data.length, payload := data
    unchecked := unchecked }

/-- The ring port of a path. -/
def pathPort : Path → Option PortId
  | .portA => some .a
  | .portB => some .b
  | .lsp | .core => none

/-! ### Answers to reads -/

/-- The engine makes its response: the header word of Table 12-5, and the data words when RSTAT is OK (R299). The first random word is out
with the response's `lead`-th word. -/
def engRespondAt (lead rstat : Nat) (data : List W32) (unchecked : Bool) (rand : List AWord) (s : State) : State :=
  match s.lsp.cmd with
  | none => s
  | some c =>
    let h := packR [(24, c.word.toNat >>> 24), (20, rstat), (19, b2n unchecked), (0, s.lsp.cseq.toNat)]
    { s with lsp := { s.lsp with
        resp := some ⟨h :: (if rstat = 0 then data else []), 0, rand, 0, unchecked, lead⟩, waiting := false } }

/-- A response whose random words, if it has any, are its data. -/
def engRespond (rstat : Nat) (data : List W32) (unchecked : Bool) (rand : List AWord) (s : State) : State :=
  engRespondAt 3 rstat data unchecked rand s

/-- The control core takes the answer to its access (DESIGN CHOICE, notes/assumptions/21). -/
def coreAnswer (status : Nat) (data : List Byte) (unchecked : Bool) (s : State) : State :=
  { s with core := { s.core with
      status := BitVec.ofNat 4 status, data := data, unchecked := unchecked, waiting := false } }

/-- A stalling read ends with a status, the bytes of its response, and the words in them, of which the access engine has sent the first
with the response's `lead`-th word (R144, R245, R299, R14). -/
def readDone (key : Nat) (a : Acc) (lead status : Nat) (data : List Byte) (ws : List AWord) (s : State) : State :=
  let un := decide (awMarked ws ≠ 0)
  match pathPort a.path with
  | some p =>
    sendReply p ⟨replyFrame s a false status data un, .held key, awRefs ws, ws.length, awMarked ws, ws.length, false,
      0, 0, 0, 0⟩ s
  | none =>
    if a.path = .lsp then engRespondAt lead status (bytesToW32 data) un ws s
    else coreAnswer status data un (passWords ws s)

/-- A stalling read ends, with the bytes of its words or with a status and none (R144, R143). -/
def endRead (key : Nat) (a : Acc) (len status : Nat) (ws : List AWord) (s : State) : State :=
  readDone key a 3 status ((wordsToBytes (ws.map (·.v))).take len) ws s

/-- A register read that takes in CMP_DATA has its word: its low 32 bits stand between the values of the other registers (R153, R313)
(DEDUCED, notes/assumptions/16). -/
def endBurst (key : Nat) (a : Acc) (pre post : List W32) (ws : List AWord) (s : State) : State :=
  readDone key a (pre.length + 2) 0 (w32ToBytes pre ++ (wordsToBytes (ws.map (·.v))).take 4 ++ w32ToBytes post) ws s

/-! ### Waits on a queue -/

/-- A consumer of an ORDERED queue stands behind an earlier one of its requester that has not received every grant it needs (R195)
(DEDUCED, notes/assumptions/53). -/
def heldBack (s : State) (q : Nat) (d : DQueue) (w : Waiter) : Bool :=
  w.ordd &&
    (s.job.jobs.any (fun j =>
        decide (j.req = w.req) && j.qord && !j.qdone && j.stop.isNone && jobDraws j && decide (jobSq j = q)
          && (j.qfirst.map (fun o => decide (o < w.first))).getD false)
      || d.waits.any (fun v => decide (v.req = w.req) && v.ordd && decide (v.first < w.first)))

/-- The requesters with a consumer waiting on a queue's words, in the order of their waits (R199). -/
def contenders (s : State) (q : Nat) (d : DQueue) : List ReqId :=
  ((d.waits.filter (fun w => !w.pr && !heldBack s q d w)).map (·.req)).eraseDups

/-- A queue's round robin follows its waiting consumers. -/
def syncQ (q : Nat) (s : State) : State := updQ q (fun d => { d with rr := rrSync (contenders s q d) d.rr }) s

/-- Every queue's round robin follows its waiting consumers. -/
def syncAll (s : State) : State := (List.range 16).foldl (fun t q => syncQ q t) s

/-- A consumer begins to wait on a queue; UNDERRUN sets if too few words are there (R138). -/
def addWaiter (q : Nat) (w : Waiter) (s : State) : State :=
  bumpOrd (syncQ q (updQ q (fun d => { d with
    waits := d.waits ++ [w], underrun := d.underrun || (!w.pr && decide (unallotted d < w.need)) }) s))

/-- A wait that begins now. -/
def mkWaiter (s : State) (key : Nat) (req : ReqId) (need : Nat) (what : WaitFor) (first : Nat) (front pr : Bool)
    (q : Nat) : Waiter :=
  ⟨key, req, need, what, s.clk.ticks, s.clk.slow, s.clk.ord, first, front,
    ((queueOf s q).map (·.ordered)).getD false, pr, []⟩

/-- Remove a consumer's wait from a queue. -/
def dropWaiter (q key : Nat) (s : State) : State :=
  syncQ q (updQ q (fun d => { d with waits := d.waits.filter (fun w => decide (w.key ≠ key)) }) s)

/-- Remove every wait of a job, on every queue and lane. -/
def dropWaits (id : Nat) (s : State) : State :=
  let mine (w : Waiter) : Bool := decide (w.what = .job id)
  let s0 := (List.range 16).foldl (fun t q => releaseAllot q id t) s
  let s1 := { s0 with stk := { s0.stk with queues := s0.stk.queues.map (fun d =>
    { d with waits := d.waits.filter (fun w => !mine w) }) } }
  prDrop id (syncAll s1)

/-! ### Words in flight at a port -/

/-- Words of a job's grants, all together. -/
def allWords (gs : List (List AWord)) : List AWord := gs.flatMap id

/-- A port of the node. -/
def portAt (s : State) (p : PortId) : Port := portOf s.ring p

/-- Words of random payload sent over a port and not finished (R15, RING_PORT_OPEN_p). -/
def openWords (s : State) (p : PortId) : Nat :=
  ((portAt s p).store.map (fun t => match t.kind with
      | .held _ | .beacon _ | .peer => t.rand
      | _ => 0)).sum +
    ((s.ring.outst.filter (fun o => decide (o.port = p))).map (·.rand)).sum

/-- Words in flight in the frames that wait in a port: those that came straight from a lane or have left the stack. -/
def waitingFly (s : State) (p : PortId) : Nat :=
  (((portAt s p).txq.filter (fun t => t.fly || t.refs.isEmpty)).map (·.words)).sum

/-- Words in flight that jobs hold for the frames they will make: those that came straight from a lane (R110) (DEDUCED,
notes/assumptions/120). -/
def heldFlight (s : State) : Nat :=
  (s.job.jobs.map (fun j => if j.op = 0x02 ∨ j.op = 0x03 then 0 else
    countP (fun w => w.src.isNone) (allWords j.grants ++ allWords j.regrants))).sum

/-- Words in flight in the buffer of the distribution unit (Table 1-2) (DEDUCED, notes/assumptions/120). -/
def distFlight (s : State) : Nat :=
  (s.job.jobs.map (fun j => if j.op = 0x02 ∨ j.op = 0x03 then countP (fun w => w.src.isNone) (allWords j.grants) else 0)).sum

/-- A port has room for n more words in flight within the bounds of Table 1-2, 8,192 words at each port (R14, R90) (DEDUCED,
notes/assumptions/120). -/
def portRoom (s : State) (p : PortId) (n : Nat) : Bool :=
  let load (q : PortId) : Nat := openWords s q + waitingFly s q
  decide (load p + heldFlight s + n ≤ 8192) && decide (load .a + load .b + heldFlight s + n ≤ 16384)

/-- The words of a lane's next call for a consumer have room in the stage they go to (R14, R90) (DEDUCED, notes/assumptions/120). -/
def wordRoom (s : State) (w : Waiter) : Bool :=
  match w.what with
  | .read a _ | .burst a _ _ => (pathPort a.path).isNone || portRoom s (routePort s.ring a.req.toNat) w.need
  | .peer _ => true
  | .job id =>
    match jobOf s id with
    | none => true
    | some j =>
      if j.op = 0x02 ∨ j.op = 0x03 then decide (distFlight s + w.need ≤ 64)
      else if j.op = 0x12 then portRoom s (bcastPort s.ring) w.need
      else decide (j.op = 0x21) ||
        portRoom s (routePort s.ring ((nodeOfAddr j.fbase (destAddr (jobDest j))).getD 0xFFE)) w.need

/-! ### Data writes -/

/-- Issue one data write of a job: `bytes` at an offset of its destination, carrying words the tally still follows, or
results counted by their bytes (R15, R151, R167). -/
def issueWrite (id off : Nat) (bytes : List Byte) (ws : List AWord) (random : Bool) (tag : Option Tag) (s : State) :
    State :=
  match jobOf s id with
  | none => s
  | some j =>
    let d := jobDest j
    let no := j.writes.length
    let addr := if destFifo d then destAddr d else destAddr d + off
    let t : TxFrame :=
      ⟨mkFrame s 0x03 0 0, .data id no, awRefs ws, ws.length, awMarked ws, if random then (bytes.length + 7) / 8 else 0,
        false, 0, 0, 0, 0⟩
    sendRequest 0x03 addr bytes.length bytes j.fbase t
      (updJob id (fun x => { x with
        writes := x.writes ++ [⟨no, off, bytes.length, .sent, tag, false⟩]
        first := if off = 0 then (if tag.isSome then tag else x.first) else x.first
        waitTick := s.clk.ticks, waitSlow := s.clk.slow }) s)

/-- DRAW: issue what the words given so far allow, lost writes first and in destination order; the words of one write come
from one grant (R147, R167, R207). -/
def drawIssue (id : Nat) : Nat → State → State
  | 0, s => s
  | fuel + 1, s =>
    match jobOf s id with
    | none => s
    | some j =>
      let chunk := destChunk (jobDest j) / 8
      match j.regrants, j.rewrites with
      | g :: gs, (off, len) :: rs =>
        let k := min (min chunk g.length) (len / 8)
        let ws := g.take k
        let rest := g.drop k
        drawIssue id fuel (issueWrite id off (wordsToBytes (ws.map (·.v))) ws true (ws.head?.map (·.tag))
          (updJob id (fun x => { x with
            regrants := if rest.isEmpty then gs else rest :: gs
            rewrites := if len ≤ 8 * k then rs else (off + 8 * k, len - 8 * k) :: rs }) s))
      | _, rw =>
        if rw.isEmpty || j.stop.isSome then
          match j.grants with
          | [] => if j.stop.isSome then updJob id (fun x => { x with rewrites := [] }) s else s
          | g :: gs =>
            let k := min chunk g.length
            let ws := g.take k
            let rest := g.drop k
            drawIssue id fuel (issueWrite id j.made (wordsToBytes (ws.map (·.v))) ws true (ws.head?.map (·.tag))
              (updJob id (fun x => { x with
                grants := if rest.isEmpty then gs else rest :: gs, made := x.made + 8 * k }) s))
        else s

/-- Issue the lost writes of a DRAWN whose fresh integers are complete, then the bytes of the original order: whole
writes, and at the end the rest (R167, R207). -/
def resultIssue (id : Nat) (last : Bool) : Nat → State → State
  | 0, s => s
  | fuel + 1, s =>
    match jobOf s id with
    | none => s
    | some j =>
      match j.rewrites with
      | (off, len) :: rs =>
        if len ≤ j.reout.length then
          resultIssue id last fuel (issueWrite id off (j.reout.take len) [] true none
            (updJob id (fun x => { x with reout := x.reout.drop len, rewrites := rs }) s))
        else s
      | [] =>
        let chunk := destChunk (jobDest j)
        let n := if chunk ≤ j.out.length then chunk else if last then j.out.length else 0
        if n = 0 then s
        else resultIssue id last fuel (issueWrite id j.made (j.out.take n) [] true none
          (updJob id (fun x => { x with out := x.out.drop n, made := x.made + n }) s))

/-! ### The end of a job -/

/-- A waiting frame belongs to a job: a data write, or, under the fatal alarm, a beacon (R211, R285). -/
def frameOf (id : Nat) (beacons : Bool) (t : TxFrame) : Bool :=
  match t.kind with
  | .data j _ => decide (j = id)
  | .beacon j => beacons && decide (j = id)
  | _ => false

/-- Frames of a job that still wait in a port, in order. -/
def unsentOf (id : Nat) (beacons : Bool) (r : Ring) : List TxFrame := (r.pa.txq ++ r.pb.txq).filter (frameOf id beacons)

/-- Take a job's waiting frames out of the ports. -/
def pullUnsent (id : Nat) (beacons : Bool) (s : State) : State :=
  let keep (t : TxFrame) : Bool := !frameOf id beacons t
  { s with ring := { s.ring with
      pa := { s.ring.pa with txq := s.ring.pa.txq.filter keep }
      pb := { s.ring.pb with txq := s.ring.pb.txq.filter keep } } }

/-- Words of waiting frames go to kerf: those still in the stack from there, the others from flight (R139). -/
def kerfFrames (why : WordKerf) (l : List TxFrame) (s : State) : State :=
  l.foldl (fun t f => if f.fly || f.refs.isEmpty then kerfFlight why f.refs f.words t else kerfStack why f.refs t) s

/-- The numbers of the writes whose frames are given. -/
def writeNos (l : List TxFrame) : List Nat := l.filterMap (fun t => match t.kind with | .data _ w => some w | _ => none)

/-- The words given to a job and not sent go to kerf; its frames that still wait are never sent (R139, R167, R210, R211) (DEDUCED,
notes/assumptions/55). -/
def dropUnsent (why : WordKerf) (id : Nat) (s : State) : State :=
  match jobOf s id with
  | none => s
  | some j =>
    let beacons := decide (why = .halt)
    let l := unsentOf id beacons s.ring
    let nos := if j.op = 0x12 then (j.writes.drop (j.writes.length - l.length)).map (·.no) else writeNos l
    kerfWords why (allWords j.regrants ++ allWords j.grants) (kerfFrames why l
      (pullUnsent id beacons (updJob id (fun x => { x with
        grants := [], regrants := [], rewrites := [], out := [], reout := []
        writes := x.writes.filter (fun w => !nos.contains w.no) }) s)))

/-- The end of a job clears the whole operand memory of its bench: always when it was aborted or the alarm ended it, and
otherwise unless its operands lie in the user area (BW = 1) (R220, R235). -/
def wholeClear (s : State) (id : Nat) : Bool :=
  match jobOf s id with
  | some j => !j.head.getLsbD 52 || decide (j.stop = some stAborted) || decide (j.stop = some stFatal)
  | none => true

/-- A bench that ran the job clears its memory (R217, R235); the distribution unit stops building for it (R150); a lane
drops its pieces that wait (R179). -/
def releaseUnits (id : Nat) (s : State) : State :=
  { s with
    bne := { s.bne with benches := s.bne.benches.map (fun b =>
      if b.job = some id then
        { b with job := none, phase := 6, zeroAll := wholeClear s id, st := if b.st = .busy then .zero else b.st }
      else b) }
    stk := { s.stk with building := if s.stk.building = some id then none else s.stk.building }
    lan := { s.lan with lanes := s.lan.lanes.map (fun l =>
      { l with pieces := l.pieces.filter (fun p => decide (p.job ≠ id)) }) } }

/-- A job stops with a status: it asks for nothing more and gives up its units. `why` says under which cause its unsent
words go to kerf; with none they still go out (R145, R167, R179, R210, R211). -/
def stopJob (id : Nat) (status : BitVec 8) (why : Option WordKerf) (s : State) : State :=
  match jobOf s id with
  | none => s
  | some j =>
    if j.stop.isSome then s
    else
      let s1 := onlyIf j.qord syncAll (updJob id (fun x => { x with
        stop := some status, phase := .ending, read := none, hashing := false, bench := none }) (dropWaits id s))
      let s2 := releaseUnits id s1
      match why with
      | some c => dropUnsent c id s2
      | none =>
      if j.op = 0x01 then drawIssue id 9000 s2
      else if j.op = 0x02 then
        let s3 := updJob id (fun x => { x with rewrites := [], reout := [] }) s2
        if j.grants.isEmpty then resultIssue id true 9000 s3 else s3
      else s2

/-- A write of a job fails at its destination, is forced, or finds no path: the job issues no further write and ends with the status,
also when it had stopped for another reason; FATAL and the first such failure stand (R167, R205, R210). `why` says under which cause its
unsent words go to kerf (DEDUCED, notes/assumptions/55). -/
def failJob (id : Nat) (status : BitVec 8) (why : Option WordKerf) (s : State) : State :=
  match jobOf s id with
  | none => s
  | some j =>
    if j.stop.isNone then stopJob id status why s
    else
      let failed := j.writes.any (fun w => decide (w.st = .failed) || decide (w.st = .forced))
      let s1 := updJob id (fun x => { x with
        stop := if x.stop = some stFatal ∨ failed then x.stop else some status }) s
      match why with
      | some c => dropUnsent c id s1
      | none => s1

/-! ### Counts -/

/-- Bytes of the longest prefix of a job's output whose writes are all acknowledged (R167). -/
def ackedPrefix (ws : List JWrite) : Nat → Nat → Nat
  | 0, p => p
  | fuel + 1, p =>
    match ws.find? (fun w => decide (w.off = p) && decide (w.st = .acked) && !w.old && decide (w.len ≠ 0)) with
    | some w => ackedPrefix ws fuel (p + w.len)
    | none => p

/-- COUNT of a job's record: for jobs that write units, those of the acknowledged prefix (Table 7-4, R167) (DEDUCED,
notes/assumptions/61). -/
def jobCount (j : Job) : Nat :=
  let n := ackedPrefix j.writes j.writes.length 0
  if !j.accepted then j.count
  else if j.op = 0x01 ∨ j.op = 0x30 then n
  else if j.op = 0x02 then n / 4
  else if j.op = 0x03 then n / 2
  else if j.op = 0x12 then j.launched
  else if j.op = 0x09 ∨ j.op = 0x31 then j.passed
  else if j.writes.any (fun w => decide (w.st ≠ .acked) && !w.old) then 0
  else j.count

/-- LANE and GEN of a job's record come from its first word delivered or used (R104, R170, R171, R207) (DEDUCED, notes/assumptions/66). -/
def jobTag (j : Job) : Option Tag :=
  if j.op = 0x01 then
    (argMin (·.off) (j.writes.filter (fun w =>
      !w.old && (decide (w.st = .acked) || decide (w.st = .failed))))).bind (·.tag)
  else if j.op = 0x02 ∨ j.op = 0x03 ∨ j.op = 0x12 ∨ j.op = 0x21 then j.first
  else none

/-- The completion record as two words (R180, R181, Table 7-6) (DEDUCED, notes/assumptions/85). -/
def recordWords (s : State) (j : Job) : Word × Word :=
  let t := jobTag j
  let un := j.unchecked || s.sil.contCount || s.sil.seasCount || s.sys.compatEn
  let flags := b2n j.late + 2 * b2n un + 4 * b2n j.rerouted + 8 * b2n j.confirmed
  let time : BitVec 32 × BitVec 8 := j.timeFix.getD (nowNs s, s.tim.steps.setWidth 8)
  (BitVec.ofNat 64 (j.tag.toNat + j.req.toNat <<< 12 + (j.stop.getD 0).toNat <<< 24 + (jobCount j % 2 ^ 24) <<< 32
      + ((t.map (·.lane)).getD 0 % 16) <<< 56 + flags <<< 60),
   BitVec.ofNat 64 (time.1.toNat + time.2.toNat <<< 32 + (s.tal.epoch.toNat % 256) <<< 40
      + (((t.map (·.gen.toNat)).getD 0) % 65536) <<< 48))

/-! ### Records -/

/-- Every write of the job is finished and none waits to be issued (R168, R189). -/
def dataDone (j : Job) : Bool :=
  j.writes.all (fun w => decide (w.st ≠ .sent)) && j.grants.isEmpty && j.regrants.isEmpty

/-- Work that a stopped job must let run to its end before its record: the tests of a TEST (R179). -/
def testsLeft (s : State) (j : Job) : Bool :=
  decide (j.op = 0x31) && decide (j.mask ≠ 0) && !halted s

/-- The record is not held by a fence (R191, R192); under the fatal alarm the order alone holds it (R211). -/
def fenceFree (s : State) (j : Job) : Bool :=
  decide (j.op = 0x38) && j.accepted ||
    ((streamOf s j.req).map (fun x => x.fences.all (fun f => decide (f.scope = .req) || decide (j.id < f.ord)))).getD true

/-- A job draws from an ORDERED queue: as the attribute stood when it began waiting, or stands while it has not (R195). -/
def drawsOrdered (s : State) (j : Job) : Bool :=
  j.accepted && jobDraws j &&
    (if j.qfirst.isSome then j.qord else ((queueOf s (jobSq j)).map (·.ordered)).getD false)

/-- No earlier job of the requester on the same ORDERED queue still lacks its record (R195). -/
def orderFree (s : State) (j : Job) : Bool :=
  !drawsOrdered s j || s.job.jobs.all (fun k =>
    !(decide (k.req = j.req) && drawsOrdered s k && decide (k.id < j.id) && decide (jobSq k = jobSq j)))

/-- Under the fatal alarm no earlier record of the requester is missing (R205, R211) (DEDUCED, notes/assumptions/88). -/
def fatalFree (s : State) (j : Job) : Bool :=
  s.job.jobs.all (fun k => !(decide (k.req = j.req) && decide (k.id < j.id)))

/-- An ABORT's target has its record (R179). -/
def victimGone (s : State) (j : Job) : Bool :=
  match j.victim with
  | some v => (jobOf s v).isNone
  | none => true

/-- The record goes to the event queue (R182). -/
def toEventQueue (j : Job) : Bool := j.raddr.isNone && (pathPort j.path).isNone

/-- The record may be written now, room in the event queue apart (R168, R182, R191, R195, R211). -/
def recordDue (s : State) (j : Job) : Bool :=
  j.stop.isSome && (decide (j.phase = .ending) || decide (j.phase = .record)) && dataDone j && !testsLeft s j &&
    victimGone s j && (if halted s then fatalFree s j else fenceFree s j && orderFree s j)

/-- The event entry of a completion record with a sequence number (Table 7-8) (DEDUCED, notes/assumptions/58). -/
def recordEntry (s : State) (j : Job) (seq : Nat) : Entry :=
  let r := recordWords s j
  { w0 := BitVec.ofNat 64 (1 + j.req.toNat <<< 16 + (nowNs s).toNat <<< 32)
    w1 := BitVec.ofNat 64 ((nowWrap s).toNat + (s.tim.steps.toNat % 256) <<< 16
            + (s.tal.epoch.toNat % 256) <<< 24 + seq <<< 48)
    w2 := r.1, w3 := r.2 }

/-- A job completes: its record has been written and its tag is free (R160, R189) (DEDUCED, notes/assumptions/58). -/
def completeJob (id : Nat) (s : State) : State :=
  match jobOf s id with
  | none => s
  | some j =>
    let s1 := dropJob id s
    { s1 with job := { s1.job with
        records := s1.job.records + 1, progErr := if j.prog then s1.job.progErr + 1 else s1.job.progErr } }

/-- The event queue has room for a completion record (R185). -/
def recordRoom (s : State) : Bool := decide (s.evt.queue.length < 896)

/-- Write a job's record: to RADDR, in an event frame, or into the event queue (R182). -/
def writeRecord (j : Job) (s : State) : State :=
  let r := recordWords s j
  match j.raddr with
  | some a =>
    sendRequest 0x03 a 16 (wordsToBytes [r.1, r.2]) j.fbase (plainTx (.record j.id) (mkFrame s 0x03 0 0))
      (updJob j.id (fun x => { x with phase := .recordSent }) s)
  | none =>
    if toEventQueue j then
      completeJob j.id
        { s with evt := { s.evt with
            queue := s.evt.queue ++ [recordEntry s j s.evt.seq.toNat], seq := s.evt.seq + 1 } }
    else
      updJob j.id (fun x => { x with phase := .recordSent })
        { s with ring := sendEvent s j.req.toNat (.jobEvent j.id) (entryBytes (recordEntry s j 0)) s.ring }

/-- A completion record waits for room in the event queue (R182). -/
def waitsRoom (j : Job) : Bool := decide (j.phase = .record) && toEventQueue j

/-- A due record may be written at once: one bound for the event queue only while there is room and none waits for it (R182). -/
def recordGoes (s : State) (j : Job) : Bool :=
  recordDue s j && (!toEventQueue j || (recordRoom s && !s.job.jobs.any waitsRoom))

/-- Write the record that is due first, if there is one; one that finds no room waits (R182). -/
def recordStep (s : State) : Option State := (s.job.jobs.find? (recordGoes s)).map (fun j => writeRecord j s)

/-- Write every record that is due (DEDUCED, notes/assumptions/58). -/
def recordSweep : Nat → State → State
  | 0, s => s
  | n + 1, s =>
    match recordStep s with
    | some t => recordSweep n t
    | none => s

/-- Records that are due and lack room in the event queue read as waiting. -/
def markWaiting (s : State) : State :=
  { s with job := { s.job with jobs := s.job.jobs.map (fun j =>
      if recordDue s j && decide (j.phase = .ending) then { j with phase := .record } else j) } }

/-- Every record that may be written is written (R161, R168, R182). -/
def sweepRecords (s : State) : State :=
  if s.job.jobs.any (fun j => j.stop.isSome) then markWaiting (recordSweep (s.job.jobs.length + 1) s) else s

/-- There is room in the event queue: the record that waits first is stored (R182, R185) (DEDUCED, notes/assumptions/58). -/
def storeWaiting (s : State) : State :=
  match s.job.jobs.find? (fun j => waitsRoom j && recordDue s j) with
  | some j => if recordRoom s then writeRecord j s else s
  | none => s

end Sys2Proof.Machine
end

