-- ==== Sys2Proof/Machine/Lanes.lean ====
section
/-! DEFINITION. Operations of the seed crossbar and the expander lanes (R82, R98 to R122), known-answer runs of planes and lanes
(R85, R119), and the change of response mode (R66). -/

namespace Sys2Proof.Machine

/-! ### Jobs that act on lanes -/

/-- A job that counts units ends with OK once nothing is left to do; its count is what it did (R172, R178). -/
def endIfDone (id : Nat) (s : State) : State :=
  match jobOf s id with
  | some j => if j.mask = 0 ∧ j.stop.isNone then stopJob id stOk none (updJob id (fun x => { x with count := x.passed }) s) else s
  | none => s

/-- A unit named by a TEST has finished a run: it leaves the job's mask, and counts if it passed (R178, R179). -/
def testUnitDone (id unit : Nat) (ok : Bool) (s : State) : State :=
  endIfDone id (updJob id (fun j => { j with
    mask := j.mask &&& ~~~(BitVec.ofNat 16 (2 ^ unit)), passed := j.passed + b2n ok
    count := j.passed + b2n ok }) s)

/-- Jobs of one opcode that still run, oldest first. -/
def runningOf (s : State) (op : BitVec 8) : List Nat :=
  (s.job.jobs.filter (fun j => decide (j.op = op) && j.accepted && j.stop.isNone && decide (j.phase ≠ .held) &&
    decide (j.phase ≠ .fenced))).map (·.id)

/-- A lane satisfies, or by leaving service drops out of, the accepted RESEED jobs that name it, those that an AT or a fence still holds
too (R111, R172) (DEDUCED, notes/assumptions/114). -/
def reseedJobs (n : Nat) (sat : Bool) (s : State) : State :=
  (s.job.jobs.filter (fun j => decide (j.op = 0x09) && j.accepted && j.stop.isNone && j.mask.getLsbD n)).foldl (fun t j =>
    onlyIf (decide (j.phase ≠ .held) && decide (j.phase ≠ .fenced)) (endIfDone j.id) (updJob j.id (fun x => { x with
      mask := x.mask &&& ~~~(BitVec.ofNat 16 (2 ^ n)), passed := x.passed + b2n sat }) t)) s

/-- Pieces of a MIX: 48 bytes each, the last one padded (R112). -/
def mixPieces (j : Job) : List Seed384 :=
  (chunks 48 (wordsToBytes j.ops)).map (fun c => BitVec.ofNat 384 (beNat (padTo 48 c)))

/-- A MIX ends once every lane still in service has absorbed every piece (R112) (DEDUCED, notes/assumptions/44). -/
def mixCheck (id : Nat) (s : State) : State :=
  match jobOf s id with
  | some j =>
    if j.stop.isNone && j.mix.all (fun e => decide (e.2.2 = (mixPieces j).length)) then
      stopJob id stOk none (updJob id (fun x => { x with count := if x.mix.isEmpty then x.count else 8 * x.ops.length }) s)
    else s
  | none => s

/-- A lane leaves service: the MIX jobs that have not finished on it go on without it (R112) (DEDUCED, notes/assumptions/44). -/
def mixLeave (n : Nat) (s : State) : State :=
  (runningOf s 0x08).foldl (fun t id =>
    mixCheck id (updJob id (fun j =>
      let n' := (mixPieces j).length
      { j with
        count := if j.mix.any (fun e => decide (e.2.2 = n')) then 8 * j.ops.length else j.count
        mix := j.mix.filter (fun e => decide (e.1 ≠ n) || decide (e.2.2 = n')) }) t)) s

/-- A lane's store takes the next pieces of the MIX jobs that name it, in order, up to four (R112). -/
def mixFeed (n : Nat) : Nat → State → State
  | 0, s => s
  | fuel + 1, s =>
    match laneOf s n with
    | none => s
    | some l =>
      if 4 ≤ l.pieces.length then s
      else
        match (runningOf s 0x08).find? (fun id => match jobOf s id with
          | some j => j.mix.any (fun e => decide (e.1 = n) && decide (e.2.1 < (mixPieces j).length))
          | none => false) with
        | none => s
        | some id =>
          match jobOf s id with
          | none => s
          | some j =>
            match j.mix.find? (fun e => decide (e.1 = n)) with
            | none => s
            | some e =>
              mixFeed n fuel (updLane n (fun x => { x with
                  pieces := x.pieces ++ [⟨(mixPieces j).getD e.2.1 0, id⟩] })
                (updJob id (fun x => { x with
                  mix := x.mix.map (fun y => if y.1 = n then (y.1, y.2.1 + 1, y.2.2) else y) }) s))

/-- A lane has absorbed its first waiting piece (R112) (DEDUCED, notes/assumptions/44). -/
def pieceAbsorbed (n : Nat) (s : State) : State :=
  match laneOf s n with
  | none => s
  | some l =>
    match l.pieces with
    | [] => s
    | p :: ps =>
      mixFeed n 8 (mixCheck p.job (updJob p.job (fun j => { j with
          mix := j.mix.map (fun y => if y.1 = n then (y.1, y.2.1, y.2.2 + 1) else y) })
        (updLane n (fun x => { x with pieces := ps }) s)))

/-! ### Binding -/

/-- The lane in service bound to the fewest queues, the lowest index among equals (R116). -/
def fallbackLane (s : State) : Option Nat :=
  argMin (fun n => countP (fun b => b.getLsbD n) s.lan.bind) ((List.range (nLanes s)).filter (inService s))

/-- A queue left without a bound lane in service is bound to a fallback lane (R116). -/
def rebindQueue (q : Nat) (s : State) : State :=
  if (boundInService s q).isEmpty then
    match fallbackLane s with
    | none => s
    | some n =>
      post 0x11 q n { s with lan := { s.lan with
        bind := upd s.lan.bind q (fun b => b ||| BitVec.ofNat 16 (2 ^ n))
        rebound := upd s.lan.rebound q (fun _ => true) } }
  else s

/-- The queues bound to a lane that leaves service keep a lane in service while there is one (R116). -/
def rebindAll (n : Nat) (s : State) : State :=
  ((List.range 16).filter (fun q => (bindOf s q).testBit n)).foldl (fun t q => rebindQueue q t) s

/-- A consumer may choose a lane now: ORDERED does not hold it back (R195), and a read of the compatibility window waits for the reseed
of its refresh (R123). -/
def mayPlace (s : State) (q : Nat) (d : DQueue) (w : Waiter) : Bool :=
  w.pr && !heldBack s q d w && (match w.what with
    | .read _ _ | .burst _ _ _ => !s.stk.cmpBit
    | _ => true)

/-- The prediction-resistance consumers that no lane serves choose one if they can (R110). -/
def placeOrphans (s : State) : State :=
  (List.range 16).foldl (fun t q =>
    match queueOf t q with
    | none => t
    | some d => (d.waits.filter (mayPlace t q d)).foldl (fun u w =>
        let acc := match w.what with
          | .job id => if w.key = id then id else w.first
          | _ => (u.stk.cmpAcc).getD w.first
        prPlace q w.key acc u) t) s

/-- A refresh that no lane serves chooses one (R123) (DEDUCED, notes/assumptions/104). -/
def placeRefresh (s : State) : State :=
  if s.stk.cmpBit && s.stk.cmpLane.isNone then
    match prChoose s 0 with
    | none => s
    | some n =>
      bumpFree (prAdd n ⟨0, s.stk.cmpAcc.getD s.clk.ord, false⟩ { s with stk := { s.stk with cmpLane := some n } })
  else s

/-- The reseed of a refresh is done on a lane: the bit reads 0, and the reads that wait are served from the lane (R123) (DEDUCED,
notes/assumptions/104). -/
def refreshDone (n : Nat) (s : State) : State :=
  let s1 := prDrop 0 { s with stk := { s.stk with cmpBit := false } }
  let ws := (((queueOf s1 0).map (·.waits)).getD []).filter (fun w => w.pr && !prHeld s1 w.key && (match w.what with
    | .read _ _ | .burst _ _ _ => true
    | _ => false))
  updLane n (fun l => { l with pr := l.pr ++ ws.map (fun w => ⟨w.key, w.first, true⟩) }) s1

/-! ### Lanes leaving and entering service -/

/-- A lane leaves service for the given state: Key and V are zeroized, its seed request is withdrawn, its jobs go on without
it, and queues and prediction-resistance consumers move to other lanes (R110, R112, R116, R118 to R122). -/
def laneLeave (n : Nat) (st : LaneState) (s : State) : State :=
  match laneOf s n with
  | none => s
  | some _ =>
    let s1 := updLane n (fun x => { x with
      st := st, drbg := Drbg.zero, asked := none, due := false, unmarkedOnly := false, pr := [], pieces := []
      offPend := false }) s
    let s2 := { s1 with stk := { s1.stk with cmpLane := if s.stk.cmpLane = some n then none else s.stk.cmpLane } }
    placeRefresh (placeOrphans (rebindAll n (mixLeave n (reseedJobs n false s2))))

/-- A lane starts its known-answer tests (R119). -/
def laneKat (n : Nat) (s : State) : State := laneLeave n .kat s

/-- A lane at a segment boundary with a test or a disable waiting goes to KAT or OFF; a disabled lane enters OFF after its tests, and a
lane that was enabled again before it was OFF starts its tests from there (R119, R120) (DEDUCED, notes/assumptions/39). -/
def laneBoundary (n : Nat) (s : State) : State :=
  match laneOf s n with
  | none => s
  | some l =>
    if l.seg.isSome || !l.st.inService then s
    else if l.kats ≠ [] then laneKat n s
    else if l.offPend then
      onlyIf (s.lan.en.getLsbD n) (updLane n (fun x => { x with st := .kat, kats := [.reset] })) (laneLeave n .off s)
    else s

/-- A lane enters START after its tests: it asks for a seed, and consumers that wait for a lane may take it (R102, R110). -/
def laneStart (n : Nat) (s : State) : State :=
  placeRefresh (placeOrphans (raiseRequest n (updLane n (fun l => { l with
    st := .start, drbg := Drbg.zero, asked := none, due := false, segs := 0, out := 0 }) s)))

/-- The words in a lane's output registers: at most 8 of a segment that waits for a queue (R118, Table 1-2) (DEDUCED,
notes/assumptions/41). -/
def outputWords (l : Lane) : Nat := match l.seg with
  | some g => min 8 g.words.length
  | none => 0

/-- LAN_KAT_STAT: the commanded runs are over once no lane has one left to make. -/
def lanKatSettle (s : State) : State :=
  if s.lan.lanes.any (fun l => l.kats.any KatWho.commanded) then s
  else { s with lan := { s.lan with katBusy := false, katDone := s.lan.katDone || s.lan.katBusy } }

/-- Runs that a lane will not make any more: their TEST jobs go on without it (R118, R178) (DEDUCED, notes/assumptions/39). -/
def lanKatsGone (n : Nat) (l : List KatWho) (s : State) : State :=
  lanKatSettle (l.foldl (fun t w => match w with
    | .job id => testUnitDone id n false t
    | _ => t) s)

/-- A lane enters FAULT (R118); with no lane left in service the fatal alarm is raised (DEDUCED, notes/assumptions/39). -/
def laneFault (n cause : Nat) (s : State) : State :=
  match laneOf s n with
  | none => s
  | some l =>
    let s1 := updBooks (bkKerf .fault false (outputWords l))
      (updLane n (fun x => { x with
        fault := BitVec.ofNat 2 cause, seg := none, kats := [], katPass := x.katPass && decide (x.st ≠ .kat) }) s)
    let s2 := lanKatsGone n l.kats (post 0x10 n cause (laneLeave n .fault s1))
    if (List.range (nLanes s2)).any (inService s2) then s2 else raiseFatal 0x08 0 s2

/-! ### Seed demand after output -/

/-- A lane at a segment boundary: LIMIT, a due reseed, a prediction-resistance request or EBASE move it on (R105 to R109); a
back-pressured one keeps its state (R13). -/
def laneDemand (n : Nat) (s : State) : State :=
  match laneOf s n with
  | none => s
  | some l =>
    let first := (l.pr.head?.map (fun p => !p.seeded)).getD false
    if (l.st = .run ∨ l.st = .stretch) ∧ (l.due ∨ first ∨ effBase s * 4096 ≤ l.out) ∧ !backPressured s n l then
      if effLimit s * 4096 ≤ l.out then
        raiseRequest n (updLane n (fun x => { x with st := .wait, stalls := x.stalls + 1 }) s)
      else if l.due || first then laneWait n s
      else if l.st = .run then raiseRequest n (updLane n (fun x => { x with st := .stretch }) s)
      else s
    else s

/-- New limits take effect at each lane's next segment boundary (R107). -/
def limitsChanged (s : State) : State := (List.range (nLanes s)).foldl (fun t n => laneDemand n t) s

/-! ### The seed crossbar -/

/-- The personalization string of a lane (R101). -/
def personalization (n : Nat) : Seed384 :=
  BitVec.ofNat 384 (Config.uid.toNat <<< 256 + n <<< 248)

/-- The lane asks for a seed of any age: for START, a due reseed, or its output (R105, R110). -/
def plainDemand (s : State) (l : Lane) : Bool :=
  decide (l.st = .start) || l.due || decide (effBase s * 4096 ≤ l.out)

/-- A held seed may serve a lane: an unmarked one after a return to native, one from a block that closed after the job's acceptance for
prediction resistance alone (R66, R110) (DEDUCED, notes/assumptions/36 and 42). -/
def seedFits (s : State) (l : Lane) (k : Seed) : Bool :=
  (!l.unmarkedOnly || !k.marked) &&
    (plainDemand s l || ((l.pr.head?.map (fun p => decide (p.accepted < k.closedAt))).getD true))

/-- The held seed that a lane would take: the longest held that fits (R82). -/
def seedFor (s : State) (l : Lane) : Option Nat :=
  let held (b : Nat) : Nat := (((planeOf s b).bind (·.seed)).map (·.heldAt)).getD 0
  argMin held ((List.range (nBoards s)).filter (fun b =>
    ((((planeOf s b).bind (·.seed)).map (seedFits s l)).getD false)))

/-- Where a lane stands in the order of service: START and WAIT before STRETCH, then the earlier request (R108). -/
def serviceKey (s : State) (n : Nat) : Nat :=
  match laneOf s n with
  | some l => (if l.st = .stretch then s.clk.ord + 1 else 0) + l.asked.getD 0
  | none => 0

/-- The lane that is served next: the first in the order of R108 for which a held seed fits; a back-pressured one draws none (R13)
(DEDUCED, notes/assumptions/119). -/
def nextServed (s : State) : Option Nat :=
  argMin (serviceKey s) ((List.range (nLanes s)).filter (fun n => match laneOf s n with
    | some l => l.st.asks && l.asked.isSome && !backPressured s n l && (seedFor s l).isSome
    | none => false))

/-- A lane has not yet used the contribution in the peer slot and takes it at this reseed (R113) (PRESUMED, notes/assumptions/84). -/
def peerFor (s : State) (l : Lane) : Option Seed384 :=
  if s.lan.peerEn && decide (s.lan.peerNo ≠ 0) && decide (l.peerUsed ≠ s.lan.peerNo) then some s.lan.peer else none

/-- A prediction-resistance request counts its reseed as done if the seed closed after its acceptance (R110) (DEDUCED,
notes/assumptions/42). -/
def prSeeded (k : Seed) : List PrReq → List PrReq
  | p :: ps => (if p.accepted < k.closedAt then { p with seeded := true } else p) :: ps
  | [] => []

/-- A lane acknowledges a seed: it instantiates or reseeds; an instantiation satisfies the reseeds that wait on the lane (R101, R103, R105,
R111, R113) (DEDUCED, notes/assumptions/42, 104 and 114). -/
def laneSeeded (n : Nat) (k : Seed) (s : State) : State :=
  match laneOf s n with
  | none => s
  | some l =>
    let starts := decide (l.st = .start)
    let peer := if starts then none else peerFor s l
    let pr := prSeeded k l.pr
    let again := (pr.head?.map (fun p => !p.seeded)).getD false
    let refreshed := (pr.head?.map (fun p => decide (p.key = 0) && p.seeded)).getD false
    let l1 : Lane := { l with
      st := .run
      drbg := if starts then Drbg.instantiate k.v (personalization n) else l.drbg.reseed k.v (peer.getD 0)
      gen := if l.gen = 0xFFFFFFFF then 1 else l.gen + 1
      marked := k.marked
      stretched := if !starts && decide (effBase s * 4096 < l.out) then l.stretched + 1 else l.stretched
      peak := if starts then l.peak else max l.peak l.segs
      segs := 0, out := 0, seedSlow := s.clk.slow, asked := none, due := false, unmarkedOnly := false
      peerUsed := if peer.isSome then s.lan.peerNo else l.peerUsed
      pr := pr }
    let s1 := updLane n (fun _ => l1) s
    let s2 := onlyIf refreshed (refreshDone n) (onlyIf again (laneWait n) s1)
    mixFeed n 8 (reseedJobs n true s2)

/-- The crossbar hands one held seed to the lane served next; the tally books its block's credit as seeded (R80, R82). -/
def handover (s : State) : State :=
  match nextServed s with
  | none => s
  | some n =>
    match (laneOf s n).bind (seedFor s) with
    | none => s
    | some b =>
      match (planeOf s b).bind (·.seed) with
      | none => s
      | some k =>
        let s1 := updBooks (bkSeeded k.credit k.marked) (updPlane b (fun p => { p with
          seed := none, seeds := p.seeds + 1, seedsCmp := p.seedsCmp + 1 }) s)
        let s2 := laneSeeded n k s1
        if ((planeOf s2 b).map (·.st)) = some .hold then planeNext b s2 else s2

/-- Conditioning ends: the seed of a doomed block goes to kerf; any other is held, and the crossbar offers it (R66, R79, R82, Table 4-3)
(DEDUCED, notes/assumptions/35). -/
def seedReady (b : Nat) (s : State) : State :=
  match planeOf s b with
  | none => s
  | some p =>
    match p.blk with
    | none => s
    | some k =>
      if p.st ≠ .cond then s
      else if k.doomed then planeNext b (kerfBlock .mode b s)
      else
        let marked := k.marked || countOnly s
        let seed : Seed := ⟨condSeed b k marked, k.credit, marked, p.closedAt, s.clk.ord, s.clk.slow⟩
        let s1 := handover (bumpOrd (updPlane b (fun q => { q with st := .hold, blk := none, seed := some seed }) s))
        if ((planeOf s1 b).map (·.st)) = some .hold then planeNext b s1 else s1

/-- A held seed older than PLN_HOLD_MAX goes to kerf (R83, R378). -/
def seedAged (b : Nat) (s : State) : State :=
  match (planeOf s b).bind (·.seed) with
  | none => s
  | some k =>
    if msToSlow s.pln.holdMax.toNat ≤ s.clk.slow - k.heldSlow then
      let s1 := kerfSeed .aged b s
      if ((planeOf s1 b).map (·.st)) = some .hold then planeNext b s1 else s1
    else s

/-! ### Known-answer runs -/

/-- A known-answer run is asked of a plane: at once in IDLE without a block and in HOLD; a plane in HALT runs it and stays
there; otherwise it waits (R85). -/
def planeKat (b : Nat) (who : KatWho) (s : State) : State :=
  updPlane b (fun p =>
    let now := decide (p.st = .hold) || (decide (p.st = .idle) && p.blk.isNone)
    { p with kats := p.kats ++ [who], st := if now then .kat else p.st, store := if now then [] else p.store }) s

/-- The outcome of a commanded run on a board (PLN_KAT_STAT) (DEDUCED, notes/assumptions/111). -/
def plnKatOutcome (b : Nat) (ok : Bool) (p : Pln) : Pln :=
  let m := BitVec.ofNat 8 (2 ^ b)
  let pass := if ok then p.katPass ||| m else p.katPass
  let fail := if ok then p.katFail else p.katFail ||| m
  let done := decide (pass ||| fail = p.katRan)
  { p with katPass := pass, katFail := fail, katBusy := p.katBusy && !done, katDone := p.katDone || done }

/-- A commanded run of the named boards begins (R85, PLN_KAT_STAT) (DEDUCED, notes/assumptions/38). -/
def plnRun (mask : Nat) (who : KatWho) (s : State) : State :=
  (maskList (nBoards s) mask).foldl (fun t b => planeKat b who t)
    { s with pln := { s.pln with
        katBusy := true, katDone := false, katPass := 0, katFail := 0, katRan := BitVec.ofNat 8 mask } }

/-- The first TEST job that still waits runs its own tests (R96). -/
def plnRunNext : List Nat → State → State
  | [], s => { s with pln := { s.pln with runq := [] } }
  | id :: ids, s =>
    match jobOf s id with
    | some j =>
      if j.stop.isNone then plnRun j.mask.toNat (.job id) { s with pln := { s.pln with runq := ids } } else plnRunNext ids s
    | none => plnRunNext ids s

/-- A TEST of planes waits for a commanded run in progress, and then runs its own (R96) (DEDUCED, notes/assumptions/38). -/
def plnTest (id mask : Nat) (s : State) : State :=
  if s.pln.katBusy then { s with pln := { s.pln with runq := s.pln.runq ++ [id] } } else plnRun mask (.job id) s

/-- A plane has passed its run: whoever asked is told, and a TEST that waits for the end of the run starts (R96). PLN_KAT_STAT shows
commanded runs alone (R85) (DEDUCED, notes/assumptions/111). -/
def planeKatReport (b : Nat) (who : KatWho) (s : State) : State :=
  if who.commanded then
    let s1 : State := { s with pln := plnKatOutcome b true s.pln }
    let s2 := match who with
      | .job id => testUnitDone id b true s1
      | _ => s1
    if s2.pln.katBusy then s2 else plnRunNext s2.pln.runq s2
  else s

/-- A plane has failed its run; TEST jobs end with the fatal alarm that follows (R85, R178). -/
def planeKatFailed (b : Nat) (who : KatWho) (s : State) : State :=
  if who.commanded then { s with pln := { plnKatOutcome b false s.pln with runq := [] } } else s

/-- A plane's known-answer run ends (R85, Table 4-3) (DESIGN CHOICE, notes/assumptions/74). -/
def planeKatDone (b : Nat) (compOk hashOk : Bool) (s : State) : State :=
  match planeOf s b with
  | none => s
  | some p =>
    match p.kats with
    | [] => s
    | who :: rest =>
      if p.st ≠ .kat ∧ p.st ≠ .halt then s
      else
        let ok := compOk && hashOk
        let s1 := updPlane b (fun q => { q with kats := rest }) s
        if ok then
          let s2 := planeKatReport b who s1
          if p.st = .kat ∧ ((planeOf s2 b).map (·.st)) = some .kat then planeNext b s2 else s2
        else
          raiseFatal (if compOk then 0x03 else 0x02) b (planeKatFailed b who (haltPlane .halt b s1))

/-- A write of PLN_CMD with KAT (R96). -/
def plnKatCmd (mask : Nat) (s : State) : State :=
  if s.pln.katBusy || decide (mask = 0) || decide (2 ^ nBoards s ≤ mask) then
    post 0x06 0 0 { s with pln := { s.pln with err := true } }
  else plnRun mask .cmd s

/-- A known-answer run is asked of a lane: a lane in service runs it at its segment boundary (R119). -/
def askLaneKat (n : Nat) (who : KatWho) (s : State) : State :=
  laneBoundary n (updLane n (fun l => { l with kats := l.kats ++ [who] }) s)

/-- Commanded runs of lanes begin (LAN_KAT_STAT) (DEDUCED, notes/assumptions/38). -/
def lanRun (s : State) : State :=
  { s with lan := { s.lan with katBusy := true, katDone := false, katFailed := false } }

/-- A lane has passed a run: its TEST job counts it, and LAN_KAT_STAT follows. -/
def laneKatReport (n : Nat) (who : KatWho) (s : State) : State :=
  lanKatSettle (match who with
    | .job id => testUnitDone id n true s
    | _ => s)

/-- A lane has failed a run (LAN_KAT_STAT); TEST jobs end with the fatal alarm that follows (R119, R178) (DEDUCED, notes/assumptions/38).
-/
def laneKatFailed (n : Nat) (s : State) : State :=
  lanKatSettle { s with lan := { s.lan with katFailed := true, katFailLane := BitVec.ofNat 4 n } }

/-- A lane's known-answer run ends: START, OFF if it was disabled meanwhile, another run that waits, or HALT (R119, R120) (DESIGN CHOICE,
notes/assumptions/74). -/
def laneKatDone (n : Nat) (ok : Bool) (s : State) : State :=
  match laneOf s n with
  | none => s
  | some l =>
    match l.kats with
    | [] => s
    | who :: rest =>
      if l.st ≠ .kat then s
      else if !ok then
        raiseFatal 0x04 n (laneKatFailed n (updLane n (fun x => { x with st := .halt, katPass := false, kats := [] }) s))
      else
        let s1 := laneKatReport n who (updLane n (fun x => { x with katPass := true, kats := rest }) s)
        if rest ≠ [] then s1
        else if s.lan.en.getLsbD n then laneStart n s1
        else laneLeave n .off s1

/-- Set an error bit of LAN_ERR. -/
def lanErr (bit : Nat) (s : State) : State :=
  { s with lan := { s.lan with err := s.lan.err ||| BitVec.ofNat 4 (2 ^ bit) } }

/-- Set an error bit of LAN_ERR and write its LAN_REFUSED record. -/
def lanRefuse (bit : Nat) (s : State) : State := post 0x12 0 bit (lanErr bit s)

/-- A lane is in OFF, KAT, FAULT or HALT. -/
def laneOut (s : State) (n : Nat) : Bool := !inService s n

/-- Testing the named lanes together would leave no lane in service (R121). -/
def noneLeft (s : State) (mask : Nat) : Bool :=
  !((List.range (nLanes s)).any (fun n => inService s n && !mask.testBit n))

/-- The conditions of R121 that refuse any command: no lane, an absent one, or one out of service. -/
def lanMaskBad (s : State) (mask : Nat) : Bool :=
  decide (mask = 0) || decide (2 ^ nLanes s ≤ mask) || (maskList (nLanes s) mask).any (laneOut s)

/-- A write of LAN_CMD (R111, R119, R121). Seed requests of one command are raised lane by lane, the lowest index first (R108) (DESIGN
CHOICE, notes/assumptions/113). -/
def lanCmd (mask : Nat) (reseed kat : Bool) (s : State) : State :=
  if !reseed && !kat then s
  else if (reseed && kat) || lanMaskBad s mask || (kat && noneLeft s mask) then
    let s1 := onlyIf kat (lanErr 2) (onlyIf reseed (lanErr 1) s)
    post 0x12 0 (if reseed then 1 else 2) s1
  else if reseed then (maskList (nLanes s) mask).foldl (fun t n => makeDue n t) s
  else
    (maskList (nLanes s) mask).foldl (fun t n => askLaneKat n .cmd t) (lanRun s)

/-- A write of LAN_EN (R120). -/
def lanEnWrite (v : W32) (s : State) : State :=
  let new : BitVec 16 := BitVec.ofNat 16 (v.toNat % 2 ^ nLanes s)
  if !((List.range (nLanes s)).any (fun n => inService s n && new.getLsbD n)) then lanRefuse 0 s
  else
    (List.range (nLanes s)).foldl (fun t n =>
      match laneOf t n with
      | none => t
      | some l =>
        if !new.getLsbD n && l.st.inService then laneBoundary n (updLane n (fun x => { x with offPend := true }) t)
        else if new.getLsbD n && decide (l.st = .off) then
          updLane n (fun x => { x with st := .kat, kats := x.kats ++ [.reset] }) t
        else t) { s with lan := { s.lan with en := new } }

/-- The queue of the consumer that a prediction-resistance request is for: a job's source queue, or queue 0 (R123). -/
def prQueue (s : State) (key : Nat) : Nat := ((jobOf s key).map jobSq).getD 0

/-- The prediction-resistance consumers of a queue leave the lanes that are no longer bound to it, and choose others (R110). -/
def prUnbind (q : Nat) (s : State) : State :=
  let f (n : Nat) (l : Lane) : Lane :=
    if (bindOf s q).testBit n then l else { l with pr := l.pr.filter (fun p => decide (prQueue s p.key ≠ q)) }
  let stays : Bool := match s.stk.cmpLane with
    | some n => decide (q ≠ 0) || (bindOf s q).testBit n
    | none => true
  let s1 := { s with
    lan := { s.lan with lanes := s.lan.lanes.mapIdx f }
    stk := { s.stk with cmpLane := if stays then s.stk.cmpLane else none } }
  placeRefresh (placeOrphans ((List.range (nLanes s)).foldl (fun t n => laneDemand n t) s1))

/-- A write of LAN_QBIND_q (R115, R116). -/
def lanQbindWrite (q : Nat) (v : W32) (s : State) : State :=
  let new := fld v 0 16 % 2 ^ nLanes s
  if !((maskList (nLanes s) new).any (inService s)) then lanRefuse 3 s
  else prUnbind q { s with lan := { s.lan with bind := upd s.lan.bind q (fun _ => BitVec.ofNat 16 new) } }

/-- The time since a lane's last seed has reached LAN_RESEED_TIME (R105, R378) (DEDUCED, notes/assumptions/119). -/
def laneTimeCap (n : Nat) (s : State) : State :=
  match laneOf s n with
  | none => s
  | some l =>
    if (l.st = .run ∨ l.st = .stretch ∨ l.st = .wait) ∧ msToSlow s.lan.timeMs.toNat ≤ s.clk.slow - l.seedSlow then makeDue n s else s

/-- What the lanes do at the end of every step: waiting consumers choose lanes, and a lane that back-pressure no longer holds moves on
(R13, R105, R110, R123). -/
def settleLanes (s : State) : State :=
  (List.range (nLanes s)).foldl (fun t n => laneDemand n t) (placeRefresh (placeOrphans s))

/-! ### The change of response mode -/

/-- Every plane in turn. -/
def eachBoard (f : Nat → State → State) (s : State) : State := (List.range (nBoards s)).foldl (fun t b => f b t) s

/-- The return of both families to native, at the planes: blocks in progress and marked seeds go to kerf, a marked block in COND is doomed
(R66) (DEDUCED, notes/assumptions/35). -/
def dropMarked (b : Nat) (s : State) : State :=
  let s1 := kerfInProgress .mode b s
  let s2 := if (((planeOf s1 b).bind (·.seed)).map (·.marked)).getD false then kerfSeed .mode b s1 else s1
  updPlane b (fun p => { p with blk := p.blk.map (fun k => { k with doomed := k.doomed || (k.marked && decide (p.st = .cond)) }) }) s2

/-- The plane goes on after a return to native (Table 4-3). -/
def afterDrop (b : Nat) (s : State) : State :=
  match planeOf s b with
  | some p => if p.st = .hold ∧ p.seed.isNone then planeNext b s else planeResume b s
  | none => s

/-- Every source that is not retired seasons again (R66). -/
def restartAll (s : State) : State :=
  ((List.range (nCells s)) ++ (List.range (nBoards s)).map (0x40 + ·)).foldl (fun (t : State) (c : Nat) =>
    if ((srcOf t.grn c).map (fun (x : Source) => x.st.active)).getD false then goSrc c Source.season t else t) s

/-- Every lane must reseed from the first unmarked seed before it produces another word (R66) (DEDUCED, notes/assumptions/36). -/
def forceUnmarked (s : State) : State :=
  (List.range (nLanes s)).foldl (fun t n =>
    if inService t n then makeDue n (updLane n (fun l => { l with unmarkedOnly := true }) t) else t) s

/-- The response mode changed: `before` says whether either family counted only (R54, R66). -/
def modeChange (before : Bool) (s : State) : State :=
  if countOnly s && !before then eachBoard (discardBlock .mode) s
  else if before && !countOnly s then forceUnmarked (eachBoard afterDrop (restartAll (eachBoard dropMarked s)))
  else s

end Sys2Proof.Machine
end

