-- ==== Sys2Proof/Machine/Give.lean ====
section
/-! DEFINITION. What jobs ask for and what they do with what they get: grants of words (R138, R170, R171, R174, R176, R207), the
distribution unit (R149 to R151), source reads, hash states (R216) and batch coefficients (R232). -/

namespace Sys2Proof.Machine

/-! ### Asking for words -/

/-- Words of lost DRAW writes not yet allotted anew (R207). -/
def lostWords (j : Job) : Nat := (j.rewrites.map (·.2)).sum / 8 - (allWords j.regrants).length

/-- Integers of lost DRAWN writes not yet drawn anew (R207) (DEDUCED, notes/assumptions/66). -/
def lostInts (j : Job) : Nat := (j.rewrites.map (·.2)).sum / 4 - j.reout.length / 4

/-- The live entries of a batch, those that no check of Table 9-4 refuses, with their indices (R232). -/
def liveEntries (j : Job) : List (Nat × BatchEntry) :=
  ((List.range j.entries.length).zip j.entries).filter (fun e => (edRefusal e.2.key e.2.sig).isNone)

/-- Coefficient words one check of a batch takes (R232). -/
def setWords (j : Job) : Nat := 2 * (liveEntries j).length

/-- Words of a BEACON's last grant when a lane fault cut it short, else 0 (R118). -/
def shortGrant (j : Job) : Nat :=
  match j.grants.getLast? with
  | some ws => if ws.length < fldW (jobWord j 1) 0 6 then ws.length else 0
  | none => 0

/-- What a job would ask of its queue now, in words; 0 when it needs none (R138). -/
def jobNeed (s : State) (j : Job) : Nat :=
  if j.stop.isSome then 0
  else if j.op = 0x01 then
    if lostWords j ≠ 0 then min 64 (lostWords j) else min 64 (jobTotal j - j.got)
  else if j.op = 0x02 then
    if !j.grants.isEmpty then 0
    else if lostInts j ≠ 0 then min 64 (lostInts j) else min 64 (jobTotal j - j.got)
  else if j.op = 0x03 then
    if s.stk.building = some j.id ∧ j.grants.isEmpty then min 64 j.permI else 0
  else if j.op = 0x12 then
    let n := fldW (jobWord j 1) 0 6
    let part := shortGrant j
    if part ≠ 0 then n - part
    else if j.launched + j.grants.length < j.asked ∧ j.verdict.isNone then n
    else 0
  else if j.op = 0x21 then min 64 (setWords j * j.asked - j.coefs.length)
  else 0

/-- A flush ends a BEACON: launches already granted still go out and the series ends after them; the words of a grant cut short go to kerf
(R139, R285) (DEDUCED, notes/assumptions/54). -/
def beaconFlushed (id : Nat) (s : State) : State :=
  match jobOf s id with
  | none => s
  | some j =>
    let cut := decide (shortGrant j ≠ 0)
    let gs := if cut then j.grants.dropLast else j.grants
    let s1 := updJob id (fun x => { x with grants := gs }) (onlyIf cut (kerfWords .reject (j.grants.getLastD [])) s)
    if gs.isEmpty then stopJob id stFlushed (some .reject) s1
    else updJob id (fun x => { x with verdict := some stFlushed }) s1

/-- A job asks its source queue for its next grant, or a lane for prediction resistance; a queue that is not ON ends it
(R110, R138, R170, R171, R176). -/
def jobAsk (id : Nat) (s : State) : State :=
  match jobOf s id with
  | none => s
  | some j =>
    let q := jobSq j
    let need := jobNeed s j
    if need = 0 then s
    else
      match queueOf s q with
      | none => s
      | some d =>
        if d.waits.any (fun w => decide (w.key = id)) then s
        else if d.st ≠ .on then
          if j.op = 0x12 then beaconFlushed id s else stopJob id stFlushed none s
        else
          let first := j.qfirst.getD s.clk.ord
          let w := mkWaiter s id j.req need (.job id) first
            ((j.op = 0x01 && lostWords j ≠ 0) || (j.op = 0x02 && lostInts j ≠ 0) || (j.op = 0x03 && j.rerouted))
            (jobPr j) q
          let w := if j.qfirst.isSome then { w with ordd := j.qord } else w
          let s1 := addWaiter q w (updJob id (fun x => { x with
            qfirst := some first, qord := if j.qfirst.isSome then j.qord else d.ordered, qdone := false
            phase := .waiting }) s)
          if jobPr j && ((queueOf s1 q).map (fun e => !heldBack s1 q e w)).getD false then prPlace q id id s1 else s1

/-! ### The end of a job's data -/

/-- A job that writes data has issued all of it and every write is finished. -/
def outDone (j : Job) : Bool :=
  j.grants.isEmpty && j.regrants.isEmpty && j.rewrites.isEmpty && j.out.isEmpty &&
    j.writes.all (fun w => decide (w.st ≠ .sent)) &&
    (if j.op = 0x01 ∨ j.op = 0x02 then decide (j.got = jobTotal j)
     else if j.op = 0x03 then j.verdict.isSome
     else if j.op = 0x21 ∨ j.op = 0x22 ∨ j.op = 0x30 then j.verdict.isSome
     else false)

/-- A job whose data is written and acknowledged ends with its verdict (R168). -/
def finishCheck (id : Nat) (s : State) : State :=
  match jobOf s id with
  | some j => if j.stop.isNone && outDone j then stopJob id (j.verdict.getD stOk) none s else s
  | none => s

/-- Issue a job's result bytes that carry no random word, and end with a status once they are acknowledged. -/
def issueResult (id : Nat) (bytes : List Byte) (status : BitVec 8) (s : State) : State :=
  issueWrite id 0 bytes [] false none (updJob id (fun x => { x with verdict := some status, phase := .running }) s)

/-! ### The distribution unit -/

/-- The number of low bits of a word that make a candidate for the bound n, given n - 1 (R149). -/
def candidateOf (nm1 : Nat) (w : Word) : Nat := w.toNat % 2 ^ bitLen nm1

/-- Swap two entries of a permutation (R150). -/
def swapAt (l : List Nat) (i k : Nat) : List Nat :=
  let x := l.getD i 0
  let y := l.getD k 0
  upd (upd l i (fun _ => y)) k (fun _ => x)

/-- A built permutation goes out, 2 bytes an entry; the next DRAWP may build (R150). -/
def permDone (id : Nat) (s : State) : State :=
  match jobOf s id with
  | none => s
  | some j =>
    resultIssue id true 9000 (prDrop id (updJob id (fun x => { x with
        out := j.perm.flatMap (fun v => bytesLE 2 v), made := 0, perm := [], verdict := some stOk, qdone := true
        phase := .running })
      { s with stk := { s.stk with building := none } }))

/-- A DRAWP begins or begins again to build (R150, R207). -/
def permStart (id : Nat) (s : State) : State :=
  match jobOf s id with
  | none => s
  | some j =>
    let k := jobTotal j + 1
    let s1 := updJob id (fun x => { x with perm := List.range k, permI := k - 1 })
      { s with stk := { s.stk with building := some id } }
    if k = 1 then permDone id s1 else jobAsk id s1

/-- The DRAWP jobs that wait to build, oldest first (R150). -/
def permWaiting (s : State) : List Nat :=
  (s.job.jobs.filter (fun j => decide (j.op = 0x03) && j.accepted && j.stop.isNone && j.verdict.isNone &&
    decide (j.phase ≠ .held) && decide (j.phase ≠ .fenced) && decide (s.stk.building ≠ some j.id))).map (·.id)

/-- When no DRAWP builds, the one that waits longest begins. -/
def permNext : Nat → State → State
  | 0, s => s
  | n + 1, s =>
    if s.stk.building.isSome then s
    else
      match permWaiting s with
      | [] => s
      | id :: _ => permNext n (permStart id s)

/-- One accepted integer of a DRAWN: lost writes are filled first (R149, R207). -/
def acceptInt (id v : Nat) (tag : Tag) (s : State) : State :=
  match jobOf s id with
  | none => s
  | some j =>
    let bytes := bytesLE 4 v
    if lostInts j ≠ 0 then
      let lead := j.reout.isEmpty && ((j.rewrites.head?.map (fun r => decide (r.1 = 0))).getD false)
      updJob id (fun x => { x with reout := x.reout ++ bytes, first := if lead then some tag else x.first }) s
    else updJob id (fun x => { x with out := x.out ++ bytes, got := x.got + 1 }) s

/-- The candidate of a DRAWP swaps entries i and c (R150). -/
def acceptSwap (id c : Nat) (s : State) : State :=
  updJob id (fun x => { x with perm := swapAt x.perm x.permI c, permI := x.permI - 1 }) s

/-- The words of a grant that the job no longer needs stay with it only while it needs them: a job done with its words gives
up its place on its lane and in the order of its queue. -/
def wordsDone (id : Nat) (s : State) : State :=
  match jobOf s id with
  | none => s
  | some j =>
    if j.op = 0x02 ∧ j.got = jobTotal j ∧ lostInts j = 0 then
      prDrop id (syncAll (updJob id (fun x => { x with qdone := true, phase := .running }) s))
    else s

/-- Issue what the integers made so far allow, the last ones too once all are made (R167). -/
def resultGo (id : Nat) (s : State) : State :=
  match jobOf s id with
  | some j => resultIssue id (decide (j.got = jobTotal j)) 9000 s
  | none => s

/-- The last allotted word of a stopped DRAWN has been tested: what was made goes out (R179). -/
def distEnd (id : Nat) (s : State) : State :=
  match jobOf s id with
  | some j => if j.grants.isEmpty then resultIssue id true 9000 s else s
  | none => s

/-- The distribution unit tests one word of a job: accepted it is delivered, rejected it goes to kerf; a job without words asks again
(R138, R149, R150, R151) (DEDUCED, notes/assumptions/66). -/
def distTest (id : Nat) (s : State) : State :=
  match jobOf s id with
  | none => s
  | some j =>
    match j.grants with
    | [] => s
    | [] :: gs => updJob id (fun x => { x with grants := gs }) s
    | (w :: ws) :: gs =>
      let nm1 := if j.op = 0x02 then fldW (jobWord j 0) 0 32 else j.permI
      let c := candidateOf nm1 w.v
      let ok := decide (c ≤ nm1)
      let s1 := updJob id (fun x => { x with
        grants := if ws.isEmpty then gs else ws :: gs
        first := if x.first.isNone then some w.tag else x.first
        unchecked := x.unchecked || (ok && w.tag.marked) })
        { s with stk := { s.stk with cand := s.stk.cand + 1, rej := if ok then s.stk.rej else s.stk.rej + 1 } }
      let s2 := if ok then passWords [w] s1
        else kerfFlight .reject (awRefs [w]) 1 (toFlight (awRefs [w]) s1)
      let s3 := if !ok then s2
        else if j.op = 0x02 then resultGo id (acceptInt id c w.tag s2)
        else if j.stop.isNone then acceptSwap id c s2
        else s2
      if j.stop.isSome then onlyIf (j.op = 0x02) (distEnd id) s3
      else if j.op = 0x03 ∧ ok ∧ j.permI = 1 then permDone id s3
      else jobAsk id (wordsDone id s3)

/-! ### Source reads -/

/-- An offset of the node's window that lies in an XIP window (Table 13-1). -/
def inXip (off : Nat) : Bool := decide (0x1000000 ≤ off) && decide (off < 0x3000000)

/-- The node's own 64 MiB window holds the address (R166). -/
def inOwn (s : State) (a : Nat) : Bool := decide (a / 0x4000000 = s.ring.win.toNat)

/-- An address range that a job may reach: outside the node's own window and naming a node, at both its ends
(R166, R380). -/
def addrOk (s : State) (fbase : BitVec 22) (a len : Nat) : Bool :=
  let b := a + (len - 1)
  decide (b < 2 ^ 48) && !inOwn s a && !inOwn s b && (nodeOfAddr fbase a).isSome && (nodeOfAddr fbase b).isSome

/-- A range of an owned bench's user area (R220) (DEDUCED, notes/assumptions/59). -/
def userOk (off len : Nat) : Bool := decide (off + len ≤ 0x6000)

/-- The bench a requester owns. -/
def ownedBench (s : State) (r : ReqId) : Option Nat :=
  (List.range (nBenches s)).find? (fun n => (s.bne.benches[n]?.map (fun b => decide (b.owner = some r))).getD false)

/-- BW of a VERIFY or BATCH (DEDUCED, notes/assumptions/67). -/
def jobBw (j : Job) : Bool := (j.op = 0x20 || j.op = 0x21) && j.head.getLsbD 52

/-- The part of an ongoing read that is still to be asked, at most 256 bytes, and in an XIP window none beyond its 16 MiB (R303) (DESIGN
CHOICE, notes/assumptions/62). -/
def readChunk (r : SrcRead) : Nat :=
  let n := min 256 (r.total - r.got.length)
  if r.xip then min n (0x1000000 - (r.addr + r.got.length) % 0x1000000) else n

/-- Set a bit of LSP_MST_ERR. -/
def mstErr (bit : Nat) (s : State) : State :=
  { s with lsp := { s.lsp with mstErr := s.lsp.mstErr ||| BitVec.ofNat 5 (2 ^ bit) } }

/-- A source read of a job ends with an error (R177, R231). -/
def readFailed (id : Nat) (s : State) : State :=
  match jobOf s id with
  | none => s
  | some j =>
    let n := if j.op = 0x22 then (j.read.map (·.got.length)).getD 0 else 0
    stopJob id stDenied none (updJob id (fun x => { x with count := n }) s)

/-- Ask for the next part of a job's source: over the ring, or from the node's own XIP window, where a slave port has none (R177, R243,
R290) (DESIGN CHOICE, notes/assumptions/62). -/
def issueRead (id : Nat) (s : State) : State :=
  match jobOf s id with
  | none => s
  | some j =>
    match j.read with
    | none => s
    | some r =>
      let n := readChunk r
      if r.asked ≠ 0 ∨ n = 0 then s
      else
        let a := r.addr + r.got.length
        let s1 := updJob id (fun x => { x with
          read := some { r with asked := n }, waitTick := s.clk.ticks, waitSlow := s.clk.slow }) s
        if r.xip && s.lsp.role then readFailed id (mstErr 1 s)
        else if r.xip then
          let off := a % 0x4000000 - 0x1000000
          { s1 with lsp := { s1.lsp with
              ops := s1.lsp.ops ++ [⟨.digest id, off / 0x1000000, false, off % 0x1000000, n, [], 0, false, 0, 0,
                false, 0⟩] } }
        else sendRequest 0x01 a n [] j.fbase (plainTx (.read id) (mkFrame s1 0x01 0 0)) s1

/-- What the hash unit hashes ahead of a job's source: R and A of an Ed25519 signature (R216). -/
def hashPrefix (j : Job) (w : ReadFor) : List Byte :=
  match w with
  | .message => if fldW j.head 24 8 = 0x20 then j.sigBytes.take 32 ++ j.keyBytes else []
  | .entryMsg i => ((j.entries[i]?).map (fun e => e.sig.take 32 ++ e.key)).getD []
  | _ => []

/-- A read whose bytes go through the hash unit. -/
def hashed (j : Job) (w : ReadFor) : Bool :=
  match w with
  | .digest | .entryMsg _ | .masks => true
  | .message => !j.head.getLsbD 53
  | _ => false

/-- The verdict of a VERIFY on the operands it has (R225 to R227). -/
def verifyCode (j : Job) : BitVec 8 :=
  sigVerify (fldW j.head 24 8) (fldW j.head 16 8) (fldW j.head 0 16) (fldW (jobWord j 3) 48 16) j.keyBytes j.sigBytes (j.digest.getD [])

/-- The bytes that MGF1 of a PSS check puts through the hash unit: one mask, and for a pass a second one for the confirmation (R216)
(DEDUCED, notes/assumptions/71). -/
def maskBytes (j : Job) : Nat :=
  let n := mgf1Bytes (fldW j.head 16 8) (fldW j.head 0 16 / 8)
  if verifyCode j = vPass then 2 * n else if verifyCode j = vFail then n else 0

/-- The read a job makes next: what for, its address and its length. A VERIFY with MD = 0 hashes before it has a bench
(R175), and one with PSS has MGF1 done once it has its operands (R216); a BATCH reads its table, then every key and signature, then the
live messages (R231, R232). -/
def nextRead (j : Job) : Option (ReadFor × Nat × Nat) :=
  if j.op = 0x22 then
    if j.digest.isNone then some (.digest, fldW (jobWord j 0) 0 48, fldW (jobWord j 1) 0 24) else none
  else if j.op = 0x20 then
    let ls := sigLens (fldW j.head 24 8) (fldW j.head 0 16)
    let md := j.head.getLsbD 53
    let msg : ReadFor × Nat × Nat := (.message, fldW (jobWord j 2) 0 48, fldW (jobWord j 3) 0 24)
    if (j.bench.isSome ∨ fldW j.head 24 8 = 0x20) ∧ j.keyBytes = [] then some (.key, fldW (jobWord j 0) 0 48, ls.1)
    else if (j.bench.isSome ∨ fldW j.head 24 8 = 0x20) ∧ j.sigBytes = [] then some (.sig, fldW (jobWord j 1) 0 48, ls.2)
    else if j.digest.isNone ∧ (j.bench.isSome ∨ !md) then some msg
    else if fldW j.head 24 8 = 0x02 ∧ j.bench.isSome ∧ !j.masked ∧ maskBytes j ≠ 0 then some (.masks, 0, maskBytes j)
    else none
  else if j.op = 0x21 ∧ j.bench.isSome then
    let n := fldW j.head 0 7
    let es := (List.range j.entries.length).zip j.entries
    if j.entries = [] then some (.table, fldW (jobWord j 0) 0 48, 32 * n)
    else
      match es.find? (fun e => decide (e.2.key = []) || decide (e.2.sig = [])) with
      | some (i, e) => if e.key = [] then some (.entryKey i, e.keyAddr, 32) else some (.entrySig i, e.sigAddr, 64)
      | none =>
        match (liveEntries j).find? (fun e => decide (e.2.k = [])) with
        | some (i, e) => some (.entryMsg i, e.msgAddr, e.mlen)
        | none => none
  else none

/-- One entry of a BATCH table (Table 9-5). -/
def tableEntry (b : List Byte) : BatchEntry :=
  let w (i : Nat) : Nat := leNat ((b.drop (8 * i)).take 8)
  ⟨w 0 % 2 ^ 48, w 1 % 2 ^ 48, w 2 % 2 ^ 48, w 3 % 2 ^ 24, [], [], []⟩

/-- A reserved bit of a BATCH table entry is set (R231). -/
def tableBad (b : List Byte) : Bool :=
  let w (i : Nat) : Nat := leNat ((b.drop (8 * i)).take 8)
  decide (2 ^ 48 ≤ w 0) || decide (2 ^ 48 ≤ w 1) || decide (2 ^ 48 ≤ w 2) || decide (2 ^ 24 ≤ w 3)

/-- Hash states in use, at most 16 (R216). -/
def hashStates (s : State) : Nat := countP (·.hashing) s.job.jobs

/-- The whole of a read is here: the job keeps it. -/
def readKeep (id : Nat) (r : SrcRead) (s : State) : State :=
  let entry (i : Nat) (f : BatchEntry → BatchEntry) : State :=
    updJob id (fun x => { x with read := none, entries := upd x.entries i f }) s
  match r.what with
  | .key => updJob id (fun x => { x with read := none, keyBytes := r.got }) s
  | .sig => updJob id (fun x => { x with read := none, sigBytes := r.got }) s
  | .message => updJob id (fun x => { x with read := none, digest := some r.got }) s
  | .table =>
    let rows := chunks 32 r.got
    if rows.any tableBad then stopJob id stBadInstr none s
    else updJob id (fun x => { x with read := none, entries := rows.map tableEntry }) s
  | .entryKey i => entry i (fun e => { e with key := r.got })
  | .entrySig i => entry i (fun e => { e with sig := r.got })
  | .digest | .entryMsg _ | .masks => s

/-- Begin a read: the input of MGF1 and an operand of an owned bench are there at once; a fabric address must be allowed (R220, R231). -/
def readBegin (id : Nat) (what : ReadFor) (addr total : Nat) (s : State) : State :=
  match jobOf s id with
  | none => s
  | some j =>
    let xip := inOwn s addr && inXip (addr % 0x4000000)
    if what = .masks then
      updJob id (fun x => { x with got := 0, read := some ⟨what, addr, total, List.replicate total 0, 0, false⟩ }) s
    else if jobBw j then
      match (ownedBench s j.req).bind (fun n => s.bne.benches[n]?) with
      | none => stopJob id stDenied none s
      | some b =>
        if userOk addr total then
          updJob id (fun x => { x with got := 0, read := some ⟨what, addr, total, memRead b.mem addr total, 0, false⟩ }) s
        else stopJob id stDenied none s
    else if j.op = 0x22 ∧ xip ∨ addrOk s j.fbase addr total then
      updJob id (fun x => { x with got := 0, read := some ⟨what, addr, total, [], 0, xip⟩ }) s
    else stopJob id stDenied none s

/-- The combined check of a batch on its n-th coefficient set (R232). -/
def batchCheck (j : Job) (n : Nat) : Bool :=
  let live := liveEntries j
  let cs := (j.coefs.drop (n * setWords j)).take (setWords j)
  let z (i : Nat) : Nat :=
    let v := (cs.getD (2 * i) 0).toNat + (cs.getD (2 * i + 1) 0).toNat * 2 ^ 64
    v - v % 2 + 1
  edBatchHolds (((List.range live.length).zip live).map (fun e =>
    (e.2.2.key, e.2.2.sig, leNat e.2.2.k % edL, z e.1)))

/-- A batch with every live k value asks for its first coefficients; with a full set that holds, for a second one
(R232). -/
def batchGo (id : Nat) (s : State) : State :=
  match jobOf s id with
  | none => s
  | some j =>
    if j.op ≠ 0x21 ∨ j.stop.isSome ∨ j.bench.isNone ∨ (nextRead j).isSome ∨ j.read.isSome then s
    else if setWords j = 0 then s
    else if j.asked = 0 then jobAsk id (updJob id (fun x => { x with asked := 1 }) s)
    else if j.coefs.length < j.asked * setWords j then jobAsk id s
    else
      let s1 := prDrop id s
      if j.asked = 1 ∧ batchCheck j 0 then jobAsk id (updJob id (fun x => { x with asked := 2 }) s1)
      else syncAll (updJob id (fun x => { x with qdone := true, phase := .running }) s1)

/-- Take a job's reads as far as they go without an answer from outside (DESIGN CHOICE, notes/assumptions/62). -/
def fetchRun (id : Nat) : Nat → State → State
  | 0, s => s
  | fuel + 1, s =>
    match jobOf s id with
    | none => s
    | some j =>
      if j.stop.isSome then s
      else
        match j.read with
        | some r =>
          if hashed j r.what then issueRead id s
          else if r.got.length = r.total then fetchRun id fuel (readKeep id r s)
          else issueRead id s
        | none =>
          match nextRead j with
          | none => batchGo id s
          | some (what, addr, total) =>
            if hashed j what && !j.hashing then
              if hashStates s < 16 then
                fetchRun id fuel (readBegin id what addr total (updJob id (fun x => { x with hashing := true }) s))
              else updJob id (fun x => { x with phase := .waiting }) s
            else fetchRun id fuel (readBegin id what addr total s)

/-- Jobs that wait for a hash state, oldest first (R216). -/
def hashWaiting (s : State) : List Nat :=
  (s.job.jobs.filter (fun j => j.accepted && j.stop.isNone && !j.hashing && j.read.isNone && decide (j.phase ≠ .held) &&
    decide (j.phase ≠ .fenced) && (((nextRead j).map (fun r => hashed j r.1)).getD false))).map (·.id)

/-- Free hash states go to the requests that wait longest (DEDUCED, notes/assumptions/63). -/
def hashNext : Nat → State → State
  | 0, s => s
  | n + 1, s =>
    if hashStates s < 16 then
      match hashWaiting s with
      | [] => s
      | id :: _ => hashNext n (fetchRun id 400 s)
    else s

/-! ### Words given -/

/-- A batch takes coefficients: delivered, and counted under WD_COEF (R89, R176, R232) (DEDUCED, notes/assumptions/66). -/
def takeCoefs (id : Nat) (ws : List AWord) (s : State) : State :=
  batchGo id (updJob id (fun x => { x with
      coefs := x.coefs ++ ws.map (·.v)
      first := if x.first.isNone then ws.head?.map (·.tag) else x.first
      unchecked := x.unchecked || decide (awMarked ws ≠ 0) })
    (updBooks (bkCoef ws.length) (passWords ws s)))

/-- A job gets the words of a grant and uses them as its opcode says. -/
def jobGive (id : Nat) (ws : List AWord) (s : State) : State :=
  match jobOf s id with
  | none => s
  | some j =>
    let s1 := updJob id (fun x => { x with phase := .running }) s
    if j.op = 0x01 then
      let s2 := if lostWords j ≠ 0 then updJob id (fun x => { x with regrants := x.regrants ++ [ws] }) s1
        else updJob id (fun x => { x with grants := x.grants ++ [ws], got := x.got + ws.length }) s1
      let s3 := drawIssue id 9000 s2
      match jobOf s3 id with
      | none => s3
      | some k =>
        if jobNeed s3 k = 0 then prDrop id (syncAll (updJob id (fun x => { x with qdone := true }) s3))
        else jobAsk id s3
    else if j.op = 0x02 ∨ j.op = 0x03 then updJob id (fun x => { x with grants := x.grants ++ [ws] }) s1
    else if j.op = 0x12 then
      let gs := if shortGrant j ≠ 0 then j.grants.dropLast ++ [j.grants.getLastD [] ++ ws] else j.grants ++ [ws]
      onlyIf j.qord syncAll (jobAsk id (prDrop id (updJob id (fun x => { x with
        grants := gs, qdone := decide (x.launched + gs.length = fldW (jobWord j 0) 32 8) }) s1)))
    else takeCoefs id ws s1

/-- The manager's peer contribution is drawn: a PEER frame carries its words to the worker of the slot (R268, Table 10-10). With the slot
freed, or the manager no longer ACTIVE, no frame goes out and the words go to kerf under WK_REJECT, a cause the spec does not name (R89,
R139, R265) (DESIGN CHOICE, notes/assumptions/112). -/
def peerGive (slot : Nat) (ws : List AWord) (s : State) : State :=
  match if s.ring.mode = .active then (s.ring.workers[slot]?).join else none with
  | none => kerfWords .reject ws s
  | some k =>
    let f := { mkFrame s 0x07 2 k.id.toNat with
      h2 := BitVec.ofNat 64 (0x02 <<< 56), len := 48, payload := wordsToBytes (ws.map (·.v))
      unchecked := decide (awMarked ws ≠ 0) }
    { s with ring := sendTx ⟨f, .peer, awRefs ws, ws.length, awMarked ws, ws.length, false, 0, 0, 0, 0⟩ s.ring }

/-- A consumer gets the words of its grant. -/
def giveWords (w : Waiter) (ws : List AWord) (s : State) : State :=
  match w.what with
  | .read a len => endRead w.key a len 0 ws s
  | .burst a pre post => endBurst w.key a pre post ws s
  | .job id => jobGive id ws s
  | .peer slot => peerGive slot ws s

end Sys2Proof.Machine
end

