-- ==== Sys2Proof/Machine/Jobs.lean ====
section
/-! DEFINITION. The job engine: submission and streams (R154 to R158), the parser with its checks (R159 to R166, R198), the start
of each job (R170 to R179), fences (R191 to R194) and launches (R283 to R286). -/

namespace Sys2Proof.Machine

/-! ### Instruction words -/

/-- OP of a head word. -/
def hOp (h : Word) : BitVec 8 := h.extractLsb' 56 8
/-- TAG of a head word. -/
def hTag (h : Word) : BitVec 12 := h.extractLsb' 36 12

/-- PEG, AT and END (Table 7-4). -/
def isControl (op : BitVec 8) : Bool := decide (op = 0x10) || decide (op = 0x11) || decide (op = 0x3F)

/-- Words of a job instruction without its record address word, by its opcode; none for any other opcode
(Table 7-4, R164). -/
def jobWords (h : Word) : Option Nat :=
  let op := (hOp h).toNat
  if op = 0x01 ∨ op = 0x03 ∨ op = 0x30 ∨ op = 0x3E then some 2
  else if op = 0x02 ∨ op = 0x12 ∨ op = 0x21 then some 3
  else if op = 0x08 then some (1 + (if fldW h 0 5 = 0 ∨ 24 < fldW h 0 5 then 24 else fldW h 0 5))
  else if op = 0x09 ∨ op = 0x31 ∨ op = 0x32 ∨ op = 0x38 then some 1
  else if op = 0x20 then some 5
  else if op = 0x22 then some 4
  else none

/-- The opcode is one of Table 7-4. -/
def knownOp (h : Word) : Bool := isControl (hOp h) || (jobWords h).isSome

/-- Words of an instruction; an unknown opcode counts as one (R156, R164). -/
def instrLen (h : Word) : Nat :=
  match jobWords h with
  | some n => n + b2n (h.getLsbD 55)
  | none => 1

/-- The words hold only whole instructions (R155, R156). -/
def wholeInstrs : Nat → List Word → Bool
  | 0, l => l.isEmpty
  | _ + 1, [] => true
  | n + 1, h :: t => decide (instrLen h ≤ t.length + 1) && wholeInstrs n ((h :: t).drop (instrLen h))

/-- Bits of a head word that a job instruction may set, beside OP, TAG and RA (R159, R169). -/
def headMask (op : Nat) : Nat :=
  if op = 0x01 then 2 ^ 54 + 0xF00003FFF
  else if op = 0x02 then 2 ^ 54 + 0xF00007FFF
  else if op = 0x03 then 2 ^ 54 + 0xF00001FFF
  else if op = 0x08 then 0xFFFF001F
  else if op = 0x09 then 0xFFFF
  else if op = 0x12 then 2 ^ 54 + 0xFFFFFFFFF
  else if op = 0x20 then 7 * 2 ^ 52 + 0xFFFFFFFF
  else if op = 0x21 then 5 * 2 ^ 52 + 0xF0000007F
  else if op = 0x22 then 0x30000
  else if op = 0x31 then 0xFFFFF
  else if op = 0x32 then 0xFFFFFF
  else if op = 0x38 then 0xFFF
  else 0

/-- No reserved bit of a job instruction's head word is set (R159). -/
def headOk (h : Word) : Bool :=
  let op := (hOp h).toNat
  let allowed := headMask op + 0xFFF * 2 ^ 36 + 0xFF * 2 ^ 56 + (if op = 0x3E then 0 else 2 ^ 55)
  decide (h.toNat &&& allowed = h.toNat)

/-- A destination word is well formed for a length; `fifo` says whether KIND 1 is allowed (Table 7-3, R166). -/
def destOk (fifo : Bool) (w : Word) (total : Nat) : Bool :=
  let kind := fldW w 62 2
  let fw := fldW w 56 2
  decide (fldW w 58 4 = 0) && decide (fldW w 48 8 = 0) &&
    ((decide (kind = 0) && decide (fw = 0) && decide (fldW w 0 48 % 8 = 0)) ||
     (fifo && decide (kind = 1) && decide (fldW w 0 48 % (8 * 2 ^ fw) = 0) && decide (total % (8 * 2 ^ fw) = 0)))

/-- A record address word is well formed (Table 7-3). -/
def raddrOk (w : Word) : Bool := decide (fldW w 48 16 = 0) && decide (fldW w 0 48 % 16 = 0)

/-- An address word with 48 bits (R169). -/
def addrWord (w : Word) : Bool := decide (w.toNat < 2 ^ 48)

/-- A mask that names only lanes present, and at least one (R169). -/
def lanesOk (s : State) (m : Nat) : Bool := decide (m ≠ 0) && decide (m < 2 ^ nLanes s)

/-- The lanes of a TEST would be refused by R121; a lane already in KAT is permitted (R178) (DESIGN CHOICE, notes/assumptions/60). -/
def testLanesBad (s : State) (m : Nat) : Bool :=
  (maskList (nLanes s) m).any (fun n =>
    ((laneOf s n).map (fun l => !l.st.inService && decide (l.st ≠ .kat))).getD true) || noneLeft s m

/-- The units of a TEST exist (R178). -/
def testOk (s : State) (unit m : Nat) : Bool :=
  if unit = 0 then decide (m ≠ 0) && decide (m < 2 ^ nBoards s)
  else if unit = 1 then lanesOk s m && !testLanesBad s m
  else if unit = 2 then decide (m ≠ 0) && decide (m < 2 ^ nBenches s)
  else decide (unit = 3) && decide (m = 1)

/-- ALG, HASH, MD, R1K and SALT of a VERIFY are in their sets (Table 7-5, R175, R225). -/
def verifyOk (h : Word) (ops : List Word) : Bool :=
  let alg := fldW h 24 8
  let hash := fldW h 16 8
  let rsa := decide (alg = 0x01) || decide (alg = 0x02)
  let ec := decide (alg = 0x10) || decide (alg = 0x11) || decide (alg = 0x12)
  let w4 := ops.getD 3 0
  (((rsa || ec) && decide (1 ≤ hash ∧ hash ≤ 3)) || (decide (alg = 0x20) && decide (hash = 0) && !h.getLsbD 53))
    && (rsa || !h.getLsbD 54) && (decide (alg = 0x02) || decide (fldW w4 48 16 = 0)) && decide (fldW w4 24 24 = 0)
    && addrWord (ops.getD 0 0) && addrWord (ops.getD 1 0) && addrWord (ops.getD 2 0)

/-- The operands of a job instruction lie within their limits (R164, R169). `ops` are its operand words. -/
def operandsOk (s : State) (h : Word) (ops : List Word) : Bool :=
  let op := (hOp h).toNat
  let w (i : Nat) : Word := ops.getD i 0
  if op = 0x01 then decide (1 ≤ fldW h 0 14 ∧ fldW h 0 14 ≤ 8192) && destOk true (w 0) (8 * fldW h 0 14)
  else if op = 0x02 then
    decide (1 ≤ fldW h 0 15 ∧ fldW h 0 15 ≤ 16384) && decide (fldW (w 0) 32 32 = 0) && destOk true (w 1) (4 * fldW h 0 15)
  else if op = 0x03 then decide (1 ≤ fldW h 0 13 ∧ fldW h 0 13 ≤ 4096) && destOk true (w 0) (2 * fldW h 0 13)
  else if op = 0x08 then lanesOk s (fldW h 16 16) && decide (1 ≤ fldW h 0 5 ∧ fldW h 0 5 ≤ 24)
  else if op = 0x09 then lanesOk s (fldW h 0 16)
  else if op = 0x12 then
    let count := fldW (w 0) 32 8
    let period := fldW (w 0) 0 32
    decide ((w 0).toNat < 2 ^ 40) && decide (1 ≤ count) && decide (count = 1 ∨ (10000 ≤ period ∧ period < 2 ^ 31))
      && decide ((w 1).toNat &&& (0xFF * 2 ^ 40 + 0x3F) = (w 1).toNat) && decide (1 ≤ fldW (w 1) 0 6 ∧ fldW (w 1) 0 6 ≤ 32)
  else if op = 0x20 then verifyOk h ops
  else if op = 0x21 then decide (1 ≤ fldW h 0 7 ∧ fldW h 0 7 ≤ 64) && addrWord (w 0) && destOk false (w 1) 8
  else if op = 0x22 then
    decide (fldW h 16 2 ≠ 0) && addrWord (w 0) && decide ((w 1).toNat < 2 ^ 24) && destOk false (w 2) 8
  else if op = 0x30 then destOk false (w 0) 256
  else if op = 0x31 then testOk s (fldW h 16 4) (fldW h 0 16)
  else if op = 0x32 then true
  else if op = 0x38 then decide (fldW h 0 12 ≠ 0xFFF)
  else decide (w 0 = ~~~h)

/-- The requester's class permits the instruction (Table 7-4, R165). -/
def classOk (s : State) (r : ReqId) (h : Word) : Bool :=
  let op := (hOp h).toNat
  let q := fldW h 32 4
  if op = 0x01 ∨ op = 0x02 ∨ op = 0x03 ∨ op = 0x12 then mayDraw s r q
  else if op = 0x08 ∨ op = 0x09 then permits s r .lane
  else if op = 0x20 ∨ op = 0x22 then permits s r .verify
  else if op = 0x21 then permits s r .verify && mayDraw s r q
  else if op = 0x30 then permits s r .audit
  else if op = 0x31 ∨ op = 0x3E then permits s r .maint
  else true

/-- A destination's range may be written (R166, R380). -/
def destAddrOk (s : State) (w : Word) (total : Nat) : Bool :=
  addrOk s s.ring.fbase (destAddr w) (if destFifo w then destChunk w else total)

/-- A DIGEST source may be read: on the fabric, or in the node's own XIP windows with XIP_RD (R166, Table 14-5). -/
def sourceOk (s : State) (r : ReqId) (a len : Nat) : Bool :=
  addrOk s s.ring.fbase a len ||
    (inOwn s a && inOwn s (a + (len - 1)) && inXip (a % 0x4000000) && inXip ((a + (len - 1)) % 0x4000000)
      && permits s r .xipRd)

/-- A VERIFY's three operands lie where it may read them (R166, R220). -/
def verifyAddrOk (s : State) (h : Word) (ops : List Word) : Bool :=
  let ls := sigLens (fldW h 24 8) (fldW h 0 16)
  let ok (i len : Nat) : Bool :=
    let a := fldW (ops.getD i 0) 0 48
    if h.getLsbD 52 then userOk a len else addrOk s s.ring.fbase a len
  ok 0 ls.1 && ok 1 ls.2 && ok 2 (fldW (ops.getD 3 0) 0 24)

/-- The addresses that an instruction itself carries may be used (R161, R166, R380) (DEDUCED, notes/assumptions/59). -/
def addressesOk (s : State) (r : ReqId) (h : Word) (ops : List Word) : Bool :=
  let op := (hOp h).toNat
  let w (i : Nat) : Word := ops.getD i 0
  if op = 0x01 then destAddrOk s (w 0) (8 * fldW h 0 14)
  else if op = 0x02 then destAddrOk s (w 1) (4 * fldW h 0 15)
  else if op = 0x03 then destAddrOk s (w 0) (2 * fldW h 0 13)
  else if op = 0x20 then verifyAddrOk s h ops
  else if op = 0x21 then
    destAddrOk s (w 1) 8 &&
      (if h.getLsbD 52 then userOk (fldW (w 0) 0 48) (32 * fldW h 0 7) else addrOk s s.ring.fbase (fldW (w 0) 0 48) (32 * fldW h 0 7))
  else if op = 0x22 then
    destAddrOk s (w 2) (hashLen (fldW h 16 2)) && sourceOk s r (fldW (w 0) 0 48) (fldW (w 1) 0 24)
  else if op = 0x30 then destAddrOk s (w 0) 256
  else true

/-! ### Making jobs -/

/-- The 48-bit time nearest the present whose low half is the target (R283). -/
def extend48 (s : State) (t : BitVec 32) : BitVec 48 :=
  let d := t - nowNs s
  if d.msb then now48 s - (BitVec.ofNat 48 (2 ^ 32 - d.toNat)) else now48 s + d.zeroExtend 48

/-- A job record with nothing done. -/
def newJob (s : State) (req : ReqId) (h : Word) (ops : List Word) (path : Path) : Job where
  id := s.clk.ord
  accepted := false
  prog := false
  req := req
  tag := hTag h
  op := hOp h
  head := h
  ops := ops
  path := path
  raddr := none
  fbase := s.ring.fbase
  phase := .ending
  target := none
  t0 := extend48 s (h.setWidth 32)
  stop := none
  count := 0
  late := false
  rerouted := false
  confirmed := false
  unchecked := false
  timeFix := none
  first := none
  qfirst := none
  qord := false
  qdone := false
  grants := []
  regrants := []
  got := 0
  made := 0
  out := []
  reout := []
  writes := []
  rewrites := []
  perm := []
  permI := 0
  launched := 0
  asked := 0
  mask := 0
  passed := 0
  mix := []
  read := none
  digest := none
  hashing := false
  masked := false
  bench := none
  keyBytes := []
  sigBytes := []
  entries := []
  coefs := []
  victim := none
  verdict := none
  waitSlow := s.clk.slow
  waitTick := s.clk.ticks

/-- Put a job into the engine. -/
def addJob (j : Job) (s : State) : State := bumpOrd { s with job := { s.job with jobs := s.job.jobs ++ [j] } }

/-- A program record of a requester: tag 0xFFF, BAD_INSTR, and the words it accounts for (R163). -/
def progRecord (req : ReqId) (path : Path) (words : Nat) (s : State) : State :=
  addJob { newJob s req 0 [] path with tag := 0xFFF, prog := true, stop := some stBadInstr, count := words } s

/-- A rejected instruction's record (R161): BAD_INSTR, TAG_BUSY or DENIED, with its own tag. -/
def rejectJob (j : Job) (status : BitVec 8) (s : State) : State := addJob { j with stop := some status } s

/-! ### The start of a job -/

/-- Bench states that will never take a test (DESIGN CHOICE, notes/assumptions/60). -/
def benchDead (b : Bench) : Bool := decide (b.st = .load) || decide (b.st = .retired) || decide (b.st = .halt) || b.retiring

/-- A known-answer run is asked of a bench: at once in IDLE, else at its next IDLE (R217, R238). -/
def benchKat (n : Nat) (who : KatWho) (s : State) : State :=
  { s with bne := { s.bne with benches := upd s.bne.benches n (fun b =>
      { b with kats := b.kats ++ [who], st := if b.st = .idle then .kat else b.st }) } }

/-- Commanded runs of benches or of the hash unit begin (BNE_KAT_STAT) (DEDUCED, notes/assumptions/38). -/
def bneRun (s : State) : State :=
  { s with bne := { s.bne with katBusy := true, katDone := false, katFailed := false } }

/-- BNE_KAT_STAT: the commanded runs are over once no bench and not the hash unit has one left to make. -/
def bneKatSettle (s : State) : State :=
  if s.bne.benches.any (fun b => b.kats.any KatWho.commanded) || s.bne.hashKats.any KatWho.commanded then s
  else { s with bne := { s.bne with katBusy := false, katDone := s.bne.katDone || s.bne.katBusy } }

/-- A known-answer run is asked of the hash unit. -/
def hashKat (who : KatWho) (s : State) : State := { s with bne := { s.bne with hashKats := s.bne.hashKats ++ [who] } }

/-- A TEST starts the runs of its units; units that cannot take a run drop out of it (R178) (DESIGN CHOICE, notes/assumptions/60). -/
def testStart (id : Nat) (j : Job) (s : State) : State :=
  let unit := fldW j.head 16 4
  let m := fldW j.head 0 16
  if unit = 1 ∧ testLanesBad s m then stopJob id stBadInstr none s
  else
    let names := (maskList 16 m).filter (fun n =>
      decide (unit ≠ 2) || ((s.bne.benches[n]?).map (fun b => !benchDead b)).getD false)
    let s1 := updJob id (fun x => { x with
      phase := .running, mask := BitVec.ofNat 16 (maskOf 16 (fun i => names.contains i)) }) s
    let s2 :=
      if names.isEmpty then s1
      else if unit = 0 then plnTest id m s1
      else if unit = 1 then names.foldl (fun t n => askLaneKat n (.job id) t) (lanRun s1)
      else if unit = 2 then names.foldl (fun t n => benchKat n (.job id) t) (bneRun s1)
      else names.foldl (fun t _ => hashKat (.job id) t) (bneRun s1)
    endIfDone id s2

/-- A MIX hands its pieces to the named lanes in service (R112, R172). -/
def mixStart (id : Nat) (j : Job) (s : State) : State :=
  let lanes := (maskList (nLanes s) (fldW j.head 16 16)).filter (inService s)
  let s1 := updJob id (fun x => { x with phase := .running, mix := lanes.map (fun n => (n, 0, 0)) }) s
  mixCheck id (lanes.foldl (fun t n => mixFeed n 8 t) s1)

/-- The named lanes of a RESEED that are in service at its acceptance (R172). -/
def reseedLanes (s : State) (j : Job) : List Nat := (maskList (nLanes s) (fldW j.head 0 16)).filter (inService s)

/-- A RESEED makes a reseed due on every lane it did not skip at its acceptance and that has neither been satisfied nor left service
since; with all of them skipped it ends with NO_ENTROPY (R111, R172) (DESIGN CHOICE, notes/assumptions/113). -/
def reseedStart (id : Nat) (j : Job) (s : State) : State :=
  if j.asked = 0 then stopJob id stNoEntropy none s
  else
    endIfDone id ((maskList (nLanes s) j.mask.toNat).foldl (fun t n => makeDue n t) (updJob id (fun x => { x with
      phase := .waiting, waitSlow := s.clk.slow, waitTick := s.clk.ticks }) s))

/-- KEYBITS lies in its set (Table 7-5, R225). -/
def keybitsOk (h : Word) : Bool :=
  let k := fldW h 0 16
  if fldW h 24 8 = 0x01 ∨ fldW h 24 8 = 0x02 then
    decide (2048 ≤ k ∧ k ≤ 8192 ∧ k % 32 = 0) || (decide (k = 1024) && h.getLsbD 54)
  else decide (k = 0)

/-- The lengths of a VERIFY lie in the supported set (R175, R225) (DEDUCED, notes/assumptions/59). -/
def verifyLenOk (h : Word) (ops : List Word) : Bool :=
  let hl := hashLen (fldW h 16 8)
  let salt := fldW (ops.getD 3 0) 48 16
  keybitsOk h && (!h.getLsbD 53 || decide (fldW (ops.getD 3 0) 0 24 = hl))
    && (decide (fldW h 24 8 ≠ 0x02) || decide (salt = 0xFFFF) || decide (salt + hl + 2 ≤ fldW h 0 16 / 8))

/-- Some bench is in service (R217). -/
def benchesUp (s : State) : Bool := s.bne.benches.any (·.st.inService)

/-- A VERIFY or BATCH reaches the point of waiting for a bench (R222, R223). -/
def benchWait (id : Nat) (s : State) : State :=
  match jobOf s id with
  | none => s
  | some j =>
    if !benchesUp s then stopJob id stNoEntropy none s
    else if jobBw j && (ownedBench s j.req).isNone then stopJob id stDenied none s
    else updJob id (fun x => { x with phase := .waiting }) s

/-- A VERIFY starts: a length outside its set ends it, MD = 0 hashes first (R175) (DEDUCED, notes/assumptions/59). -/
def verifyStart (id : Nat) (j : Job) (s : State) : State :=
  if !verifyLenOk j.head j.ops then stopJob id vLength none s
  else if j.head.getLsbD 53 then benchWait id s
  else if jobBw j && (ownedBench s j.req).isNone then stopJob id stDenied none s
  else fetchRun id 8 (updJob id (fun x => { x with phase := .running }) s)

/-- A TALLY takes its snapshot and writes the record (R92, R94, R178). -/
def tallyStart (id : Nat) (s : State) : State :=
  let s1 := takeSnapshot s
  issueResult id (wordsToBytes (snapRecord s s1.tal.epoch)) stOk s1

/-- A RESTORE reloads all factory calibration, or ends with DENIED (R178, R347). -/
def restoreStart (id : Nat) (j : Job) (s : State) : State :=
  if s.cal.pin || s.cal.lock then stopJob id stDenied none s
  else stopJob id stOk none (calRestoreGroups j.req 0xF s)

/-- An aborted VERIFY or BATCH shows no verdict, and a map that has not been sent is never written (R235). -/
def voidVerdict (v : Nat) (k : Job) (s : State) : State :=
  if k.op = 0x20 ∨ k.op = 0x21 then
    dropUnsent .reject v (updJob v (fun x => { x with count := 0, confirmed := false }) s)
  else s

/-- A TEST that still waits for its turn is taken out of line: none of its units runs (R179). -/
def leaveLine (v : Nat) (s : State) : State :=
  if s.pln.runq.contains v then
    updJob v (fun x => { x with mask := 0 }) { s with pln := { s.pln with runq := s.pln.runq.filter (fun i => decide (i ≠ v)) } }
  else s

/-- Stop an ABORT's target; how it ends is its kind's matter (R179, R235) (DEDUCED, notes/assumptions/61). -/
def abortTarget (v : Nat) (s : State) : State :=
  match jobOf s v with
  | none => s
  | some k =>
    if k.stop.isSome then voidVerdict v k (updJob v (fun x => { x with stop := some stAborted }) s)
    else
      let done := match (k.mix.map (·.2.2)).min? with
        | some n => min (48 * n) (8 * k.ops.length)
        | none => k.count
      let s1 := updJob v (fun x => { x with
        count := if k.op = 0x22 then k.got else if k.op = 0x08 then done else 0 }) (leaveLine v s)
      let s2 := voidVerdict v k (stopJob v stAborted (if k.op = 0x12 then some .reject else none) s1)
      (k.mix.map (·.1)).foldl (fun t n => mixFeed n 8 t) s2

/-- An ABORT acts on the job of its requester that its TARGET names, unless its record is already being written or a mismatch has ended it
(R179, R236). A record that waits for room in the event queue counts as being written (DESIGN CHOICE, notes/assumptions/117; DEDUCED,
notes/assumptions/61). -/
def abortStart (id : Nat) (j : Job) (s : State) : State :=
  let t := s.job.jobs.find? (fun k => decide (k.req = j.req) && k.accepted && decide (k.tag.toNat = fldW j.head 0 12)
    && decide (k.id ≠ id) && decide (k.phase ≠ .record) && decide (k.phase ≠ .recordSent) && decide (k.stop ≠ some vMismatch))
  match t with
  | none => stopJob id stOk none s
  | some k =>
    stopJob id stOk none (updJob id (fun x => { x with count := 1, victim := some k.id }) (abortTarget k.id s))

/-- A job starts: it first acts on a unit outside the job engine (R189). -/
def startJob (id : Nat) (s : State) : State :=
  match jobOf s id with
  | none => s
  | some j =>
    let op := j.op.toNat
    if op = 0x01 ∨ op = 0x02 then jobAsk id s
    else if op = 0x03 then permNext 600 (updJob id (fun x => { x with phase := .waiting }) s)
    else if op = 0x08 then mixStart id j s
    else if op = 0x09 then reseedStart id j s
    else if op = 0x12 then updJob id (fun x => { x with phase := .waiting }) s
    else if op = 0x20 then verifyStart id j s
    else if op = 0x21 then benchWait id s
    else if op = 0x22 then fetchRun id 8 (updJob id (fun x => { x with phase := .running }) s)
    else if op = 0x30 then tallyStart id s
    else if op = 0x31 then testStart id j s
    else if op = 0x32 then stopJob id stOk none (updJob id (fun x => { x with count := fldW j.head 0 24 }) s)
    else if op = 0x38 then abortStart id j s
    else restoreStart id j s

/-! ### Acceptance -/

/-- A requester's fences hold the start of a job with this order number (R191). -/
def startHeld (s : State) (r : ReqId) (id : Nat) : Bool :=
  ((streamOf s r).map (fun x => x.fences.any (fun f => decide (f.scope ≠ .data) && decide (f.ord ≤ id)))).getD false

/-- A job that passed its checks is accepted; it starts now unless an AT or a fence holds it (R161, R173, R191). -/
def acceptJob (j : Job) (at_ : Option (BitVec 32)) (s : State) : State :=
  let target := at_.map (extend48 s)
  let fenced := decide (j.op ≠ 0x38) && startHeld s j.req j.id
  let k := { j with
    accepted := true, target := target
    mask := if j.op = 0x09 then BitVec.ofNat 16 (maskOf 16 (fun i => (reseedLanes s j).contains i)) else j.mask
    asked := if j.op = 0x09 then (reseedLanes s j).length else j.asked
    phase := if at_.isSome then .held else if fenced then .fenced else .waiting }
  let s1 := addJob k s
  let s2 := { s1 with job := { s1.job with peak := max s1.job.peak (inflightAll s1) } }
  if at_.isSome || fenced then s2 else startJob j.id s2

/-- The outcome of a job instruction's checks, in their order: none when it is accepted (R161). -/
def jobChecks (s : State) (j : Job) : Option (BitVec 8) :=
  let ra := j.head.getLsbD 55
  let rec0 := j.ops.getD 0 0
  let ops := if ra then j.ops.drop 1 else j.ops
  if !headOk j.head || (ra && !raddrOk rec0) || !operandsOk s j.head ops then some stBadInstr
  else if s.job.jobs.any (fun k => k.accepted && decide (k.req = j.req) && decide (k.tag = j.tag)) then some stTagBusy
  else if !classOk s j.req j.head || !addressesOk s j.req j.head ops
      || (ra && !addrOk s s.ring.fbase (fldW rec0 0 48) 16) then some stDenied
  else none

/-- A job instruction as a job, before its checks; its record goes to RADDR if that address may be used (R182). -/
def instrJob (s : State) (req : ReqId) (ws : List Word) (path : Path) : Job :=
  let h := ws.headD 0
  let ops := ws.drop 1
  let ra := h.getLsbD 55
  let a := ops.getD 0 0
  let use := ra && decide (hOp h ≠ 0x3E) && raddrOk a && addrOk s s.ring.fbase (fldW a 0 48) 16
  { newJob s req h (if ra then ops.drop 1 else ops) path with raddr := if use then some (fldW a 0 48) else none }

/-- The checks of an instruction as it stands in its stream. -/
def checkWords (s : State) (req : ReqId) (ws : List Word) (path : Path) : Option (BitVec 8) :=
  jobChecks s { newJob s req (ws.headD 0) (ws.drop 1) path with raddr := none }

/-- The in-flight limits leave no room for another job of a requester (R161). -/
def atLimit (s : State) (r : ReqId) : Bool :=
  decide (512 ≤ inflightAll s) || decide (s.sil.reqLimit.toNat ≤ inflightOf s r)

/-- The words of the next instruction of a stream. -/
def nextWords (x : Stream) : List SWord := x.words.take (instrLen ((x.words.head?.map (·.w)).getD 0))

/-- A stream waits at its in-flight limit: its next instruction would be accepted and has no room; an ABORT waits for
the requester's other one (R161). -/
def streamWaits (s : State) (x : Stream) : Bool :=
  match nextWords x with
  | [] => false
  | h :: t =>
    if isControl (hOp h.w) || !knownOp h.w || decide (hTag h.w = 0xFFF) then false
    else if (checkWords s x.req (h.w :: t.map (·.w)) h.path).isSome then false
    else if hOp h.w = 0x38 then s.job.jobs.any (fun k => k.accepted && decide (k.req = x.req) && decide (k.op = 0x38))
    else atLimit s x.req

/-! ### The parser -/

/-- The parser's contenders (R198). -/
def parserContends (s : State) : List ReqId :=
  (s.job.streams.filter (fun x => !x.words.isEmpty && x.discard.isNone && !streamWaits s x)).map (·.req)

/-- The parser's round robin follows its contenders, and streams with nothing left are forgotten. -/
def syncParser (s : State) : State :=
  let keep (x : Stream) : Bool := !x.words.isEmpty || x.discard.isSome || x.atHead.isSome || !x.fences.isEmpty
  let s1 := { s with job := { s.job with streams := s.job.streams.filter keep } }
  { s1 with job := { s1.job with rr := rrSync (parserContends s1) s1.job.rr } }

/-- Discard words of a stream up to and including END; the program record follows when it is found (R163) (DEDUCED, notes/assumptions/64).
-/
def discardRun (r : ReqId) (s : State) : State :=
  match streamOf s r with
  | none => s
  | some x =>
    match x.discard with
    | none => s
    | some n =>
      match x.words.findIdx? (fun w => decide (w.w = 0x3F00000000000000)) with
      | some i =>
        progRecord r x.discardPath (n + i + 1)
          (updStream r (fun y => { y with words := y.words.drop (i + 1), discard := none }) s)
      | none => updStream r (fun y => { y with words := [], discard := some (n + y.words.length) }) s

/-- A control instruction is malformed (R163, R191). -/
def controlBad (h : Word) : Bool :=
  if hOp h = 0x10 then decide (h.toNat % 2 ^ 56 ≠ fldW h 48 2 <<< 48) || decide (fldW h 48 2 = 0)
  else if hOp h = 0x11 then decide (2 ^ 32 ≤ h.toNat % 2 ^ 56)
  else decide (h.toNat % 2 ^ 56 ≠ 0)

/-- The scope a PEG names. -/
def pegScope (h : Word) : PegScope := if fldW h 48 2 = 1 then .req else if fldW h 48 2 = 2 then .data else .all

/-- A PEG is parsed: it fences the later part of the stream while an earlier job is in flight (R191, R193). -/
def parsePeg (r : ReqId) (h : Word) (s : State) : State :=
  if s.job.jobs.any (fun j => j.accepted && decide (j.req = r) && decide (j.op ≠ 0x38)) then
    bumpOrd (updStream r (fun x => { x with fences := x.fences ++ [⟨pegScope h, s.clk.ord⟩] }) s)
  else s

/-- An AT that waits for the instruction it holds is dropped (R162). -/
def dropAt (r : ReqId) (s : State) : State :=
  match streamOf s r with
  | some x => if x.atHead.isSome then progRecord r x.atPath 1 (updStream r (fun y => { y with atHead := none }) s) else s
  | none => s

/-- Parse the next instruction of a stream (R158 to R164, R169). -/
def parseOne (r : ReqId) (s : State) : State :=
  match streamOf s r with
  | none => s
  | some x =>
    match nextWords x with
    | [] => s
    | h :: t =>
      let n := t.length + 1
      let s1 := updStream r (fun y => { y with words := y.words.drop n }) s
      if !knownOp h.w then
        discardRun r (updStream r (fun y => { y with discard := some 0, discardPath := h.path, words := x.words }) (dropAt r s1))
      else if hTag h.w = 0xFFF ∧ !isControl (hOp h.w) then progRecord r h.path n (dropAt r s1)
      else if isControl (hOp h.w) then
        let s2 := dropAt r s1
        if controlBad h.w then progRecord r h.path n s2
        else if hOp h.w = 0x10 then parsePeg r h.w s2
        else if hOp h.w = 0x11 then
          updStream r (fun y => { y with atHead := some (h.w.setWidth 32), atPath := h.path }) s2
        else s2
      else
        let abort := decide (hOp h.w = 0x38)
        let s2 := onlyIf abort (dropAt r) s1
        let at_ := if abort then none else x.atHead
        let s3 := updStream r (fun y => { y with atHead := none }) s2
        let ws := h.w :: t.map (·.w)
        match checkWords s3 r ws h.path with
        | some c => rejectJob (instrJob s3 r ws h.path) c s3
        | none => acceptJob (instrJob s3 r ws h.path) at_ s3

/-- The parser takes its next instruction if the head word satisfies a test (R157, R198). -/
def parseIf (p : Word → Bool) (s : State) : State :=
  if halted s || s.job.stopped then s
  else
    let s1 := syncParser s
    match (rrHead s1.job.rr).bind (streamOf s1) with
    | none => s
    | some x =>
      match x.words with
      | [] => s
      | h :: _ =>
        if p h.w then
          let s2 := parseOne x.req s1
          syncParser { s2 with job := { s2.job with rr := rrUse (weightOf s2 x.req) s2.job.rr } }
        else s

/-- The parser's next instruction has this opcode. -/
def parseOp (op : BitVec 8) (s : State) : State := parseIf (fun h => decide (hOp h = op)) s

/-- The parser's next head word is one of those that R163 handles: an unknown opcode, TAG 0xFFF, or a malformed control instruction
(DEDUCED, notes/assumptions/64). -/
def badHead (h : Word) : Bool :=
  !knownOp h || (isControl (hOp h) && controlBad h) || (!isControl (hOp h) && decide (hTag h = 0xFFF))

/-! ### Submission -/

/-- The command queue of a path (Table 7-1). -/
def cqOf : Path → Nat
  | .portA => 0
  | .portB => 1
  | .lsp => 2
  | .core => 3

/-- Table 7-1 permits a window for a path. -/
def windowOk (p : Path) (w : Nat) : Bool :=
  match p with
  | .portA | .portB => decide (w < 2)
  | .lsp => decide (w = 2)
  | .core => decide (w = 3)

/-- Words of a requester accepted and not yet parsed. -/
def buffered (s : State) (r : ReqId) : Nat := ((streamOf s r).map (·.words.length)).getD 0

/-- Words in a command queue. -/
def cqWords (s : State) (c : Nat) : Nat := (s.job.streams.map (fun x => countP (fun w => decide (w.cq = c)) x.words)).sum

/-- The causes that refuse a submission write, each with its JOB_ERR bit, in the order of R156. -/
def submitCauses (s : State) (a : Acc) (w : Nat) (bytes : List Byte) : List (Bool × Nat) :=
  let ws := bytesToWords bytes
  let n := ws.length
  [(halted s, 6), ((pathPort a.path).isSome && decide (a.req = coreId), 4), (!windowOk a.path w, 3),
   (!permits s a.req .submit, 5),
   (decide (bytes.length < 8) || decide (256 < bytes.length) || decide (bytes.length % 8 ≠ 0) || !wholeInstrs n ws, 0),
   (decide (512 < buffered s a.req + n), 1), (decide (8192 < cqWords s (cqOf a.path) + n), 2)]

/-- Append the words of an accepted write to its requester's stream (R154, R158). -/
def appendWords (a : Acc) (ws : List Word) (s : State) : State :=
  let new := ws.map (fun w => SWord.mk w (cqOf a.path) a.path)
  let s1 := { s with job := { s.job with
    cqCnt := upd s.job.cqCnt (cqOf a.path) (· + BitVec.ofNat 32 ws.length) } }
  match streamOf s1 a.req with
  | some _ => updStream a.req (fun x => { x with words := x.words ++ new }) s1
  | none => { s1 with job := { s1.job with
      streams := s1.job.streams ++ [⟨a.req, new, none, a.path, none, a.path, []⟩] } }

/-- A submission write: accepted whole, or refused whole with a status (R155, R156) (DEDUCED, notes/assumptions/15 and 99). -/
def submit (a : Acc) (w : Nat) (bytes : List Byte) (s : State) : Nat × State :=
  let bad := (submitCauses s a w bytes).filter (·.1)
  match bad with
  | [] => (0, syncParser (discardRun a.req (appendWords a (bytesToWords bytes) s)))
  | (_, bit) :: _ =>
    let bits := BitVec.ofNat 7 (maskOf 7 (fun i => bad.any (fun c => decide (c.2 = i))))
    (if bit = 6 then 8 else if bit = 5 then 2 else 3,
     post 0x20 a.req.toNat bit { s with job := { s.job with err := s.job.err ||| bits } })

/-! ### Fences -/

/-- An earlier job's data is visible: the job has ended and its writes are finished (R189) (DEDUCED, notes/assumptions/57). -/
def dataVisible (j : Job) : Bool := j.stop.isSome && dataDone j

/-- The condition of a fence is met (R191) (DEDUCED, notes/assumptions/57). -/
def fenceMet (s : State) (r : ReqId) (f : Fence) : Bool :=
  s.job.jobs.all (fun j =>
    !(j.accepted && decide (j.req = r) && decide (j.op ≠ 0x38) && decide (j.id < f.ord)) ||
      (decide (f.scope = .data) && dataVisible j))

/-- Start the jobs of a requester that no fence holds any longer (DEDUCED, notes/assumptions/61). -/
def startFree (r : ReqId) (s : State) : State :=
  ((s.job.jobs.filter (fun j => decide (j.req = r) && decide (j.phase = .fenced) && !startHeld s r j.id)).map (·.id)).foldl
    (fun t id => startJob id t) s

/-- The fences of a requester whose conditions are met release what they hold (R191, R193) (DESIGN CHOICE, notes/assumptions/65). -/
def fenceRelease (r : ReqId) (s : State) : State :=
  if halted s then s
  else
    match streamOf s r with
    | none => s
    | some x => startFree r (updStream r (fun y => { y with fences := x.fences.filter (fun f => !fenceMet s r f) }) s)

/-! ### Launches -/

/-- A time has been reached: the present is at or after it, in the half range of 48 bits (R283). -/
def reached (s : State) (t : BitVec 48) : Bool := !(now48 s - t).msb

/-- A due time is passed by the latest tick alone: the action is on time (R284). -/
def onTime (s : State) (t : BitVec 48) : Bool := (s.tim.prev.extractLsb' 32 48 - t).msb || decide (now48 s = t)

/-- A late action may still launch (R284). -/
def inLateWindow (s : State) (t : BitVec 48) : Bool := decide ((now48 s - t).toNat ≤ 1000 * s.tim.late.toNat)

/-- A launch is counted (TIM_LAUNCH). -/
def countLaunch (late rej : Bool) (s : State) : State :=
  { s with tim := { s.tim with
      launchLate := if late then s.tim.launchLate + 1 else s.tim.launchLate
      launchRej := if rej then s.tim.launchRej + 1 else s.tim.launchRej } }

/-- Time and step count as a record carries them. -/
def stampNow (s : State) : BitVec 32 × BitVec 8 := (nowNs s, s.tim.steps.setWidth 8)

/-- A launch is rejected as late (R284, R285). -/
def rejectLaunch (id : Nat) (s : State) : State :=
  match jobOf s id with
  | none => s
  | some j =>
    stopJob id stLate (some .reject) (countLaunch false true (updJob id (fun x => { x with
      timeFix := if j.launched = 0 then some (stampNow s) else x.timeFix }) s))

/-- An AT job launches, late or not, or is rejected (R173, R194, R284). -/
def atLaunch (id : Nat) (s : State) : State :=
  match jobOf s id with
  | none => s
  | some j =>
    match j.target with
    | none => s
    | some t =>
      if halted s || decide (j.phase ≠ .held) || !s.tim.clkOk || !reached s t || startHeld s j.req id then s
      else
        let late := !onTime s t
        if late && !inLateWindow s t then rejectLaunch id s
        else
          startJob id (countLaunch late false (updJob id (fun x => { x with
            late := late, timeFix := some (stampNow s), phase := .waiting }) s))

/-- The due time of launch i of a BEACON (R174, R283). -/
def beaconDue (j : Job) (i : Nat) : BitVec 48 :=
  j.t0 + BitVec.ofNat 48 (i * fldW (jobWord j 0) 0 32)

/-- A BEACON that runs. -/
def beaconRuns (s : State) (j : Job) : Bool :=
  decide (j.op = 0x12) && j.accepted && j.stop.isNone && decide (j.phase ≠ .held) && decide (j.phase ≠ .fenced) && !halted s

/-- 200 µs before a launch is due, or at once if less time remains, its grant is asked (R174) (DEDUCED, notes/assumptions/67). -/
def beaconAsk (id : Nat) (s : State) : State :=
  match jobOf s id with
  | none => s
  | some j =>
    if beaconRuns s j && j.verdict.isNone && decide (j.asked < fldW (jobWord j 0) 32 8)
        && reached s (beaconDue j j.asked - 200000) then
      jobAsk id (updJob id (fun x => { x with asked := x.asked + 1 }) s)
    else s

/-- The frame of a launch (Table 10-3). -/
def beaconFrame (s : State) (j : Job) (ws : List AWord) (late : Bool) : Frame :=
  let due := (beaconDue j j.launched).toNat % 2 ^ 32
  { mkFrame s 0x06 2 0xFFF with
    late := late, unchecked := decide (awMarked ws ≠ 0), len := BitVec.ofNat 9 (8 * ws.length)
    payload := wordsToBytes (ws.map (·.v))
    h2 := BitVec.ofNat 64 (fldW (jobWord j 1) 40 8 <<< 56 + (j.launched % 256) <<< 48
            + (s.tim.steps.toNat % 256) <<< 40 + due) }

/-- A port is in service. -/
def portUp (s : State) : Bool := decide (s.ring.pa.st = .service) || decide (s.ring.pb.st = .service)

/-- A beacon launch is due and its grant is allotted: it goes out, late or not, or ends the series (R174, R284, R285) (DEDUCED,
notes/assumptions/89). -/
def beaconLaunch (id : Nat) (s : State) : State :=
  match jobOf s id with
  | none => s
  | some j =>
    match j.grants with
    | [] => s
    | ws :: gs =>
      let due := beaconDue j j.launched
      if !beaconRuns s j || !s.tim.clkOk || !reached s due || !portUp s || decide (ws.length < fldW (jobWord j 1) 0 6) then s
      else
        let late := !onTime s due
        if late && !inLateWindow s due then rejectLaunch id s
        else
          let t : TxFrame :=
            ⟨beaconFrame s j ws late, .beacon id, awRefs ws, ws.length, awMarked ws, ws.length, false, 0, 0, 0, 0⟩
          let s1 := countLaunch late false (updJob id (fun x => { x with
            grants := gs, launched := x.launched + 1, late := x.late || late, timeFix := some (stampNow s)
            first := if x.first.isNone then ws.head?.map (·.tag) else x.first
            writes := x.writes ++ [⟨x.writes.length, x.writes.length, 0, .sent, none, false⟩] }) s)
          let s2 := { s1 with ring := sendTx t s1.ring }
          if j.launched + 1 = fldW (jobWord j 0) 32 8 then stopJob id stOk none s2
          else if gs.isEmpty then
            match j.verdict with
            | some v => stopJob id v none s2
            | none => s2
          else s2

/-! ### Registers of the job engine -/

/-- The state of a tag as JOB_TAG_STAT shows it: a job that a fence holds reads 2, one whose record alone is missing 5 (R193, R318). -/
def tagState (s : State) (r : ReqId) (tag : BitVec 12) : W32 :=
  match s.job.jobs.find? (fun j => j.accepted && decide (j.req = r) && decide (j.tag = tag)) with
  | none => 0
  | some j =>
    let ph := match j.phase with
      | .held => if startHeld s j.req j.id then 2 else 1
      | .fenced => 2 | .waiting => 3 | .running => 4 | .ending => if dataDone j && !testsLeft s j then 5 else 4
      | .record => 5 | .recordSent => 5
    packR [(31, 1), (28, ph), (16, j.op.toNat)]

/-- A write of JOB_TAG_SEL captures the job's state (R318). -/
def tagSelWrite (v : W32) (s : State) : State :=
  let w := v &&& 0x0FFF0FFF
  { s with job := { s.job with
      tagSel := w, tagStat := tagState s (w.extractLsb' 16 12) (w.extractLsb' 0 12) } }

/-- The job engine stops working (R24). -/
def engineLost (s : State) : State := raiseFatal 0x08 3 { s with job := { s.job with stopped := true } }

end Sys2Proof.Machine
end

