-- ==== Sys2Proof/Machine/Stack.lean ====
section
/-! DEFINITION. The stack: the array with its regions and masks (R124 to R128, R133), lane output and segments (R99, R134, R135),
grants (R138, R139, R199), the ends of waits (R140, R145), and the replay mark (R147, R151). -/

namespace Sys2Proof.Machine

/-! ### Regions and capacity -/

/-- A queue in ON, DRAINING or VOID occupies its range (R130). -/
def occupies (d : DQueue) : Bool := decide (d.st ≠ .off)

/-- The first and last region of a queue's range. -/
def regionSpan (d : DQueue) : Nat × Nat :=
  (regionAt (d.base.toNat * 512), regionAt (d.base.toNat * 512 + depth d - 1))

/-- A region lies, whole or in part, in a queue's range. -/
def uses (d : DQueue) (r : Nat) : Bool := decide ((regionSpan d).1 ≤ r) && decide (r ≤ (regionSpan d).2)

/-- Void regions in a queue's range (DQ_LEVEL_n.VOID). -/
def voidCount (s : State) (d : DQueue) : Nat :=
  countP (fun r => uses d r && regionVoid s r) (List.range (nRegions s))

/-- The capacity of a queue (R133). -/
def capacity (s : State) (d : DQueue) : Nat := depth d - 8192 * voidCount s d

/-- The queues whose range a region lies in (DESIGN CHOICE, notes/assumptions/115). -/
def queuesUsing (s : State) (r : Nat) : List Nat :=
  (List.range 16).filter (fun q => ((queueOf s q).map (fun d => occupies d && uses d r)).getD false)

/-- A spare region: in no queue, not retired, no substitute (R127). -/
def isSpare (s : State) (r : Nat) : Bool :=
  (queuesUsing s r).isEmpty && !(regionOf s r).retired && (regionOf s r).subOf.isNone

/-- The spare regions, lowest index first. -/
def spares (s : State) : List Nat := (List.range (nRegions s)).filter (isSpare s)

/-- Some queue in ON has at least 512 words of capacity, one queue left out of account (R131, R133). -/
def onCapacity (s : State) (but : Option Nat) : Bool :=
  (List.range 16).any (fun q => decide (some q ≠ but) &&
    ((queueOf s q).map (fun d => decide (d.st = .on) && decide (512 ≤ capacity s d))).getD false)

/-- Set an error bit of STK_ERR and write its STK_REFUSED record. -/
def stkRefuse (bit : Nat) (s : State) : State :=
  post 0x1D 0 bit { s with stk := { s.stk with err := s.stk.err ||| BitVec.ofNat 5 (2 ^ bit) } }

/-! ### The ends of waits -/

/-- A peer contribution is skipped for the period (R268) (DEDUCED, notes/assumptions/50). -/
def peerSkipped (s : State) : State :=
  { s with ring := { s.ring with
      peerSkip := if s.ring.peerSkip = 31 then 31 else s.ring.peerSkip + 1 } }

/-- A flush, a disable or a VOID queue ends one waiting consumer (R131, R133, R145, R285) (DEDUCED, notes/assumptions/49, 50, 54). -/
def flushWaiter (q : Nat) (w : Waiter) (s : State) : State :=
  let s1 := dropWaiter q w.key (releaseAllot q w.key s)
  match w.what with
  | .read a len => prDrop w.key (endRead w.key a len 6 [] s1)
  | .burst a _ _ => prDrop w.key (endRead w.key a 4 6 [] s1)
  | .peer _ => peerSkipped s1
  | .job id =>
    match jobOf s1 id with
    | some j => if j.op = 0x12 then beaconFlushed id s1 else stopJob id stFlushed none s1
    | none => s1

/-- A BEACON of a queue has launches granted before a flush and others still to ask for: the flush ends the series after the granted ones
(R285) (DEDUCED, notes/assumptions/54). -/
def beaconCut (q : Nat) (j : Job) : Bool :=
  decide (j.op = 0x12) && j.accepted && j.stop.isNone && decide (jobSq j = q) && !j.grants.isEmpty &&
    decide (j.launched + j.grants.length < fldW (jobWord j 0) 32 8)

/-- Every consumer that waits on a queue ends, one with prediction resistance too, and every BEACON with launches granted from it (R140,
R145, R285) (DEDUCED, notes/assumptions/49 and 54). -/
def flushWaiters (q : Nat) (s : State) : State :=
  match queueOf s q with
  | none => s
  | some d =>
    let s1 := d.waits.foldl (fun t w => flushWaiter q w t) s
    (s1.job.jobs.filter (beaconCut q)).foldl (fun t j => beaconFlushed j.id t) s1

/-- A queue leaves ON: the finished segments that were started for it go to kerf and their lanes stand at a segment boundary (R115)
(DEDUCED, notes/assumptions/121). -/
def dropSegments (q : Nat) (why : WordKerf) (s : State) : State :=
  (List.range (nLanes s)).foldl (fun t n =>
    match (laneOf t n).bind (·.seg) with
    | none => t
    | some g =>
      if g.q ≠ q then t
      else
        let k := g.words.length
        laneBoundary n (laneDemand n (updLane n (fun x => { x with seg := none })
          (updBooks (bkKerf why false k) (updBooks (bkGen (k - min 8 k)) t))))) s

/-- A flush: unallotted words go to kerf, waiting consumers end (R145). -/
def queueFlush (q : Nat) (s : State) : State :=
  match queueOf s q with
  | none => s
  | some d =>
    let s0 := d.waits.foldl (fun t w => releaseAllot q w.key t) s
    flushWaiters q (kerfQueue q .flush (fun _ _ => true) s0)

/-! ### Regions that fail -/

/-- A queue whose capacity is below 512 words enters VOID (R133) (DEDUCED, notes/assumptions/116 and 121). -/
def queueVoid (q : Nat) (s : State) : State :=
  match queueOf s q with
  | none => s
  | some d =>
    if d.st = .on ∧ capacity s d < 512 then
      let s1 := updQ q (fun x => { x with st := .void }) s
      post 0x19 q 0 (dropSegments q .fault (kerfQueue q .fault (fun _ _ => true) (flushWaiters q s1)))
    else s

/-- Every queue that a void region lies in, in turn; with no queue of 512 words left the fatal alarm is raised (R133). -/
def voidCheck (qs : List Nat) (s : State) : State :=
  let s1 := qs.foldl (fun t q => queueVoid q t) s
  if onCapacity s1 none then s1 else raiseFatal 0x08 1 s1

/-- A region retires after an uncorrectable error at one of its addresses: its unallotted words go to kerf, a spare takes its
place if there is one, and otherwise its slots become void (R126, R127). The record names the lowest queue that uses the region, 0 if none
does (DESIGN CHOICE, notes/assumptions/115). -/
def retireRegion (r : Nat) (s : State) : State :=
  let p := physRegion s r
  let qs := queuesUsing s r
  let s1 := qs.foldl (fun t q => kerfQueue q .fault (fun d e => decide (regionAt (slotAddr d e.slot) = r)) t) s
  let s2 := { s1 with stk := { s1.stk with
    regions := upd s1.stk.regions p (fun x => { x with retired := true, subOf := none }) } }
  let sp := (spares s2).head?
  let s3 := { s2 with stk := { s2.stk with regions := upd s2.stk.regions r (fun x => { x with link := sp }) } }
  let s4 := match sp with
    | some k => { s3 with stk := { s3.stk with regions := upd s3.stk.regions k (fun x => { x with subOf := some r }) } }
    | none => s3
  let s5 := post 0x18 p (qs.headD 0 + 256 * b2n sp.isSome) s4
  if sp.isSome then s5 else voidCheck qs s5

/-- A correctable error at a stack word address is counted (R125). -/
def countCe (a : Nat) (s : State) : State :=
  { s with stk := { s.stk with
      ce := s.stk.ce + 1
      regions := upd s.stk.regions (physRegion s (regionAt a)) (fun x =>
        { x with ce := if x.ce = 0xFFFF then x.ce else x.ce + 1 }) } }

/-- An uncorrectable error at a stack word address is counted and retires the region (R125, R126). -/
def handleUe (a : Nat) (s : State) : State :=
  retireRegion (regionAt a)
    { s with stk := { s.stk with ue := if s.stk.ue = 0xFFFF then s.stk.ue else s.stk.ue + 1 } }

/-- The highest stack word address inside a queue that occupies its range (DEDUCED, notes/assumptions/51). -/
def patrolEnd (s : State) : Nat :=
  (s.stk.queues.map (fun d => if occupies d then d.base.toNat * 512 + depth d else 0)).foldl max 0

/-- The patrol reads one word of a queue's range; a pass ends with the highest word (R125) (DEDUCED, notes/assumptions/51; DESIGN CHOICE,
notes/assumptions/74). -/
def patrolRead (a : Nat) (e : EccResult) (s : State) : State :=
  if halted s || !s.stk.queues.any (fun d => occupies d && decide (d.base.toNat * 512 ≤ a) &&
      decide (a < d.base.toNat * 512 + depth d)) || regionVoid s (regionAt a) then s
  else
    let s1 := if a + 1 = patrolEnd s then { s with stk := { s.stk with passes := s.stk.passes + 1 } } else s
    match e with
    | .ok => s1
    | .corrected => countCe a s1
    | .uncorrectable => handleUe a s1

/-! ### Writing segments -/

/-- The slots that the next n words of a queue take and the write pointer after them: the writer steps over a void region
when the free space allows it (R133). -/
def placeSlots (s : State) (d : DQueue) : Nat → Nat → Nat → Option (List Nat × Nat)
  | 0, _, w => some ([], w)
  | _, 0, _ => none
  | n + 1, fuel + 1, w =>
    let free := depth d - ptrDiff d (markPtr { d with wptr := w }) w
    let a := slotAddr d w
    if regionVoid s (regionAt a) then
      let skip := 8192 - a % 8192
      if skip + 64 ≤ free then placeSlots s d (n + 1) fuel ((w + skip) % (2 * depth d)) else none
    else if free = 0 then none
    else (placeSlots s d n fuel ((w + 1) % (2 * depth d))).map (fun r => (w :: r.1, r.2))

/-- The first queue in a lane's order that takes a segment of n words, with the slots they take and the write pointer after them; none
while none takes one, or while its writer waits at a void region (R115, R133, R134). -/
def offerTo (s : State) (lane nextQ n : Nat) : Option (Nat × List Nat × Nat) :=
  ((offerOrder s lane nextQ).find? (fun q => ((queueOf s q).map offerOk).getD false)).bind (fun q =>
    (queueOf s q).bind (fun d => (placeSlots s d n (n + 130) d.wptr).map (fun r => (q, r.1, r.2))))

/-- The writer of a queue passes the void regions it stands at once the free space allows it (R133). -/
def passVoid (q : Nat) : Nat → State → State
  | 0, s => s
  | fuel + 1, s =>
    match queueOf s q with
    | none => s
    | some d =>
      let a := slotAddr d d.wptr
      let skip := 8192 - a % 8192
      if d.st = .on ∧ regionVoid s (regionAt a) ∧ skip + 64 ≤ freeSpace d then
        passVoid q fuel (updQ q (fun x => { x with wptr := (x.wptr + skip) % (2 * depth x) }) s)
      else s

/-- Every writer that waits at a void region goes on as far as it may (R133). -/
def passVoids (s : State) : State :=
  if (List.range (nRegions s)).any (regionVoid s) then (List.range 16).foldl (fun t q => passVoid q 130 t) s else s

/-- The first segment of all becomes resident: delivery begins (R340). -/
def deliveryReady (q : Nat) (s : State) : State :=
  if s.sil.delivReady then s else post 0x73 q 0 { s with sil := { s.sil with delivReady := true } }

/-- The write port writes words of a segment into a queue (R134, R135). -/
def writeSegment (q : Nat) (slots : List Nat) (w : Nat) (ws : List Word) (tag : Tag) (s : State) : State :=
  match queueOf s q with
  | none => s
  | some d =>
    let t := { tag with t := s.clk.slow }
    let s1 := (slots.zip ws).foldl (fun u e => arrayWrite (slotAddr d e.1) e.2 u) s
    let s2 := relevel q (fun x => { x with
      ents := x.ents ++ slots.map (fun k => ⟨k, t, .res⟩), wptr := w }) (updBooks (bkToResident slots.length) s1)
    deliveryReady q s2

/-- A lane offers its finished segment (R115, R134): an accepted one is written whole, and its lane stands at a segment boundary (DESIGN
CHOICE, notes/assumptions/40). -/
def segmentOffer (n : Nat) (s : State) : State :=
  match laneOf s n with
  | none => s
  | some l =>
    match l.seg with
    | none => s
    | some g =>
      match offerTo s n l.nextQ g.words.length with
      | none => s
      | some (q, slots, w) =>
        let s1 := updLane n (fun x => { x with seg := none, nextQ := (q + 1) % 16 })
          (updBooks (bkGen (g.words.length - min 8 g.words.length)) s)
        laneBoundary n (laneDemand n (writeSegment q slots w g.words g.tag s1))

/-! ### Lane output -/

/-- The tag of what a lane generates now (R104). -/
def laneTag (s : State) (n : Nat) (l : Lane) : Tag := ⟨n, l.gen, l.marked, s.clk.slow⟩

/-- A lane makes a Generate call for k words: the first waiting MIX piece is its additional input, and the words count in its
output (R99, R105, R112). -/
def laneGenerate (n k : Nat) (l : Lane) (s : State) : List Word × State :=
  let r := l.drbg.words k (l.pieces.head?.map (·.data))
  (r.1, pieceAbsorbed n (updLane n (fun x => { x with drbg := r.2, out := x.out + 8 * k, segs := x.segs + 1 }) s))

/-- The prediction-resistance consumer that a key names: its queue and its wait. -/
def prWaiter (s : State) (key : Nat) : Option (Nat × Waiter) :=
  ((List.range 16).flatMap (fun q => (((queueOf s q).map (·.waits)).getD []).map (fun w => (q, w)))).find?
    (fun p => p.2.pr && decide (p.2.key = key))

/-- The words a cut call released and a consumer or the write port took: all but those in the output registers (R118) (DEDUCED,
notes/assumptions/41). -/
def takenOf (cut : Option Nat) (k : Nat) : Nat :=
  match cut with
  | none => k
  | some c => min k (2 * c) - min 8 (min k (2 * c))

/-- The words a cut call leaves in the output registers (R118) (DEDUCED, notes/assumptions/41). -/
def leftOf (cut : Option Nat) (k : Nat) : Nat :=
  match cut with
  | none => 0
  | some c => min 8 (min k (2 * c))

/-- The self-check disagreed in this call: the words left in the output registers go to kerf and the lane enters FAULT (R117, R118)
(DEDUCED, notes/assumptions/41). -/
def cutLane (n left : Nat) (s : State) : State := laneFault n 1 (updBooks (bkKerf .fault false left) s)

/-- A read of the compatibility window has taken the words of its refresh; the next read takes words of the queue again (R123). -/
def refreshUsed (s : State) : State :=
  if s.stk.cmpBit then s else { s with stk := { s.stk with cmpLane := none, cmpAcc := none } }

/-- A lane serves the prediction-resistance consumer at its head with one call of the size of its grant, once the words have room where
they go (R14, R99, R110). -/
def laneServe (n : Nat) (l : Lane) (p : PrReq) (cut : Option Nat) (s : State) : State :=
  match (prWaiter s p.key).filter (fun x => wordRoom s x.2) with
  | none => s
  | some (q, w) =>
    let r := laneGenerate n w.need l s
    let ws := (r.1.take (takenOf cut w.need)).map (fun v => AWord.mk v (laneTag s n l) none)
    let s1 := updBooks (bkGen (ws.length + leftOf cut w.need)) r.2
    let s2 := if ws.isEmpty then s1 else giveWords w ws (dropWaiter q w.key s1)
    let s3 := match w.what with
      | .job _ => s2
      | _ => if cut.isNone then prDrop w.key (refreshUsed s2) else s2
    if cut.isSome then cutLane n (leftOf cut w.need) s3 else laneBoundary n (laneDemand n s3)

/-- A lane makes a segment for its queues; back-pressured, it makes none (R13, R99, R115). `cut` is the AES block at which the self-check
disagrees, if it does: what the write port took before that stays as a short segment (R118, R134) (DESIGN CHOICE, notes/assumptions/40).
-/
def laneProduce (n : Nat) (l : Lane) (cut : Option Nat) (s : State) : State :=
  match offerTo s n l.nextQ 64 with
  | none => s
  | some (q, slots, _) =>
    let r := laneGenerate n 64 l s
    let tag := laneTag s n l
    match cut with
    | none =>
      laneDemand n (updLane n (fun x => { x with seg := some ⟨r.1, tag, q⟩ }) (updBooks (bkGen 8) r.2))
    | some _ =>
      let k := takenOf cut 64
      let s1 := updBooks (bkGen (k + leftOf cut 64)) r.2
      let s2 := if k = 0 then s1 else
        writeSegment q (slots.take k) ((slots.getD k ((slots.getLastD 0) + 1)) % (2 * (((queueOf s q).map depth).getD 1)))
          (r.1.take k) tag s1
      cutLane n (leftOf cut 64) s2

/-- A lane completes one Generate call (R99, R105 to R110). A disagreement of the self-check puts a lane in FAULT in every state in which
it works: in a call, in the Update steps of a seed it waits for, and in its tests (R117) (DESIGN CHOICE, notes/assumptions/40). -/
def laneSegment (n : Nat) (cut : Option Nat) (s : State) : State :=
  match laneOf s n with
  | none => s
  | some l =>
    if l.st = .run ∨ l.st = .stretch then
      if l.seg.isSome then s
      else
        match l.pr with
        | p :: _ => if p.seeded then laneServe n l p cut s else s
        | [] => laneProduce n l cut s
    else onlyIf (cut.isSome && (l.st.inService || decide (l.st = .kat))) (laneFault n 1) s

/-- A lane without demand for output absorbs one MIX piece by a Generate call of zero bits (R112) (DEDUCED, notes/assumptions/44). -/
def mixAbsorb (n : Nat) (s : State) : State :=
  match laneOf s n with
  | none => s
  | some l =>
    let able := decide (l.st = .run) || decide (l.st = .stretch) || decide (l.st = .wait)
    let demand := decide (l.st ≠ .wait) &&
      (match l.pr with
       | p :: _ => p.seeded && ((prWaiter s p.key).map (fun x => wordRoom s x.2)).getD false
       | [] => (offerTo s n l.nextQ 64).isSome)
    match l.pieces with
    | [] => s
    | p :: _ =>
      if !able || l.seg.isSome || demand then s
      else pieceAbsorbed n (updLane n (fun x => { x with drbg := (l.drbg.generate 0 (some p.data)).2 }) s)

/-! ### Age -/

/-- A tag time has reached the age limit (R142). -/
def tooOld (s : State) (t : Nat) : Bool := decide (msToSlow s.stk.maxAge.toNat ≤ s.clk.slow - t)

/-- Words of a queue whose age has reached the limit go to kerf (R139, R142) (DEDUCED, notes/assumptions/52). -/
def ageScrub (q : Nat) (s : State) : State :=
  match queueOf s q with
  | none => s
  | some d =>
    if d.ents.any (fun e => decide (e.st = .res) && tooOld s e.tag.t) then
      updQ q (fun x => { x with aged := true }) (kerfQueue q .age (fun _ e => tooOld s e.tag.t) s)
    else s

/-! ### Grants -/

/-- The waiter that the next grant of a queue goes to (R195, R199, R207). -/
def nextWaiter (s : State) (q : Nat) (d : DQueue) : Option Waiter :=
  (rrHead d.rr).bind (fun r =>
    argMin (fun w => if w.front then w.ord else s.clk.ord + w.ord)
      (d.waits.filter (fun w => !w.pr && decide (w.req = r) && !heldBack s q d w)))

/-- Allot words to a waiting consumer and read them, the first unallotted ones first, until its grant is complete or none is left; a word
with an uncorrectable error retires its region and is replaced by the next good one. The consumer holds what was read without error, and a
wait that the retirement ends gets nothing (R125, R126, R133, R138). -/
def readWords (q key : Nat) : Nat → GrantEcc → State → State
  | 0, _, s => s
  | fuel + 1, ecc, s =>
    match queueOf s q, waitOf s q key with
    | some d, some w =>
      if w.need ≤ w.held.length then s
      else
        match d.ents.find? (fun e => decide (e.st = .res)) with
        | none => s
        | some e =>
          let a := slotAddr d e.slot
          let s1 := updQ q (setEnts [e.slot] (.allot key)) s
          match ecc with
          | .uncorrectable :: es =>
            readWords q key fuel es (handleUe a (countQKerf q 1 (kerfStack .fault [(q, e.slot)] s1)))
          | _ =>
            let s2 := updWait q key (fun x => { x with held := x.held ++ [⟨arrayRead s a, e.tag, some (q, e.slot)⟩] }) s1
            readWords q key fuel (ecc.drop 1) (onlyIf (decide (ecc.head? = some .corrected)) (countCe a) s2)
    | _, _ => s

/-- The queue allots its next grant: the consumer that its arbitration names gets consecutive words, once enough are there
(R138, R139, R197, R199). -/
def grantAllot (q : Nat) (ecc : GrantEcc) (s : State) : State :=
  if halted s then s
  else
    let s0 := syncQ q (ageScrub q s)
    match queueOf s0 q with
    | none => s0
    | some d =>
      match nextWaiter s0 q d with
      | none => s0
      | some w =>
        if d.st ≠ .on ∨ unallotted d + w.held.length < w.need then
          updQ q (fun x => { x with underrun := true }) s0
        else
          let s1 := readWords q w.key (d.ents.length + 1) ecc s0
          match waitOf s1 q w.key with
          | none => s1
          | some v =>
            if v.held.length < v.need then s1
            else
              syncQ q (giveWords v v.held (updQ q (fun x => { x with
                rr := rrUse (weightOf s v.req) x.rr, waits := x.waits.filter (fun y => decide (y.key ≠ w.key)) }) s1))

/-! ### Reads of delivery windows -/

/-- The status that ends a delivery-window read at once, with its STK_ERR bit, in the order of R144; none when it waits. -/
def readEnds (s : State) (a : Acc) (q len : Nat) : Option (Nat × Bool) :=
  if !mayRead s a.req q then some (2, false)
  else if halted s then some (8, false)
  else if len < 4 ∨ 256 < len ∨ len % 4 ≠ 0 then some (3, true)
  else if ((queueOf s q).map (·.st)) ≠ some .on then some (3, false)
  else none

/-- A held read takes a held slot of its port; the control core waits on its access (R245) (DEDUCED, notes/assumptions/53). -/
def takeSlot (a : Acc) (key : Nat) (s : State) : State :=
  match pathPort a.path with
  | some p => { s with ring := updPort s.ring p (fun x => { x with heldKeys := x.heldKeys ++ [key] }) }
  | none =>
    if a.path = .core then { s with core := { s.core with waiting := true } }
    else { s with lsp := { s.lsp with waiting := true } }

/-- The path has room for another stalling read (R200) (DEDUCED, notes/assumptions/53). -/
def slotFree (s : State) (a : Acc) : Bool :=
  match pathPort a.path with
  | some p => decide ((portOf s.ring p).heldKeys.length < 64)
  | none => if a.path = .core then !s.core.waiting else !s.lsp.waiting

/-- Begin a stalling read: it waits for its grant, from a lane when a refresh asks for it (R123, R143) (DEDUCED, notes/assumptions/53). -/
def readWait (a : Acc) (q len : Nat) (what : WaitFor) (cmp : Bool) (s : State) : State :=
  let key := s.clk.ord
  let need := (len + 7) / 8
  let pr := cmp && s.stk.cmpAcc.isSome
  let w := mkWaiter s key a.req need what key false pr q
  let s1 := addWaiter q w (takeSlot a key s)
  if !pr || s.stk.cmpBit then s1
  else
    match s.stk.cmpLane with
    | none => prPlace q key (s.stk.cmpAcc.getD key) s1
    | some n => updLane n (fun l => { l with pr := l.pr ++ [⟨key, key, true⟩] }) s1

/-- A stalling read of a queue, for an access of its own or as part of a register read (R143, R144, R153, R244) (DEDUCED,
notes/assumptions/53). -/
def stallingRead (a : Acc) (q len : Nat) (what : WaitFor) (hold cmp : Bool) (s : State) : State :=
  if (pathPort a.path).isSome && !hold then
    match pathPort a.path with
    | some p => sendReply p (plainTx .resp (replyFrame s a false 3 [] false)) s
    | none => s
  else if !slotFree s a then s
  else
    match readEnds s a q len with
    | none => readWait a q len what cmp s
    | some (st, bad) =>
      let s1 := if bad then { s with stk := { s.stk with err := s.stk.err ||| 1 } } else s
      bumpOrd (endRead s.clk.ord a len st [] (takeSlot a s.clk.ord s1))

/-- A read of a delivery window (R143, R144, R244) (DEDUCED, notes/assumptions/53). -/
def deliveryRead (a : Acc) (q len : Nat) (hold cmp : Bool) (s : State) : State := stallingRead a q len (.read a len) hold cmp s

/-- A refresh of the compatibility window: a prediction-resistance request on queue 0 (R123) (DEDUCED, notes/assumptions/104). -/
def cmpRefresh (s : State) : State :=
  if s.stk.cmpBit then s
  else bumpOrd (placeRefresh { s with stk := { s.stk with cmpBit := true, cmpLane := none, cmpAcc := some s.clk.ord } })

/-! ### The stall limit -/

/-- A wait that began at a tick and a CK_SLOW time has lasted the stall limit (R140). -/
def stallOver (s : State) (tick slow : Nat) : Bool :=
  let us := s.stk.stallUs.toNat
  if s.tim.clkOk then decide (usTicks us ≤ s.clk.ticks - tick)
  else decide ((us * 32768 + 999999) / 1000000 ≤ s.clk.slow - slow)

/-- A lane is stalled at its reseed cap for want of a seed: in START or WAIT, asking (R67). -/
def laneStalled (s : State) (n : Nat) : Bool :=
  ((laneOf s n).map (fun l => (decide (l.st = .start) || decide (l.st = .wait)) && l.asked.isSome)).getD false

/-- Every one of some lanes is stalled, or none of them is in service (R67). -/
def noEntropy (s : State) (lanes : List Nat) : Bool :=
  lanes.all (fun n => laneStalled s n) || !lanes.any (inService s)

/-- The lanes a waiting job may draw from: those bound to its queue, or the lane it chose (R67, R110). -/
def drawLanes (s : State) (q : Nat) (w : Waiter) : List Nat :=
  if w.pr then (List.range (nLanes s)).filter (fun n =>
    ((laneOf s n).map (fun l => l.pr.any (fun p => decide (p.key = w.key)))).getD false)
  else maskList (nLanes s) (bindOf s q)

/-- The stall limit ends a consumer's wait on a queue (R67, R140, R234, R268, R285). -/
def stallWaiter (q : Nat) (w : Waiter) (s : State) : State :=
  let empty := noEntropy s (drawLanes s q w)
  let s1 := updQ q (fun d => { d with stallEnd := true, stallEnds := d.stallEnds + 1 })
    (dropWaiter q w.key (releaseAllot q w.key s))
  match w.what with
  | .read a len => prDrop w.key (endRead w.key a len 5 [] s1)
  | .burst a _ _ => prDrop w.key (endRead w.key a 4 5 [] s1)
  | .peer _ => peerSkipped s1
  | .job id =>
    match jobOf s1 id with
    | none => s1
    | some j =>
      stopJob id (if empty ∧ j.op ≠ 0x21 then stNoEntropy else stStall) (if j.op = 0x12 then some .reject else none) s1

/-- A job has a frame or a read that no port carries (R167) (DEDUCED, notes/assumptions/89). -/
def lacksPath (s : State) (j : Job) : Bool :=
  !portUp s && (!(unsentOf j.id false s.ring).isEmpty || (j.stop.isNone &&
    ((s.ring.pa.txq ++ s.ring.pb.txq).any (fun t => decide (t.kind = .read j.id)) ||
      (decide (j.op = 0x12) && !j.grants.isEmpty && reached s (beaconDue j j.launched)))))

/-- A wait reaches its stall limit (R67, R140, R167, R172) (DEDUCED, notes/assumptions/55). -/
def stallExpire (w : WaitId) (s : State) : State :=
  match w with
  | .queue q key =>
    match (queueOf s q).bind (fun d => d.waits.find? (fun x => decide (x.key = key))) with
    | some x => if stallOver s x.tick x.slow then stallWaiter q x s else s
    | none => s
  | .seeds id =>
    match jobOf s id with
    | some j =>
      if j.op = 0x09 ∧ j.stop.isNone ∧ j.phase = .waiting ∧ stallOver s j.waitTick j.waitSlow then
        stopJob id (if noEntropy s (maskList (nLanes s) j.mask.toNat) then stNoEntropy else stStall) none s
      else s
    | none => s
  | .path id =>
    match jobOf s id with
    | some j =>
      if j.accepted ∧ j.stop ≠ some stStall ∧ lacksPath s j ∧ stallOver s (max s.ring.noPath j.waitTick) j.waitSlow then
        failJob id stStall (if j.op = 0x12 then some .reject else if j.op.toNat ≤ 3 then none else some .failover) s
      else s
    | none => s

/-! ### The replay mark -/

/-- Frames in a port's store and requests that await their acknowledgement, with the words they carry, by what finishes them:
kind, slots, words, and the tick of the first send. -/
def openFrames (s : State) (p : PortId) : List (TxKind × List (Nat × Nat) × Nat × Nat) :=
  let req (k : TxKind) : Bool := match k with
    | .data _ _ => true
    | _ => false
  ((portOf s.ring p).store.filter (fun t => !req t.kind)).map (fun t => (t.kind, t.refs, t.words, t.sent)) ++
    (s.ring.outst.filter (fun o => decide (o.port = p) && req o.kind)).map (fun o => (o.kind, o.refs, o.words, o.sent))

/-- A send is overdue: unacknowledged for at least 1 ms (R147) (DEDUCED, notes/assumptions/56). -/
def overdue (s : State) (sent : Nat) : Bool := decide (125000 ≤ s.clk.ticks - sent)

/-- Drop from a port whatever has one of these kinds: the frame is never sent again (R147), and the held slot of a read frees with its
credit (R249). -/
def dropKinds (p : PortId) (ks : List TxKind) (s : State) : State :=
  let gone := (portAt s p).heldKeys.filter (fun k => ks.contains (.held k))
  { s with ring := { updPort s.ring p (fun x => { x with
      store := x.store.filter (fun t => !ks.contains t.kind)
      heldKeys := x.heldKeys.filter (fun k => !ks.contains (.held k)), returns := upd x.returns 1 (· + gone.length) }) with
    outst := s.ring.outst.filter (fun o => !(decide (o.port = p) && ks.contains o.kind)) } }

/-- A write of a job is finished otherwise than by its acknowledgement. -/
def endWrite (id no : Nat) (st : WState) (s : State) : State :=
  updJob id (fun j => { j with writes := j.writes.map (fun w => if w.no = no then { w with st := st } else w) }) s

/-- The oldest beacon frame of a job still open is finished. -/
def endBeacon (id : Nat) (st : WState) (s : State) : State :=
  match (jobOf s id).bind (fun j => j.writes.find? (fun w => decide (w.st = .sent))) with
  | some w => endWrite id w.no st s
  | none => s

/-- The mark was forced over a job's words: it issues no further write and ends with STALL_LIMIT (R210) (DEDUCED, notes/assumptions/55).
-/
def forceJob (k : TxKind) (s : State) : State :=
  match k with
  | .data id no => endWrite id no .forced (failJob id stStall (some .failover) s)
  | .beacon id => endBeacon id .forced (failJob id stStall (some .reject) s)
  | _ => s

/-- The port and send time of the word at a queue's mark, if it went out over a ring port and is not finished. -/
def markFrame (s : State) (q : Nat) : Option (PortId × Nat) :=
  match (queueOf s q).bind (fun d => d.ents.head?) with
  | none => none
  | some e =>
    if e.st ≠ .fly then none
    else
      [PortId.a, PortId.b].findSome? (fun p =>
        ((openFrames s p).find? (fun f => f.2.1.contains (q, e.slot))).map (fun f => (p, f.2.2.2)))

/-- The node forces the mark of a queue forward (R147, R210) (DEDUCED, notes/assumptions/56). -/
def markForced (q : Nat) (s : State) : State :=
  match markFrame s q with
  | none => s
  | some (p, t) =>
    if !overdue s t then s
    else
      let fs := (openFrames s p).filter (fun f => overdue s f.2.2.2 && f.2.1.any (fun r => decide (r.1 = q)))
      let s1 := dropKinds p (fs.map (·.1)) s
      let s2 := fs.foldl (fun u f => countQKerf q f.2.2.1 (kerfFlight .failover f.2.1 f.2.2.1 u)) s1
      let s3 := post 0x1C q (portIdx p) (updQ q (fun d => { d with markForced := true }) s2)
      fs.foldl (fun u f => forceJob f.1 u) s3

/-- A result write of a DRAWN or DRAWP has no acknowledgement after 1 ms: it is dropped and its job ends (R151, R210) (DEDUCED,
notes/assumptions/56). -/
def resultDrop (p : PortId) (txn : BitVec 16) (s : State) : State :=
  match s.ring.outst.find? (fun o => decide (o.port = p) && decide (o.txn = txn)) with
  | none => s
  | some o =>
    match o.kind with
    | .data id _ =>
      let dist := ((jobOf s id).map (fun j => decide (j.op = 0x02) || decide (j.op = 0x03))).getD false
      if dist && overdue s o.sent then forceJob o.kind (dropKinds p [o.kind] s) else s
    | _ => s

/-! ### Queue configuration -/

/-- The watermarks of a queue clamped to its depth (R136). -/
def clampWm (d : DQueue) (high low : Nat) : DQueue :=
  let h := clampN 1 (depth d / 64) high
  { d with high := BitVec.ofNat 15 h, low := BitVec.ofNat 15 (clampN 0 (h - 1) low) }

/-- The range of a queue can be enabled (R130). -/
def enableOk (s : State) (q : Nat) (d : DQueue) : Bool :=
  let lo := d.base.toNat * 512
  let hi := lo + depth d
  decide (d.st = .off) && decide (d.base.toNat % 2 ^ d.size.toNat = 0) && decide (hi ≤ nStackWords s)
    && (List.range 16).all (fun k => decide (k = q) ||
        ((queueOf s k).map (fun e => !occupies e || decide (hi ≤ e.base.toNat * 512)
          || decide (e.base.toNat * 512 + depth e ≤ lo))).getD true)
    && (List.range (nRegions s)).all (fun r => !uses d r || (regionOf s r).subOf.isNone)

/-- A write of EN = 1 (R130). -/
def queueOn (q : Nat) (s : State) : State :=
  match queueOf s q with
  | none => s
  | some d =>
    if d.st = .on ∨ d.st = .void then s
    else if enableOk s q d then
      let d1 := clampWm { d with wptr := 0, ents := [], st := .on, rr := Rr.empty, frozen := none } d.high.toNat d.low.toNat
      queueVoid q (relevel q (fun _ => d1) s)
    else stkRefuse 3 s

/-- A write of EN = 0; `flush` is FLUSH of the same write (R115, R131) (DEDUCED, notes/assumptions/47 and 121). -/
def queueOffWrite (q : Nat) (flush : Bool) (s : State) : State :=
  match queueOf s q with
  | none => s
  | some d =>
    if d.st = .off ∨ d.st = .draining then s
    else if d.st = .on ∧ !onCapacity s (some q) then onlyIf flush (queueFlush q) (stkRefuse 4 s)
    else
      let s1 := dropSegments q .flush (updQ q (fun x => { x with st := .draining }) (queueFlush q s))
      updQ q advanceMark s1

/-- A write of DQ_CTRL_n (R130, R131, R136, R145, R195). -/
def dqCtrlWrite (q : Nat) (v : W32) (s : State) : State :=
  let s1 := updQ q (fun d => { d with ordered := bitAt v 1, highEvt := bitAt v 3, lowEvt := bitAt v 4 }) s
  if bitAt v 0 then onlyIf (bitAt v 7) (queueFlush q) (queueOn q s1) else queueOffWrite q (bitAt v 7) s1

/-- A write of DQ_BASE_n or DQ_SIZE_n (R129). -/
def dqConfigWrite (q : Nat) (size : Bool) (v : W32) (s : State) : State :=
  match queueOf s q with
  | none => s
  | some d =>
    let top := if s.pwr.is832 then 10 else 11
    if d.st ≠ .off ∨ (size ∧ top < fld v 0 4) then stkRefuse 2 s
    else if size then updQ q (fun x => { x with size := v.setWidth 4 }) s
    else updQ q (fun x => { x with base := BitVec.ofNat 11 (fld v 0 (if s.pwr.is832 then 10 else 11)) }) s

/-- A write of DQ_WM_n (R136) (DEDUCED, notes/assumptions/52). -/
def dqWmWrite (q : Nat) (v : W32) (s : State) : State := updQ q (fun d => clampWm d (fld v 16 15) (fld v 0 15)) s

/-- A write of STK_TAG_SEL captures the tag of the segment at an offset from the read pointer (R135). -/
def stkTagSel (v : W32) (s : State) : State :=
  let q := fld v 24 4
  let n := fld v 0 15 * 64
  let e := (queueOf s q).bind (fun d => (d.ents.filter (fun x => x.st.here))[n]?)
  { s with stk := { s.stk with
      tagSel := v &&& 0x0F007FFF
      tagInfo := match e with
        | some x => packR [(31, 1), (30, b2n x.tag.marked), (24, x.tag.lane), (0, min 300000 (slowToMs (s.clk.slow - x.tag.t)))]
        | none => 0
      tagGen := (e.map (·.tag.gen)).getD 0 } }

/-- The overwrite of the array ends (R152). -/
def clearDone (s : State) : State :=
  if s.stk.clearing then { s with stk := { s.stk with clearing := false, array := [] } } else s

end Sys2Proof.Machine
end

