-- ==== Sys2Proof/Machine/Bench.lean ====
section
/-! DEFINITION. The benches and the hash unit (09_big_number_engine.md): ownership and windows, which bench runs a job, verdicts,
clears, known-answer runs, errors of the microcode store, and the turns of the hash unit. -/

namespace Sys2Proof.Machine

/-- A bench by its index. -/
def benchOf (s : State) (n : Nat) : Option Bench := s.bne.benches[n]?

/-- Change a bench. -/
def updBench (n : Nat) (f : Bench → Bench) (s : State) : State :=
  { s with bne := { s.bne with benches := upd s.bne.benches n f } }

/-- Set an error bit of BNE_ERR and write its BENCH_REFUSED record. -/
def bneRefuse (n bit : Nat) (s : State) : State :=
  post 0x42 n bit { s with bne := { s.bne with err := s.bne.err ||| BitVec.ofNat 5 (2 ^ bit) } }

/-! ### Jobs that wait for a bench -/

/-- A job waits for a bench (R222): a BATCH that has started, or a VERIFY whose hash pass is over or not needed. -/
def waitsBench (j : Job) : Bool :=
  j.accepted && j.stop.isNone && j.bench.isNone && !j.hashing && j.read.isNone && decide (j.phase = .waiting) &&
    (decide (j.op = 0x21 ∧ j.verdict.isNone) || (decide (j.op = 0x20) && (j.head.getLsbD 53 || j.digest.isSome)))

/-- The jobs that wait for a bench, in order of acceptance. -/
def benchWaiters (s : State) : List Job := s.job.jobs.filter waitsBench

/-- The round robin over benches follows the requesters with a job that waits (R222) (DEDUCED, notes/assumptions/68). -/
def syncBench (s : State) : State :=
  { s with bne := { s.bne with benchRr := rrSync (((benchWaiters s).map (·.req)).eraseDups) s.bne.benchRr } }

/-- The bench a waiting job may start on now: the lowest-index IDLE one without owner, or the one its requester owns (R222) (DEDUCED,
notes/assumptions/68). -/
def suitable (s : State) (j : Job) : Option Nat :=
  (List.range (nBenches s)).find? (fun n =>
    match benchOf s n with
    | some b => decide (b.st = .idle) && (if jobBw j then decide (b.owner = some j.req) else b.owner.isNone)
    | none => false)

/-- The next start: the first requester in the order of the round whose earliest waiting job has a suitable bench (DEDUCED,
notes/assumptions/68). -/
def benchPick (s : State) : Option (Job × Nat) :=
  let r := s.bne.benchRr
  (r.cur ++ r.had ++ r.app).findSome? (fun q =>
    ((benchWaiters s).find? (fun j => decide (j.req = q))).bind (fun j => (suitable s j).map (fun n => (j, n))))

/-- Serve one unit to a requester. One that is passed because it cannot start keeps its turn, and the one that starts ahead of it has had
its own; one that has had its turn starts again only in the next round, which begins when nobody left in this one can start (R197, R222)
(DEDUCED, notes/assumptions/68). -/
def rrServe (w : Nat) (q : ReqId) (r : Rr) : Rr :=
  let r1 := if r.cur.contains q then r else ⟨r.had ++ r.cur ++ r.app, 0, [], [], []⟩
  if r1.cur.head? = some q then rrUse w r1
  else { r1 with cur := r1.cur.filter (fun x => decide (x ≠ q)), had := r1.had ++ [q] }

/-- A waiting job starts on a bench and fetches its operands (R222) (DEDUCED, notes/assumptions/67). -/
def benchJobStart (s : State) : State :=
  if halted s then s
  else
    let s0 := syncBench s
    match benchPick s0 with
    | none => s0
    | some (j, n) =>
      let s1 := { s0 with bne := { s0.bne with benchRr := rrServe (weightOf s0 j.req) j.req s0.bne.benchRr } }
      fetchRun j.id 400 (updBench n (fun b => { b with st := .busy, job := some j.id, phase := 1 })
        (updJob j.id (fun x => { x with bench := some n, phase := .running }) s1))

/-- The waiting jobs that name their operands by offset end when their requester owns no bench any longer (R223, R236) (DEDUCED,
notes/assumptions/69). -/
def denyOrphans (s : State) : State :=
  ((benchWaiters s).filter (fun j => jobBw j && (ownedBench s j.req).isNone)).foldl
    (fun t j => stopJob j.id stDenied none t) s

/-- When no bench is in service, the jobs that wait for one end (R223). -/
def starveWaiters (s : State) : State :=
  if benchesUp s then s else (benchWaiters s).foldl (fun t j => stopJob j.id stNoEntropy none t) s

/-- A release that waited for the owner's job takes effect, and jobs that lost their bench end (R219, R223) (DEDUCED,
notes/assumptions/68). -/
def benchSettle (s : State) : State :=
  starveWaiters (denyOrphans { s with bne := { s.bne with benches := s.bne.benches.map (fun b =>
    if b.relPend && b.job.isNone then { b with owner := none, relPend := false, zeroAll := true, mem := [] } else b) } })

/-- A job of a requester waits for a bench (R221). -/
def ownerWaits (s : State) (r : ReqId) : Bool := (benchWaiters s).any (fun j => decide (j.req = r))

/-- The idle time of a bench starts anew while it is not IDLE, has no owner, or a job of its owner waits (R221). -/
def idleTouch (s : State) : State :=
  { s with bne := { s.bne with benches := s.bne.benches.map (fun b =>
      if b.st ≠ .idle ∨ ((b.owner.map (ownerWaits s)).getD true) then { b with idleSlow := s.clk.slow }
      else b) } }

/-! ### Ownership and windows -/

/-- A claim of a bench may be granted (R219). -/
def claimOk (s : State) (r : ReqId) (n : Nat) : Bool :=
  ((benchOf s n).map (fun b => decide (b.st = .idle) && b.owner.isNone)).getD false &&
    (ownedBench s r).isNone && permits s r .verify &&
    (List.range (nBenches s)).any (fun k => decide (k ≠ n) &&
      ((benchOf s k).map (fun b => b.st.inService && b.owner.isNone)).getD false)

/-- A write of BNE_OWN_n with CLAIM = 1 (R219) (DEDUCED, notes/assumptions/69). -/
def benchClaim (r : ReqId) (n : Nat) (s : State) : State :=
  if claimOk s r n then updBench n (fun b => { b with owner := some r, idleSlow := s.clk.slow }) s
  else bneRefuse n 0 s

/-- Ownership of a bench ends and its operand memory is zeroized (R219). -/
def endOwner (n : Nat) (s : State) : State :=
  updBench n (fun b => { b with owner := none, relPend := false, mem := [], zeroAll := true }) s

/-- A write of BNE_OWN_n with RELEASE = 1: by the owner it takes effect now or when its job ends (R219) (DEDUCED, notes/assumptions/69).
-/
def benchRelease (r : ReqId) (n : Nat) (s : State) : State :=
  match benchOf s n with
  | none => s
  | some b =>
    if b.owner ≠ some r then bneRefuse n 1 s
    else if b.job.isSome then updBench n (fun x => { x with relPend := true }) s
    else benchSettle (endOwner n s)

/-- The idle time of an owned bench runs out (R221). -/
def benchIdleTimeout (n : Nat) (s : State) : State :=
  match benchOf s n with
  | none => s
  | some b =>
    match b.owner with
    | none => s
    | some r =>
      if s.bne.idleMs ≠ 0 ∧ b.st = .idle ∧ msToSlow s.bne.idleMs.toNat ≤ s.clk.slow - b.idleSlow ∧ !ownerWaits s r then
        post 0x43 n r.toNat (benchSettle (endOwner n s))
      else s

/-- An access to a bench operand window: its status, its data, and the state after it (R218, R220) (DEDUCED, notes/assumptions/70). -/
def benchWindow (r : ReqId) (n off : Nat) (op : WindowOp) (s : State) : Nat × List Byte × State :=
  match benchOf s n with
  | none => (0, match op with | .read len => List.replicate len 0 | .write _ => [], s)
  | some b =>
    let len := match op with
      | .read k => k
      | .write bs => bs.length
    if b.owner ≠ some r ∨ b.st ≠ .idle then (3, [], bneRefuse n 2 s)
    else if len < 4 ∨ 256 < len ∨ len % 4 ≠ 0 ∨ off % 4 ≠ 0 then (3, [], bneRefuse n 3 s)
    else
      let s1 := updBench n (fun x => { x with idleSlow := s.clk.slow }) s
      match op with
      | .read k => (0, (memRead b.mem off k).mapIdx (fun i v => if off + i < 0x6000 then v else 0), s1)
      | .write bs => (0, [], updBench n (fun x => { x with mem := memWrite x.mem off (bs.take (0x6000 - off)) }) s1)

/-! ### Verdicts -/

/-- The bench ends its job and clears: the working area always, the user area unless the operands were named by offset
(R217, R220). -/
def benchEnd (n : Nat) (s : State) : State :=
  match benchOf s n with
  | none => s
  | some b =>
    match b.job with
    | none => s
    | some id =>
      updJob id (fun x => { x with bench := none })
        (updBench n (fun x => { x with st := .zero, job := none, phase := 6, zeroAll := wholeClear s id }) s)

/-- A job on a bench ends with a status and a count, without data to write. -/
def verdictEnd (n id : Nat) (status : BitVec 8) (count : Nat) (confirmed : Bool) (s : State) : State :=
  stopJob id status none (benchEnd n (updJob id (fun x => { x with count := count, confirmed := confirmed }) s))

/-- The two paths disagreed: no pass is released; a second mismatch of the bench makes it retire after its clear
(R229, R230). -/
def mismatch (n id : Nat) (s : State) : State :=
  match benchOf s n with
  | none => s
  | some b =>
    let m := if b.mismatch = 3 then b.mismatch else b.mismatch + 1
    post 0x40 n m.toNat (updBench n (fun x => { x with
        mismatch := m, retiring := decide (2 ≤ m.toNat), zeroAll := x.zeroAll || decide (2 ≤ m.toNat) })
      (verdictEnd n id vMismatch 0 false s))

/-- The verdict of a VERIFY: a refusal, a fail, or a pass that the confirmation agrees with or not (R227, R229). -/
def verifyVerdict (n id : Nat) (j : Job) (agree : Bool) (s : State) : State :=
  let v := verifyCode j
  if v = vPass then (if agree then verdictEnd n id stOk 1 true s else mismatch n id s)
  else verdictEnd n id v 1 false s

/-- The code of the lowest-index refused entry of a batch (R233). -/
def batchRefusal (j : Job) : Option (BitVec 8) := j.entries.findSome? (fun e => edRefusal e.key e.sig)

/-- The map of a batch whose verified entries are given by index (R233). -/
def batchMap (n : Nat) (ok : List Nat) : Word := BitVec.ofNat 64 (maskOf n (fun i => ok.contains i))

/-- A batch ends with a map (Table 9-6). -/
def batchEnd (n id : Nat) (j : Job) (ok : List Nat) (s : State) : State :=
  let status := match batchRefusal j with
    | some c => c
    | none => if ok.length = j.entries.length then stOk else vFail
  issueResult id (bytesLE 8 (batchMap j.entries.length ok).toNat) status
    (benchEnd n (updJob id (fun x => { x with count := x.entries.length, confirmed := !ok.isEmpty }) s))

/-- Live entries that verify alone (R232, step 6). -/
def batchSingles (j : Job) : List Nat :=
  ((liveEntries j).filter (fun e => edHolds e.2.key e.2.sig (leNat e.2.k))).map (·.1)

/-- The verdict of a BATCH once its checks have what they need (R232, R233). -/
def batchVerdict (n id : Nat) (j : Job) (agree : Bool) (s : State) : State :=
  let live := (liveEntries j).map (·.1)
  if live.isEmpty then batchEnd n id j [] s
  else if j.asked = 0 ∨ j.coefs.length < j.asked * setWords j then s
  else if j.asked = 2 then
    if agree && batchCheck j 1 then batchEnd n id j live s else mismatch n id s
  else if batchCheck j 0 then s
  else if !agree && !(batchSingles j).isEmpty then mismatch n id s
  else batchEnd n id j (batchSingles j) s

/-- A bench releases the verdict of its job, which has all its operands; `agree` says whether a pass is confirmed (R227 to R233) (DEDUCED,
notes/assumptions/71; DESIGN CHOICE, notes/assumptions/74). -/
def benchVerdict (n : Nat) (agree : Bool) (s : State) : State :=
  match benchOf s n with
  | none => s
  | some b =>
    match b.job.bind (jobOf s) with
    | none => s
    | some j =>
      if b.st ≠ .busy ∨ j.stop.isSome ∨ j.read.isSome ∨ (nextRead j).isSome then s
      else if j.op = 0x20 then verifyVerdict n j.id j agree s
      else batchVerdict n j.id j agree s

/-! ### Clears, retirement and known-answer runs -/

/-- A run waiting on a bench that can never take it is given up (DESIGN CHOICE, notes/assumptions/60). -/
def dropBenchKats (n : Nat) (s : State) : State :=
  match benchOf s n with
  | none => s
  | some b =>
    bneKatSettle (b.kats.foldl (fun t w => match w with
      | .job id => testUnitDone id n false t
      | _ => t) (updBench n (fun x => { x with kats := [] }) s))

/-- A bench retires with a cause (R217, R219, R230) (DEDUCED, notes/assumptions/71). -/
def retireBench (n cause : Nat) (s : State) : State :=
  post 0x41 n cause (dropBenchKats n (updBench n (fun b => { b with
    st := .retired, cause := BitVec.ofNat 2 cause, owner := none, relPend := false, retiring := false, job := none
    phase := 0, mem := [] }) s))

/-- A bench finishes its clear: IDLE, or RETIRED after a second mismatch; a waiting known-answer run comes first (R217) (DEDUCED,
notes/assumptions/71). -/
def benchClearDone (n : Nat) (s : State) : State :=
  match benchOf s n with
  | none => s
  | some b =>
    if b.st ≠ .zero then s
    else if b.retiring then benchSettle (retireBench n 1 s)
    else updBench n (fun x => { x with
      st := if x.kats.isEmpty then .idle else .kat, phase := 0, mem := if x.zeroAll then [] else x.mem
      zeroAll := false, jobs := x.jobs + 1, idleSlow := s.clk.slow }) s

/-- An uncorrectable error of the microcode store retires every bench that is not in LOAD or HALT with CAUSE 2; a job in progress ends
(R215, R217, R223). -/
def ucodeUncorrectable (s : State) : State :=
  let hit := (List.range (nBenches s)).filter (fun n =>
    ((benchOf s n).map (fun b => decide (b.st ≠ .load ∧ b.st ≠ .halt))).getD false)
  let s1 := hit.foldl (fun t n =>
    let t1 := match (benchOf t n).bind (·.job) with
      | some id => stopJob id stNoEntropy none t
      | none => t
    retireBench n 2 t1) s
  benchSettle s1

/-- A read of the microcode store finds an error (R215) (DEDUCED, notes/assumptions/72). -/
def ucodeStoreError (unc : Bool) (s : State) : State :=
  if !s.bne.loaded then s
  else if unc then
    ucodeUncorrectable (post 0x44 0 1 { s with bne := { s.bne with
      ue := if s.bne.ue = 0xFFFF then s.bne.ue else s.bne.ue + 1 } })
  else post 0x44 0 0 { s with bne := { s.bne with ce := if s.bne.ce = 0xFFFF then s.bne.ce else s.bne.ce + 1 } }

/-- A write of BNE_CMD with KAT = 1 (R238). -/
def bneKatCmd (v : W32) (s : State) : State :=
  let m := fld v 0 4
  let names := maskList 4 m
  let bad := s.bne.katBusy || (decide (m = 0) && !bitAt v 4) ||
    names.any (fun n => ((benchOf s n).map (fun b => decide (b.st = .load ∨ b.st = .retired ∨ b.st = .halt))).getD true)
  if bad then bneRefuse 0 4 s
  else
    onlyIf (bitAt v 4) (hashKat .cmd) (names.foldl (fun t n => benchKat n .cmd t) (bneRun s))

/-- A run of a unit of the bench block has ended: BNE_KAT_STAT follows, and a passed unit counts for its TEST job; a TEST whose unit
failed ends with the fatal alarm (R178, R238) (DEDUCED, notes/assumptions/38). -/
def bneKatReport (unit : Nat) (who : KatWho) (ok : Bool) (s : State) : State :=
  let s1 := bneKatSettle { s with bne := { s.bne with katFailed := s.bne.katFailed || !ok } }
  match who with
  | .job id => if ok then testUnitDone id unit true s1 else s1
  | _ => s1

/-- A known-answer run of a bench ends (R217, R238). -/
def benchKatDone (n : Nat) (ok : Bool) (s : State) : State :=
  match benchOf s n with
  | none => s
  | some b =>
    match b.kats with
    | [] => s
    | who :: rest =>
      if b.st ≠ .kat then s
      else
        if ok then
          bneKatReport n who true (updBench n (fun x => { x with
            st := if rest.isEmpty then .idle else .kat, kats := rest, katPass := true, idleSlow := s.clk.slow }) s)
        else
          raiseFatal 0x06 n (bneKatReport n who false (updBench n (fun x => { x with
            st := .halt, kats := [], katPass := false, mem := [] }) s))

/-- A known-answer run of the hash unit ends (R238). -/
def hashKatDone (ok : Bool) (s : State) : State :=
  match s.bne.hashKats with
  | [] => s
  | who :: rest =>
    let s1 := { s with bne := { s.bne with hashKats := rest, hashPass := ok } }
    let s2 := bneKatReport 0 who ok s1
    if ok then s2 else raiseFatal 0x05 0 s2

/-! ### The hash unit -/

/-- A job's hash state has input to absorb, or has reached the end of its input. -/
def hashReady (j : Job) : Bool :=
  j.hashing && (match j.read with
    | some r => decide (j.got < r.got.length) || decide (j.got = r.total)
    | none => false)

/-- The round robin of the hash unit follows the requesters whose states have work (R216) (DEDUCED, notes/assumptions/63). -/
def syncHash (s : State) : State :=
  { s with bne := { s.bne with
      hashRr := rrSync (((s.job.jobs.filter hashReady).map (·.req)).eraseDups) s.bne.hashRr } }

/-- FIPS 180-4 hash of a job's input for its use. -/
def jobHash (j : Job) (w : ReadFor) : Nat :=
  match w with
  | .digest => fldW j.head 16 2
  | .message => if fldW j.head 24 8 = 0x20 then 3 else fldW j.head 16 8
  | _ => 3

/-- A job's digest is complete (R175, R177, R232) (DEDUCED, notes/assumptions/71). -/
def digestDone (id : Nat) (r : SrcRead) (d : List Byte) (s : State) : State :=
  let s1 := updJob id (fun x => { x with hashing := false, read := none, got := 0 }) s
  match r.what with
  | .digest => issueResult id d stOk (updJob id (fun x => { x with digest := some d, count := r.total, got := r.total }) s1)
  | .entryMsg i => fetchRun id 400 (updJob id (fun x => { x with entries := upd x.entries i (fun e => { e with k := d }) }) s1)
  | .masks => fetchRun id 400 (updJob id (fun x => { x with masked := true }) s1)
  | _ =>
    let s2 := updJob id (fun x => { x with digest := some d }) s1
    if ((jobOf s2 id).bind (·.bench)).isSome then fetchRun id 400 s2 else benchWait id s2

/-- The hash unit ends one turn: one state of the requester whose turn it is absorbs up to 64 KiB times its weight of what has arrived,
and its digest is complete at the end of its input (R216) (DEDUCED, notes/assumptions/63). -/
def hashTurnDone (s : State) : State :=
  if halted s then s
  else
    let s0 := syncHash s
    match rrHead s0.bne.hashRr with
    | none => s0
    | some q =>
      match argMin (·.got) (s0.job.jobs.filter (fun j => hashReady j && decide (j.req = q))) with
      | none => s0
      | some j =>
        match j.read with
        | none => s0
        | some r =>
          let pre := hashPrefix j r.what
          let n := min (r.got.length - j.got) (weightOf s0 q * 65536)
          let new := n + (if j.got = 0 then pre.length else 0)
          let s1 := updJob j.id (fun x => { x with got := j.got + n }) { s0 with bne := { s0.bne with
            hashRr := rrUse 1 s0.bne.hashRr, hashBytes := s0.bne.hashBytes + BitVec.ofNat 32 new } }
          if j.got + n = r.total then digestDone j.id r (hashOf (jobHash j r.what) (pre ++ r.got)) s1 else s1

end Sys2Proof.Machine
end

