-- ==== Sys2Proof/Machine/RingLink.lean ====
section
/-! DEFINITION. The link layer of the ring ports (10_ilser_ring_and_hierarchy.md): pools and credits (R248, R249), the order of sending
(R250), link frames (R251), retransmission (R252, R253), broadcasts (R247) and transit frames (R242, R258). -/

namespace Sys2Proof.Machine

/-! ### Frames -/

/-- The VC of a TYPE of Table 10-3; none for a TYPE that is not in it. -/
def typeVc (ty : BitVec 6) : Option Nat :=
  let n := ty.toNat
  if n = 0x01 ∨ n = 0x03 ∨ n = 0x0A then some 0
  else if n = 0x02 ∨ n = 0x04 ∨ n = 0x0B then some 1
  else if 0x05 ≤ n ∧ n ≤ 0x09 then some 2
  else none

/-- SUBTYPE of an MGR or WKR frame. -/
def subType (f : Frame) : Nat := fldW f.h2 56 8

/-- A SYNC frame (Table 10-10). -/
def isSync (f : Frame) : Bool := decide (f.type = 0x07) && decide (subType f = 0x05)

/-- The node's ID is DST, in a frame that DST routes (Table 10-3). -/
def forMe (s : State) (f : Frame) : Bool := s.ring.enumDone && decide (f.dst = s.ring.nodeId) && decide (f.type ≠ 0x0A)

/-- DST is a broadcast. -/
def isBcast (f : Frame) : Bool := decide (f.dst = 0xFFF) && decide (f.type ≠ 0x0A)

/-- An ENUM frame for the receiving node (R263). -/
def enumHere (f : Frame) : Bool := decide (f.type = 0x0A) && decide (f.hops = 1)

/-- The receive pool, Table 10-5, that a frame spends when `node` receives it (R249). -/
def poolOf (node : BitVec 12) (f : Frame) : Nat :=
  let here := decide (f.dst = node) && decide (f.dst ≠ 0xFFF) && decide (f.type ≠ 0x0A) || enumHere f
  if f.vc = 0 then (if here then (if f.type = 0x01 ∧ f.hold then 1 else 0) else 2)
  else if f.vc = 1 then (if here then 3 else 4)
  else if here || decide (f.dst = 0xFFF) then 5
  else 6

/-- The sizes of the pools, Table 10-5. -/
def poolSizes : List Nat := [32, 64, 16, 32, 16, 16, 16]

/-- Change a port of the node. -/
def onPort (p : PortId) (f : Port → Port) (s : State) : State := { s with ring := updPort s.ring p f }

/-- A port that has block lock takes frames (R254). -/
def receives (x : Port) : Bool := decide (x.st ≠ .down)

/-- A receive buffer of a pool is free again: its credit is owed to the partner (R248) (DEDUCED, notes/assumptions/75). -/
def giveCredit (p : PortId) (pool : Nat) (s : State) : State :=
  onPort p (fun x => { x with returns := upd x.returns pool (· + 1) }) s

/-- A frame is received in order on a port: it is acknowledged. Its buffer is free at once unless the frame goes on in transit or takes a
held slot (R248, R249, R252) (DEDUCED, notes/assumptions/75). -/
def rxFrame (p : PortId) (f : Frame) (s : State) : State :=
  let pool := poolOf s.ring.nodeId f
  let s1 := onPort p (fun x => { x with rxAck := x.rxAck + 1 }) s
  if pool = 1 ∨ pool = 2 ∨ pool = 4 ∨ pool = 6 then s1 else giveCredit p pool s1

/-- A request reaches the node by a ring port: it is taken from the link (R248). One that takes no held slot frees its buffer at once: of
REQ_HELD for a read with HOLD, of REQ_LOCAL otherwise (R244, R249). -/
def rxAccess (p : PortId) (hold mark : Bool) (s : State) : State :=
  let s1 := onPort p (fun x => { x with rxAck := x.rxAck + 1 }) s
  if hold then s1 else giveCredit p (b2n mark) s1

/-! ### Sending -/

/-- A frame that the node forwards. -/
def isTransit (t : TxFrame) : Bool :=
  match t.kind with
  | .transit _ _ => true
  | _ => false

/-- A port may carry a frame in its state (R254): transit frames once it has trained, the node's own in SERVICE, and before
SYS_BOOT_DONE its answers in READY. -/
def carries (s : State) (p : PortId) (t : TxFrame) : Bool :=
  let st := (portAt s p).st
  decide (st = .service) || (isTransit t && decide (st ≠ .down)) ||
    (decide (st = .ready) && !s.sys.bootDone && decide (t.kind = .resp))

/-- A frame may be sent now: its pool has a credit and the store has room, for random payload within 8,192 words, and for words that
still lie in the stack within the bound of words in flight (R14, R15, R248, R252) (DEDUCED, notes/assumptions/78 and 120). -/
def canSend (s : State) (p : PortId) (t : TxFrame) : Bool :=
  let x := portAt s p
  carries s p t && decide (x.credits.getD (poolOf x.partner t.f) 0 ≠ 0) && decide (x.store.length < 512) &&
    (decide (t.rand = 0) || decide (openWords s p + t.rand ≤ 8192)) &&
    (decide (t.words = 0) || t.fly || t.refs.isEmpty || portRoom s p t.words)

/-- The position of the next frame of one origin (transit or own) that may go out, by its VC: event, response, request
(R250). -/
def nextOf (s : State) (p : PortId) (transit : Bool) : Option Nat :=
  let q := (portAt s p).txq
  ([2, 1, 0] : List Nat).findSome? (fun vc =>
    q.findIdx? (fun t => isTransit t == transit && decide (t.f.vc.toNat = vc) && canSend s p t))

/-- The next frame that a port sends: transit frames first, but at least one in four slots for the node's own (R250) (DEDUCED,
notes/assumptions/78). -/
def nextTx (s : State) (p : PortId) : Option Nat :=
  match nextOf s p true, nextOf s p false with
  | some t, some o => if 3 ≤ (portAt s p).own then some o else some t
  | some t, none => some t
  | none, o => o

/-- A request of the node's own awaits its response from the instant it is first sent. -/
def noteSent (p : PortId) (t : TxFrame) (s : State) : State :=
  let isReq : Bool := match t.kind with
    | .data _ _ | .record _ | .read _ => true
    | _ => false
  if isReq then
    { s with ring := { s.ring with
        outst := s.ring.outst ++
          [⟨t.f.txn, t.f.dst, p, t.kind, t.refs, t.words, t.marked, t.rand, s.clk.ticks⟩] } }
  else s

/-- Remember a broadcast. -/
def remember (b : SeenB) (r : Ring) : Ring :=
  { r with seen := b :: r.seen.filter (fun x => !(decide (x.ty = b.ty) && decide (x.src = b.src) && decide (x.key = b.key))) }

/-- What tells a broadcast from another of its type and source (R247, R259). -/
def bcastKey (f : Frame) : Nat :=
  if f.type = 0x06 then fldW f.h2 48 16 else if f.type = 0x09 then fldW f.h2 0 16 else f.h2.toNat

/-- A broadcast of the node's own leaves by a port. -/
def noteBcast (p : PortId) (t : TxFrame) (s : State) : State :=
  if isBcast t.f && !isTransit t then
    { s with ring := remember ⟨t.f.type, t.f.src, bcastKey t.f, s.clk.ticks, p⟩ s.ring }
  else s

/-- A transit frame has left: its receive buffer is free (DEDUCED, notes/assumptions/75). -/
def freeTransit (t : TxFrame) (s : State) : State :=
  match t.kind with
  | .transit q pool => giveCredit q pool s
  | _ => s

/-- Words 0 and 1 of a SYNC frame: the node's time with the low 32 bits of its fraction's ns word, and the wrap counter with the step count
(R277) (DESIGN CHOICE, notes/assumptions/87). -/
def syncWords (s : State) : List Word :=
  [s.tim.cnt.extractLsb' 0 64, BitVec.ofNat 64 ((nowWrap s).toNat <<< 48 + (s.tim.steps.toNat % 256) <<< 40)]

/-- A SYNC frame of the node's own takes its time as its start block leaves (R277). -/
def stamped (s : State) (t : TxFrame) : TxFrame :=
  if isSync t.f && !isTransit t then { t with f := { t.f with payload := wordsToBytes (syncWords s) } } else t

/-- A port sends the frame at a position of what waits in it: it takes its LSEQ and its credit, enters the store, and its words
leave the stack (R148, R248, R252, R277). -/
def sendAt (p : PortId) (i : Nat) (s : State) : State :=
  let x := portAt s p
  match x.txq[i]?.map (stamped s) with
  | none => s
  | some t =>
    let pool := poolOf x.partner t.f
    let t1 : TxFrame := { t with
      lseq := x.txSeq, tick := s.clk.ticks, sent := if t.fly then t.sent else s.clk.ticks, replays := 0, fly := true }
    let s1 := onPort p (fun y => { y with
      txq := y.txq.eraseIdx i, store := y.store ++ [t1], txSeq := y.txSeq + 1
      credits := upd y.credits pool (· - 1), own := if isTransit t then y.own + 1 else 0
      ackTick := if y.store.isEmpty then s.clk.ticks else y.ackTick }) s
    let s2 := freeTransit t (noteBcast p t (noteSent p t1 s1))
    if t.fly then s2 else onlyIf (!t.refs.isEmpty) (toFlight t.refs) s2

/-- A port sends what it may (DEDUCED, notes/assumptions/78). -/
def pumpPort (p : PortId) : Nat → State → State
  | 0, s => s
  | n + 1, s =>
    match nextTx s p with
    | none => s
    | some i => pumpPort p n (sendAt p i s)

/-- A pool's credit has been waited for only while a frame of the pool waits for want of one (R255). -/
def creditWait (p : PortId) (s : State) : State :=
  let x := portAt s p
  let waits (k : Nat) : Bool := decide (x.credits.getD k 0 = 0) &&
    x.txq.any (fun t => decide (poolOf x.partner t.f = k) && carries s p t)
  onPort p (fun y => { y with creditTick := (List.range 7).map (fun k =>
    if waits k then y.creditTick.getD k s.clk.ticks else s.clk.ticks) }) s

/-- Both ports send what they may. -/
def pump (s : State) : State :=
  let s1 := pumpPort .a (s.ring.pa.txq.length + 1) s
  let s2 := pumpPort .b (s1.ring.pb.txq.length + 1) s1
  creditWait .b (creditWait .a s2)

/-! ### Link frames -/

/-- The IDENT word the node sends (R251). -/
def identWord (s : State) : Word :=
  BitVec.ofNat 64 (0x3E <<< 58 + b2n s.sys.bootDone <<< 57 + s.ring.nodeId.toNat <<< 44)

/-- A port sends IDENT. -/
def sendIdent (p : PortId) (s : State) : State :=
  if receives (portAt s p) then onPort p (fun x => { x with identTx := identWord s }) s else s

/-- Both ports send IDENT: READY or the node ID changed (R251). -/
def sendIdents (s : State) : State := sendIdent .b (sendIdent .a s)

/-- The LINK word that a port would send (R251) (DESIGN CHOICE, notes/assumptions/76). -/
def linkWord (x : Port) : Word :=
  let ret (k : Nat) : Nat := min 31 (x.returns.getD k 0) <<< (34 - 5 * k - 4)
  BitVec.ofNat 64 (0x3F <<< 58 + b2n x.nakDue <<< 57 + b2n x.echoDue <<< 56 + x.rxAck.toNat <<< 36
    + ((List.range 7).map ret).sum)

/-- A port with something to say sends a LINK frame: acknowledgement, credit returns, NAK, ECHO (DESIGN CHOICE, notes/assumptions/76). -/
def linkSend (p : PortId) (s : State) : State :=
  let x := portAt s p
  let news := x.nakDue || x.echoDue || x.returns.any (fun r => decide (r ≠ 0)) ||
    decide (x.rxAck.toNat ≠ fldW x.linkTx 36 12) || decide (x.linkTx = 0)
  if receives x && news then
    onPort p (fun y => { y with
      linkTx := linkWord y, returns := y.returns.map (fun r => r - min 31 r), nakDue := false, echoDue := false }) s
  else s

/-- Every unacknowledged frame of a port is sent again, in order (R252) (DEDUCED, notes/assumptions/77). -/
def replay (p : PortId) (s : State) : State :=
  onPort p (fun x => { x with
    store := x.store.map (fun t => { t with replays := t.replays + 1, tick := s.clk.ticks })
    replay := x.replay + 1, ackTick := s.clk.ticks }) s

/-- The held slot of a read frees, and its credit returns to the partner (R245, R249). -/
def freeHeld (key : Nat) (s : State) : State :=
  let free (p : PortId) (t : State) : State :=
    if (portAt t p).heldKeys.contains key then
      giveCredit p 1 (onPort p (fun x => { x with heldKeys := x.heldKeys.filter (fun k => decide (k ≠ key)) }) t)
    else t
  free .b (free .a s)

/-- A job's delivered words were marked (R65). -/
def markJob (id marked : Nat) (s : State) : State :=
  if marked = 0 then s else updJob id (fun j => { j with unchecked := true }) s

/-- The first hop has acknowledged a frame: held responses, beacons and contributions are delivered, and a record in an event frame is
written (Table 10-6, R182) (DEDUCED, notes/assumptions/75). -/
def frameAcked (t : TxFrame) (s : State) : State :=
  let s1 := if t.words = 0 then s else
    match t.kind with
    | .held _ | .beacon _ | .peer => deliverWords t.refs t.words t.marked s
    | _ => s
  match t.kind with
  | .held key => freeHeld key s1
  | .beacon id => markJob id t.marked (endBeacon id .acked s1)
  | .jobEvent id => completeJob id s1
  | _ => s1

/-- How far a link sequence number lies before or at an acknowledgement: the frame is acknowledged (R252). -/
def ackedBy (ack lseq : BitVec 12) : Bool := !(ack - lseq).msb

/-- A LINK frame arrives (R251, R252) (DEDUCED, notes/assumptions/77). -/
def linkRx (p : PortId) (w : Word) (s : State) : State :=
  let x := portAt s p
  if !receives x || decide (fldW w 58 6 ≠ 0x3F) then s
  else
    let ack : BitVec 12 := BitVec.ofNat 12 (fldW w 36 12)
    let acked := x.store.filter (fun t => ackedBy ack t.lseq)
    let ret (k : Nat) : Nat := fldW w (34 - 5 * k - 4) 5
    let echo := fldW w 56 1 = 1
    let s1 := onPort p (fun y => { y with
      store := y.store.filter (fun t => !ackedBy ack t.lseq)
      ackTick := if acked.isEmpty then y.ackTick else s.clk.ticks
      credits := (List.range 7).map (fun k => y.credits.getD k 0 + ret k)
      creditTick := (List.range 7).map (fun k => if ret k = 0 then y.creditTick.getD k 0 else s.clk.ticks)
      delay := if echo ∧ !y.delayValid then Config.linkDelay s.clk.free else y.delay
      delayValid := y.delayValid || decide echo
      echoDue := y.echoDue || (decide echo && y.delayValid) }) s
    let s2 := onlyIf (decide echo && !x.delayValid) bumpFree s1
    let s3 := acked.foldl (fun t f => frameAcked f t) s2
    if fldW w 57 1 = 1 ∧ !(portAt s3 p).store.isEmpty then replay p s3 else s3

/-- A frame is discarded: a bad CRC or an invalid block, which is counted, or a gap (R252). -/
def frameCrcError (p : PortId) (bad : Bool) (s : State) : State :=
  if !receives (portAt s p) then s
  else onPort p (fun x => { x with
    crc := if bad then x.crc + 1 else x.crc, nakDue := true, readyTick := s.clk.ticks }) s

/-- The replay timer runs out: frames stand unacknowledged and ACK has not advanced (R252). -/
def replayTimer (p : PortId) (s : State) : State :=
  let x := portAt s p
  if receives x && !x.store.isEmpty && decide (usTicks s.ring.replayUs.toNat ≤ s.clk.ticks - x.ackTick) then replay p s
  else s

/-! ### Forwarding -/

/-- The port by which a transit frame that arrived on a port leaves: the other one, or the same one while the node wraps there
(R258). -/
def wayOut (s : State) (p : PortId) : PortId :=
  if (portAt s (otherPort p)).st = .down then p else otherPort p

/-- Put a transit frame into the port it leaves by, with one hop less unless a wrap sends it back (R242, R258). -/
def forward (p : PortId) (pool : Nat) (f : Frame) (s : State) : State :=
  let hops := if wayOut s p = p then f.hops else f.hops - 1
  { s with ring := queueTx (wayOut s p) (plainTx (.transit p pool) { f with hops := hops }) s.ring }

/-- CORR of a SYNC frame, in 1/65,536 ns (DESIGN CHOICE, notes/assumptions/87). -/
def syncCorr (f : Frame) : Nat := leNat ((f.payload.drop 8).take 5)

/-- The link delay of a port in 1/65,536 ns. -/
def delayCorr (s : State) (p : PortId) : Nat := (portAt s p).delay.toNat * 65536

/-- A SYNC frame with an addition to CORR (R271). -/
def addCorr (n : Nat) (f : Frame) : Frame :=
  { f with payload := f.payload.take 8 ++ bytesLE 5 (syncCorr f + n) ++ f.payload.drop 13 }

/-- What forwarding a frame adds to it: a SYNC frame gains the link delay and the residence time (R271) (DESIGN CHOICE,
notes/assumptions/87). -/
def corrected (s : State) (p : PortId) (f : Frame) (resid : Nat) : Frame :=
  if isSync f then addCorr (delayCorr s p + resid) f else f

/-- A broadcast that arrived on a port goes on: past other nodes while it has hops left; its own source turns it back after a wrap or
removes it (R247). Its receive buffer is already free, so the forwarded copy names no pool (7) (DEDUCED, notes/assumptions/82). -/
def forwardBcast (p : PortId) (f : Frame) (resid : Nat) (s : State) : State :=
  let pool := 7
  let mine := s.ring.enumDone && decide (f.src = s.ring.nodeId)
  if f.hops = 1 then s
  else if mine then
    let sent := s.ring.seen.find? (fun b => decide (b.ty = f.type) && decide (b.src = f.src) && decide (b.key = bcastKey f))
    if (sent.map (·.port)) = some p ∧ (portAt s (otherPort p)).st = .service then
      { s with ring := queueTx (otherPort p) (plainTx (.transit p pool) { corrected s p f resid with hops := f.hops - 1 }) s.ring }
    else s
  else forward p pool (corrected s p f resid) s

/-- A frame is dropped and counted under R242; its record is written at most once a millisecond (R381). -/
def rxBad (p : PortId) (f : Frame) (s : State) : State :=
  let s1 := { s with ring := { s.ring with rxBad := s.ring.rxBad + 1 } }
  if withinSlow s (portAt s p).badT 32 || !eventEnabled s.evt 0x59 then s1
  else post 0x59 (portIdx p) f.type.toNat (onPort p (fun x => { x with badT := some s.clk.slow }) s1)

/-- The node drops a frame: one for it, or for every node, with an unknown TYPE or the wrong VC, or a transit frame without hops (R242)
(DEDUCED, notes/assumptions/82). -/
def isBad (s : State) (f : Frame) : Bool :=
  if forMe s f || isBcast f || enumHere f then decide (typeVc f.type ≠ some f.vc.toNat) else decide (f.hops = 1)

/-- A broadcast that another row takes: BEACON, BREAK, ANNOUNCE, FABRIC_ALARM (Tables 10-3 and 10-10). -/
def ownRow (f : Frame) : Bool :=
  decide (f.type = 0x06) || decide (f.type = 0x09) || (decide (f.type = 0x07) && (decide (subType f = 0x01) || decide (subType f = 0x04)))

/-- A frame that R242 drops arrives. -/
def ringRxBad (p : PortId) (f : Frame) (s : State) : State :=
  if receives (portAt s p) && isBad s f then
    let pool := poolOf s.ring.nodeId f
    let s1 := rxFrame p f s
    rxBad p f (onlyIf (decide (pool = 1) || decide (pool = 2) || decide (pool = 4) || decide (pool = 6)) (giveCredit p pool) s1)
  else s

/-- A transit frame arrives: it is forwarded with one hop less; a broadcast that no unit of the node takes goes on as broadcasts do (R242,
R247, R258) (DEDUCED, notes/assumptions/82). -/
def transitFrame (p : PortId) (f : Frame) (resid : Nat) (s : State) : State :=
  if receives (portAt s p) && !forMe s f && !isBcast f && !enumHere f && !isBad s f then
    forward p (poolOf s.ring.nodeId f) (corrected s p f resid) (rxFrame p f s)
  else if receives (portAt s p) && isBcast f && !isBad s f && !ownRow f then forwardBcast p f resid (rxFrame p f s)
  else s

end Sys2Proof.Machine
end

