-- ==== Sys2Proof/Machine/Failover.lean ====
section
/-! DEFINITION. Port states and failover (R254 to R262), what a failover does to jobs and reads (R207 to R212), the responses to the
node's own requests (R243), and enumeration (R263, R264). -/

namespace Sys2Proof.Machine

/-! ### Re-serving jobs after a failover -/

/-- The words that a waiting frame of a job carries, with their tags. -/
def frameWords (s : State) (j : Job) (t : TxFrame) : List AWord :=
  let no := match t.kind with
    | .data _ w => w
    | _ => 0
  let first := ((j.writes.find? (fun w => decide (w.no = no))).bind (·.tag)).getD default
  let vs := bytesToWords t.f.payload
  if t.refs.isEmpty then vs.map (fun v => ⟨v, first, none⟩)
  else (vs.zip t.refs).map (fun e =>
    let tag := ((queueOf s e.2.1).bind (fun d => d.ents.find? (fun x => decide (x.slot = e.2.2)))).map (·.tag)
    ⟨e.1, tag.getD first, some e.2⟩)

/-- The write that a waiting frame of a job makes. -/
def frameWrite (j : Job) (t : TxFrame) : Option JWrite :=
  match t.kind with
  | .data _ no => j.writes.find? (fun w => decide (w.no = no))
  | _ => none

/-- Where the part of a job's output begins that is issued in its first order and still waits in a port. -/
def tailStart (ws : List JWrite) : Nat → Nat → Nat
  | 0, top => top
  | n + 1, top =>
    match ws.find? (fun w => decide (w.off + w.len = top) && decide (w.len ≠ 0)) with
    | some w => tailStart ws n w.off
    | none => top

/-- Sort lost writes by their destination offsets. -/
def sortWrites (l : List (Nat × Nat)) : List (Nat × Nat) := l.mergeSort (fun a b => decide (a.1 ≤ b.1))

/-- Take a job's waiting data writes back: those of its first order rejoin what it has not issued, rewrites stay rewrites (R207) (DEDUCED,
notes/assumptions/85). -/
def takeBack (id : Nat) (s : State) : State :=
  match jobOf s id with
  | none => s
  | some j =>
    let fs := (unsentOf id false s.ring).filterMap (fun t => (frameWrite j t).map (fun w => (w, t)))
    let top := tailStart (fs.map (·.1)) fs.length j.made
    let orig := fs.filter (fun e => decide (top ≤ e.1.off))
    let again := fs.filter (fun e => decide (e.1.off < top))
    let nos := fs.map (·.1.no)
    let words (l : List (JWrite × TxFrame)) : List (List AWord) := l.map (fun e => frameWords s j e.2)
    let bytes (l : List (JWrite × TxFrame)) : List Byte := l.flatMap (fun e => e.2.f.payload)
    pullUnsent id false (updJob id (fun x => { x with
      writes := x.writes.map (fun w => if nos.contains w.no then { w with st := .lost, old := true } else w)
      made := top
      rewrites := again.map (fun e => (e.1.off, e.1.len)) ++ x.rewrites
      grants := if x.op = 0x01 then words orig ++ x.grants else x.grants
      regrants := if x.op = 0x01 then words again ++ x.regrants else x.regrants
      out := if x.op = 0x02 then bytes orig ++ x.out else x.out
      reout := if x.op = 0x02 then bytes again ++ x.reout else x.reout }) s)

/-- A write of a job still waits in a port. -/
def waitsInPort (s : State) (id : Nat) (w : JWrite) : Bool :=
  decide (w.st = .sent) && (unsentOf id false s.ring).any (fun t => decide (t.kind = .data id w.no))

/-- A DRAWP builds a new permutation; one that is building it already goes on (R207) (DEDUCED, notes/assumptions/86). -/
def rebuild (id : Nat) (s : State) : State :=
  let drop (w : JWrite) : JWrite := { w with old := true, st := if waitsInPort s id w then .lost else w.st }
  let s1 := pullUnsent id false (updJob id (fun x => { x with writes := x.writes.map drop, made := 0, out := [] }) s)
  if s.stk.building = some id then s1
  else updJob id (fun x => { x with verdict := none, perm := [], first := none, qdone := false, phase := .waiting }) s1

/-- Writes of a job were declared lost: its record carries REROUTED, and unless it has ended it asks for fresh words
(R207, R210, R211). -/
def reserve (id : Nat) (nos : List Nat) (s : State) : State :=
  match jobOf s id with
  | none => s
  | some j =>
    let lost := (j.writes.filter (fun w => nos.contains w.no && !w.old)).map (fun w => (w.off, w.len))
    let s1 := updJob id (fun x => { x with
      rerouted := x.rerouted || decide (x.op = 0x01) || decide (x.op = 0x02) || decide (x.op = 0x03)
      writes := x.writes.map (fun w => if nos.contains w.no then { w with st := .lost } else w) }) s
    if j.stop.isSome || halted s then s1
    else if j.op = 0x03 then rebuild id s1
    else if j.op = 0x01 ∨ j.op = 0x02 then
      let s2 := takeBack id s1
      let s3 := updJob id (fun x => { x with
        rewrites := sortWrites (lost ++ x.rewrites), qdone := false
        writes := x.writes.map (fun w => if nos.contains w.no then { w with old := true } else w) }) s2
      let s4 := prDrop id (dropWaiter (jobSq j) id (releaseAllot (jobSq j) id s3))
      onlyIf (decide (j.op = 0x01)) (drawIssue id 9000) (jobAsk id s4)
    else s1

/-! ### Failover -/

/-- Own frames that wait in a port which cannot carry them move to the port in SERVICE (R257); transit frames that would leave by
a down port turn back, or are lost when both are down (R258). -/
def reroute (p : PortId) (s : State) : State :=
  let x := portAt s p
  let o := portAt s (otherPort p)
  let mv (t : TxFrame) : Bool :=
    if isTransit t then decide (x.st = .down) else s.sys.bootDone && decide (x.st ≠ .service) && decide (o.st = .service)
  let go := x.txq.filter mv
  if go.isEmpty then s
  else
    let s1 := onPort p (fun y => { y with txq := y.txq.filter (fun t => !mv t) }) s
    if o.st = .down then s1 else onPort (otherPort p) (fun y => { y with txq := y.txq ++ go }) s1

/-- A frame of a port's store whose random payload a failover loses (R256) (DEDUCED, notes/assumptions/26). -/
def losesFrame (t : TxFrame) : Bool :=
  match t.kind with
  | .held _ | .beacon _ | .peer => decide (t.rand ≠ 0)
  | _ => false

/-- A request whose random payload a failover loses (R256). -/
def losesReq (ps : List PortId) (o : Outst) : Bool :=
  ps.contains o.port && decide (o.rand ≠ 0) && (match o.kind with
    | .data _ _ => true
    | _ => false)

/-- The random frames and requests of some ports that a failover declares lost: kind, slots, words and random payload. -/
def lostOn (ps : List PortId) (s : State) : List (TxKind × List (Nat × Nat) × Nat × Nat) :=
  ps.flatMap (fun p => ((portAt s p).store.filter losesFrame).map (fun t => (t.kind, t.refs, t.words, t.rand))) ++
    (s.ring.outst.filter (losesReq ps)).map (fun o => (o.kind, o.refs, o.words, o.rand))

/-- A request of the node whose response has come. -/
def isAnswered (s : State) (t : TxFrame) : Bool :=
  match t.kind with
  | .data _ _ | .record _ | .read _ => !s.ring.outst.any (fun o => decide (o.kind = t.kind) && decide (o.txn = t.f.txn))
  | _ => false

/-- The frame of a store that is queued again: the node's own without lost payload (R257) (DEDUCED, notes/assumptions/85). -/
def resends (s : State) (ps : List PortId) (t : TxFrame) : Bool :=
  !isTransit t && !losesFrame t && !isAnswered s t && !s.ring.outst.any (fun o => losesReq ps o && decide (o.kind = t.kind))

/-- Empty the stores of some ports: own non-random frames wait again, with RESENT, on the port they are routed to (R208, R257) (DEDUCED,
notes/assumptions/86). -/
def requeueStores (ps : List PortId) (s : State) : State :=
  let again := (ps.flatMap (fun p => (portAt s p).store)).filter (resends s ps)
  let s1 := ps.foldl (fun t p => onPort p (fun x => { x with store := [] }) t) s
  let s2 := { s1 with ring := { s1.ring with
    outst := s1.ring.outst.filter (fun o => !again.any (fun t => decide (t.kind = o.kind) && decide (t.f.txn = o.txn))) } }
  again.foldr (fun f t =>
    let p := if f.f.dst = 0xFFF then bcastPort t.ring else routePort t.ring f.f.dst.toNat
    onPort p (fun x => { x with txq := { f with f := { f.f with resent := true } } :: x.txq }) t) s2

/-- The LOST response to a held read (R209) (DEDUCED, notes/assumptions/85). -/
def lostReply (t : TxFrame) (s : State) : State :=
  match t.kind with
  | .held key =>
    freeHeld key { s with ring := sendTx (plainTx .resp { t.f with
      hold := false, unchecked := false, resent := true, status := 7, len := 0, payload := [] }) s.ring }
  | _ => s

/-- The jobs that lose data writes, with the numbers of those writes (DEDUCED, notes/assumptions/86). -/
def lostJobs (l : List (TxKind × List (Nat × Nat) × Nat × Nat)) : List (Nat × List Nat) :=
  let ds := l.filterMap (fun e => match e.1 with
    | .data id no => some (id, no)
    | _ => none)
  ((ds.map (·.1)).eraseDups).map (fun id => (id, (ds.filter (fun d => decide (d.1 = id))).map (·.2)))

/-- A launch whose frame is lost ends (R257). -/
def lostBeacon (k : TxKind) (s : State) : State :=
  match k with
  | .beacon id => endBeacon id .lost s
  | _ => s

/-- A BREAK broadcast goes out of a port (R259). -/
def breakFrame (p : PortId) (s : State) : State :=
  { s with ring := { queueTx p (plainTx .plain { mkFrame s 0x09 2 0xFFF with h2 := s.ring.bseq.zeroExtend 64 }) s.ring with
      bseq := s.ring.bseq + 1 } }

/-- What waits for a failed port goes to the other one, and a BREAK out of that one while it is in SERVICE (R257, R259). -/
def sendBreak (p : PortId) (s : State) : State :=
  let r := reroute p s
  onlyIf (decide ((portAt r (otherPort p)).st = .service)) (breakFrame (otherPort p)) r

/-- RING_FO_CNT, RING_FO_LAST and RING_FO_LOST of a failover of n words; HELLO is due (R257, R267). -/
def failoverNote (from_ : PortId ⊕ BitVec 12) (cause n : Nat) (s : State) : State :=
  let cap := min 0x3FFF n
  { s with ring := { s.ring with
    foLocal := match from_ with | .inl _ => s.ring.foLocal + 1 | .inr _ => s.ring.foLocal
    foRemote := match from_ with | .inl _ => s.ring.foRemote | .inr _ => s.ring.foRemote + 1
    foLast := match from_ with
      | .inl p => packR [(31, 1), (29, portIdx p), (26, cause), (0, cap)]
      | .inr src => packR [(31, 1), (30, 1), (14, src.toNat), (0, cap)]
    foLost := BitVec.ofNat 15 n, foTick := some s.clk.ticks, helloDue := true } }

/-- The declaration of loss on some ports: the words go to kerf, other frames wait again, and reads and launches learn of it (R209, R256,
R257) (DEDUCED, notes/assumptions/85). -/
def declareLost (ps : List PortId) (s : State) : State :=
  let l := lostOn ps s
  let held := (ps.flatMap (fun p => (portAt s p).store)).filter losesFrame
  let s1 := requeueStores ps s
  let s2 := { s1 with ring := { s1.ring with outst := s1.ring.outst.filter (fun o => !losesReq ps o) } }
  let s3 := l.foldl (fun t e => if e.2.2.1 = 0 then t else kerfFlight .failover e.2.1 e.2.2.1 t) s2
  l.foldl (fun t e => lostBeacon e.1 t) (held.foldl (fun t f => lostReply f t) s3)

/-- Words of random payload that a failover of some ports loses. -/
def lostCount (ps : List PortId) (s : State) : Nat := ((lostOn ps s).map (fun e => e.2.2.2)).sum

/-- The declaration of loss and what follows it: the records, the counts, and the jobs (R207 to R210, R256, R257). `from_` is the failed
port of a local failover, or the source of the BREAK of a remote one (DEDUCED, notes/assumptions/85). -/
def failover (ps : List PortId) (from_ : PortId ⊕ BitVec 12) (cause : Nat) (s : State) : State :=
  let n := lostCount ps s
  let s1 := declareLost ps s
  let s2 := match from_ with
    | .inl p => sendBreak p s1
    | .inr _ => s1
  let s3 := post 0x52 (match from_ with | .inl _ => 0 | .inr _ => 1) (min 0xFFFF n) s2
  (lostJobs (lostOn ps s)).foldl (fun t e => reserve e.1 e.2 t) (failoverNote from_ cause n s3)

/-- The other port failed in this same CK_TIME period, in a local failover: the two are one (R262) (DEDUCED, notes/assumptions/124). -/
def joinsFailover (p : PortId) (s : State) : Bool :=
  decide ((portAt s (otherPort p)).st = .down) && decide (s.ring.foTick = some s.clk.ticks) && !bitAt s.ring.foLast 30 &&
    decide (fld s.ring.foLast 29 1 = portIdx (otherPort p))

/-- The second of two ports that fail together: its words are lost in the same failover, which counts them; no second record is written and
no path remains for a BREAK (R258, R262) (DEDUCED, notes/assumptions/124). -/
def failoverJoin (p : PortId) (s : State) : State :=
  let n := lostCount [p] s
  let s1 := reroute p (declareLost [p] s)
  let sum := min 0x3FFF (fld s.ring.foLast 0 14 + n)
  (lostJobs (lostOn [p] s)).foldl (fun t e => reserve e.1 e.2 t) { s1 with ring := { s1.ring with
    foLast := (s1.ring.foLast &&& 0xFFFFC000) ||| BitVec.ofNat 32 sum, foLost := BitVec.ofNat 15 (s1.ring.foLost.toNat + n) } }

/-! ### Port states -/

/-- A port enters SERVICE (Table 10-7, R261) (DEDUCED, notes/assumptions/81). -/
def enterService (p : PortId) (s : State) : State :=
  let again := (portAt s p).everService
  let s1 := onPort p (fun x => { x with st := .service, everService := true }) s
  onlyIf again (post 0x53 (portIdx p) 0) (post 0x51 (portIdx p) 3 s1)

/-- A port gains block lock on both lanes and deskews (Table 10-7). Link start: every pool has its full credit, link sequence numbers
begin at 0 and unacknowledged frames are sent again (R248, R252) (DEDUCED, notes/assumptions/81). -/
def portTrain (p : PortId) (s : State) : State :=
  let x := portAt s p
  let s0 := { s with clk := { s.clk with ckRing := true } }
  if x.st ≠ .down then onPort p (fun y => { y with lock := 3 }) s0
  else
    let n := x.store.length
    let s1 := onPort p (fun y => { y with
      st := .train, lock := 3, hiBer := false, partner := 0xFFF, partnerReady := false, delayValid := false, delay := 0
      rxAck := 0xFFF, txSeq := BitVec.ofNat 12 n, credits := poolSizes, returns := [0, 0, 0, 0, 0, 0, 0]
      nakDue := false, echoDue := true, linkTx := 0
      store := y.store.mapIdx (fun i t => { t with lseq := BitVec.ofNat 12 i }) }) s0
    let s2 := onlyIf (decide (n ≠ 0)) (replay p) s1
    sendIdent p (post 0x51 (portIdx p) 1 s2)

/-- A port fails: it enters DOWN, and a port that was in SERVICE causes a local failover, one for two ports that fail together (R255, R256,
R262) (DEDUCED, notes/assumptions/79). -/
def failPort (p : PortId) (cause : Nat) (s : State) : State :=
  let x := portAt s p
  if x.st = .ready ∨ x.st = .service then
    let s1 := onPort p (fun y => { y with
      st := .down, cause := BitVec.ofNat 3 cause, err := y.err ||| BitVec.ofNat 5 (2 ^ (cause - 1)) }) s
    let s2 := post 0x50 (portIdx p) cause s1
    if x.st ≠ .service then reroute p s2
    else if joinsFailover p s then failoverJoin p s2
    else failover [p] (.inl p) cause s2
  else s

/-- An IDENT frame arrives (R251, R255). -/
def identRx (p : PortId) (w : Word) (s : State) : State :=
  let x := portAt s p
  if x.st = .down ∨ fldW w 58 6 ≠ 0x3E then s
  else
    let s1 := onPort p (fun y => { y with
      partner := BitVec.ofNat 12 (fldW w 44 12), partnerReady := decide (fldW w 57 1 = 1) }) s
    if x.st = .train then
      post 0x51 (portIdx p) 2 (onPort p (fun y => { y with st := .ready, readyTick := s.clk.ticks }) s1)
    else if x.st = .service ∧ fldW w 57 1 = 0 then failPort p 5 s1
    else s1

/-- Block lock stays lost for the debounce time (R255) (DEDUCED, notes/assumptions/79). -/
def lossOfLock (p : PortId) (s : State) : State :=
  failPort p 1 (onPort p (fun x => { x with lock := 0 }) s)

/-- hi_ber stays asserted for the debounce time (R255). -/
def highBer (p : PortId) (s : State) : State :=
  failPort p 2 (onPort p (fun x => { x with hiBer := decide (x.st ≠ .down) }) s)

/-- One frame has been replayed RETRY_MAX times without acknowledgement (R255). -/
def retransLimit (p : PortId) (s : State) : State :=
  if (portAt s p).store.any (fun t => decide (s.ring.retryMax.toNat ≤ t.replays)) then failPort p 3 s else s

/-- A frame has waited for credit of a pool other than REQ_HELD for CREDIT_TO with none returned (R255). -/
def creditTimeout (p : PortId) (s : State) : State :=
  let x := portAt s p
  let late (k : Nat) : Bool := decide (k ≠ 1) && decide (x.credits.getD k 0 = 0) &&
    x.txq.any (fun t => decide (poolOf x.partner t.f = k)) &&
    decide (usTicks (10 * s.ring.creditTo.toNat) ≤ s.clk.ticks - x.creditTick.getD k s.clk.ticks)
  if (List.range 7).any late then failPort p 4 s else s

/-- A port has stood in READY without error for RING_RESTORE.MS (R261) (DESIGN CHOICE, notes/assumptions/80). -/
def restoreTimer (p : PortId) (s : State) : State :=
  let x := portAt s p
  if s.sys.bootDone && s.ring.autoRestore && decide (x.st = .ready) &&
      decide (s.ring.restoreMs.toNat * 125000 ≤ s.clk.ticks - x.readyTick) then enterService p s
  else s

/-- RING_CTRL.RESTORE: software returns READY ports to SERVICE (R261). -/
def restoreCmd (bits : Nat) (s : State) : State :=
  let go (p : PortId) (t : State) : State :=
    if bits.testBit (portIdx p) && t.sys.bootDone && decide ((portAt t p).st = .ready) then enterService p t else t
  go .b (go .a s)

/-- CK_RING is absent: both ports are DOWN (R254) (DEDUCED, notes/assumptions/79). -/
def ckRingAbsent (s : State) : State :=
  let down (x : Port) : Port := { x with st := .down, lock := 0 }
  reroute .b (reroute .a { s with
    clk := { s.clk with ckRing := false }
    ring := { s.ring with pa := down s.ring.pa, pb := down s.ring.pb } })

/-- A BREAK frame arrives: it is forwarded, and one not seen within 10 ms nor within 2 ms of a failover starts a remote failover
(R256, R259). -/
def breakRx (p : PortId) (f : Frame) (s : State) : State :=
  if !receives (portAt s p) || !isBcast f || decide (f.type ≠ 0x09) || decide (f.vc ≠ 2) then s
  else
    let s1 := forwardBcast p f 0 (rxFrame p f s)
    let mine := s.ring.enumDone && decide (f.src = s.ring.nodeId)
    let seen := s.ring.seen.any (fun b => decide (b.ty = 0x09) && decide (b.src = f.src) && decide (b.key = bcastKey f) &&
      decide (s.clk.ticks - b.tick < 1250000))
    if mine || seen then s1
    else
      let s2 := { s1 with ring := remember ⟨f.type, f.src, bcastKey f, s.clk.ticks, p⟩ s1.ring }
      if (s.ring.foTick.map (fun t => decide (s.clk.ticks - t < 250000))).getD false then s2
      else failover [.a, .b] (.inr f.src) 0 s2

/-- A BEACON broadcast of a node arrives: it is forwarded, turned back or removed (R247). -/
def beaconRx (p : PortId) (f : Frame) (s : State) : State :=
  if !receives (portAt s p) || !isBcast f || decide (f.type ≠ 0x06) || decide (f.vc ≠ 2) then s
  else forwardBcast p f 0 (rxFrame p f s)

/-! ### Responses to the node's own requests -/

/-- The request of the node that a response answers. -/
def outstFor (s : State) (f : Frame) : Option Outst :=
  s.ring.outst.find? (fun o => decide (o.txn = f.txn) && decide (o.dst = f.src))

/-- A request is answered. -/
def dropOutst (o : Outst) (s : State) : State :=
  { s with ring := { s.ring with outst := s.ring.outst.filter (fun x => decide (x ≠ o)) } }

/-- A WR_ACK arrives: it finishes the write's words and the write itself; an error ends the job with DENIED (R14, R167, R182) (DEDUCED,
notes/assumptions/55). -/
def wrAckRx (p : PortId) (f : Frame) (s : State) : State :=
  if !receives (portAt s p) || !forMe s f || decide (f.type ≠ 0x04) || decide (f.vc ≠ 1) then s
  else
    let s1 := rxFrame p f s
    match outstFor s f with
    | none => s1
    | some o =>
      let s2 := dropOutst o s1
      match o.kind with
      | .record id => completeJob id s2
      | .data id no =>
        let s3 := markJob id o.marked (onlyIf (decide (o.words ≠ 0)) (deliverWords o.refs o.words o.marked) s2)
        if f.status = 0 then finishCheck id (endWrite id no .acked s3)
        else endWrite id no .failed (failJob id stDenied (some .failover) s3)
      | _ => s1

/-- Bytes of a job's source arrive. -/
def readArrives (id : Nat) (data : List Byte) (s : State) : State :=
  match jobOf s id with
  | none => s
  | some j =>
    match j.read with
    | none => s
    | some r =>
      if r.asked = 0 then s
      else fetchRun id 400 (updJob id (fun x => { x with
        read := some { r with got := r.got ++ data.take r.asked, asked := 0 } }) s)

/-- An RD_RSP to a read of the node arrives (R177, R243). -/
def rdRspRx (p : PortId) (f : Frame) (s : State) : State :=
  if !receives (portAt s p) || !forMe s f || decide (f.type ≠ 0x02) || decide (f.vc ≠ 1) then s
  else
    let s1 := rxFrame p f s
    match outstFor s f with
    | none => s1
    | some o =>
      match o.kind with
      | .read id =>
        let s2 := dropOutst o s1
        if f.status = 0 then readArrives id f.payload s2 else readFailed id s2
      | _ => s1

/-! ### Enumeration -/

/-- The bytes of the unique identifier as frames carry them (R263). -/
def uidBytes : List Byte := bytesLE 16 Config.uid.toNat

/-- GRN_ID of the part. -/
def grnId (s : State) : W32 := if s.pwr.is832 then 0x02200404 else 0x01400808

/-- The ENUM_RSP to an ENUM frame (R263). -/
def enumRsp (s : State) (f : Frame) (ok : Bool) : Frame :=
  let data := uidBytes ++ bytesLE 4 (grnId s).toNat ++ bytesLE 4 (b2n s.pwr.role) ++ List.replicate 8 0
  { mkFrame s 0x0B 1 f.src.toNat with
    txn := f.txn, status := if ok then 0 else 3
    len := if ok then 32 else 0, payload := if ok then data else [] }

/-- An ENUM frame with HOPS = 1 arrives: the node takes its ID and window base, or refuses (R263). -/
def enumRx (p : PortId) (f : Frame) (s : State) : State :=
  if !receives (portAt s p) || !enumHere f || decide (f.vc ≠ 0) then s
  else
    let s1 := rxFrame p f s
    let id : BitVec 12 := f.h2.setWidth 12
    let win : BitVec 22 := f.addr.extractLsb' 26 22
    let ok := decide (f.addr.toNat % 0x4000000 = 0) && decide (id ≠ 0xFFF) &&
      (!s.ring.enumDone || (decide (id = s.ring.nodeId) && decide (win = s.ring.win)))
    if ok then
      let s2 := { s1 with ring := { s1.ring with
        enumDone := true, nodeId := id, win := win
        manager := if s1.ring.mode = .active then id else s1.ring.manager } }
      post 0x54 id.toNat 0 (sendIdents (sendReply p (plainTx .resp (enumRsp s2 f true)) s2))
    else sendReply p (plainTx .resp (enumRsp s1 f false)) s1

end Sys2Proof.Machine
end

