-- ==== Sys2Proof/Machine/Hier.lean ====
section
/-! DEFINITION. Manager and workers (R265 to R271): announcements, the worker table, peer contributions, gathering, and the
fabric-wide alarm. -/

namespace Sys2Proof.Machine

/-- 100 ms in ticks of CK_TIME. -/
def ticks100 : Nat := 12500000

/-- The node may originate frames of the hierarchy: ring service has begun, it has an ID, and a port is in SERVICE (R254, R264) (DEDUCED,
notes/assumptions/82). -/
def mayOriginate (s : State) : Bool := s.sys.bootDone && s.ring.enumDone && portUp s

/-- A CK_TIME interval has passed since a tick, or nothing was ever done (DESIGN CHOICE, notes/assumptions/80). -/
def tickDue (s : State) (t : Option Nat) (n : Nat) : Bool := (t.map (fun k => decide (n ≤ s.clk.ticks - k))).getD true

/-- An MGR or WKR frame of the node's own (DESIGN CHOICE, notes/assumptions/80). -/
def hierFrame (s : State) (type sub dst h2 : Nat) (payload : List Byte) : TxFrame :=
  plainTx .plain { mkFrame s type 2 dst with
    h2 := BitVec.ofNat 64 (sub <<< 56 + h2), len := BitVec.ofNat 9 payload.length, payload := payload }

/-- Send a frame of the node's own. -/
def sendPlain (t : TxFrame) (s : State) : State := { s with ring := sendTx t s.ring }

/-- The worker table slot of a node. -/
def slotOf (s : State) (id : BitVec 12) : Option Nat :=
  s.ring.workers.findIdx? (fun w => decide (w.map (·.id) = some id))

/-- The worker in a slot. -/
def workerAt (s : State) (k : Nat) : Option Worker := (s.ring.workers[k]?).join

/-- Change the worker in a slot. -/
def updWorker (k : Nat) (f : Worker → Worker) (s : State) : State :=
  { s with ring := { s.ring with workers := upd s.ring.workers k (fun w => w.map f) } }

/-! ### The fabric-wide alarm -/

/-- FABRIC_ALARM for an origin (R270). -/
def fabricAlarm (o : BitVec 12) (cause idx : BitVec 8) (s : State) : State :=
  sendPlain (hierFrame s 0x07 0x04 0xFFF (o.toNat <<< 36 + cause.toNat <<< 8 + idx.toNat) []) s

/-- An ACTIVE manager broadcasts an alarm at once and with the next 10 announcements (R270). -/
def raiseFabric (o : BitVec 12) (cause idx : BitVec 8) (s : State) : State :=
  fabricAlarm o cause idx { s with ring := { s.ring with
    faRepeat := s.ring.faRepeat.filter (fun e => decide (e.1 ≠ o)) ++ [(o, cause, idx, 10)] } }

/-- A node that raises its fatal alarm tells its manager, or as ACTIVE manager the fabric (R270). -/
def alarmTx (s : State) : State :=
  if s.ring.mode = .active then raiseFabric s.ring.nodeId s.hlt.fatalCause s.hlt.fatalIdx s
  else if s.ring.manager ≠ 0xFFF ∧ portUp s then
    sendPlain (hierFrame s 0x08 0x84 s.ring.manager.toNat
      (s.hlt.fatalCause.toNat <<< 8 + s.hlt.fatalIdx.toNat) []) s
  else s

/-! ### Announcements -/

/-- The 100 ms period of the ACTIVE manager's announcements has passed (R266, R270). -/
def announceTx (s : State) : State :=
  if s.ring.mode ≠ .active ∨ !mayOriginate s ∨ !tickDue s s.ring.annTick ticks100 then s
  else
    let s1 := sendPlain (hierFrame s 0x07 0x01 0xFFF s.ring.annSeq.toNat [])
      { s with ring := { s.ring with annSeq := s.ring.annSeq + 1, annTick := some s.clk.ticks } }
    let s2 := s1.ring.faRepeat.foldl (fun t e => fabricAlarm e.1 e.2.1 e.2.2.1 t) s1
    { s2 with ring := { s2.ring with
      faRepeat := (s2.ring.faRepeat.map (fun e => (e.1, e.2.1, e.2.2.1, e.2.2.2 - 1))).filter (fun e => decide (e.2.2.2 ≠ 0)) } }

/-- An MGR frame of a subtype that reaches the node, by broadcast or for it alone. -/
def isMgr (s : State) (f : Frame) (sub : Nat) (bcast : Bool) : Bool :=
  decide (f.type = 0x07) && decide (f.vc = 2) && decide (subType f = sub) && (if bcast then isBcast f else forMe s f)

/-- A WKR frame of a subtype for the node. -/
def isWkr (s : State) (f : Frame) (sub : Nat) : Bool :=
  decide (f.type = 0x08) && decide (f.vc = 2) && decide (subType f = sub) && forMe s f

/-- The node is the source of a frame. -/
def fromMe (s : State) (f : Frame) : Bool := s.ring.enumDone && decide (f.src = s.ring.nodeId)

/-- A frame reaches the hierarchy: it is received, and a broadcast goes on. -/
def hierIn (p : PortId) (f : Frame) (resid : Nat) (s : State) : State :=
  onlyIf (isBcast f) (forwardBcast p f resid) (rxFrame p f s)

/-- The node takes another manager (R266) (DEDUCED, notes/assumptions/83). -/
def takeManager (src : BitVec 12) (s : State) : State :=
  if s.ring.manager = src then s
  else
    let code := if s.ring.mode = .standby then 2 else 0
    let s1 := { s with ring := { s.ring with manager := src, helloDue := true } }
    if s.ring.manager = 0xFFF then s1 else post 0x55 src.toNat code s1

/-- An ANNOUNCE arrives (R266): a worker takes its source as manager; a manager that hears a lower ID stands by (DEDUCED,
notes/assumptions/83). -/
def announceRx (p : PortId) (f : Frame) (s : State) : State :=
  if !receives (portAt s p) || !isMgr s f 0x01 true then s
  else
    let s1 := hierIn p f 0 s
    if fromMe s f then s1
    else
      match s.ring.mode with
      | .worker => takeManager f.src s1
      | .active =>
        if f.src < s.ring.nodeId then
          post 0x55 f.src.toNat 2 { s1 with ring := { s1.ring with
            mode := .standby, manager := f.src, lowerTick := s.clk.ticks, helloDue := true } }
        else s1
      | .standby =>
        if f.src < s.ring.nodeId then takeManager f.src { s1 with ring := { s1.ring with lowerTick := s.clk.ticks } }
        else s1

/-- A STANDBY manager has heard no lower ID for 300 ms (R266). -/
def standbyTimeout (s : State) : State :=
  if s.ring.mode = .standby ∧ 3 * ticks100 ≤ s.clk.ticks - s.ring.lowerTick then
    post 0x55 s.ring.nodeId.toNat 1 { s with ring := { s.ring with
      mode := .active, manager := s.ring.nodeId, annTick := none } }
  else s

/-- A worker or STANDBY manager drops an MGR frame of another source than its manager, and counts it (R266, R381). -/
def mgrForeign (f : Frame) (s : State) : State :=
  let s1 := { s with ring := { s.ring with foreign := if s.ring.foreign = 31 then 31 else s.ring.foreign + 1 } }
  if withinSlow s s.ring.foreignT 32768 || !eventEnabled s.evt 0x58 then s1
  else post 0x58 f.src.toNat 0 { s1 with ring := { s1.ring with foreignT := some s.clk.slow } }

/-- Take an MGR frame that only the node's manager may send; an ACTIVE manager takes none (R266) (DEDUCED, notes/assumptions/82). -/
def fromManager (f : Frame) (g : State → State) (s : State) : State :=
  if s.ring.mode = .active then s
  else if f.src = s.ring.manager ∧ f.src ≠ 0xFFF then g s
  else mgrForeign f s

/-! ### The worker table -/

/-- The variant code of the part. -/
def variantCode (s : State) : Nat := if s.pwr.is832 then 2 else 1

/-- A worker sends HELLO: after taking its manager, after a failover, and every 10 s (R267). -/
def helloTx (s : State) : State :=
  if s.ring.mode = .active ∨ s.ring.manager = 0xFFF ∨ !mayOriginate s ∨
      (!s.ring.helloDue ∧ !tickDue s s.ring.helloTick 1250000000) then s
  else
    sendPlain (hierFrame s 0x08 0x81 s.ring.manager.toNat (variantCode s) uidBytes)
      { s with ring := { s.ring with helloDue := false, helloTick := some s.clk.ticks } }

/-- A worker newly entered. -/
def newWorker (s : State) (id : BitVec 12) : Worker :=
  ⟨id, s.clk.ticks, none, none, none, false, none, none⟩

/-- The ACTIVE manager receives HELLO: the worker takes the lowest free slot or is refreshed (R267). -/
def helloRx (p : PortId) (f : Frame) (s : State) : State :=
  if !receives (portAt s p) || !isWkr s f 0x81 then s
  else
    let s1 := hierIn p f 0 s
    if s.ring.mode ≠ .active then s1
    else
      match slotOf s f.src, s.ring.workers.findIdx? (·.isNone) with
      | some k, _ => updWorker k (fun w => { w with heardTick := s.clk.ticks }) s1
      | none, some k =>
        post 0x56 f.src.toNat 0 { s1 with ring := { s1.ring with
          workers := upd s1.ring.workers k (fun _ => some (newWorker s f.src)) } }
      | none, none => post 0x56 f.src.toNat 1 s1

/-- A worker has sent no HELLO or report for 30 s (R267). -/
def slotExpire (k : Nat) (s : State) : State :=
  match workerAt s k with
  | some w =>
    if 30 * 125000000 ≤ s.clk.ticks - w.heardTick then
      post 0x56 w.id.toNat 2 { s with ring := { s.ring with workers := upd s.ring.workers k (fun _ => none) } }
    else s
  | none => s

/-! ### Peer contributions -/

/-- A period of a given length in ticks, and the offset of slot k in it: slot k is due once in each period from offset k / 64 of it
(R268, R269). -/
def slotDue (s : State) (period k : Nat) (last : Option Nat) : Bool :=
  decide (k * period / 64 ≤ s.clk.ticks % period) && decide (last.map (· / period) ≠ some (s.clk.ticks / period))

/-- At a slot's offset the ACTIVE manager draws 6 words for its worker (R268). -/
def peerTx (k : Nat) (s : State) : State :=
  match workerAt s k with
  | none => s
  | some w =>
    if s.ring.mode ≠ .active ∨ !s.ring.peerEn ∨ !mayOriginate s ∨ halted s ∨ !slotDue s ticks100 k w.peerTick then s
    else
      let q := s.ring.pq.toNat
      let s1 := updWorker k (fun x => { x with peerTick := some s.clk.ticks }) s
      if ((queueOf s q).map (·.st)) ≠ some .on then peerSkipped s1
      else addWaiter q (mkWaiter s1 s1.clk.ord coreId 6 (.peer k) s1.clk.ord false false q) s1

/-- A worker stores a peer contribution in its slot; a manager keeps none (R113) (PRESUMED, notes/assumptions/84). -/
def peerStore (f : Frame) (s : State) : State :=
  if s.pwr.role then s
  else { s with lan := { s.lan with
    peer := BitVec.ofNat 384 (beNat (padTo 48 (f.payload.take 48))), peerNo := s.lan.peerNo + 1
    peerSlow := some s.clk.slow, peerCnt := s.lan.peerCnt + 1 } }

/-- A PEER frame arrives (R113, R268) (DEDUCED, notes/assumptions/83). -/
def peerRx (p : PortId) (f : Frame) (s : State) : State :=
  if !receives (portAt s p) || !isMgr s f 0x02 false then s
  else fromManager f (peerStore f) (hierIn p f 0 s)

/-! ### Gathering -/

/-- At a slot's offset the ACTIVE manager sends GATHER; the workers of one period share a sequence (R269) (DEDUCED, notes/assumptions/83).
-/
def gatherTx (k : Nat) (s : State) : State :=
  match workerAt s k with
  | none => s
  | some w =>
    let period := s.ring.gatherMs.toNat * 125000
    if s.ring.mode ≠ .active ∨ s.ring.gatherMs = 0 ∨ !mayOriginate s ∨ !slotDue s period k w.gatherTick then s
    else
      let begun := s.ring.workers.any (fun x => decide ((x.bind (·.gatherTick)).map (· / period) = some (s.clk.ticks / period)))
      let seq := if begun then s.ring.gatherSeq else s.ring.gatherSeq + 1
      sendPlain (hierFrame s 0x07 0x03 w.id.toNat seq.toNat [])
        (updWorker k (fun x => { x with gatherTick := some s.clk.ticks })
          { s with ring := { s.ring with gatherSeq := seq } })

/-- The lowest level among queues in state ON, in 1/65,536 of capacity; 0 when none is ON. -/
def lowestLevel (s : State) : Nat :=
  let ls := (s.stk.queues.filter (fun d => decide (d.st = .on))).map (fun d => level d * 65536 / max 1 (capacity s d))
  min 65535 ((ls.min?).getD 0)

/-- The health summary, Table 10-11. -/
def healthSummary (s : State) : List Word :=
  let boards := maskOf (nBoards s) (fun b => decide (boardSt s.grn b ≠ .retired))
  let live := maskOf (nBoards s) (fun b => decide (boardSt s.grn b = .live))
  let lanes := maskOf (nLanes s) (inService s)
  let faults := maskOf (nLanes s) (fun n => ((laneOf s n).map (fun l => decide (l.st = .fault))).getD false)
  let on := maskOf 16 (fun q => ((queueOf s q).map (fun d => decide (d.st = .on))).getD false)
  let benches := maskOf (nBenches s) (fun n => ((benchOf s n).map (·.st.inService)).getD false)
  [BitVec.ofNat 64 (boards + live <<< 8 + s.sil.floor.toNat <<< 16 + b2n s.hlt.fatal <<< 20
      + s.hlt.fatalCause.toNat <<< 24 + s.hlt.fatalIdx.toNat <<< 32 + s.sys.paceRatio.toNat <<< 48),
   BitVec.ofNat 64 (lanes + faults <<< 16 + on <<< 32 + benches <<< 48),
   BitVec.ofNat 64 (s.sys.paceTj.toNat + lowestLevel s <<< 16 + s.ring.healthFails.toNat <<< 32),
   BitVec.ofNat 64 ((nowNs s).toNat + (nowWrap s).toNat <<< 32 + (s.tim.steps.toNat % 256) <<< 48)]

/-- A worker that receives GATHER takes a snapshot and sends both reports (R92, R269). -/
def gatherReply (seq : Nat) (s : State) : State :=
  let s1 := takeSnapshot s
  let dst := s.ring.manager.toNat
  let tally := hierFrame s1 0x08 0x82 dst seq (wordsToBytes (snapRecord s s1.tal.epoch))
  let health := hierFrame s1 0x08 0x83 dst seq (wordsToBytes (healthSummary s1))
  sendPlain health (sendPlain tally { s1 with ring := { s1.ring with healthFails := 0 } })

/-- A GATHER frame arrives (R269). -/
def gatherRx (p : PortId) (f : Frame) (s : State) : State :=
  if !receives (portAt s p) || !isMgr s f 0x03 false then s
  else fromManager f (gatherReply (fldW f.h2 0 32)) (hierIn p f 0 s)

/-- A worker's report reaches the ACTIVE manager, which keeps the latest of each kind (R267, R269). -/
def reportRx (p : PortId) (f : Frame) (health : Bool) (s : State) : State :=
  if !receives (portAt s p) || !isWkr s f (if health then 0x83 else 0x82) then s
  else
    let s1 := hierIn p f 0 s
    match slotOf s f.src with
    | none => s1
    | some k =>
      if s.ring.mode ≠ .active then s1
      else
        let ws := some (bytesToWords f.payload)
        updWorker k (fun w => { w with
          heardTick := s.clk.ticks, reportSlow := some s.clk.slow, staleTold := false
          tally := if health then w.tally else ws, health := if health then ws else w.health }) s1

/-- A slot's latest report is older than two gather periods (R269). -/
def isStale (s : State) (w : Worker) : Bool :=
  decide (s.ring.gatherMs ≠ 0) &&
    (w.reportSlow.map (fun t => decide (msToSlow (2 * s.ring.gatherMs.toNat) < s.clk.slow - t))).getD false

/-- A slot becomes stale: its record is written (Table 10-12). -/
def gatherStale (k : Nat) (s : State) : State :=
  match workerAt s k with
  | some w =>
    if isStale s w && !w.staleTold then post 0x5A w.id.toNat k (updWorker k (fun x => { x with staleTold := true }) s) else s
  | none => s

/-! ### Alarms -/

/-- An ACTIVE manager receives ALARM (R270). -/
def alarmRx (p : PortId) (f : Frame) (s : State) : State :=
  if !receives (portAt s p) || !isWkr s f 0x84 then s
  else
    let s1 := hierIn p f 0 s
    if s.ring.mode = .active then raiseFabric f.src (f.h2.extractLsb' 8 8) (f.h2.extractLsb' 0 8) s1 else s1

/-- Record a fabric-wide alarm of a new origin (R270). -/
def recordFabric (f : Frame) (s : State) : State :=
  let o : BitVec 12 := f.h2.extractLsb' 36 12
  let c : BitVec 8 := f.h2.extractLsb' 8 8
  let i : BitVec 8 := f.h2.extractLsb' 0 8
  if s.ring.faOrigins.contains o then s
  else
    post 0x57 o.toNat (c.toNat <<< 8 + i.toNat) { s with ring := { s.ring with
      faValid := true, faCount := if s.ring.faCount = 7 then 7 else s.ring.faCount + 1
      faOrigins := o :: s.ring.faOrigins, faOrigin := o, faCause := c, faIndex := i } }

/-- A FABRIC_ALARM broadcast arrives (R266, R270) (DEDUCED, notes/assumptions/83). -/
def fabricAlarmRx (p : PortId) (f : Frame) (s : State) : State :=
  if !receives (portAt s p) || !isMgr s f 0x04 true then s
  else
    let s1 := hierIn p f 0 s
    if fromMe s f then s1
    else if s.ring.mode = .active then recordFabric f s1
    else fromManager f (recordFabric f) s1

end Sys2Proof.Machine
end

