-- ==== Sys2Proof/Machine/Tim.lean ====
section
/-! DEFINITION. Fabric time (11_fabric_time_and_launches.md): the counter and its discipline (R273 to R280), steps (R281, R282), SYNC
frames (R277), SYNC_IN (R278) and SYNC_OUT (R287). Rates are in units of 2^-32, times in units of 2^-32 ns. -/

namespace Sys2Proof.Machine

/-- A clamp of an integer to the range from -m to m. -/
def clampI (m : Nat) (v : Int) : Int := if v < -(m : Int) then -(m : Int) else if (m : Int) < v then (m : Int) else v

/-- TIM_DISC.MAX_PPM in units of 2^-32 of the nominal rate (DEDUCED, notes/assumptions/92). -/
def maxRate (s : State) : Nat := s.tim.maxPpm.toNat * 2 ^ 32 / 1000000

/-- The frequency term as the increment takes it: no more than MAX_PPM as it stands now (R279) (DEDUCED, notes/assumptions/92). -/
def rateF (s : State) : Int := clampI (maxRate s) s.tim.f.toInt

/-- The correction rate p of R279: the phase spread over T, within what F leaves of MAX (DEDUCED, notes/assumptions/92). -/
def phaseRate (s : State) : Int :=
  clampI (maxRate s - (rateF s).natAbs) (Int.tdiv s.tim.phase (max 1 s.tim.phaseT : Nat))

/-- The nominal increment in units of 2^-32 ns. -/
def incNom (s : State) : Int := s.tim.inc.toNat * 256

/-- One increment of the counter (R273, R279). -/
def countUp (s : State) : State :=
  let p := phaseRate s
  let inc := Int.fdiv (incNom s * (2 ^ 32 + rateF s + p)) (2 ^ 32)
  { s with tim := { s.tim with
      prev := s.tim.cnt, cnt := s.tim.cnt + BitVec.ofInt 80 inc
      phase := s.tim.phase - Int.tdiv (incNom s * p) (2 ^ 32) } }

/-! ### SYNC_OUT -/

/-- The start time of the committed schedule. -/
def outStartTime (s : State) : BitVec 48 := s.tim.outWrap ++ s.tim.outNs

/-- The first scheduled pulse at or after a time, in the half range of 48 bits (R287). -/
def firstPulse (s : State) (t : BitVec 48) : BitVec 48 :=
  let d := t - outStartTime s
  let per := max 1 s.tim.outPeriod.toNat
  if d.msb then outStartTime s
  else outStartTime s + BitVec.ofNat 48 ((d.toNat + per - 1) / per * per)

/-- The next pulse: after the last one emitted, and not in the past (R282, R287). -/
def nextPulse (s : State) : BitVec 48 :=
  match s.tim.outLast with
  | some l => if (now48 s - (l + 1)).msb then firstPulse s (l + 1) else firstPulse s (now48 s)
  | none => firstPulse s (now48 s)

/-- SYNC_OUT takes its next scheduled pulse anew (DEDUCED, notes/assumptions/94). -/
def resched (s : State) : State :=
  if s.tim.syncEn then { s with tim := { s.tim with outNext := some (nextPulse s) } } else s

/-- Pulses that a change of the counter passed (R282) (DEDUCED, notes/assumptions/94). -/
def skipped (s : State) (old : Option (BitVec 48)) : Nat :=
  match old, s.tim.outNext with
  | some a, some b => if (b - a).msb then 0 else (b - a).toNat / max 1 s.tim.outPeriod.toNat
  | _, _ => 0

/-! ### Steps and samples -/

/-- A step sets the counter in one tick (R281, R282): later launches are judged after it, and the present phase and the SYNC_IN reference
are void (DEDUCED, notes/assumptions/94). -/
def timeStep (src : Nat) (new : BitVec 80) (corr : Int) (s : State) : State :=
  let s1 := resched { s with tim := { s.tim with
    cnt := new, prev := new - 1, steps := s.tim.steps + 1, phase := 0, skipF := true, inRef := none } }
  let s2 := { s1 with tim := { s1.tim with
    outSkipped := s1.tim.outSkipped + BitVec.ofNat 16 (skipped s1 s.tim.outNext) } }
  postEvent 0x60 src s2.tim.steps.toNat (BitVec.ofInt 64 (Int.tdiv corr (2 ^ 32))) s2

/-- The local time since the previous accepted sample in ns, limited to 100 µs to 1 s (R279). -/
def sinceSample (s : State) : Nat :=
  match s.tim.lastT with
  | some t => clampN 100000 1000000000 (8 * (s.clk.ticks - t))
  | none => 1000000000

/-- The error in 1/16 ns, saturating (TIM_OFFSET). -/
def offset16 (e : Int) : W32 :=
  let v := Int.tdiv e (2 ^ 28)
  BitVec.ofInt 32 (if v < -(2 ^ 31) then -(2 ^ 31) else if 2 ^ 31 - 1 < v then 2 ^ 31 - 1 else v)

/-- A sample of the selected source is accepted: the discipline enters TRACK (R280) (DEDUCED, notes/assumptions/93). -/
def enterTrack (s : State) : State :=
  let back := decide (s.tim.disc = .holdover)
  onlyIf back (post 0x62 s.tim.src.toNat 0) { s with tim := { s.tim with disc := .track, trackSlow := s.clk.slow } }

/-- A sample error of the selected source, or of a host ADJ (R279): beyond the slew limit it steps, otherwise it slews; `own` says that
the selected source made it, and only then F changes (DEDUCED, notes/assumptions/92). -/
def sampleApply (src : Nat) (own : Bool) (e : Int) (s : State) : State :=
  let t := sinceSample s
  let s1 := if own then enterTrack { s with tim := { s.tim with offset := offset16 e, lastT := some s.clk.ticks } } else s
  if s.tim.slewLimit.toNat * 2 ^ 32 < e.natAbs then timeStep src (s.tim.cnt - BitVec.ofInt 80 e) (-e) s1
  else
    let f := clampI (maxRate s) (s.tim.f.toInt - Int.tdiv e (t * 2 ^ s.tim.gain.toNat : Nat))
    { s1 with tim := { s1.tim with
      f := if own && !s.tim.skipF then BitVec.ofInt 32 f else s1.tim.f
      skipF := if own then false else s1.tim.skipF, phase := -e, phaseT := t } }

/-- A sample or a SET is granted in this CK_TIME period (R286) (DEDUCED, notes/assumptions/125). -/
def meetHere (s : State) : State := { s with tim := { s.tim with metT := some s.clk.ticks } }

/-- A sample; one that meets a sample or a SET granted in the same CK_TIME period is discarded (R286) (DEDUCED, notes/assumptions/125). -/
def timeSample (src : Nat) (own : Bool) (e : Int) (s : State) : State :=
  if s.tim.metT = some s.clk.ticks then s else sampleApply src own e (meetHere s)

/-- TIM_CMD.SET: the counter takes TIM_SET_WRAP and TIM_SET_NS with a zero fraction; a SET is never discarded (R279, R281, R286) (DEDUCED,
notes/assumptions/93 and 125). -/
def timeSet (wrap : BitVec 16) (ns : BitVec 32) (s : State) : State :=
  let new : BitVec 80 := wrap ++ ns ++ (0 : BitVec 32)
  timeStep 4 new ((new.toNat : Int) - s.tim.cnt.toNat) (meetHere s)

/-- TIM_CMD.ADJ: the host offers -TIM_ADJ as a sample (R279) (DEDUCED, notes/assumptions/92). -/
def timeAdj (v : W32) (s : State) : State :=
  timeSample 3 (decide (s.tim.src = 3)) (-(v.toInt) * 2 ^ 32) s

/-- Apply a held TIM_CMD pair (R275). -/
def applyHeld (s : State) : State :=
  match s.tim.held with
  | none => s
  | some h =>
    let s1 := { s with tim := { s.tim with held := none } }
    match h with
    | .set wrap ns => timeSet wrap ns s1
    | .adj v => timeAdj v s1

/-- A TIM_CMD pair completes: SET goes before ADJ; while CK_TIME is lost the command is held in place of an earlier one. A pair that
completes after the clock came back and before its first tick finds the held one applied first (R275, R279) (DEDUCED,
notes/assumptions/93). -/
def timCmd (v : W32) (s : State) : State :=
  if !bitAt v 0 && !bitAt v 1 then s
  else
    let h := if bitAt v 0 then HeldTime.set s.tim.setWrap s.tim.setNs else .adj s.tim.adj
    let hold (t : State) : State := { t with tim := { t.tim with held := some h } }
    if s.tim.clkOk then applyHeld (hold (applyHeld s)) else hold s

/-- HOLD_MS has passed in TRACK without an accepted sample (R280). -/
def timeHoldover (s : State) : State :=
  if s.tim.disc = .track ∧ s.tim.holdMs.toNat * 32768 / 2000 ≤ s.clk.slow - s.tim.trackSlow then
    post 0x61 s.tim.src.toNat 0 { s with tim := { s.tim with
      disc := .holdover, phase := 0, skipF := true, inRef := none } }
  else s

/-! ### Sources of samples -/

/-- The fabric time that a SYNC frame gives at its arrival on a port: its stamp and CORR with the link delay added (R271, R277). -/
def syncRef (s : State) (p : PortId) (f : Frame) : BitVec 80 :=
  let w0 := leNat (f.payload.take 8)
  let w1 := leNat ((f.payload.drop 8).take 8)
  BitVec.ofNat 80 ((w1 / 2 ^ 48) * 2 ^ 64 + w0 + (syncCorr f + delayCorr s p) * 2 ^ 16)

/-- A SYNC frame of the node's manager gives a sample when SRC is 1 (R276, R277). -/
def syncTake (p : PortId) (f : Frame) (s : State) : State :=
  if s.tim.src = 1 ∧ s.tim.clkOk then timeSample 1 true ((s.tim.cnt - syncRef s p f).toInt) s else s

/-- A SYNC frame arrives: it goes on with its correction, and a worker or STANDBY manager takes it from its manager (R271, R277) (DESIGN
CHOICE, notes/assumptions/87). -/
def syncRx (p : PortId) (f : Frame) (s : State) : State :=
  if !receives (portAt s p) || !isMgr s f 0x05 true then s
  else
    let s1 := bumpFree (hierIn p f ((Config.freeWord s.clk.free).toNat % 2 ^ 40) s)
    if fromMe s f then s1 else fromManager f (syncTake p f) s1

/-- The SYNC period of the ACTIVE manager has passed: its frame waits for a port and takes its time when it leaves (R277). -/
def syncTx (s : State) : State :=
  if s.ring.mode ≠ .active ∨ !s.tim.syncTxEn ∨ !mayOriginate s ∨ !tickDue s s.ring.syncTick (s.tim.syncTxMs.toNat * 125000) then s
  else
    sendPlain (hierFrame s 0x07 0x05 0xFFF 0 (wordsToBytes (syncWords s)))
      { s with ring := { s.ring with syncTick := some s.clk.ticks } }

/-- The reference of an accepted SYNC_IN edge (R278): the nearest multiple of the period, or the previous reference plus the nearest
whole number of periods. -/
def inReference (s : State) : BitVec 48 :=
  let per := max 1 s.tim.inPeriod.toNat
  let near (x : Nat) : Nat := (2 * x + per * 2 ^ 32) / (2 * per * 2 ^ 32) * per
  match s.tim.inRef with
  | none => BitVec.ofNat 48 (near s.tim.cnt.toNat)
  | some r =>
    let d : BitVec 80 := s.tim.cnt - (r ++ (0 : BitVec 32))
    if d.msb then r - BitVec.ofNat 48 (near (2 ^ 80 - d.toNat)) else r + BitVec.ofNat 48 (near d.toNat)

/-- An edge of SYNC_IN within 100 µs of the last accepted one is ignored and counted (R278, R381). -/
def syncInIgnored (s : State) : State :=
  let s1 := { s with tim := { s.tim with inIgnored := s.tim.inIgnored + 1 } }
  if withinSlow s s.tim.inIgnT 32768 || !eventEnabled s.evt 0x63 then s1
  else post 0x63 0 s1.tim.inIgnored.toNat { s1 with tim := { s1.tim with inIgnT := some s.clk.slow } }

/-- A rising edge of SYNC_IN that was stable is stamped: it is captured and counted, and with SRC = 2 it gives a sample (R276, R278)
(DEDUCED, notes/assumptions/94). -/
def syncInEdge (s : State) : State :=
  if !s.tim.clkOk then s
  else if (s.tim.inLast.map (fun t => decide (s.clk.ticks - t < 12500))).getD false then syncInIgnored s
  else
    let s1 := { s with tim := { s.tim with
      inAccepted := s.tim.inAccepted + 1, inLast := some s.clk.ticks, inStamp := s.tim.cnt } }
    if s.tim.src ≠ 2 then s1
    else
      let r := inReference s
      timeSample 2 true ((s.tim.cnt - (r ++ (0 : BitVec 32))).toInt) { s1 with tim := { s1.tim with inRef := some r } }

/-! ### CK_TIME -/

/-- CK_TIME is lost: the counter holds and SYNC_OUT is inactive (R275). -/
def ckTimeLost (s : State) : State :=
  if !s.clk.ckTime then s
  else post 0x64 (b2n s.tim.clkSel) 0 { s with
    clk := { s.clk with ckTime := false }, tim := { s.tim with clkOk := false, outActive := false } }

/-- REFCLK stops: both ports are DOWN, and CK_TIME is lost if CLK_SEL takes it from REFCLK (R254, R274, R362). -/
def refclkLost (s : State) : State := ckRingAbsent (onlyIf (!s.tim.clkSel) ckTimeLost s)

/-- CK_TIME runs again (R275). -/
def ckTimeRestored (s : State) : State :=
  if s.clk.ckTime then s
  else post 0x65 (b2n s.tim.clkSel) 0 { s with clk := { s.clk with ckTime := true }, tim := { s.tim with clkOk := true } }

/-- One CK_TIME tick: the counter adds its increment unless a change of CLK_SEL holds it, and a held command is applied (R273, R275)
(DESIGN CHOICE, notes/assumptions/2 and 8). -/
def timeTick (s : State) : State :=
  if !s.clk.ckTime then s
  else
    let s1 := { s with tim := { s.tim with clkOk := true } }
    if s.tim.skipTicks ≠ 0 then
      { s1 with tim := { s1.tim with skipTicks := s1.tim.skipTicks - 1, prev := s1.tim.cnt } }
    else applyHeld (countUp s1)

/-! ### SYNC_OUT pulses and registers -/

/-- The pulse width in ticks: rounded up, and below the period (R287). -/
def pulseTicks (s : State) : Nat :=
  let w := (s.tim.outWidth.toNat + 7) / 8
  let p := (s.tim.outPeriod.toNat + 7) / 8
  if s.tim.outPeriod.toNat ≤ s.tim.outWidth.toNat then p - 1 else w

/-- A scheduled time is reached: a pulse begins (R287) (DESIGN CHOICE, notes/assumptions/103). -/
def syncOutPulse (s : State) : State :=
  match s.tim.outNext with
  | none => s
  | some t =>
    if !s.tim.syncEn || !s.tim.clkOk || !reached s t then s
    else { s with tim := { s.tim with
        outActive := true, outStart := s.clk.ticks, outLen := pulseTicks s, outEmitted := s.tim.outEmitted + 1
        outLast := some t, outNext := some (t + s.tim.outPeriod.zeroExtend 48) } }

/-- The pulse width has elapsed (R287). -/
def syncOutEnd (s : State) : State :=
  if s.tim.outActive ∧ s.tim.outLen ≤ s.clk.ticks - s.tim.outStart then { s with tim := { s.tim with outActive := false } }
  else s

/-- A write of TIM_SYNCOUT_START commits the schedule (R287). -/
def syncOutStart (v : W32) (s : State) : State :=
  resched { s with tim := { s.tim with outNs := v, outWrap := s.tim.outWrapReg } }

/-- A write of TIM_CTRL (R275, R276, R280, R287). Every write writes SRC and so selects the source anew (DEDUCED, notes/assumptions/93;
DESIGN CHOICE, notes/assumptions/95). -/
def timCtrlWrite (v : W32) (s : State) : State :=
  let change := decide (bitAt v 4 ≠ s.tim.clkSel)
  let en := bitAt v 8
  let src : BitVec 2 := v.setWidth 2
  let s1 := { s with tim := { s.tim with
    syncPol := bitAt v 9, syncEn := en, clkSel := bitAt v 4, src := src
    disc := if src = 0 then .free else .acquire, skipF := true, inRef := none
    skipTicks := if change then s.tim.skipTicks + (if Config.clkSelTwo s.clk.free then 2 else 1) else s.tim.skipTicks
    outNext := if en then s.tim.outNext else none, outActive := s.tim.outActive && en } }
  let s2 := onlyIf change bumpFree s1
  if en && !s.tim.syncEn then { s2 with tim := { s2.tim with outNext := some (firstPulse s2 (now48 s2)) } } else s2

end Sys2Proof.Machine
end

