-- ==== Sys2Proof/Machine/Lsp.lean ====
section
/-! DEFINITION. The local serial port (12_local_serial_port.md): slave transfers and the access engine's commands (R292 to R299,
R301), the flash bus with its queue (R303 to R309), and raw commands (R306). -/

namespace Sys2Proof.Machine

/-! ### Answers -/

/-- Answer an access that is not a stalling read: by a response frame, or to the control core; the access engine makes the local
host's response itself (R243, R299). -/
def answer (a : Acc) (write : Bool) (status : Nat) (data : List Byte) (un : Bool) (s : State) : State :=
  match pathPort a.path with
  | some p => sendReply p (plainTx .resp (replyFrame s a write status data un)) s
  | none => if a.path = .core then coreAnswer status data un s else s

/-! ### Slave transfers -/

/-- LSP_IRQ_N is asserted (R187) (DESIGN CHOICE, notes/assumptions/103). -/
def irqOn (s : State) : Bool := s.evt.irqEn && decide (s.evt.thresh.toNat ≤ s.evt.queue.length)

/-- A command of the access engine or its response is pending (LSP_SLV_STAT.PENDING). -/
def engPending (s : State) : Bool := s.lsp.cmd.isSome || s.lsp.resp.isSome

/-- READY of the next status byte (Table 12-2). -/
def slvReady (s : State) : Bool := if s.lsp.engEff then s.lsp.resp.isSome else !s.lsp.tx.isEmpty

/-- The status byte as it stands (Table 12-2). -/
def statusByte (s : State) : BitVec 8 :=
  let busy := if s.lsp.engEff then s.lsp.cmd.isSome && s.lsp.resp.isNone else decide (56 < s.lsp.rx.length)
  let un := s.lsp.engEff && ((s.lsp.resp.map (·.unchecked)).getD false)
  BitVec.ofNat 8 (128 * b2n (slvReady s) + 64 * b2n (irqOn s) + 32 * b2n busy + 16 * b2n s.lsp.errPend +
    8 * b2n s.lsp.short + 4 * b2n un + b2n (halted s))

/-- Set a bit of LSP_SLV_ERR. -/
def slvErr (bit : Nat) (s : State) : State :=
  { s with lsp := { s.lsp with err := s.lsp.err ||| BitVec.ofNat 5 (2 ^ bit), errPend := true } }

/-- The effective word length (R294). -/
def effLen (s : State) : Nat := if s.lsp.engEff then 32 else s.lsp.len.toNat

/-- The bits of a word in the order in which they are shifted. -/
def bitsOf (lsb : Bool) (n v : Nat) : List Bool :=
  let l := (List.range n).map (fun i => v.testBit i)
  if lsb then l else l.reverse

/-- The word that shifted bits form, right-aligned (R294). -/
def valOf (lsb : Bool) (bits : List Bool) : Nat :=
  (if lsb then bits.reverse else bits).foldl (fun v b => 2 * v + b2n b) 0

/-- A stored change of LSP_SLV_CFG.ENGINE takes effect: from 1 to 0 only with no command and no response pending; both FIFOs are empty
then (R301) (DEDUCED, notes/assumptions/97). -/
def engineSwitch (s : State) : State :=
  if s.lsp.engine = s.lsp.engEff || (s.lsp.engEff && engPending s) then s
  else { s with lsp := { s.lsp with engEff := s.lsp.engine, rx := [], tx := [] } }

/-- Random words of a response delivered once `sent` of its words have been shifted out: two data words each, the last one perhaps with
one (R299) (DEDUCED, notes/assumptions/97). -/
def randDone (r : EngResp) (sent : Nat) : Nat :=
  if sent = r.words.length then r.rand.length
  else if sent < r.lead then 0
  else min r.rand.length ((sent - r.lead) / 2 + 1)

/-- Words of the pending response enter the read path, at most 4 at a time (Table 1-2) (DEDUCED, notes/assumptions/97). -/
def lspFill (s : State) : State :=
  match s.lsp.resp with
  | none => s
  | some r =>
    let top := min r.rand.length (randDone r r.sent + 4)
    if top ≤ r.moved then s
    else
      toFlight (awRefs ((r.rand.drop r.moved).take (top - r.moved)))
        { s with lsp := { s.lsp with resp := some { r with moved := top } } }

/-- k whole words of the pending response have been shifted out: random words behind them are delivered, and after the last one
the response is no longer pending (R14, R299). -/
def respShift (k : Nat) (s : State) : State :=
  match s.lsp.resp with
  | none => s
  | some r =>
    let sent := min r.words.length (r.sent + k)
    let d0 := randDone r r.sent
    let d1 := randDone r sent
    let ws := (r.rand.drop d0).take (d1 - d0)
    let late := (r.rand.take d1).drop r.moved
    let fin := decide (sent = r.words.length)
    let s1 := { s with lsp := { s.lsp with
      resp := if fin then none else some { r with sent := sent, moved := max r.moved d1 }
      cmd := if fin then none else s.lsp.cmd } }
    if ws.isEmpty then s1
    else lspFill (deliverWords (awRefs ws) ws.length (awMarked ws) (toFlight (awRefs late) s1))

/-- A command is malformed or its transfer was incomplete: it is answered with FORMAT (R298) (DESIGN CHOICE, notes/assumptions/96). -/
def engFormat (w : W32) (s : State) : State :=
  engRespond 9 [] false [] (slvErr 3 { s with lsp := { s.lsp with
    cmd := some ⟨w, [], true⟩, cseq := s.lsp.cseq + 1 } })

/-- The command that a transfer carried is taken at the release of the select (R297, R298). OP and NM1 of a command word that did not
arrive whole are a free value (DEDUCED, notes/assumptions/97). -/
def engTake (words : List (List Bool)) (s : State) : State :=
  match words with
  | [] => s
  | b :: bs =>
    let whole := decide (b.length = 32)
    let w : W32 := if whole then BitVec.ofNat 32 (valOf s.lsp.lsbFirst b) else (Config.freeWord s.clk.free).setWidth 32
    if whole && decide (w = 0) then s
    else if engPending s then slvErr 0x4 s
    else if !whole then engFormat w (bumpFree s)
    else
      let op := fld w 29 3
      let n := fld w 24 5 + 1
      let full := (bs.filter (fun x => decide (x.length = 32))).map (fun x => (BitVec.ofNat 32 (valOf s.lsp.lsbFirst x) : W32))
      if op = 1 ∨ (op = 2 ∧ n ≤ full.length) then
        { s with lsp := { s.lsp with
            cmd := some ⟨w, if op = 2 then full.take n else [], false⟩, cseq := s.lsp.cseq + 1 } }
      else engFormat w s

/-- The word slots of a transfer with the engine on: what goes out, and the state after it (R297 to R299). -/
def engSlots (ready : Bool) (words : List (List Bool)) (s : State) : List Bool × State :=
  let out := match s.lsp.resp with
    | some r => if ready then r.words.drop r.sent else []
    | none => []
  let bits := (words.mapIdx (fun i b =>
    (bitsOf s.lsp.lsbFirst 32 (out.getD i 0).toNat).take b.length)).flatMap id
  let full := countP (fun b => decide (b.length = 32)) words
  (bits, engTake words (onlyIf ready (respShift full) s))

/-- One raw word slot: a word goes out from the transmit FIFO, or zeros; the word received enters the receive FIFO (R296). -/
def rawSlot (b : List Bool) (s : State) : List Bool × State :=
  let n := effLen s
  let v := ((s.lsp.tx.head?).map (·.toNat)).getD 0
  let s1 := if s.lsp.tx.isEmpty then slvErr 1 s else { s with lsp := { s.lsp with tx := s.lsp.tx.tail } }
  let w : W32 := BitVec.ofNat 32 (valOf s.lsp.lsbFirst b)
  let s2 := if s1.lsp.rx.length < 64 then { s1 with lsp := { s1.lsp with rx := s1.lsp.rx ++ [(b.length, w)] } } else slvErr 0 s1
  ((bitsOf s.lsp.lsbFirst n v).take b.length, s2)

/-- The raw word slots of a transfer. -/
def rawSlots : List (List Bool) → State → List Bool × State
  | [], s => ([], s)
  | b :: bs, s =>
    let r := rawSlot b s
    let q := rawSlots bs r.2
    (r.1 ++ q.1, q.2)

/-- A word cut short at the end of a transfer is counted (R294) (DESIGN CHOICE, notes/assumptions/96). -/
def shortWord (words : List (List Bool)) (s : State) : State :=
  match words.getLast? with
  | some b =>
    if b.length < effLen s then { s with lsp := { s.lsp with shorts := s.lsp.shorts + 1, short := true } } else s
  | none => s

/-- One slave transfer, given by the bits on LSP_MOSI at its clock edges (R292 to R299) (DESIGN CHOICE, notes/assumptions/96). -/
def lspTransfer (mosi : List Bool) (s : State) : State :=
  if !s.lsp.role || s.lsp.slavePend then s
  else
    let s0 := engineSwitch s
    let st := statusByte s0
    let s1 := { s0 with lsp := { s0.lsp with transfers := s0.lsp.transfers + 1, lastStatus := st } }
    let head := (bitsOf s.lsp.lsbFirst 8 st.toNat).take mosi.length
    if mosi.length < 8 then { s1 with lsp := { s1.lsp with miso := head } }
    else
      let s2 := { s1 with lsp := { s1.lsp with
        errPend := s1.lsp.errPend && !st.getLsbD 4, short := s1.lsp.short && !st.getLsbD 3 } }
      let words := chunks (effLen s2) (mosi.drop 8)
      let r := if s2.lsp.engEff then engSlots (st.getLsbD 7) words s2 else rawSlots words s2
      let s3 := shortWord words r.2
      { s3 with lsp := { s3.lsp with miso := head ++ r.1 } }

/-- Low periods of LSP_SEL_1, each after the first with the high period in ns before it: from 40 ns on that ends the transfer, below 10 ns
it does not, and between the two it may or may not (R295) (DESIGN CHOICE, notes/assumptions/96). -/
def lspPeriods (bits : List Bool) : List (Nat × List Bool) → State → State
  | [], s => lspTransfer bits s
  | (high, more) :: rest, s =>
    if high < 10 then lspPeriods (bits ++ more) rest s
    else if 40 ≤ high then lspPeriods more rest (lspTransfer bits s)
    else if Config.selectEnds s.clk.free then lspPeriods more rest (lspTransfer bits (bumpFree s))
    else lspPeriods (bits ++ more) rest (bumpFree s)

/-! ### The flash bus -/

/-- Settings of a window. -/
def xipCfg (s : State) (w : Nat) : XipCfg := if w = 0 then s.lsp.w0 else s.lsp.w1

/-- Change the settings of a window. -/
def updXip (w : Nat) (f : XipCfg → XipCfg) (s : State) : State :=
  { s with lsp := if w = 0 then { s.lsp with w0 := f s.lsp.w0 } else { s.lsp with w1 := f s.lsp.w1 } }

/-- Address bytes of an access, most significant first (R303). -/
def xipAddr (c : XipCfg) (off : Nat) : List Byte :=
  if c.addr4 then c.addrHi :: bytesBE 3 off else bytesBE 3 off

/-- Bytes of the piece of a write that comes next: up to the page boundary (R304). -/
def pieceLen (c : XipCfg) (o : XipOp) : Nat :=
  let page := 2 ^ (c.page.toNat + 4)
  min (o.len - o.done) (page - (o.off + o.done) % page)

/-- The command buffer as bytes (R306). -/
def mstBytes (s : State) : List Byte := w32ToBytes s.lsp.buf

/-- Address bytes of a raw command; with the reserved ADDR_MODE their number is open, a free value (R306) (DEDUCED,
notes/assumptions/102). -/
def rawAddr (s : State) (v : W32) : List Byte :=
  let m := fld v 28 2
  let n := if m = 0 then 0 else if m = 1 then 3 else if m = 2 then 4 else (Config.freeWord s.clk.free).toNat % 5
  bytesBE n s.lsp.mstAddr.toNat

/-- A transaction on a window at the window's bus settings (R302). -/
def xipTx (s : State) (w : Nat) (op : Byte) (addr : List Byte) (dummy : Nat) (wr : List Byte) (rd : Nat) : XipTx :=
  let c := xipCfg s w
  ⟨w, op, addr, dummy, wr, rd, c.mode, c.lateSample, c.div⟩

/-- The serial transactions with which a use of the bus begins (R303, R304, R306). -/
def xipTxs (s : State) (o : XipOp) : List XipTx :=
  let c := xipCfg s o.win
  match o.what with
  | .raw => [xipTx s o.win (BitVec.ofNat 8 (fld o.cmd 20 8)) (rawAddr s o.cmd) (fld o.cmd 15 5)
      ((mstBytes s).take (fld o.cmd 8 7)) (fld o.cmd 0 7)]
  | _ =>
    if o.write then
      [xipTx s o.win c.wrenOp [] 0 [] 0,
       xipTx s o.win c.ppOp (xipAddr c (o.off + o.done)) 0 ((o.data.drop o.done).take (pieceLen c o)) 0]
    else [xipTx s o.win c.rdOp (xipAddr c o.off) c.dummy.toNat [] o.len]

/-- The first use in the queue begins if it has not yet (R305); a raw command whose address is open draws its free value. -/
def xipStart (s : State) : State :=
  match s.lsp.ops with
  | o :: rest =>
    if o.started then s
    else
      let s1 := { s with lsp := { s.lsp with ops := { o with started := true } :: rest, bus := xipTxs s o } }
      onlyIf (decide (o.what = .raw) && decide (fld o.cmd 28 2 = 3)) bumpFree s1
  | [] => s

/-- The outputs LSP_DSEL_0 to LSP_DSEL_3 follow LSP_DSEL, but not during a transaction on window 1; a slave holds them low (R289, R309)
(DEDUCED, notes/assumptions/102; DESIGN CHOICE, notes/assumptions/103). -/
def dselSync (s : State) : State :=
  let during := match s.lsp.ops with
    | o :: _ => decide (o.win = 1) && o.started && !o.polling
    | [] => false
  if during then s
  else { s with lsp := { s.lsp with bankOut := if s.lsp.decEn && !s.lsp.role then s.lsp.bank else 0 } }

/-- Answer a use of the bus: an access gets its response, a DIGEST its source bytes; a raw command that made its transaction is DONE (R177,
R303, R306). -/
def xipReply (o : XipOp) (status : Nat) (data : List Byte) (s : State) : State :=
  match o.what with
  | .access a => answer a o.write status data false s
  | .digest id => if status = 0 then readArrives id data s else readFailed id s
  | .raw => { s with lsp := { s.lsp with mstBusy := false, mstDone := decide (status = 0) } }

/-- After a use of the bus the next one begins; a role switch that waited for it is done (R290, R305) (DEDUCED, notes/assumptions/101). -/
def xipNext (s : State) : State :=
  let s1 := { s with lsp := { s.lsp with slavePend := s.lsp.slavePend && !s.lsp.ops.isEmpty } }
  xipStart (dselSync s1)

/-- Bytes that a use of the bus reads. -/
def xipReads (o : XipOp) : Nat :=
  match o.what with
  | .raw => fld o.cmd 0 7
  | _ => if o.write then 0 else o.len

/-- A read or a raw command has ended with the bytes it read (R303, R306). -/
def xipComplete (o : XipOp) (data : List Byte) (s : State) : State :=
  match o.what with
  | .raw => xipReply o 0 [] { s with lsp := { s.lsp with
      buf := bytesToW32 (data ++ (mstBytes s).drop data.length) } }
  | _ => xipReply o 0 data s

/-- A serial transaction ends, with the bytes it read: a program cycle is followed by polling; while a write polls, a read or raw
command of the other window may be served whole between two polls (R303 to R306). -/
def xipDone (data : List Byte) (s : State) : State :=
  match s.lsp.ops with
  | [] => s
  | o :: rest =>
    if !o.started then s
    else if !o.polling then
      if data.length ≠ xipReads o then s
      else if o.write then
        dselSync { s with lsp := { s.lsp with
          ops := { o with polling := true, pollTick := s.clk.ticks, progTick := s.clk.ticks } :: rest } }
      else xipNext (xipComplete o data { s with lsp := { s.lsp with ops := rest } })
    else
      match rest.find? (fun x => decide (x.win ≠ o.win)) with
      | none => s
      | some x =>
        if x.write || decide (data.length ≠ xipReads x) then s
        else
          xipNext (xipComplete x data { s with lsp := { s.lsp with
            ops := o :: rest.erase x, bus := xipTxs s x } })

/-- A write goes on after a status byte that shows not busy: the next piece, or its end (R304). -/
def writeOn (o : XipOp) (rest : List XipOp) (s : State) : State :=
  let done := o.done + pieceLen (xipCfg s o.win) o
  if o.len ≤ done then xipNext (xipReply o 0 [] { s with lsp := { s.lsp with ops := rest } })
  else
    let o1 := { o with done := done, polling := false }
    { s with lsp := { s.lsp with ops := o1 :: rest, bus := xipTxs s o1 } }

/-- The program timeout of the write in service has passed (R304) (DEDUCED, notes/assumptions/101). -/
def pollOver (s : State) (o : XipOp) : Bool :=
  decide ((xipCfg s o.win).timeoutMs.toNat * 125000 ≤ s.clk.ticks - o.progTick)

/-- The poll interval passes during a write: the port reads the flash status byte (R304) (DEDUCED, notes/assumptions/101). -/
def flashPoll (sr : Byte) (s : State) : State :=
  match s.lsp.ops with
  | [] => s
  | o :: rest =>
    let c := xipCfg s o.win
    if !o.polling || s.clk.ticks - o.pollTick < usTicks c.intervalUs.toNat || pollOver s o then s
    else
      let o1 := { o with pollTick := s.clk.ticks }
      let s1 := updXip o.win (fun x => { x with lastSr := sr })
        { s with lsp := { s.lsp with ops := o1 :: rest, bus := [xipTx s o.win c.rdsrOp [] 0 [] 1] } }
      if sr.getLsbD c.busyBit.toNat = c.busyPol then writeOn o1 rest s1 else s1

/-- TIMEOUT_MS passes without the flash showing not busy: the write ends with an error (R304). -/
def pollTimeout (s : State) : State :=
  match s.lsp.ops with
  | [] => s
  | o :: rest =>
    if o.polling && pollOver s o then
      xipNext (xipReply o 3 [] (mstErr 3 { s with lsp := { s.lsp with ops := rest } }))
    else s

/-- A window is locked against writes and raw commands (R307). -/
def xipLocked (s : State) (w : Nat) : Bool := if w = 0 then s.lsp.lock0 else s.lsp.lock1

/-- Put a use at the end of the bus queue (R305). -/
def xipQueue (o : XipOp) (s : State) : State := xipStart { s with lsp := { s.lsp with ops := s.lsp.ops ++ [o] } }

/-- An access to an XIP window: alarm, permission, role, length and lock are checked, and it takes its place on the bus; on the OGN-832
every write is discarded with a record (R5, R290, R303 to R307, R343, R350) (DEDUCED, notes/assumptions/100). -/
def xipAccess (a : Acc) (w : Nat) (write : Bool) (off len : Nat) (data : List Byte) (s : State) : State :=
  let bad := decide (len = 0) || decide (256 < len) || decide (16777216 < off + len)
  let dropped := write && s.pwr.is832
  let s0 := onlyIf dropped (post 0x28 w 0) s
  if halted s then answer a write 8 [] false s0
  else if !permits s a.req (if write then .xipWr else .xipRd) then answer a write 2 [] false s0
  else
    let slave := s.lsp.role
    let locked := write && xipLocked s w
    let s1 := onlyIf locked (mstErr 2) (onlyIf bad (mstErr 0) (onlyIf slave (mstErr 1) s0))
    if slave || bad || dropped || locked then answer a write 3 [] false s1
    else xipQueue ⟨.access a, w, write, off, len, data, 0, false, 0, 0, false, 0⟩ s

/-- A raw command is refused for being busy, for its lengths, or on the OGN-832 for its opcode (R306) (DEDUCED, notes/assumptions/100). -/
def rawIllegal (s : State) (v : W32) : Bool :=
  s.lsp.mstBusy || decide (64 < fld v 8 7) || decide (64 < fld v 0 7) ||
    (s.pwr.is832 && !([0x03, 0x05, 0x0B, 0x5A, 0x9F].contains (fld v 20 8)))

/-- A raw command is refused (R290, R306, R307) (DEDUCED, notes/assumptions/100). -/
def rawRefused (s : State) (v : W32) : Bool := rawIllegal s v || s.lsp.role || xipLocked s (fld v 30 1)

/-- A completed LSP_MST_CMD pair with START = 1: one raw transaction, or a refusal under every cause that applies (R306, R307) (DEDUCED,
notes/assumptions/100 and 102). -/
def rawCommand (v : W32) (s : State) : State :=
  if rawRefused s v then
    onlyIf (xipLocked s (fld v 30 1)) (mstErr 2) (onlyIf s.lsp.role (mstErr 1) (onlyIf (rawIllegal s v) (mstErr 4) s))
  else
    xipQueue ⟨.raw, fld v 30 1, false, 0, 0, [], 0, false, 0, 0, false, v⟩
      { s with lsp := { s.lsp with mstBusy := true, mstDone := false } }

/-- Uses of the bus that wait, the one in service apart, end with an error. -/
def xipEndWaiting (p : XipOp → Bool) (status : Nat) (f : State → State) (s : State) : State :=
  let out := s.lsp.ops.tail.filter p
  let s1 := { s with lsp := { s.lsp with ops := s.lsp.ops.take 1 ++ s.lsp.ops.tail.filter (fun o => !p o) } }
  out.foldl (fun t o => xipReply o status [] (f t)) s1

/-- LSP_ROLE becomes 1: the transaction in progress completes, every queued use ends with an error (R290) (DEDUCED, notes/assumptions/100
and 102). -/
def roleSwitch (s : State) : State :=
  if s.lsp.role then s
  else
    let s1 := xipEndWaiting (fun _ => true) 3 (mstErr 1) { s with lsp := { s.lsp with role := true } }
    dselSync { s1 with lsp := { s1.lsp with slavePend := !s1.lsp.ops.isEmpty } }

/-- A write of LSP_FLASH_LOCK: a write or a raw command that waits on a locked window is refused (R307) (DEDUCED, notes/assumptions/101).
-/
def flashLock (l0 l1 : Bool) (s : State) : State :=
  let s1 := { s with lsp := { s.lsp with lock0 := l0, lock1 := l1 } }
  xipEndWaiting (fun o => (o.write || decide (o.what = .raw)) && xipLocked s1 o.win) 3 (mstErr 2) s1

/-- Under the fatal alarm or tamper hold every queued access ends with HALTED; a raw command has no response and stays
(R305). -/
def xipHalt (s : State) : State := xipEndWaiting (fun o => decide (o.what ≠ .raw)) 8 id s

end Sys2Proof.Machine
end

