-- ==== Sys2Proof/Machine/RegRead.lean ====
section
/-! DEFINITION. What every register reads as (Table 13-7 and the field tables of each chapter), and what a read does besides
(R316). A location that is reserved, or absent on the variant, reads zero (R4, R312). -/

namespace Sys2Proof.Machine

/-- The index of an offset in a register family: base, step and number of registers. -/
def slot (off base step n : Nat) : Option Nat :=
  if base ≤ off ∧ off < base + step * n ∧ (off - base) % step = 0 then some ((off - base) / step) else none

/-- The first location that is there; a reserved one reads zero. -/
def pick (l : List (Option W32)) : W32 := (l.findSome? id).getD 0

/-- SYS registers, the PACE registers among them. -/
def sysVal (s : State) (off : Nat) : W32 :=
  let y := s.sys
  match off with
  | 0x0000 => if s.pwr.is832 then 0x02010832 else 0x01010864
  | 0x0004 => packR [(31, b2n s.hlt.fatal), (30, b2n y.tamper), (29, b2n y.compatEn), (28, b2n y.bootDone),
      (27, b2n s.pwr.role), (25, s.pwr.bootSel.toNat)]
  | 0x0008 => packR [(0, b2n y.bootDone)]
  | 0x0010 => packR [(31, b2n y.viol), (16, y.violReq.toNat), (0, y.violOff.toNat)]
  | 0x0014 => packR [(31, b2n y.gBroken), (30, b2n y.gMismatch), (29, b2n y.gNoSlot), (28, b2n y.gRefused),
      (16, y.gReq.toNat), (0, y.gOff.toNat)]
  | 0x0018 => packR [(31, b2n y.compatPin), (0, b2n y.compatEn)]
  | 0x0020 => packR [(31, b2n y.slowExt), (30, b2n y.fellBack), (0, b2n y.slowSel)]
  | 0x0100 => packR [(31, b2n y.paceValid), (16, y.paceSeq.toNat), (0, y.paceRatio.toNat)]
  | 0x0104 => packR [(0, y.paceMin.toNat)]
  | 0x0108 => packR [(31, b2n y.tjValid), (0, y.paceTj.toNat)]
  | 0x010C => packR [(0, y.paceRace.toNat)]
  | 0x0110 => packR [(0, y.paceLow.toNat)]
  | _ => 0

/-- SIL registers. -/
def silVal (s : State) (off : Nat) : W32 :=
  let l := s.sil
  match off with
  | 0x1000 => packR [(31, b2n l.delivReady), (30, b2n l.dev), (29, b2n l.secondary), (24, l.stage.toNat), (20, l.fail.toNat),
      (18, l.uc.toNat), (0, Config.romVersion.toNat)]
  | 0x1004 => packR [(8, b2n l.compatOk), (1, b2n l.contCount), (0, b2n l.seasCount)]
  | 0x1008 => packR [(0, l.floor.toNat)]
  | 0x100C => packR [(0, l.reseedCap.toNat)]
  | 0x1010 => packR [(0, l.reqLimit.toNat)]
  | 0x1014 => packR [(0, l.lspId.toNat)]
  | 0x1018 => l.weights
  | _ => pick [
      (slot off 0x1020 4 4).map (fun c => l.perms.getD c 0),
      (slot off 0x1040 4 16).map (fun q => l.queues.getD q 0)]

/-- CAL registers. -/
def calVal (s : State) (off : Nat) : W32 :=
  let c := s.cal
  match off with
  | 0x2000 => packR [(31, b2n c.pin), (30, b2n c.lock)]
  | 0x2008 => packR [(30, b2n c.lock), (29, b2n c.otpCe), (0, c.restores.toNat)]
  | 0x2010 => c.cutCell
  | 0x2014 => c.cutWit
  | 0x2018 => c.timeTrim
  | _ => pick [
      (slot off 0x2100 4 64).map (fun n => c.cells.getD n 0),
      (slot off 0x2200 4 8).map (fun b => c.wits.getD b 0)]

/-- MBX registers, as a requester reads them (R324) (DESIGN CHOICE, notes/assumptions/10; DEDUCED, notes/assumptions/18). -/
def mbxVal (s : State) (r : ReqId) (off : Nat) : W32 :=
  let m := s.mbx
  let mine := decide (m.holder = some r)
  match off with
  | 0x3000 => packR [(30, m.op.toNat), (0, m.item.toNat)]
  | 0x3004 => packR [(31, b2n m.valid), (29, b2n mine), (28, b2n m.holder.isSome), (24, m.err.toNat),
      (12, (m.holder.map (·.toNat)).getD 0)]
  | _ => pick [(slot off 0x3010 4 8).map (fun k => if mine then m.data.getD k 0 else 0)]

/-- GRN_BOARD_STAT_b. FLOOR_COUNT shows the cells that count toward the floor now, at reset release too (R40) (DEDUCED,
notes/assumptions/108). -/
def boardStat (s : State) (b : Nat) (x : Board) : W32 :=
  let cells := boardCells s.grn b
  let m (p : Source → Bool) : Nat := maskOf 8 (fun i => ((cells[i]?).map p).getD false)
  packR [(30, x.st.code), (27, x.cause.toNat), (20, floorCount s.grn b), (8, m (fun c => decide (c.st = .live))),
    (0, m (fun c => c.retired))]

/-- GRN registers. GRN_RAW_DATA reads a word of the buffer once all its 32 bits are captured, and 0 before (R47) (DESIGN CHOICE,
notes/assumptions/107). -/
def grnVal (s : State) (off : Nat) : W32 :=
  let g := s.grn
  let c := g.cap
  match off with
  | 0x4000 => grnId s
  | 0x4034 => g.retireReg
  | 0x403C => packR [(0, g.err.toNat)]
  | 0x4040 => packR [(9, b2n c.pinned), (0, c.ctrlSrc.toNat)]
  | 0x4048 => packR [(31, b2n c.busy), (30, b2n c.done), (29, b2n c.pinned), (28, b2n c.hltFail), (16, c.source.toNat),
      (0, c.bits / 32)]
  | 0x404C => packR [(0, c.ptr.toNat)]
  | 0x4050 => if (c.ptr.toNat + 1) * 32 ≤ c.bits then memW32 c.buf (4 * c.ptr.toNat) else 0
  | _ => pick [
      (slot off 0x4010 4 8).map (fun b => ((g.en[b]?).map (·.zeroExtend 32)).getD 0),
      (slot off 0x4080 4 8).map (fun b => ((g.boards[b]?).map (boardStat s b)).getD 0),
      (slot off 0x40A0 4 8).map (fun b => ((g.wits[b]?).map (fun w =>
        packR [(29, w.st.code), (8, (effOffset s b).toNat), (0, w.rate.toNat % 256)])).getD 0),
      (slot off 0x4100 4 64).map (fun n => ((g.cells[n]?).map (fun x =>
        packR [(29, x.st.code), (22, effTrim s n), (14, effCredit s n),
          (0, if x.st = .off ∨ x.st = .stopped then 0 else x.rate.toNat)])).getD 0),
      (slot off 0x4200 4 64).map (fun n =>
        if n < nCells s then packR [(8, (Config.factoryTrim n).toNat), (0, factoryCap)] else 0)]

/-- HLT_CNT_n and HLT_WCNT_b of a source, with the copy of its RECENT (R319) (DESIGN CHOICE, notes/assumptions/11). -/
def hltCnt (copy : Nat) (x : Source) : W32 :=
  packR [(24, x.cntSeas.toNat), (16, x.cntApt.toNat), (8, x.cntRct.toNat), (0, copy)]

/-- HLT registers (DESIGN CHOICE, notes/assumptions/10). -/
def hltVal (s : State) (off : Nat) : W32 :=
  let h := s.hlt
  let g := s.grn
  let src (l : List Source) (n : Nat) (f : Source → W32) : W32 := ((l[n]?).map f).getD 0
  match off with
  | 0x5000 => packR [(16, s.sil.floor.toNat), (9, b2n (contCount s)), (8, b2n (seasCount s)), (7, b2n s.sys.compatEn),
      (0, boardsNotRetired g)]
  | 0x5008 => packR [(31, b2n h.retryPin), (0, h.retryMs.toNat)]
  | 0x5010 => packR [(16, (cutCell s).2), (0, (cutCell s).1)]
  | 0x5014 => packR [(16, (cutWit s).2), (0, (cutWit s).1)]
  | 0x501C => packR [(31, b2n h.fatal), (8, h.fatalIdx.toNat), (0, h.fatalCause.toNat)]
  | 0x5020 => packR [(0, h.sum.toNat)]
  | 0x5024 => packR [(31, b2n (decide (h.snapPend ≠ 0))), (16, h.wvalid.toNat), (0, h.seq.toNat)]
  | _ => pick [
      (slot off 0x5040 4 8).map (fun b => h.disc.getD b 0),
      (slot off 0x5100 4 64).map (fun n => src g.cells n (hltCnt (s.clk.copy.cells.getD n 0))),
      (slot off 0x5200 4 8).map (fun b => src g.wits b (hltCnt (s.clk.copy.wits.getD b 0))),
      (slot off 0x5400 4 64).map (fun n => src g.cells n (fun x => packR [(16, x.snap.ones.toNat), (0, x.snap.lag1.toNat)])),
      (slot off 0x5500 4 64).map (fun n => src g.cells n (fun x => packR [(31, b2n x.snap.valid), (0, x.snap.xc.toNat)])),
      (slot off 0x5600 4 8).map (fun b => src g.wits b (fun x => packR [(16, x.snap.ones.toNat), (0, x.snap.lag1.toNat)]))]

/-- Credit of the block in progress, the waiting block or the held seed of a plane (PLN_CREDIT_b). -/
def planeCredit (p : Plane) : Nat := ((p.blk.map (·.credit)).getD 0) + ((p.seed.map (·.credit)).getD 0)

/-- The four registers of a plane. -/
def planeReg (p : Plane) (k : Nat) : W32 :=
  let inProg := blockInProgress p
  let raw := if inProg then (p.blk.map (·.raw)).getD 0 else 0
  let marked := (inProg && (p.blk.map (·.marked)).getD false) || (p.seed.map (·.marked)).getD false
  if k = 0 then
    packR [(29, p.st.code), (28, b2n p.seed.isSome), (27, b2n marked), (16, p.witLast.toNat), (0, raw)]
  else if k = 1 then packR [(0, planeCredit p)]
  else if k = 2 then p.seeds
  else p.kerf

/-- PLN and TAL registers. -/
def plnVal (s : State) (off : Nat) : W32 :=
  let p := s.pln
  let t := s.tal
  match off with
  | 0x6084 => packR [(31, b2n p.katBusy), (30, b2n p.katDone), (16, p.katPass.toNat), (8, p.katFail.toNat),
      (0, p.katRan.toNat)]
  | 0x6088 => packR [(0, p.holdMax.toNat)]
  | 0x608C => packR [(0, b2n p.err)]
  | 0x6804 => packR [(31, b2n (decide (t.snapPend ≠ 0))), (30, b2n t.bufValid)]
  | 0x6808 => t.snapEpoch
  | 0x680C => t.epoch.setWidth 32
  | _ => pick [
      (slot off 0x6000 4 32).map (fun k => ((p.planes[k / 4]?).map (fun x => planeReg x (k % 4))).getD 0)]

/-- A lane that produces words is back-pressured (R13, R115). -/
def laneBlocked (s : State) (n : Nat) (l : Lane) : Bool :=
  (decide (l.st = .run) || decide (l.st = .stretch)) && backPressured s n l

/-- The four registers of a lane. -/
def laneReg (s : State) (n k : Nat) (l : Lane) : W32 :=
  if k = 0 then
    packR [(29, l.st.code), (28, b2n l.marked), (27, b2n (!l.pr.isEmpty)), (26, b2n (laneBlocked s n l)),
      (24, l.fault.toNat), (0, min 4095 l.segs)]
  else if k = 1 then l.gen
  else if k = 2 then packR [(16, l.stalls.toNat), (0, l.stretched.toNat)]
  else packR [(0, min 4095 l.peak)]

/-- LAN registers. -/
def lanVal (s : State) (off : Nat) : W32 :=
  let l := s.lan
  match off with
  | 0x7000 => packR [(0, l.base.toNat)]
  | 0x7004 => packR [(0, l.max.toNat)]
  | 0x7008 => packR [(0, l.timeMs.toNat)]
  | 0x700C => packR [(16, effBase s), (0, effLimit s)]
  | 0x7010 => packR [(0, l.en.toNat)]
  | 0x7018 => packR [(0, l.err.toNat)]
  | 0x701C => packR [(0, b2n l.peerEn)]
  | 0x7020 => packR [(31, b2n l.katBusy), (30, b2n l.katDone), (29, b2n l.katFailed), (16, l.katFailLane.toNat),
      (0, maskOf 16 (fun n => ((l.lanes[n]?).map (·.katPass)).getD false))]
  | 0x7024 => packR [(31, b2n l.peerSlow.isSome),
      (16, (s.clk.copy.peer.map (fun t => min 0xFFF (slowToMs (s.clk.slow - t)))).getD 0), (0, l.peerCnt.toNat)]
  | _ => pick [
      (slot off 0x7040 4 16).map (fun q => packR [(31, b2n (l.rebound.getD q false)), (0, (l.bind.getD q 0).toNat)]),
      (slot off 0x7100 4 64).map (fun k => ((l.lanes[k / 4]?).map (laneReg s (k / 4) (k % 4))).getD 0)]

/-- The registers of a queue, by their place in its block. -/
def queueReg (s : State) (k : Nat) (d : DQueue) : W32 :=
  match k with
  | 0 => packR [(4, b2n d.lowEvt), (3, b2n d.highEvt), (1, b2n d.ordered), (0, b2n (decide (d.st = .on ∨ d.st = .void)))]
  | 1 => packR [(0, d.base.toNat)]
  | 2 => packR [(0, d.size.toNat)]
  | 3 => packR [(16, d.high.toNat), (0, d.low.toNat)]
  | 4 => packR [(30, d.st.code), (5, b2n d.stallEnd), (4, b2n d.underrun), (3, b2n d.aged), (2, b2n d.markForced),
      (1, b2n d.lowHit), (0, b2n d.highHit)]
  | 5 => packR [(24, voidCount s d), (0, level d)]
  | 6 => packR [(0, d.min)]
  | 7 => packR [(0, d.wptr)]
  | 8 => packR [(0, d.capR.toNat)]
  | 9 => packR [(0, d.capM.toNat)]
  | 10 => d.kerf
  | 11 => packR [(16, d.stallEnds.toNat), (0, d.waits.length)]
  | _ => 0

/-- STK_RGN_STAT for a region. -/
def regionStat (s : State) (r : Nat) : W32 :=
  let x := regionOf s r
  let qs := queuesUsing s (x.subOf.getD r)
  let st := if x.retired then 2 else if x.subOf.isSome then 3 else if qs.isEmpty then 0 else 1
  let link := if x.retired then x.link.getD 0xFF else x.subOf.getD 0xFF
  if nRegions s ≤ r then 0
  else packR [(30, st), (24, if st = 1 ∨ st = 3 then qs.headD 0 else 0), (16, link), (0, x.ce.toNat)]

/-- A DRAWN or DRAWP that waits for the distribution unit (DQ_DIST_STAT). -/
def distWaiting (s : State) (j : Job) : Bool :=
  j.accepted && j.stop.isNone && decide (j.phase = .waiting) &&
    (decide (j.op = 0x02) || (decide (j.op = 0x03) && decide (s.stk.building ≠ some j.id)))

/-- STK and DQ registers. -/
def stkVal (s : State) (off : Nat) : W32 :=
  let k := s.stk
  match off with
  | 0x8400 => packR [(0, k.maxAge.toNat)]
  | 0x8404 => packR [(0, k.stallUs.toNat)]
  | 0x8408 => packR [(31, b2n k.keyReady), (30, b2n k.clearing), (16, (spares s).length),
      (8, countP (fun r => r.retired) k.regions)]
  | 0x840C => packR [(0, k.err.toNat)]
  | 0x8410 => k.ce
  | 0x8414 => packR [(0, k.ue.toNat)]
  | 0x8418 => packR [(0, k.rgnSel.toNat)]
  | 0x841C => regionStat s k.rgnSel.toNat
  | 0x8430 => packR [(16, k.passes.toNat), (0, k.period.toNat)]
  | 0x8440 => k.tagSel
  | 0x8444 => k.tagInfo
  | 0x8448 => k.tagGen
  | 0x8480 => packR [(31, b2n k.building.isSome), (0, countP (distWaiting s) s.job.jobs)]
  | 0x8484 => k.cand
  | 0x8488 => k.rej
  | _ => pick [
      (slot off 0x8000 4 256).map (fun i => ((queueOf s (i / 16)).map (queueReg s (i % 16))).getD 0),
      (slot off 0x8420 4 4).map (fun i => BitVec.ofNat 32 (maskOf 32 (fun j => (regionOf s (32 * i + j)).retired)))]

/-- JOB_REQ_STAT for the requester chosen. -/
def reqStat (s : State) (r : ReqId) : W32 :=
  let x := streamOf s r
  packR [(31, b2n ((x.map (streamWaits s)).getD false)),
    (30, b2n (s.job.jobs.any (fun j => j.accepted && decide (j.req = r) && decide (j.op = 0x38)))),
    (29, b2n ((x.map (·.discard.isSome)).getD false)), (16, inflightOf s r), (0, buffered s r)]

/-- JOB registers. -/
def jobVal (s : State) (off : Nat) : W32 :=
  let j := s.job
  match off with
  | 0x9000 => packR [(16, inflightAll s), (0, countP (fun x => decide (x.phase = .held)) j.jobs)]
  | 0x9004 => packR [(16, s.sil.lspId.toNat), (0, s.sil.reqLimit.toNat)]
  | 0x9008 => packR [(0, j.peak)]
  | 0x900C => packR [(0, j.err.toNat)]
  | 0x9030 => j.records
  | 0x9034 => j.progErr
  | 0x9040 => packR [(0, j.reqSel.toNat)]
  | 0x9044 => reqStat s j.reqSel
  | 0x9048 => j.tagSel
  | 0x904C => j.tagStat
  | _ => pick [
      (slot off 0x9010 4 4).map (fun c => packR [(0, cqWords s c)]),
      (slot off 0x9020 4 4).map (fun c => j.cqCnt.getD c 0)]

/-- PHASE of BNE_CUR_n: fetch while operands are missing; how far a computation has come after that is a free value among its phases
(Table 9-1 names no step between them) (DESIGN CHOICE, notes/assumptions/73). -/
def benchPhase (s : State) (b : Bench) : Nat :=
  match b.job.bind (jobOf s) with
  | none => b.phase.toNat
  | some j =>
    if j.read.isSome || (nextRead j).isSome then 1 else 2 + (Config.freeWord s.clk.free).toNat % 4

/-- The four registers of a bench. -/
def benchReg (s : State) (k : Nat) (b : Bench) : W32 :=
  if k = 0 then
    packR [(29, b.st.code), (28, b2n b.owner.isSome), (26, b.mismatch.toNat), (24, b.cause.toNat)]
  else if k = 1 then packR [(29, b2n b.relPend), (0, (b.owner.map (·.toNat)).getD 0)]
  else if k = 2 then
    let j := b.job.bind (jobOf s)
    packR [(31, b2n j.isSome), (28, benchPhase s b), (12, (j.map (·.req.toNat)).getD 0), (0, (j.map (·.tag.toNat)).getD 0)]
  else b.jobs

/-- BNE registers. -/
def bneVal (s : State) (off : Nat) : W32 :=
  let b := s.bne
  match off with
  | 0xA100 => packR [(0, b.idleMs.toNat)]
  | 0xA108 => packR [(31, b2n b.katBusy), (30, b2n b.katDone), (29, b2n b.katFailed), (28, b2n b.hashPass),
      (0, maskOf 4 (fun n => ((b.benches[n]?).map (·.katPass)).getD false))]
  | 0xA10C => packR [(0, b.err.toNat)]
  | 0xA110 => packR [(31, b2n b.loaded), (0, b.version.toNat)]
  | 0xA114 => packR [(16, b.ue.toNat), (0, b.ce.toNat)]
  | 0xA118 => packR [(0, (benchWaiters s).length)]
  | 0xA120 => packR [(31, b2n (s.job.jobs.any hashReady)), (16, hashStates s), (0, (hashWaiting s).length)]
  | 0xA124 => b.hashBytes
  | _ => pick [(slot off 0xA000 4 16).map (fun k => ((b.benches[k / 4]?).map (benchReg s (k % 4))).getD 0)]

/-- The node wraps at a port: the port is up and the other one is down (R258) (DEDUCED, notes/assumptions/88). -/
def wrapsAt (s : State) (p : PortId) : Bool :=
  decide ((portAt s p).st ≠ .down) && decide ((portAt s (otherPort p)).st = .down)

/-- The six registers of a port. -/
def portReg (s : State) (p : PortId) (k : Nat) : W32 :=
  let x := portAt s p
  match k with
  | 0 => packR [(29, x.st.code), (28, b2n (wrapsAt s p)), (16, x.partner.toNat), (15, b2n x.partnerReady),
      (12, x.cause.toNat), (11, b2n x.hiBer), (9, x.lock.toNat), (0, x.heldKeys.length)]
  | 1 => packR [(0, x.err.toNat)]
  | 2 => x.crc
  | 3 => x.replay
  | 4 => packR [(31, b2n x.delayValid), (0, x.delay.toNat)]
  | 5 => packR [(0, openWords s p)]
  | _ => 0

/-- RING_GATHER_STAT for the slot chosen. -/
def gatherStat (s : State) : W32 :=
  match workerAt s s.ring.gatherSel.toNat with
  | none => 0
  | some w =>
    packR [(31, 1), (30, b2n w.tally.isSome), (29, b2n w.health.isSome), (28, b2n (isStale s w)), (16, w.id.toNat),
      (0, ((s.clk.copy.reports.getD s.ring.gatherSel.toNat none).map (fun t => min 0xFFFF (slowToMs (s.clk.slow - t)))).getD 0)]

/-- RING registers. -/
def ringVal (s : State) (off : Nat) : W32 :=
  let r := s.ring
  match off with
  | 0xB000 => packR [(31, b2n r.enumDone), (30, b2n s.pwr.role), (16, r.nodeId.toNat)]
  | 0xB004 => packR [(26, r.win.toNat % 64)]
  | 0xB008 => packR [(0, r.win.toNat / 64)]
  | 0xB00C => packR [(0, r.fbase.toNat)]
  | 0xB010 => packR [(16, b2n r.autoRestore), (8, b2n r.bcastB)]
  | 0xB014 => packR [(16, r.creditTo.toNat), (0, r.debounce.toNat)]
  | 0xB018 => packR [(16, r.retryMax.toNat), (0, r.replayUs.toNat)]
  | 0xB01C => packR [(0, r.restoreMs.toNat)]
  | 0xB080 => packR [(16, r.foRemote.toNat), (0, r.foLocal.toNat)]
  | 0xB084 => r.foLast
  | 0xB088 => r.rxBad
  | 0xB08C => packR [(0, r.foLost.toNat)]
  | 0xB100 => if s.pwr.role then packR [(31, b2n r.peerEn), (24, r.pq.toNat), (0, r.gatherMs.toNat)] else 0
  | 0xB104 => packR [(30, r.mode.code), (16, r.manager.toNat), (10, countP (fun w => w.isSome) r.workers),
      (5, r.peerSkip.toNat), (0, r.foreign.toNat)]
  | 0xB108 => packR [(0, r.gatherSel.toNat)]
  | 0xB10C => gatherStat s
  | 0xB110 => packR [(31, b2n r.faValid), (28, r.faCount.toNat), (16, r.faOrigin.toNat), (8, r.faCause.toNat),
      (0, r.faIndex.toNat)]
  | _ => pick [
      (slot off 0xB040 4 8).map (portReg s .a),
      (slot off 0xB060 4 8).map (portReg s .b),
      (slot off 0xB400 4 128).map (fun i => r.route.getD i 0)]

/-- TIM registers. -/
def timVal (s : State) (off : Nat) : W32 :=
  let t := s.tim
  match off with
  | 0xC000 => packR [(9, b2n t.syncPol), (8, b2n t.syncEn), (4, b2n t.clkSel), (0, t.src.toNat)]
  | 0xC004 => packR [(30, t.disc.code), (29, b2n t.clkOk)]
  | 0xC008 => nowNs s
  | 0xC00C => packR [(0, t.steps.toNat)]
  | 0xC010 => t.inc
  | 0xC014 => t.f
  | 0xC018 => t.offset
  | 0xC01C => packR [(0, t.slewLimit.toNat)]
  | 0xC020 => packR [(16, t.maxPpm.toNat), (3, t.holdMs.toNat), (0, t.gain.toNat)]
  | 0xC024 => packR [(0, t.late.toNat)]
  | 0xC028 => if s.pwr.role then packR [(31, b2n t.syncTxEn), (0, t.syncTxMs.toNat)] else 0
  | 0xC02C => t.inPeriod
  | 0xC030 => packR [(16, t.inAccepted.toNat), (0, t.inIgnored.toNat)]
  | 0xC034 => t.outNs
  | 0xC038 => packR [(0, t.outWrapReg.toNat)]
  | 0xC03C => t.outPeriod
  | 0xC040 => packR [(0, t.outWidth.toNat)]
  | 0xC044 => packR [(16, t.outEmitted.toNat), (0, t.outSkipped.toNat)]
  | 0xC048 => t.setNs
  | 0xC04C => packR [(0, t.setWrap.toNat)]
  | 0xC050 => t.adj
  | 0xC054 => packR [(31, b2n t.cmdPin)]
  | 0xC05C => packR [(16, t.launchLate.toNat), (0, t.launchRej.toNat)]
  | _ => 0

/-- The six registers of an XIP window. -/
def xipReg (s : State) (w k : Nat) : W32 :=
  let c := xipCfg s w
  match k with
  | 0 => packR [(31, b2n c.lateSample), (16, c.mode.toNat), (0, c.div.toNat)]
  | 1 => packR [(24, c.rdOp.toNat), (16, c.addrHi.toNat), (8, c.dummy.toNat), (0, b2n c.addr4)]
  | 2 => if s.pwr.is832 then 0 else
      packR [(24, c.ppOp.toNat), (16, c.wrenOp.toNat), (8, c.rdsrOp.toNat), (7, b2n c.busyPol), (4, c.busyBit.toNat),
        (0, c.page.toNat)]
  | 3 => packR [(16, c.timeoutMs.toNat), (0, c.intervalUs.toNat)]
  | 4 => packR [(16, c.gap.toNat), (8, c.post.toNat), (0, c.pre.toNat)]
  | 5 => packR [(31, b2n (s.lsp.ops.any (fun o => decide (o.win = w) && o.polling))), (0, c.lastSr.toNat)]
  | _ => 0

/-- LSP registers. A transfer is one whole step, so SELECTED reads 0 between steps. -/
def lspVal (s : State) (off : Nat) : W32 :=
  let l := s.lsp
  match off with
  | 0xD000 => packR [(0, b2n l.role)]
  | 0xD004 => packR [(31, b2n l.engine), (9, b2n l.lsbFirst), (0, l.mode.toNat)]
  | 0xD008 => packR [(16, effLen s), (0, l.len.toNat)]
  | 0xD00C => packR [(30, b2n (engPending s)), (29, b2n (slvReady s)), (16, l.rx.length), (8, l.tx.length),
      (0, l.lastStatus.toNat)]
  | 0xD010 => packR [(0, l.err.toNat)]
  | 0xD014 => (l.rx.head?.map (fun e => packR [(31, 1), (0, e.1)])).getD 0
  | 0xD018 => (l.rx.head?.map (·.2)).getD 0
  | 0xD020 => packR [(16, l.transfers.toNat), (0, l.shorts.toNat)]
  | 0xD080 => if s.pwr.is832 then 0 else packR [(31, b2n l.decEn), (0, l.bank.toNat)]
  | 0xD084 => packR [(0, l.mstErr.toNat)]
  | 0xD088 => l.mstCmd
  | 0xD090 => l.mstAddr
  | 0xD094 => packR [(31, b2n l.mstBusy), (30, b2n l.mstDone)]
  | 0xD098 => packR [(31, b2n l.lockPin), (1, b2n l.lock1), (0, b2n l.lock0)]
  | _ => pick [
      (slot off 0xD040 4 8).map (xipReg s 0),
      (slot off 0xD060 4 8).map (xipReg s 1),
      (slot off 0xD0C0 4 16).map (fun k => l.buf.getD k 0)]

/-- EVT registers. -/
def evtVal (s : State) (off : Nat) : W32 :=
  let e := s.evt
  match off with
  | 0xE000 => packR [(31, b2n e.irqEn), (30, b2n e.ringEn), (0, e.ringNode.toNat)]
  | 0xE004 => packR [(31, b2n e.lost),
      (30, b2n (s.job.jobs.any (fun j => decide (j.phase = .record) && toEventQueue j))), (0, e.queue.length)]
  | 0xE008 => packR [(0, e.thresh.toNat)]
  | 0xE00C => e.lostCnt
  | 0xE010 => packR [(0, e.seq.toNat)]
  | _ => pick [(slot off 0xE020 4 4).map (fun i => e.mask.getD i 0)]

/-- The registers of the compatibility window, except CMP_DATA, while compatibility mode is active (R327, Table 13-5). -/
def cmpVal (s : State) (off : Nat) : W32 :=
  let cells := boardCells s.grn 0
  let m (p : Source → Bool) : W32 := BitVec.ofNat 32 (maskOf 8 (fun k => ((cells[k]?).map p).getD false))
  let trims (k : Nat) : W32 := packR [(24, effTrim s (k + 3)), (16, effTrim s (k + 2)), (8, effTrim s (k + 1)), (0, effTrim s k)]
  if !s.sys.compatEn then 0
  else
    match off with
    | 0xF004 => packR [(0, ((queueOf s 0).map (fun d => min 255 (level d))).getD 0)]
    | 0xF008 => ((s.grn.en.head?).map (·.zeroExtend 32)).getD 0
    | 0xF00C => m (fun c => decide (c.st = .live))
    | 0xF010 => trims 0
    | 0xF014 => trims 4
    | 0xF018 => m (fun c => decide (recent s c = 0))
    | 0xF01C => packR [(0, s.hlt.cmpFail.toNat)]
    | 0xF020 => ((planeOf s 0).map (·.seedsCmp)).getD 0
    | 0xF024 => packR [(0, b2n s.stk.cmpBit)]
    | 0xF028 => packR [(0, effBase s * 4096)]
    | _ => 0

/-- What a register reads as to a requester (R312) (DESIGN CHOICE, notes/assumptions/11). -/
def regVal (s : State) (r : ReqId) (off : Nat) : W32 :=
  match off / 0x1000 with
  | 0 => sysVal s off
  | 1 => silVal s off
  | 2 => calVal s off
  | 3 => mbxVal s r off
  | 4 => grnVal s off
  | 5 => hltVal s off
  | 6 => plnVal s off
  | 7 => lanVal s off
  | 8 => stkVal s off
  | 9 => jobVal s off
  | 10 => bneVal s off
  | 11 => ringVal s off
  | 12 => timVal s off
  | 13 => lspVal s off
  | 14 => evtVal s off
  | 15 => cmpVal s off
  | _ => 0

/-! ### What a read does besides -/

/-- The mailbox holding ends: its data registers and VALID clear (R324). -/
def mbxEnd (s : State) : State :=
  { s with mbx := { s.mbx with holder := none, valid := false, data := List.replicate 8 0 } }

/-- A read of DQ_STAT_n clears its sticky bits (R316). -/
def clearQStat (d : DQueue) : DQueue :=
  { d with
    stallEnd := false, underrun := false, aged := false, markForced := false, lowHit := false, highHit := false }

/-- A read of a queue register: sticky bits clear, MIN takes the present level, WPTR captures D and M (R132, R137). -/
def queueReadEffect (k : Nat) (d : DQueue) : DQueue :=
  match k with
  | 4 => clearQStat d
  | 6 => { d with min := level d }
  | 7 => { d with capR := BitVec.ofNat 21 (readPtr d), capM := BitVec.ofNat 21 (markPtr d) }
  | _ => d

/-- Reads of the families that clear or capture: rebound flags, lane peaks, queue registers, bench phases, port errors. -/
def familyReadEffect (off : Nat) (s : State) : State :=
  match slot off 0x7040 4 16, slot off 0x7100 4 64, slot off 0x8000 4 256, slot off 0xA000 4 16 with
  | some q, _, _, _ => { s with lan := { s.lan with rebound := upd s.lan.rebound q (fun _ => false) } }
  | _, some k, _, _ => onlyIf (decide (k % 4 = 3)) (updLane (k / 4) (fun l => { l with peak := 0 })) s
  | _, _, some i, _ => updQ (i / 16) (queueReadEffect (i % 16)) s
  | _, _, _, some k => onlyIf (decide (k % 4 = 2)) bumpFree s
  | _, _, _, _ => s

/-- What a read of a register does to the state: RC fields take their cleared values after it, and a few reads advance or capture (R316)
(DESIGN CHOICE, notes/assumptions/73). -/
def regAfter (r : ReqId) (off : Nat) (s : State) : State :=
  match off with
  | 0x0010 => { s with sys := { s.sys with viol := false } }
  | 0x0014 => { s with sys := { s.sys with gBroken := false, gMismatch := false, gNoSlot := false, gRefused := false } }
  | 0x0104 => { s with sys := { s.sys with paceMin := 0xFFFF } }
  | 0x302C => onlyIf (decide (s.mbx.holder = some r)) mbxEnd s
  | 0x403C => updGrn (fun g => { g with err := 0 }) s
  | 0x4050 => rawAdvance s
  | 0x5020 => { s with hlt := { s.hlt with sum := 0 } }
  | 0x608C => { s with pln := { s.pln with err := false } }
  | 0x7018 => { s with lan := { s.lan with err := 0 } }
  | 0x840C => { s with stk := { s.stk with err := 0 } }
  | 0x9008 => { s with job := { s.job with peak := inflightAll s } }
  | 0x900C => { s with job := { s.job with err := 0 } }
  | 0xA10C => { s with bne := { s.bne with err := 0 } }
  | 0xB044 => onPort .a (fun x => { x with err := 0 }) s
  | 0xB064 => onPort .b (fun x => { x with err := 0 }) s
  | 0xD010 => { s with lsp := { s.lsp with err := 0 } }
  | 0xD018 => { s with lsp := { s.lsp with rx := s.lsp.rx.tail } }
  | 0xD084 => { s with lsp := { s.lsp with mstErr := 0 } }
  | 0xE004 => { s with evt := { s.evt with lost := false } }
  | 0xF01C => onlyIf s.sys.compatEn (fun t => { t with hlt := { t.hlt with cmpFail := 0 } }) s
  | _ => familyReadEffect off s

end Sys2Proof.Machine
end

