-- ==== Sys2Proof/Machine/Boot.lean ====
section
/-! DEFINITION. Power, reset and straps (R331, R348, R349, R356 to R361), the mask ROM (R332 to R336), the end of the boot phase
(R341), compatibility mode (R329), CK_SLOW and pace (R17 to R21, R330). -/

namespace Sys2Proof.Machine

/-! ### Power and reset -/

/-- All volatile state is lost: the values of reset release, with the node still held in internal reset (R357, R361). Straps of the I/O
banks and the state of RESET_N and of the test port stay, and so do the commands that wait (DESIGN CHOICE, notes/assumptions/24). -/
def holdReset (phase : PwrPhase) (s : State) : State :=
  let r := State.atRelease s.pwr.is832 ResetPins.quiet
  { r with
    pwr := { r.pwr with
      phase := phase, bankL := s.pwr.bankL, bankC := s.pwr.bankC, jtag := s.pwr.jtag, jtagHold := s.pwr.jtagHold
      resetLow := s.pwr.resetLow, role := s.pwr.role, bootSel := s.pwr.bootSel }
    clk := { r.clk with free := s.clk.free }
    pending := s.pending }

/-- VIN rises through the release threshold: the bank straps are latched (R356, R360) (DESIGN CHOICE, notes/assumptions/106). -/
def vinRise (selL selC : Bool) (s : State) : State :=
  match s.pwr.phase with
  | .off => { s with pwr := { s.pwr with phase := .inReset, bankL := selL, bankC := selC } }
  | _ => s

/-- RESET_N goes low (R357, R360) (DESIGN CHOICE, notes/assumptions/24 and 106). -/
def resetAssert (s : State) : State :=
  let s1 := { s with pwr := { s.pwr with resetLow := true } }
  match s.pwr.phase with
  | .running => holdReset .inReset s1
  | _ => s1

/-- VIN falls below the falling threshold: keys and bench memories are zeroized, and all volatile state is lost (R360, R361) (DESIGN
CHOICE, notes/assumptions/106). -/
def brownOut (s : State) : State :=
  match s.pwr.phase with
  | .off => s
  | _ => holdReset .off s

/-- An IEEE 1149.1 instruction becomes current: EXTEST, CLAMP and HIGHZ hold the node in internal reset; leaving them starts a full reset
release (R359) (DESIGN CHOICE, notes/assumptions/106). -/
def jtagInstr (i : JtagHold) (s : State) : State :=
  let hold := decide (i = .extest) || decide (i = .clamp) || decide (i = .highz)
  let s1 := { s with pwr := { s.pwr with jtag := i, jtagHold := hold } }
  match s.pwr.phase with
  | .running => if hold then holdReset .inReset s1 else s1
  | _ => s1

/-! ### Tamper -/

/-- A port's retransmission store keeps no random payload (R348) (DEDUCED, notes/assumptions/26). -/
def tamperPort (p : PortId) (s : State) : State :=
  let out := (portAt s p).store.filter (fun t => decide (t.rand ≠ 0))
  let s1 := onPort p (fun x => { x with store := x.store.filter (fun t => decide (t.rand = 0)) }) s
  out.foldl (fun t f =>
    match f.kind with
    | .held key => freeHeld key (kerfFlight .halt f.refs f.words t)
    | .beacon id => endBeacon id .forced (kerfFlight .halt f.refs f.words t)
    | .peer => kerfFlight .halt f.refs f.words t
    | _ => t) s1

/-- Tamper: keys, memories and buffers are zeroized, every cell and witness stops, the control core halts, and the fatal alarm is raised
(R39, R157, R348, R349). With its witness STOPPED and no cell toward its floor, every board retires (R40). What the alarm does to every
unit follows in the same step (DEDUCED, notes/assumptions/26). -/
def tamperAct (s : State) : State :=
  if s.sys.tamper then s
  else
    let s1 := tamperPort .b (tamperPort .a s)
    let stop (x : Source) : Source := { x.leave with st := .stopped }
    let s2 := { s1 with
      sys := { s1.sys with tamper := true, armed := [] }
      stk := { s1.stk with maskKey := 0, keyReady := false, clearing := true }
      lan := { s1.lan with lanes := s1.lan.lanes.map (fun l => { l with drbg := Drbg.zero }) }
      grn := { s1.grn with
        cells := s1.grn.cells.map stop, wits := s1.grn.wits.map stop, cap := { s1.grn.cap with buf := [], busy := false } }
      mbx := { s1.mbx with data := List.replicate 8 0 }
      core := { s1.core with ram := [], halted := true, waiting := false, data := [] }
      bne := { s1.bne with benches := s1.bne.benches.map (fun b => { b with mem := [] }) }
      sil := { s1.sil with stage := if s1.sys.bootDone then s1.sil.stage else 8 } }
    (List.range (nBoards s2)).foldl (fun t b => retireBoard b 1 t)
      ((List.range (nBoards s2)).foldl (fun t b => haltPlane .halt b t) (raiseFatal 7 0 s2))

/-- A low pulse on TAMPER_N of a width in ns: from 200 ns on it is a tamper, below 50 ns it is ignored, between the two it may or may not
count (R348) (DESIGN CHOICE, notes/assumptions/25 and 106). -/
def tamperPulse (ns : Nat) (s : State) : State :=
  if 200 ≤ ns then tamperAct s
  else if ns < 50 then s
  else if Config.tamperCounts s.clk.free then tamperAct (bumpFree s) else bumpFree s

/-- Internal reset release: RESET_N is high, the rails are in regulation and the OTP load has ended; straps are sampled, and with TEST_EN
high the node stays in internal reset (R331, R332, R349, R358, R362) (DESIGN CHOICE, notes/assumptions/106). -/
def resetRelease (x : ResetPins) (s : State) : State :=
  match s.pwr.phase with
  | .inReset =>
    if s.pwr.jtagHold || x.testEn then s
    else
      let r := State.atRelease s.pwr.is832 x
      let r1 := { r with
        pwr := { r.pwr with bankL := s.pwr.bankL, bankC := s.pwr.bankC, jtag := s.pwr.jtag }
        clk := { r.clk with free := s.clk.free }
        pending := s.pending }
      if x.tamperN then r1 else tamperAct r1
  | _ => s

/-! ### The mask ROM -/

/-- The bytes of an image; the flash reads ones past what is given. -/
def imgBytes (l : List Byte) (off n : Nat) : List Byte := (List.range n).map (fun i => l.getD (off + i) 0xFF)

/-- A little-endian field of an image. -/
def imgLe (l : List Byte) (off n : Nat) : Nat := leNat (imgBytes l off n)

/-- Every byte of a range of an image is zero. -/
def imgZero (l : List Byte) (off n : Nat) : Bool := (imgBytes l off n).all (fun b => decide (b = 0))

/-- MAGIC and FORMAT are right (Table 14-1). -/
def magicOk (l : List Byte) : Bool := decide (imgBytes l 0 6 = [0x56, 0x4C, 0x4E, 0x50, 0x01, 0x00])

/-- A section lies inside the 16 MiB window; its offset and length are multiples of 4 (R333) (DEDUCED, notes/assumptions/23). -/
def sectionOk (base off len : Nat) : Bool :=
  decide (off % 4 = 0) && decide (len % 4 = 0) && decide (base + off + len ≤ 0x1000000)

/-- Every field of the header meets its limits, and every zero field is zero (Table 14-1, R334) (DEDUCED, notes/assumptions/23). -/
def headerOk (base : Nat) (l : List Byte) : Bool :=
  let bootLen := imgLe l 0x14 4
  let ucLen := imgLe l 0x20 4
  imgZero l 6 2 && decide (imgLe l 8 1 ≤ 254) && decide (imgLe l 9 1 < 16) && decide (imgLe l 0xB 1 ≤ 31) && imgZero l 0xC 4 &&
    sectionOk base (imgLe l 0x10 4) bootLen && decide (4 ≤ bootLen) && decide (bootLen ≤ 196608) &&
    decide (imgLe l 0x18 4 < bootLen) && decide (imgLe l 0x18 4 % 4 = 0) &&
    sectionOk base (imgLe l 0x1C 4) ucLen &&
    (if ucLen = 0 then imgZero l 0x28 48 else decide (524 ≤ ucLen) && decide (ucLen ≤ 66056)) && imgZero l 0xB9 231

/-- The cause with which an image fails, in the order of the checks; 0 when it is accepted (R334, Table 14-3). -/
def imageCause (base : Nat) (l : List Byte) (agree : Bool) : Nat :=
  let key := imgBytes l 0x58 97
  let keyOk := match Config.keyDigest with
    | some d => decide (beNat (sha384 key) = d.toNat)
    | none => true
  if !magicOk l then 1
  else if !headerOk base l then 2
  else if !keyOk then 3
  else
    let digest := sha384 (imgBytes l 0 0x1A0 ++ imgBytes l (imgLe l 0x10 4) (imgLe l 0x14 4))
    if ecdsaVerify p384 key (imgBytes l 0x1A0 96) digest = vPass ∧ agree then 0 else 4

/-- The bus settings of a header go to LSP_XIP_BUS_0 and LSP_XIP_RD_0; an image is first read at the reset settings (R332) (DEDUCED,
notes/assumptions/23). -/
def imageBus (l : List Byte) (s : State) : State :=
  let c : XipCfg := { s.lsp.w0 with
    lateSample := XipCfg.atReset.lateSample, mode := XipCfg.atReset.mode, div := XipCfg.atReset.div
    rdOp := XipCfg.atReset.rdOp, dummy := XipCfg.atReset.dummy, addr4 := XipCfg.atReset.addr4 }
  let bus := imgLe l 9 1
  let c1 : XipCfg :=
    if magicOk l then
      { c with
        div := BitVec.ofNat 8 (min 254 (imgLe l 8 1)), mode := BitVec.ofNat 2 bus, lateSample := bus.testBit 2
        addr4 := bus.testBit 3, rdOp := BitVec.ofNat 8 (imgLe l 0xA 1), dummy := BitVec.ofNat 5 (imgLe l 0xB 1) }
    else c
  { s with lsp := { s.lsp with w0 := c1 } }

/-- SIL_STAT.UC for an accepted image: 0 loaded, 1 absent, 2 digest mismatch, 3 signature invalid (R335) (DEDUCED, notes/assumptions/23).
-/
def ucodeCode (l : List Byte) (agree : Bool) : Nat :=
  let n := imgLe l 0x20 4
  let sec := imgBytes l (imgLe l 0x1C 4) n
  if n = 0 then 1
  else if sha384 sec ≠ imgBytes l 0x28 48 then 2
  else
    let key := bytesBE 512 Config.kolenatiModulus.toNat ++ bytesBE 4 65537
    let ok := decide (leNat ((sec.drop 4).take 4) + 520 = n) &&
      decide (rsaVerify true 2 4096 48 key (sec.drop (n - 512)) (sha384 (sec.take (n - 512))) = vPass) && agree
    if ok then 0 else 3

/-- The mask ROM accepts an image: the microcode is loaded if it is good, and the boot code is entered (R332, R335). -/
def bootEnter (l : List Byte) (agree : Bool) (s : State) : State :=
  let uc := ucodeCode l agree
  let body := imgBytes l (imgLe l 0x1C 4 + 8) (imgLe l 0x20 4 - 520)
  let s1 := { s with
    core := { s.core with
      ram := memWrite [] 0 (imgBytes l (imgLe l 0x10 4) (imgLe l 0x14 4)), entry := some (BitVec.ofNat 32 (imgLe l 0x18 4)) }
    sil := { s.sil with uc := BitVec.ofNat 2 uc, stage := 4 } }
  if uc = 0 then
    { s1 with bne := { s1.bne with
        loaded := true, ucode := body, version := BitVec.ofNat 16 (imgLe l (imgLe l 0x1C 4) 2)
        benches := s1.bne.benches.map (fun b => if b.st = .load then { b with st := .kat, kats := [.reset] } else b) } }
  else onlyIf (decide (uc = 2) || decide (uc = 3)) (post 0x71 0 uc) s1

/-- The mask ROM stops (R336). -/
def bootStop (stage cause : Nat) (s : State) : State :=
  { s with sil := { s.sil with stage := BitVec.ofNat 4 stage, fail := BitVec.ofNat 4 cause } }

/-- The mask ROM tries an image: its bus settings take effect, and SIL_STAT.DEV sets where check 3 is skipped (R332, R334) (DEDUCED,
notes/assumptions/23). -/
def tryImage (base : Nat) (l : List Byte) (agree : Bool) (s : State) : Nat × State :=
  let cause := imageCause base l agree
  let dev := Config.keyDigest.isNone && decide (cause ≠ 1) && decide (cause ≠ 2)
  let s1 := imageBus l s
  (cause, { s1 with sil := { s1.sil with dev := s1.sil.dev || dev } })

/-- The mask ROM sequence (R332 to R336) (DEDUCED, notes/assumptions/23). -/
def romBoot (x : BootFlash) (s : State) : State :=
  if s.sys.tamper || decide (s.sil.stage ≠ 0) || s.core.entry.isSome || s.sys.bootDone then s
  else if s.pwr.otpUe then bootStop 7 5 s
  else if 2 ≤ s.pwr.bootSel.toNat then bootStop 6 0 s
  else
    let a := tryImage 0 x.primary x.agreeBoot s
    if a.1 = 0 then bootEnter x.primary x.agreeUcode a.2
    else if s.pwr.bootSel = 0 then bootStop 7 a.1 a.2
    else
      let b := tryImage 0x800000 x.secondary x.agreeBoot { a.2 with sil := { a.2.sil with secondary := true } }
      if b.1 = 0 then bootEnter x.secondary x.agreeUcode b.2 else bootStop 7 b.1 b.2

/-- The control core can make accesses: it runs the mask ROM or the boot code, or what that leaves running (R336, R337, R348) (DESIGN
CHOICE, notes/assumptions/22). -/
def coreRuns (s : State) : Bool :=
  !s.core.halted && decide (s.sil.stage ≠ 6) && decide (s.sil.stage ≠ 7) && decide (s.sil.stage ≠ 8)

/-- The boot phase closes: READY, IDENT with READY = 1, ports in READY enter SERVICE, STAGE 5, BOOT_CLOSED (R328, R341). -/
def bootClose (s : State) : State :=
  let s1 := { s with
    sys := { s.sys with bootDone := true }, pwr := { s.pwr with ready := true }, sil := { s.sil with stage := 5 } }
  let enter (p : PortId) (t : State) : State := if (portAt t p).st = .ready then enterService p t else t
  let detail := b2n s.sil.secondary + 2 * b2n s.sil.dev + 4 * s.sil.uc.toNat
  post 0x70 0 detail (enter .b (enter .a (sendIdents s1)))

/-! ### Compatibility mode, CK_SLOW and pace -/

/-- A completed SYS_COMPAT pair that is not refused: the mode and the pin, with what a change of the health responses brings (R6, R66,
R329). -/
def compatSet (en pin : Bool) (s : State) : State :=
  modeChange (countOnly s) { s with sys := { s.sys with compatEn := en, compatPin := pin } }

/-- A write of SYS_SLOW (R330). -/
def slowSelect (v : W32) (s : State) : State :=
  let sel := bitAt v 0
  { s with sys := { s.sys with slowSel := sel, slowExt := sel && !s.sys.fellBack } }

/-- SLOWCLK has stopped: CK_SLOW falls back to the on-die oscillator until reset (R17). -/
def slowclkLost (s : State) : State :=
  if s.sys.slowExt then post 0x08 0 0 { s with sys := { s.sys with slowExt := false, fellBack := true } } else s

/-- A pace window ends (R18 to R21) (DEDUCED, notes/assumptions/26 and 46). -/
def paceEnd (x : PaceMeasure) (s : State) : State :=
  let y := s.sys
  let live := s.grn.cells.any (fun c => decide (c.st = .live))
  let s1 := { s with
    sys := { y with
      paceValid := true, paceSeq := y.paceSeq + 1, paceRatio := x.ratio
      paceMin := if x.ratio < y.paceMin then x.ratio else y.paceMin
      tjValid := true, paceTj := x.tj, paceRace := if live then x.race else 0 }
    grn := { s.grn with
      cells := s.grn.cells.mapIdx (fun i c => { c with rate := x.cells.getD i 0 })
      wits := s.grn.wits.mapIdx (fun i c => { c with rate := (x.wits.getD i 0).setWidth 12 }) } }
  if x.ratio < y.paceLow then postEvent 0x07 0 x.ratio.toNat ((sysVal s1 0x0108).setWidth 64) s1 else s1

end Sys2Proof.Machine
end

