-- ==== Sys2Proof/Machine/RegWrite.lean ====
section
/-! DEFINITION. What a write of every register does (Table 13-7 and the field tables of each chapter), guarded pairs (R320 to R322)
and ignored writes (R323). -/

namespace Sys2Proof.Machine

/-! ### Ignored writes and guard events -/

/-- A write is ignored under R323: it is recorded, and a LOCK_VIOL record written, at most one a millisecond for each requester (R381)
(DEDUCED, notes/assumptions/20). -/
def lockViol (r : ReqId) (off : Nat) (s : State) : State :=
  let s1 := { s with sys := { s.sys with viol := true, violReq := r, violOff := BitVec.ofNat 16 off } }
  let last := (s.sys.lockT.find? (fun e => decide (e.1 = r))).map (·.2)
  if withinSlow s last 32 || !eventEnabled s.evt 0x29 then s1
  else post 0x29 off r.toNat { s1 with sys := { s1.sys with
    lockT := (r, s.clk.slow) :: s.sys.lockT.filter (fun e => decide (e.1 ≠ r)) } }

/-- A write that the boot phase alone allows (R323). -/
def bootOnly (r : ReqId) (off : Nat) (f : State → State) (s : State) : State :=
  if s.sys.bootDone then lockViol r off s else f s

/-- The latest guard event's requester and value address (SYS_GUARD) (DEDUCED, notes/assumptions/20). -/
def guardNote (r : ReqId) (off : Nat) (s : State) : State :=
  { s with sys := { s.sys with gReq := r, gOff := BitVec.ofNat 16 off } }

/-- An armed value was dropped, or a complement had nothing to complete: BROKEN (R321). -/
def guardBroken (r : ReqId) (off : Nat) (s : State) : State :=
  guardNote r off { s with sys := { s.sys with gBroken := true } }

/-- The value that a requester has armed. -/
def armedOf (s : State) (r : ReqId) : Option Armed := s.sys.armed.find? (fun a => decide (a.req = r))

/-- A requester's armed value is armed no longer. -/
def disarm (r : ReqId) (s : State) : State :=
  { s with sys := { s.sys with armed := s.sys.armed.filter (fun a => decide (a.req ≠ r)) } }

/-- A requester's armed value is dropped without effect (R321) (DEDUCED, notes/assumptions/13). -/
def breakArm (r : ReqId) (s : State) : State :=
  match armedOf s r with
  | some a => guardBroken r a.off (disarm r s)
  | none => s

/-- The arms of other requesters at a guarded register are dropped by a write to one of its addresses (R321) (DEDUCED,
notes/assumptions/13). -/
def breakOthers (r : ReqId) (off : Nat) (s : State) : State :=
  (s.sys.armed.filter (fun a => decide (a.off = off) && decide (a.req ≠ r))).foldl (fun t a => breakArm a.req t) s

/-- The value address of a guarded register. -/
def guardBase (off : Nat) : Option Nat :=
  ([0x0008, 0x0018, 0x2000, 0x4034, 0x4040, 0x5008, 0xC054, 0xD088, 0xD098] : List Nat).find? (fun g =>
    decide (off = g) || decide (off = g + 4))

/-- A guarded register is pinned (R322). -/
def isPinned (s : State) (g : Nat) : Bool :=
  match g with
  | 0x0008 => s.sys.bootDone
  | 0x0018 => s.sys.compatPin
  | 0x2000 => s.cal.pin
  | 0x4040 => s.grn.cap.pinned
  | 0x5008 => s.hlt.retryPin
  | 0xC054 => s.tim.cmdPin
  | 0xD098 => s.lsp.lockPin
  | _ => false

/-! ### Guarded pairs -/

/-- A completed CAL_RESTORE pair: restore first, then lock and pin (R322, R347). -/
def calRestorePair (r : ReqId) (v : W32) (s : State) : State :=
  let s1 := if v.setWidth 4 = 0#4 then s else calRestoreGroups r (v.setWidth 4) s
  { s1 with cal := { s1.cal with lock := bitAt v 30, pin := bitAt v 31 } }

/-- A completed GRN_RAW_CTRL pair that is not refused (R46, R48). -/
def capturePair (v : W32) (s : State) : State :=
  let s1 := updGrn (fun g => { g with cap := { g.cap with ctrlSrc := v.setWidth 7, pinned := bitAt v 9 } }) s
  if bitAt v 8 then captureStart (fld v 0 7) s1 else s1

/-- A completed HLT_RETRY pair (R61). -/
def retryPair (v : W32) (s : State) : State :=
  { s with hlt := { s.hlt with retryMs := BitVec.ofNat 16 (clampN 100 60000 (fld v 0 16)), retryPin := bitAt v 31 } }

/-- A completed TIM_CMD pair (R275, R279, R322). -/
def timCmdPair (v : W32) (s : State) : State :=
  let s1 := timCmd v s
  { s1 with tim := { s1.tim with cmdPin := bitAt v 31 } }

/-- A completed LSP_MST_CMD pair that is not refused (R306). -/
def mstCmdPair (v : W32) (s : State) : State :=
  let s1 := if bitAt v 31 then rawCommand v s else s
  { s1 with lsp := { s1.lsp with mstCmd := v &&& 0x7FFFFF7F } }

/-- A completed LSP_FLASH_LOCK pair (R307). -/
def flashLockPair (v : W32) (s : State) : State :=
  let s1 := flashLock (bitAt v 0) (bitAt v 1) s
  { s1 with lsp := { s1.lsp with lockPin := bitAt v 31 } }

/-- A guarded register takes the value of a completed pair (R320, R322). -/
def guardApply (r : ReqId) (g : Nat) (v : W32) (s : State) : State :=
  match g with
  | 0x0008 => if r ≠ coreId then lockViol r 0x0008 s else onlyIf (bitAt v 0) bootClose s
  | 0x0018 => compatSet (bitAt v 0) (bitAt v 31) s
  | 0x2000 => calRestorePair r v s
  | 0x4034 => grnRetire (bitAt v 8) (fld v 0 7) s
  | 0x4040 => capturePair v s
  | 0x5008 => retryPair v s
  | 0xC054 => timCmdPair v s
  | 0xD088 => mstCmdPair v s
  | 0xD098 => flashLockPair v s
  | _ => s

/-- A register's rule refuses a completed pair (R321): SYS_COMPAT without sill permission (R329), a retirement (R43), a capture start
(R46), a raw command (R306) (DEDUCED, notes/assumptions/13). -/
def guardRefuses (s : State) (g : Nat) (v : W32) : Bool :=
  match g with
  | 0x0018 => bitAt v 0 && !s.sil.compatOk
  | 0x4034 => !retireOk (bitAt v 8) (fld v 0 7) s
  | 0x4040 => bitAt v 8 && !captureOk (fld v 0 7) s
  | 0xD088 => bitAt v 31 && rawRefused s v
  | _ => false

/-- What a refusal does besides SYS_GUARD.REFUSED: the unit's own error bit and record (R43, R46, R306). -/
def guardRefusal (g : Nat) (v : W32) (s : State) : State :=
  match g with
  | 0x4034 => grnRetire (bitAt v 8) (fld v 0 7) s
  | 0x4040 => captureStart (fld v 0 7) s
  | 0xD088 => rawCommand v s
  | _ => s

/-- A completed pair is applied, or refused by its register's rule (R320, R321). -/
def guardComplete (r : ReqId) (g : Nat) (v : W32) (s : State) : State :=
  if guardRefuses s g v then
    guardRefusal g v (guardNote r g { s with sys := { s.sys with gRefused := true } })
  else guardApply r g v s

/-- A write to a value address arms the value; at most 16 are armed at once (R320, R321) (DEDUCED, notes/assumptions/13). -/
def guardArm (r : ReqId) (g : Nat) (v : W32) (s : State) : State :=
  let s1 := breakOthers r g (breakArm r s)
  if 16 ≤ s1.sys.armed.length then guardNote r g { s1 with sys := { s1.sys with gNoSlot := true } }
  else { s1 with sys := { s1.sys with armed := s1.sys.armed ++ [⟨r, g, v, s1.clk.slow⟩] } }

/-- A write to a _C address (R320, R321) (DEDUCED, notes/assumptions/13). -/
def guardComp (r : ReqId) (g : Nat) (w : W32) (s : State) : State :=
  let s1 := breakOthers r g s
  match armedOf s1 r with
  | none => guardBroken r g s1
  | some a =>
    if a.off ≠ g then guardBroken r g (breakArm r s1)
    else if w = ~~~a.val then guardComplete r g a.val (disarm r s1)
    else guardNote r g (disarm r { s1 with sys := { s1.sys with gMismatch := true } })

/-- An armed value drops when 32 CK_SLOW cycles have passed without the complement: the edge that ends the last of them is the 33rd after
the arming (R321) (DEDUCED, notes/assumptions/123). -/
def armLives (s : State) (a : Armed) : Bool := decide (s.clk.slow < a.slow + 33)

/-- The value that a requester has armed, if its time has not passed. -/
def armedNow (s : State) (r : ReqId) : Option Armed :=
  (s.sys.armed.filter (armLives s)).find? (fun a => decide (a.req = r))

/-- The time of a requester's armed value passes (R321) (DEDUCED, notes/assumptions/123). -/
def guardTimeout (r : ReqId) (s : State) : State :=
  match armedOf s r with
  | some a => if armLives s a then s else breakArm r s
  | none => s

/-- Every armed value whose time has passed is dropped (R321) (DEDUCED, notes/assumptions/123). -/
def guardExpire (s : State) : State :=
  (s.sys.armed.filter (fun a => !armLives s a)).foldl (fun t a => guardBroken a.req a.off t)
    { s with sys := { s.sys with armed := s.sys.armed.filter (armLives s) } }

/-- A write to either address of a guarded register (R320 to R323). A write that R323 ignores arms and completes nothing; like every
access it breaks what its requester has armed elsewhere (DESIGN CHOICE, notes/assumptions/12; DEDUCED, notes/assumptions/13). -/
def guardWrite (r : ReqId) (g off : Nat) (v : W32) (s : State) : State :=
  let s1 := guardExpire s
  if isPinned s1 g then lockViol r off (breakArm r s1)
  else if off = g then guardArm r g v s1
  else guardComp r g v s1

/-! ### Register writes by block -/

/-- SYS registers. -/
def sysWrite (off : Nat) (v : W32) (s : State) : State :=
  match off with
  | 0x0020 => slowSelect v s
  | 0x0110 => { s with sys := { s.sys with paceLow := v.setWidth 16 } }
  | _ => s

/-- A write of SIL_HLT_RESP: the responses and the permission, with what a change of the responses brings (R53, R66, R338). -/
def hltRespWrite (v : W32) (s : State) : State :=
  modeChange (countOnly s) { s with sil := { s.sil with
    compatOk := bitAt v 8, contCount := bitAt v 1, seasCount := bitAt v 0 } }

/-- SIL registers; writes to a register that is RO or absent fall through (DEDUCED, notes/assumptions/19). -/
def silApply (off : Nat) (v : W32) (s : State) : State :=
  match off with
  | 0x1004 => hltRespWrite v s
  | 0x1008 => { s with sil := { s.sil with floor := BitVec.ofNat 4 (clampN 2 (max 2 (boardsNotRetired s.grn)) (fld v 0 4)) } }
  | 0x100C => limitsChanged { s with sil := { s.sil with reseedCap := BitVec.ofNat 9 (clampN 1 256 (fld v 0 9)) } }
  | 0x1010 => { s with sil := { s.sil with reqLimit := BitVec.ofNat 7 (clampN 1 64 (fld v 0 7)) } }
  | 0x1014 => { s with sil := { s.sil with lspId := if fld v 0 12 = 0xFFF then 0xFFE else v.setWidth 12 } }
  | 0x1018 => { s with sil := { s.sil with
      weights := packR ([0, 8, 16, 24].map (fun i => (i, clampN 1 4 (fld v i 3)))) } }
  | _ =>
    match slot off 0x1020 4 4, slot off 0x1040 4 16 with
    | some c, _ => { s with sil := { s.sil with perms := upd s.sil.perms c (fun _ => v &&& 0xFFFF00FF) } }
    | _, some q => { s with sil := { s.sil with queues := upd s.sil.queues q (fun _ => v &&& 0x8FFF00FF) } }
    | _, _ => s

/-- An offset holds a WB register of the SIL block. -/
def isSilWb (off : Nat) : Bool :=
  (slot off 0x1004 4 6).isSome || (slot off 0x1020 4 4).isSome || (slot off 0x1040 4 16).isSome

/-- SIL registers are written in the boot phase only (R323, R338). -/
def silWrite (r : ReqId) (off : Nat) (v : W32) (s : State) : State :=
  if isSilWb off then bootOnly r off (silApply off v) s else s

/-- The CAL registers with an override written; none at an offset that holds none. -/
def calOverride (s : State) (off : Nat) (v : W32) : Option Cal :=
  let c := s.cal
  match off with
  | 0x2010 => some { c with cutCell := v &&& 0x87FF00FF }
  | 0x2014 => some { c with cutWit := v &&& 0x87FF00FF }
  | 0x2018 => some { c with timeTrim := v &&& 0x8000FFFF }
  | _ =>
    match slot off 0x2100 4 (nCells s), slot off 0x2200 4 (nBoards s) with
    | some n, _ => some { c with cells := upd c.cells n (fun _ => v &&& 0xCFFFC000) }
    | _, some b => some { c with wits := upd c.wits b (fun _ => v &&& 0x800000FF) }
    | _, _ => none

/-- CAL override registers; while LOCK is 1 they ignore writes as pinned registers do (R345 to R347). -/
def calWrite (r : ReqId) (off : Nat) (v : W32) (s : State) : State :=
  match calOverride s off v with
  | none => s
  | some c => if s.cal.lock then lockViol r off s else calApply c s

/-- GRN registers. -/
def grnWrite (off : Nat) (v : W32) (s : State) : State :=
  match off with
  | 0x4030 => onlyIf (bitAt v 8) (grnRestart (fld v 0 7)) s
  | 0x404C => updGrn (fun g => { g with cap := { g.cap with ptr := v.setWidth 10 } }) s
  | _ =>
    match slot off 0x4010 4 (nBoards s) with
    | some b => grnEnWrite b v s
    | none => s

/-- Preset the failure counters of a source (HLT_CNT_n, HLT_WCNT_b). -/
def presetCnt (v : W32) (x : Source) : Source :=
  { x with cntSeas := v.extractLsb' 24 8, cntApt := v.extractLsb' 16 8, cntRct := v.extractLsb' 8 8 }

/-- HLT registers. -/
def hltWrite (off : Nat) (v : W32) (s : State) : State :=
  match off with
  | 0x5004 => onlyIf (bitAt v 0) hltSnapAsk s
  | _ =>
    match slot off 0x5040 4 (nBoards s), slot off 0x5100 4 (nCells s), slot off 0x5200 4 (nBoards s) with
    | some b, _, _ => { s with hlt := { s.hlt with disc := upd s.hlt.disc b (fun _ => v) } }
    | _, some n, _ => updGrn (updSrc n (presetCnt v)) s
    | _, _, some b => updGrn (updSrc (0x40 + b) (presetCnt v)) s
    | _, _, _ => s

/-- PLN and TAL registers. -/
def plnWrite (off : Nat) (v : W32) (s : State) : State :=
  match off with
  | 0x6080 => onlyIf (bitAt v 8) (plnKatCmd (fld v 0 8)) s
  | 0x6088 => { s with pln := { s.pln with holdMax := BitVec.ofNat 7 (clampN 1 100 (fld v 0 7)) } }
  | 0x6800 => onlyIf (bitAt v 0) (fun t => { t with tal := { t.tal with snapPend := t.tal.snapPend + 1 } }) s
  | _ =>
    match slot off 0x6008 16 (nBoards s), slot off 0x600C 16 (nBoards s) with
    | some b, _ => updPlane b (fun p => { p with seeds := v }) s
    | _, some b => updPlane b (fun p => { p with kerf := v }) s
    | _, _ => s

/-- LAN registers. -/
def lanWrite (off : Nat) (v : W32) (s : State) : State :=
  match off with
  | 0x7000 => limitsChanged { s with lan := { s.lan with base := BitVec.ofNat 9 (clampN 1 256 (fld v 0 9)) } }
  | 0x7004 => limitsChanged { s with lan := { s.lan with max := BitVec.ofNat 9 (clampN 1 256 (fld v 0 9)) } }
  | 0x7008 => { s with lan := { s.lan with timeMs := BitVec.ofNat 7 (clampN 1 100 (fld v 0 7)) } }
  | 0x7010 => lanEnWrite v s
  | 0x7014 => lanCmd (fld v 0 16) (bitAt v 16) (bitAt v 17) s
  | 0x701C => { s with lan := { s.lan with peerEn := bitAt v 0 } }
  | _ =>
    match slot off 0x7040 4 16, slot off 0x7108 16 (nLanes s) with
    | some q, _ => lanQbindWrite q v s
    | _, some n => updLane n (fun l => { l with stalls := v.extractLsb' 16 16, stretched := v.setWidth 16 }) s
    | _, _ => s

/-- The registers of a queue. -/
def queueWrite (q k : Nat) (v : W32) (s : State) : State :=
  match k with
  | 0 => dqCtrlWrite q v s
  | 1 => dqConfigWrite q false v s
  | 2 => dqConfigWrite q true v s
  | 3 => dqWmWrite q v s
  | 10 => updQ q (fun d => { d with kerf := v }) s
  | 11 => updQ q (fun d => { d with stallEnds := v.extractLsb' 16 16 }) s
  | _ => s

/-- STK and DQ registers. -/
def stkWrite (off : Nat) (v : W32) (s : State) : State :=
  match off with
  | 0x8400 => { s with stk := { s.stk with maxAge := BitVec.ofNat 19 (clampN 1 300000 (fld v 0 19)) } }
  | 0x8404 => { s with stk := { s.stk with stallUs := BitVec.ofNat 17 (clampN 10 100000 (fld v 0 17)) } }
  | 0x8410 => { s with stk := { s.stk with ce := v } }
  | 0x8414 => { s with stk := { s.stk with ue := v.setWidth 16 } }
  | 0x8418 => { s with stk := { s.stk with rgnSel := v.setWidth 7 } }
  | 0x8430 => { s with stk := { s.stk with period := BitVec.ofNat 10 (clampN 10 1000 (fld v 0 10)) } }
  | 0x8440 => stkTagSel v s
  | 0x8484 => { s with stk := { s.stk with cand := v } }
  | 0x8488 => { s with stk := { s.stk with rej := v } }
  | _ =>
    match slot off 0x8000 4 256 with
    | some i => queueWrite (i / 16) (i % 16) v s
    | none => s

/-- JOB registers. -/
def jobWrite (off : Nat) (v : W32) (s : State) : State :=
  match off with
  | 0x9030 => { s with job := { s.job with records := v } }
  | 0x9034 => { s with job := { s.job with progErr := v } }
  | 0x9040 => { s with job := { s.job with reqSel := v.setWidth 12 } }
  | 0x9048 => tagSelWrite v s
  | _ =>
    match slot off 0x9020 4 4 with
    | some c => { s with job := { s.job with cqCnt := upd s.job.cqCnt c (fun _ => v) } }
    | none => s

/-- BNE registers. A write of BNE_OWN_n with both bits set releases first. -/
def bneWrite (r : ReqId) (off : Nat) (v : W32) (s : State) : State :=
  match off with
  | 0xA100 => { s with bne := { s.bne with idleMs := BitVec.ofNat 14 (clampN 0 10000 (fld v 0 14)) } }
  | 0xA104 => onlyIf (bitAt v 8) (bneKatCmd v) s
  | 0xA114 => { s with bne := { s.bne with ue := v.extractLsb' 16 16, ce := v.setWidth 16 } }
  | 0xA124 => { s with bne := { s.bne with hashBytes := v } }
  | _ =>
    match slot off 0xA004 16 (nBenches s), slot off 0xA00C 16 (nBenches s) with
    | some n, _ => onlyIf (bitAt v 31) (benchClaim r n) (onlyIf (bitAt v 30) (benchRelease r n) s)
    | _, some n => updBench n (fun b => { b with jobs := v }) s
    | _, _ => s

/-- A write of RING_RETRY: both fields clamped, and their product limited to 500. -/
def retryWrite (v : W32) (s : State) : State :=
  let us := clampN 5 50 (fld v 0 6)
  let n := clampN 2 16 (fld v 16 5)
  { s with ring := { s.ring with
      replayUs := BitVec.ofNat 6 us, retryMax := BitVec.ofNat 5 (if 500 < n * us then 500 / us else n) } }

/-- A write of RING_MGR_CTRL, which a worker strap ignores. -/
def mgrCtrlWrite (v : W32) (s : State) : State :=
  let ms := fld v 0 16
  if s.pwr.role then
    { s with ring := { s.ring with
        peerEn := bitAt v 31, pq := v.extractLsb' 24 4
        gatherMs := BitVec.ofNat 16 (if ms = 0 then 0 else clampN 100 60000 ms) } }
  else s

/-- RING registers. -/
def ringWrite (off : Nat) (v : W32) (s : State) : State :=
  match off with
  | 0xB00C => { s with ring := { s.ring with fbase := v.setWidth 22 } }
  | 0xB010 => restoreCmd (fld v 0 2) { s with ring := { s.ring with autoRestore := bitAt v 16, bcastB := bitAt v 8 } }
  | 0xB014 => { s with ring := { s.ring with
      creditTo := BitVec.ofNat 9 (clampN 10 50 (fld v 16 9)), debounce := BitVec.ofNat 9 (clampN 16 256 (fld v 0 9)) } }
  | 0xB018 => retryWrite v s
  | 0xB01C => { s with ring := { s.ring with restoreMs := BitVec.ofNat 14 (clampN 10 10000 (fld v 0 14)) } }
  | 0xB048 => onPort .a (fun x => { x with crc := v }) s
  | 0xB04C => onPort .a (fun x => { x with replay := v }) s
  | 0xB068 => onPort .b (fun x => { x with crc := v }) s
  | 0xB06C => onPort .b (fun x => { x with replay := v }) s
  | 0xB080 => { s with ring := { s.ring with foRemote := v.extractLsb' 16 16, foLocal := v.setWidth 16 } }
  | 0xB088 => { s with ring := { s.ring with rxBad := v } }
  | 0xB100 => mgrCtrlWrite v s
  | 0xB108 => { s with ring := { s.ring with gatherSel := v.setWidth 6 } }
  | _ =>
    match slot off 0xB400 4 128 with
    | some i => { s with ring := { s.ring with route := upd s.ring.route i (fun _ => v) } }
    | none => s

/-- A write of TIM_SYNC_TX, which a worker strap ignores. -/
def syncTxWrite (v : W32) (s : State) : State :=
  if s.pwr.role then
    { s with tim := { s.tim with syncTxEn := bitAt v 31, syncTxMs := BitVec.ofNat 10 (clampN 1 1000 (fld v 0 10)) } }
  else s

/-- TIM registers. -/
def timWrite (off : Nat) (v : W32) (s : State) : State :=
  match off with
  | 0xC000 => timCtrlWrite v s
  | 0xC01C => { s with tim := { s.tim with slewLimit := BitVec.ofNat 20 (clampN 0 1000000 (fld v 0 20)) } }
  | 0xC020 => { s with tim := { s.tim with
      maxPpm := BitVec.ofNat 9 (clampN 10 500 (fld v 16 9)), holdMs := BitVec.ofNat 13 (clampN 20 8191 (fld v 3 13))
      gain := v.setWidth 3 } }
  | 0xC024 => { s with tim := { s.tim with late := BitVec.ofNat 17 (clampN 0 100000 (fld v 0 17)) } }
  | 0xC028 => syncTxWrite v s
  | 0xC02C => { s with tim := { s.tim with inPeriod := BitVec.ofNat 32 (clampN 100000 1000000000 v.toNat) } }
  | 0xC030 => { s with tim := { s.tim with inAccepted := v.extractLsb' 16 16, inIgnored := v.setWidth 16 } }
  | 0xC034 => syncOutStart v s
  | 0xC038 => { s with tim := { s.tim with outWrapReg := v.setWidth 16 } }
  | 0xC03C => resched { s with tim := { s.tim with outPeriod := BitVec.ofNat 32 (clampN 10000 1000000000 v.toNat) } }
  | 0xC040 => { s with tim := { s.tim with outWidth := BitVec.ofNat 16 (clampN 8 65535 (fld v 0 16)) } }
  | 0xC044 => { s with tim := { s.tim with outEmitted := v.extractLsb' 16 16, outSkipped := v.setWidth 16 } }
  | 0xC048 => { s with tim := { s.tim with setNs := v } }
  | 0xC04C => { s with tim := { s.tim with setWrap := v.setWidth 16 } }
  | 0xC050 => { s with tim := { s.tim with adj := v } }
  | 0xC05C => { s with tim := { s.tim with launchLate := v.extractLsb' 16 16, launchRej := v.setWidth 16 } }
  | _ => s

/-- A write of LSP_TX_DATA: the low LEN bits enter the transmit FIFO of 64 entries, in raw mode (R296) (DEDUCED, notes/assumptions/97). -/
def txDataWrite (v : W32) (s : State) : State :=
  if s.lsp.engEff then s
  else if 64 ≤ s.lsp.tx.length then slvErr 2 s
  else { s with lsp := { s.lsp with tx := s.lsp.tx ++ [BitVec.ofNat 32 (fld v 0 s.lsp.len.toNat)] } }

/-- The settings of an XIP window; LSP_XIP_WR_w is absent on the OGN-832. -/
def xipWriteReg (w k : Nat) (v : W32) (s : State) : State :=
  match k with
  | 0 => updXip w (fun c => { c with
      lateSample := bitAt v 31, mode := v.extractLsb' 16 2, div := BitVec.ofNat 8 (min 254 (fld v 0 8)) }) s
  | 1 => updXip w (fun c => { c with
      rdOp := v.extractLsb' 24 8, addrHi := v.extractLsb' 16 8, dummy := v.extractLsb' 8 5, addr4 := bitAt v 0 }) s
  | 2 => if s.pwr.is832 then s else updXip w (fun c => { c with
      ppOp := v.extractLsb' 24 8, wrenOp := v.extractLsb' 16 8, rdsrOp := v.extractLsb' 8 8, busyPol := bitAt v 7
      busyBit := v.extractLsb' 4 3, page := BitVec.ofNat 4 (min 8 (fld v 0 4)) }) s
  | 3 => updXip w (fun c => { c with
      timeoutMs := BitVec.ofNat 16 (clampN 1 10000 (fld v 16 16))
      intervalUs := BitVec.ofNat 16 (clampN 1 10000 (fld v 0 16)) }) s
  | 4 => updXip w (fun c => { c with
      gap := v.extractLsb' 16 8, post := v.extractLsb' 8 8, pre := v.extractLsb' 0 8 }) s
  | _ => s

/-- LSP registers other than LSP_ROLE; LSP_DSEL is absent on the OGN-832. -/
def lspWrite (off : Nat) (v : W32) (s : State) : State :=
  match off with
  | 0xD004 => { s with lsp := { s.lsp with engine := bitAt v 31, lsbFirst := bitAt v 9, mode := v.setWidth 2 } }
  | 0xD008 => { s with lsp := { s.lsp with len := BitVec.ofNat 6 (clampN 4 32 (fld v 0 6)) } }
  | 0xD01C => txDataWrite v s
  | 0xD020 => { s with lsp := { s.lsp with transfers := v.extractLsb' 16 16, shorts := v.setWidth 16 } }
  | 0xD080 => if s.pwr.is832 then s else dselSync { s with lsp := { s.lsp with decEn := bitAt v 31, bank := v.setWidth 4 } }
  | 0xD090 => { s with lsp := { s.lsp with mstAddr := v } }
  | _ =>
    match slot off 0xD040 4 8, slot off 0xD060 4 8, slot off 0xD0C0 4 16 with
    | some k, _, _ => xipWriteReg 0 k v s
    | _, some k, _ => xipWriteReg 1 k v s
    | _, _, some k => { s with lsp := { s.lsp with buf := upd s.lsp.buf k (fun _ => v) } }
    | _, _, _ => s

/-- The event codes that have a meaning, as the words of EVT_MASK_i at reset (DEDUCED, notes/assumptions/7). -/
def evtDefined : List W32 := [0x3F0781FE, 0x00000301, 0x07FF001F, 0x000F003F]

/-- EVT registers. Bits of EVT_MASK_i for reserved codes read 0; those for 0x02, 0x03 and 0x0F read 1. -/
def evtWrite (off : Nat) (v : W32) (s : State) : State :=
  match off with
  | 0xE000 => { s with evt := { s.evt with irqEn := bitAt v 31, ringEn := bitAt v 30, ringNode := v.setWidth 12 } }
  | 0xE008 => { s with evt := { s.evt with thresh := BitVec.ofNat 11 (clampN 1 1024 (fld v 0 11)) } }
  | 0xE00C => { s with evt := { s.evt with lostCnt := v } }
  | _ =>
    match slot off 0xE020 4 4 with
    | some i =>
      let forced : W32 := if i = 0 then 0x0000800C else 0
      { s with evt := { s.evt with mask := upd s.evt.mask i (fun _ => (v &&& evtDefined.getD i 0) ||| forced) } }
    | none => s

/-- The compatibility window (R51, R123, R327). -/
def cmpWrite (off : Nat) (v : W32) (s : State) : State :=
  if !s.sys.compatEn then s
  else if off = 0xF008 then grnEnWrite 0 v s
  else if off = 0xF024 && bitAt v 0 then cmpRefresh s
  else s

/-- A write of a register that is not guarded and not in the mailbox (R312, R317, R318). -/
def plainWrite (r : ReqId) (off : Nat) (v : W32) (s : State) : State :=
  match off / 0x1000 with
  | 0 => sysWrite off v s
  | 1 => silWrite r off v s
  | 2 => calWrite r off v s
  | 4 => grnWrite off v s
  | 5 => hltWrite off v s
  | 6 => plnWrite off v s
  | 7 => lanWrite off v s
  | 8 => stkWrite off v s
  | 9 => jobWrite off v s
  | 10 => bneWrite r off v s
  | 11 => ringWrite off v s
  | 12 => timWrite off v s
  | 13 => if off = 0xD000 then bootOnly r off (onlyIf (bitAt v 0) roleSwitch) s else lspWrite off v s
  | 14 => evtWrite off v s
  | 15 => cmpWrite off v s
  | _ => s

end Sys2Proof.Machine
end

