-- ==== Sys2Proof/Machine/Bus.lean ====
section
/-! DEFINITION. Accesses to the node's window: how they arrive and are answered (R243, R264, R311 to R316, R339), the mailbox (R324 to
R326), and the access engine's commands (R297 to R300). -/

namespace Sys2Proof.Machine

/-! ### The mailbox -/

/-- The words of a list of 64-bit words, each low half first. -/
def halves (ws : List Word) : List W32 := ws.flatMap (fun w => [w.setWidth 32, w.extractLsb' 32 32])

/-- Bytes as words, the first byte of each in bits [31:24] (R215, R352). -/
def beWords (bs : List Byte) : List W32 := (chunks 4 bs).map (fun c => BitVec.ofNat 32 (beNat c))

/-- Page p of a snapshot record (R95). -/
def recordPage (rec : List Word) (p : Nat) : List W32 := halves ((rec.drop (4 * p)).take 4)

/-- The customer key digest as bytes. -/
def keyBytesOtp : List Byte := bytesBE 48 ((Config.keyDigest.map (·.toNat)).getD 0)

/-- A time base value as item 0x0C00 lays it out. -/
def timeWords (s : State) (c : BitVec 80) : List W32 :=
  [c.setWidth 32, c.extractLsb' 32 32, (c.extractLsb' 64 16).setWidth 32, s.tim.steps.setWidth 32]

/-- The contents of a read item of Table 13-4; none for an unknown item. -/
def mbxItem (s : State) (item : Nat) : Option (List W32) :=
  let worker := workerAt s s.ring.gatherSel.toNat
  if item = 0x0000 then some ((List.range 4).map (fun k => Config.uid.extractLsb' (32 * k) 32))
  else if 0x0100 ≤ item ∧ item ≤ 0x011F then some ((s.sil.classes.drop (8 * (item - 0x0100))).take 8)
  else if item = 0x0200 then
    some [Config.otpLayout.setWidth 32, packR [(0, b2n Config.keyDigest.isSome)], s.pwr.otpCe]
  else if item = 0x0201 then some (beWords (keyBytesOtp.take 32))
  else if item = 0x0202 then some (beWords (keyBytesOtp.drop 32))
  else if 0x0600 ≤ item ∧ item ≤ 0x0607 then some (recordPage s.tal.buf (item - 0x0600))
  else if item = 0x0A00 then some (if s.bne.loaded then beWords (sha256 s.bne.ucode) else [])
  else if 0x0B00 ≤ item ∧ item ≤ 0x0B07 then some (recordPage ((worker.bind (·.tally)).getD []) (item - 0x0B00))
  else if item = 0x0B08 then some (halves ((worker.bind (·.health)).getD []))
  else if item = 0x0C00 then some (timeWords s s.tim.cnt)
  else if item = 0x0C01 then some (timeWords s s.tim.inStamp ++ [s.tim.inAccepted.setWidth 32])
  else if item = 0x0E00 ∨ item = 0x0E01 then
    some (((s.evt.queue.head?).map (fun e => halves [e.w0, e.w1, e.w2, e.w3])).getD [])
  else none

/-- The access class permits an item (Table 14-5). -/
def mbxPermits (s : State) (r : ReqId) (item : Nat) : Bool :=
  if (0x0600 ≤ item ∧ item ≤ 0x0607) ∨ (0x0B00 ≤ item ∧ item ≤ 0x0B08) then permits s r .audit
  else if item = 0x0E00 then permitsWr s r 14
  else true

/-- An item that can be written: the access class table (R342). -/
def mbxWritable (item : Nat) : Bool := decide (0x0100 ≤ item) && decide (item ≤ 0x011F)

/-- Eight data words. -/
def eight (l : List W32) : List W32 := (l ++ List.replicate 8 0).take 8

/-- The lowest error code that applies to an accepted select of an item (MBX_STAT.ERR, R326). -/
def mbxErr (s : State) (r : ReqId) (write : Bool) (item : Nat) : Nat :=
  if (mbxItem s item).isNone then 1
  else if !mbxPermits s r item then 2
  else if write && !mbxWritable item then 3
  else if write && s.sys.bootDone then 5
  else 0

/-- The item ends with an error: VALID with the data registers zero (R326). -/
def mbxFail (err : Nat) (s : State) : State :=
  { s with mbx := { s.mbx with valid := true, err := BitVec.ofNat 4 err, data := List.replicate 8 0 } }

/-- A read item is captured (R325); item 0x0E00 removes the oldest event entry (R186). -/
def mbxRead (r : ReqId) (item : Nat) (s : State) : State :=
  let err := mbxErr s r false item
  if err ≠ 0 then mbxFail err s
  else
    { s with
      mbx := { s.mbx with valid := true, err := 0, data := eight ((mbxItem s item).getD []) }
      evt := if item = 0x0E00 then { s.evt with queue := s.evt.queue.tail } else s.evt }

/-- A write item is applied: a page of the access class table, in the boot phase (R326, R342). -/
def mbxApply (r : ReqId) (item : Nat) (s : State) : State :=
  let err := mbxErr s r true item
  if err ≠ 0 then onlyIf (decide (err = 5)) (lockViol r 0x3000) (mbxFail err s)
  else
    let p := 8 * (item - 0x0100)
    { s with
      mbx := { s.mbx with valid := true, err := 0 }
      sil := { s.sil with classes := s.sil.classes.take p ++ s.mbx.data ++ s.sil.classes.drop (p + 8) } }

/-- A write of MBX_SEL (R324 to R326) (DEDUCED, notes/assumptions/18). -/
def mbxSelect (r : ReqId) (v : W32) (s : State) : State :=
  let mine := decide (s.mbx.holder = some r)
  let op := fld v 30 2
  let item := fld v 0 16
  let sel (t : State) : State :=
    { t with mbx := { t.mbx with op := v.extractLsb' 30 2, item := v.setWidth 16, holder := some r, slow := t.clk.slow } }
  if op = 3 then (if mine then mbxEnd (sel s) else s)
  else if s.mbx.holder.isSome && !mine then s
  else if op = 0 then mbxRead r item (sel s)
  else if op = 1 then mbxApply r item (sel s)
  else
    let s1 := sel s
    { s1 with mbx := { s1.mbx with valid := false, err := 0, data := List.replicate 8 0 } }

/-- The holder has made no access to the MBX block for 32 CK_SLOW cycles, which the 33rd edge after its last one shows (R324) (DEDUCED,
notes/assumptions/123). -/
def mbxTimeout (s : State) : State :=
  if s.mbx.holder.isSome ∧ s.mbx.slow + 33 ≤ s.clk.slow then mbxEnd s else s

/-- An access to the MBX block: a holding whose time has passed has ended, and one of the holder's restarts its time (R324) (DEDUCED,
notes/assumptions/18 and 123). -/
def mbxTouch (r : ReqId) (off : Nat) (s : State) : State :=
  if off / 0x1000 = 3 then
    let t := mbxTimeout s
    if t.mbx.holder = some r then { t with mbx := { t.mbx with slow := t.clk.slow } } else t
  else s

/-- A write to the MBX block (R324) (DEDUCED, notes/assumptions/18). -/
def mbxWrite (r : ReqId) (off : Nat) (v : W32) (s : State) : State :=
  if off = 0x3000 then mbxSelect r v s
  else
    match slot off 0x3010 4 8 with
    | some k =>
      if s.mbx.holder = some r then { s with mbx := { s.mbx with data := upd s.mbx.data k (fun _ => v) } } else s
    | none => s

/-! ### Register accesses -/

/-- One 32-bit register read: its value, what it does, and the end of an arm it breaks (R316, R321). -/
def readOne (r : ReqId) (off : Nat) (s : State) : W32 × State :=
  let t := mbxTouch r off s
  (regVal t r off, breakArm r (regAfter r off t))

/-- One 32-bit register write (R321). -/
def writeOne (r : ReqId) (off : Nat) (v : W32) (s : State) : State :=
  match guardBase off with
  | some g => guardWrite r g off v s
  | none =>
    let s1 := breakArm r s
    if off / 0x1000 = 3 then mbxWrite r off v (mbxTouch r off s1) else plainWrite r off v s1

/-- Consecutive register reads in ascending order (R313). -/
def readMany (r : ReqId) (off : Nat) : Nat → State → List W32 × State
  | 0, s => ([], s)
  | n + 1, s =>
    let a := readOne r off s
    let b := readMany r (off + 4) n a.2
    (a.1 :: b.1, b.2)

/-- Consecutive register writes in ascending order (R313). -/
def writeMany (r : ReqId) (off : Nat) : List W32 → State → State
  | [], s => s
  | v :: vs, s => writeMany r (off + 4) vs (writeOne r off v s)

/-- The queue whose owned registers an offset belongs to: DQ_CTRL, DQ_BASE, DQ_SIZE, DQ_WM, LAN_QBIND (R344). -/
def ownedQueue (off : Nat) : Option Nat :=
  match slot off 0x8000 4 256, slot off 0x7040 4 16 with
  | some i, _ => if i % 16 < 4 then some (i / 16) else none
  | _, some q => some q
  | _, _ => none

/-- A requester may write the register at an offset: by its block, MBX by READ, owned queues by their owner (R343, R344). -/
def mayWriteReg (s : State) (r : ReqId) (off : Nat) : Bool :=
  (if off / 0x1000 = 3 then permits s r .read else permitsWr s r (off / 0x1000)) &&
    ((ownedQueue off).map (mayConfigure s r)).getD true

/-- How a register access of n words ends before it begins: a bad length or alignment, a reserved range, or a denied word; none when it
is performed (R312, R313, R315). -/
def regEnds (s : State) (r : ReqId) (write : Bool) (off n : Nat) : Option Nat :=
  if 0x10000 < off + 4 * n then some 1
  else if n = 0 ∨ 64 < n ∨ off % 4 ≠ 0 then some 3
  else if write then
    (if (List.range n).all (fun i => mayWriteReg s r (off + 4 * i)) then none else some 2)
  else if permits s r .read then none
  else some 2

/-- A read that takes in CMP_DATA while compatibility mode is active (R153, R327) (DEDUCED, notes/assumptions/16). -/
def readsCmp (s : State) (off n : Nat) : Bool := s.sys.compatEn && decide (off ≤ 0xF000) && decide (0xF000 < off + 4 * n)

/-- Register reads: status, values, state (DEDUCED, notes/assumptions/14). -/
def regRead (r : ReqId) (off n : Nat) (s : State) : Nat × List W32 × State :=
  match regEnds s r false off n with
  | some st => (st, [], s)
  | none =>
    let a := readMany r off n s
    (0, a.1, a.2)

/-- A permitted register read that takes in CMP_DATA: that register is a stalling read of queue 0 with a length of 4 bytes. The registers
after it in the access are read with those before it (R153, R313) (DEDUCED, notes/assumptions/16). -/
def cmpRead (a : Acc) (off n : Nat) (s : State) : State :=
  if n = 1 then deliveryRead a 0 4 true true (breakArm a.req s)
  else if !slotFree s a then s
  else
    let k := (0xF000 - off) / 4
    let x := readMany a.req off k s
    let y := readMany a.req 0xF004 (n - k - 1) (breakArm a.req x.2)
    stallingRead a 0 4 (.burst a x.1 y.1) true true y.2

/-- Register writes: status, state (DEDUCED, notes/assumptions/14). -/
def regWrite (r : ReqId) (off : Nat) (ws : List W32) (s : State) : Nat × State :=
  match regEnds s r true off ws.length with
  | some st => (st, s)
  | none => (0, writeMany r off ws s)

/-! ### How an access arrives -/

/-- The requester of an access, by its path (Table 7-1). -/
def norm (s : State) (a : Acc) : Acc :=
  match a.path with
  | .core => { a with req := coreId }
  | .lsp => { a with req := s.sil.lspId }
  | _ => a

/-- Requests addressed to the node arrive on a port: it has block lock, and the node has its ID (R254, R263) (DEDUCED,
notes/assumptions/14). -/
def ringOpen (s : State) (p : PortId) : Bool := receives (portAt s p) && s.ring.enumDone

/-- A ring request of a port is taken from the link; a held read keeps its receive buffer until its slot frees (R245, R248). -/
def takeRequest (p : PortId) (hold mark : Bool) (s : State) : State := rxAccess p hold mark s

/-- The receive buffer of a held read that takes no held slot is free at once. -/
def dropHold (p : PortId) (hold : Bool) (s : State) : State := onlyIf hold (giveCredit p 1) s

/-- An access reaches the node by its path; a held read stays with the partner while its port has no held slot (R200, R249). Before
SYS_BOOT_DONE a ring request ends with NOT_READY and the local host has no access (R264, R338); node ID 0xFFF names no ring requester (Table 7-1). -/
def arrive (a : Acc) (hold write : Bool) (f : Acc → State → State) (s : State) : State :=
  let b := norm s a
  match pathPort a.path with
  | some p =>
    if !ringOpen s p || (hold && !slotFree s b) then s
    else
      let s1 := takeRequest p hold a.hold s
      if !s.sys.bootDone then answer b write 4 [] false (dropHold p hold s1)
      else if a.req = coreId then answer b write 2 [] false (dropHold p hold s1)
      else f b s1
  | none =>
    if a.path = .core then (if coreRuns s then f b s else s)
    else if s.sys.bootDone then f b s
    else s

/-- The registers whose single reads any ring requester may make before SYS_BOOT_DONE: SYS_ID, SYS_STAT, SIL_STAT, HLT_FATAL, RING_ID
(R339) (DEDUCED, notes/assumptions/14). -/
def openReg (off : Nat) : Bool :=
  decide (off = 0x0000) || decide (off = 0x0004) || decide (off = 0x1000) || decide (off = 0x501C) || decide (off = 0xB000)

/-- A register read arrives, is performed, and is answered (R243, R313, R339) (DEDUCED, notes/assumptions/14 and 15). -/
def readAccess (a : Acc) (off n : Nat) (s : State) : State :=
  match pathPort a.path with
  | some p =>
    if ringOpen s p && !s.sys.bootDone && openReg off && decide (n = 1) then
      answer a false 0 (w32ToBytes [regVal s a.req off]) false (takeRequest p false a.hold s)
    else
      arrive a false false (fun b t =>
        let x := regRead b.req off n t
        answer b false x.1 (w32ToBytes x.2.1) false x.2.2) s
  | none =>
    arrive a false false (fun b t =>
      let x := regRead b.req off n t
      answer b false x.1 (w32ToBytes x.2.1) false x.2.2) s

/-- A register write arrives, is performed, and is answered (R243, R313) (DEDUCED, notes/assumptions/14 and 15). -/
def writeAccess (a : Acc) (off : Nat) (ws : List W32) (s : State) : State :=
  arrive a false true (fun b t =>
    let x := regWrite b.req off ws t
    answer b true x.1 [] false x.2) s

/-- A delivery window read arrives (R143, R144, R244). -/
def windowRead (a : Acc) (q len : Nat) (hold : Bool) (s : State) : State :=
  arrive a hold false (fun b t => deliveryRead b q len hold false t) s

/-- A register read that may take in CMP_DATA: that is a stalling read, and with compatibility mode off a reserved register (R153, R313,
R315, R327) (DEDUCED, notes/assumptions/16). -/
def cmpData (a : Acc) (off n : Nat) (s : State) : State :=
  if readsCmp s off n then
    arrive a true false (fun b t =>
      match regEnds t b.req false off n with
      | none => cmpRead b off n t
      | some st =>
        match pathPort b.path with
        | some p => answer b false st [] false (dropHold p true t)
        | none => answer b false st [] false t) s
  else readAccess a off n s

/-- A write to a delivery window is discarded, noted in STK_ERR and recorded (R144); under the alarm it ends with HALTED (R350) (DEDUCED,
notes/assumptions/17). -/
def windowWrite (s : State) : Nat × State := (if halted s then 8 else 3, stkRefuse 1 s)

/-- An access to a bench operand window; under the alarm no bench is IDLE: it is refused and noted, and ends with HALTED (R220, R300,
R350) (DEDUCED, notes/assumptions/17 and 70). -/
def benchAccess (r : ReqId) (n off : Nat) (op : WindowOp) (s : State) : Nat × List Byte × State :=
  if halted s then (8, [], onlyIf (benchOf s n).isSome (bneRefuse n 2) s) else benchWindow r n off op s

/-- An offset of the node's window lies in a range of Table 13-1. -/
def isMapped (off : Nat) : Bool :=
  decide (off < 0x10000) || (decide (0x100000 ≤ off) && decide (off < 0x240000)) ||
    (decide (0x300000 ≤ off) && decide (off < 0x340000)) || (decide (0x1000000 ≤ off) && decide (off < 0x3000000))

/-- An offset lies in a submission window, which takes writes only. -/
def inSubmit (off : Nat) : Bool := decide (0x200000 ≤ off) && decide (off < 0x240000)

/-- An access to a reserved range ends with UNMAPPED (R312); a read of a submission window is refused (Table 13-1), under the alarm with
HALTED (R350) (DEDUCED, notes/assumptions/17). -/
def unmapped (a : Acc) (off : Nat) (write : Bool) (s : State) : State :=
  if !isMapped off then arrive a false write (fun b t => answer b write 1 [] false t) s
  else if inSubmit off && !write then arrive a false write (fun b t => answer b write (if halted t then 8 else 3) [] false t) s
  else s

/-! ### The access engine -/

/-- A pending command of the local host that the engine has not performed yet, with an opcode. -/
def engReady (s : State) (op : Nat) : Option EngCmd :=
  match s.lsp.cmd with
  | some c => if c.bad || s.lsp.resp.isSome || s.lsp.waiting || decide (fld c.word 29 3 ≠ op) then none else some c
  | none => none

/-- The local host's access (DEDUCED, notes/assumptions/99). -/
def lspAcc (s : State) : Acc := ⟨.lsp, s.sil.lspId, 0, false⟩

/-- An XIP access of the local host is always refused: the port is a slave (R290, Table 12-4). -/
def engXip (w : Nat) (write : Bool) (off n : Nat) (data : List Byte) (s : State) : State :=
  let st := if halted s then 8 else if !permits s s.sil.lspId (if write then .xipWr else .xipRd) then 2 else 3
  engRespond st [] false [] (xipAccess (lspAcc s) w write off (4 * n) data s)

/-- An accepted READ of n words at an offset (Table 12-4): of the submission windows the port's own is refused and the others are no
range of the table; under the alarm every window access ends with HALTED (R300) (DEDUCED, notes/assumptions/17). -/
def engReadAt (off n : Nat) (s : State) : State :=
  let r := s.sil.lspId
  if !s.sys.bootDone then engRespond 4 [] false [] s
  else if off < 0x10000 then
    if readsCmp s off n && (regEnds s r false off n).isNone then cmpRead (lspAcc s) off n s
    else
      let x := regRead r off n s
      engRespond x.1 x.2.1 false [] x.2.2
  else if 0x100000 ≤ off ∧ off < 0x200000 then deliveryRead (lspAcc s) (off / 0x10000 % 16) (4 * n) true false s
  else if 0x300000 ≤ off ∧ off < 0x340000 then
    let x := benchAccess r (off / 0x10000 % 4) (off % 0x10000) (.read (4 * n)) s
    engRespond x.1 (bytesToW32 x.2.1) false [] x.2.2
  else if 0x1000000 ≤ off ∧ off < 0x3000000 then engXip (off / 0x1000000 - 1) false (off % 0x1000000) n [] s
  else
    let st := if !inSubmit off then 1 else if halted s then 8 else if off / 0x10000 % 4 = 2 then 3 else 1
    engRespond st [] false [] s

/-- The response to a WRITE of n data words. With RSTAT OK n data words follow the header; the spec does not say what a WRITE's hold, so
each is a free value (R299) (DESIGN CHOICE, notes/assumptions/98). -/
def engAck (rstat n : Nat) (s : State) : State :=
  let data := (List.range n).map (fun i => (Config.freeWord (s.clk.free + i)).setWidth 32)
  engRespond rstat data false [] { s with clk := { s.clk with free := s.clk.free + n } }

/-- An accepted WRITE of data words at an offset (Table 12-4) (DEDUCED, notes/assumptions/99). -/
def engWriteAt (off : Nat) (ws : List W32) (s : State) : State :=
  let r := s.sil.lspId
  let respond (x : Nat × State) : State := engAck x.1 ws.length x.2
  if !s.sys.bootDone then respond (4, s)
  else if off < 0x10000 then respond (regWrite r off ws s)
  else if 0x100000 ≤ off ∧ off < 0x200000 then respond (windowWrite s)
  else if inSubmit off then respond (submit (lspAcc s) (off / 0x10000 % 4) (w32ToBytes ws) s)
  else if 0x300000 ≤ off ∧ off < 0x340000 then
    let x := benchAccess r (off / 0x10000 % 4) (off % 0x10000) (.write (w32ToBytes ws)) s
    respond (x.1, x.2.2)
  else if 0x1000000 ≤ off ∧ off < 0x3000000 then
    engXip (off / 0x1000000 - 1) true (off % 0x1000000) ws.length (w32ToBytes ws) s
  else respond (1, s)

/-- The engine performs an accepted READ (R298, R299). -/
def engRead (s : State) : State :=
  match engReady s 1 with
  | some c => engReadAt (4 * fld c.word 0 24) (fld c.word 24 5 + 1) s
  | none => s

/-- The engine performs an accepted WRITE (R298, R299). -/
def engWrite (s : State) : State :=
  match engReady s 2 with
  | some c => engWriteAt (4 * fld c.word 0 24) c.data s
  | none => s

end Sys2Proof.Machine
end

