-- ==== Sys2Proof/Machine/Tick.lean ====
section
/-! DEFINITION. What follows a command within its step: the fatal alarm's effects on every unit (R68, R122, R152, R157, R211, R235,
R350), records and arbitration that are due, and frames that may go out; and the passing of one CK_TIME period. -/

namespace Sys2Proof.Machine

/-! ### The fatal alarm -/

/-- The pointers of every queue read on as they stood (R152). -/
def freezeQueues (s : State) : State :=
  { s with stk := { s.stk with queues := s.stk.queues.map (fun d =>
    if d.frozen.isSome then d else { d with frozen := some (readPtr d, markPtr d) }) } }

/-- Every job in flight ends with FATAL, one that had stopped and still lacks its record too; the words that any job holds unsent go to
kerf (R205, R211) (DEDUCED, notes/assumptions/27). -/
def haltJobs (s : State) : State :=
  s.job.jobs.foldl (fun t j =>
    if !j.accepted || (decide (j.phase = .recordSent) && j.stop.isSome) then t
    else if j.stop.isNone then voidVerdict j.id j (stopJob j.id stFatal (some .halt) t)
    else voidVerdict j.id j (dropUnsent .halt j.id (updJob j.id (fun x => { x with stop := some stFatal }) t))) s

/-- The parser stops: words not yet parsed are discarded (R157, R211). -/
def haltParser (s : State) : State := { s with job := { s.job with streams := [], rr := Rr.empty } }

/-- The reads and contributions that wait on a queue end (R152, R268) (DEDUCED, notes/assumptions/27). -/
def haltWaits (q : Nat) (s : State) : State :=
  match queueOf s q with
  | none => s
  | some d =>
    d.waits.foldl (fun t w =>
      let t1 := dropWaiter q w.key t
      match w.what with
      | .read a len => endRead w.key a len 8 [] t1
      | .burst a _ _ => endRead w.key a 4 8 [] t1
      | .peer _ => peerSkipped t1
      | .job _ => t1) s

/-- A frame with random words that never left the node. -/
def unsentRandom (t : TxFrame) : Bool :=
  decide (t.words ≠ 0) && !t.fly && (match t.kind with
    | .held _ | .peer => true
    | _ => false)

/-- A held response without words, HALTED. -/
def haltedReply (t : TxFrame) : TxFrame :=
  { t with
    f := { t.f with status := 8, len := 0, payload := [], unchecked := false }
    refs := [], words := 0, marked := 0, rand := 0 }

/-- Random words of responses and contributions that a port has not sent go to kerf; the reads end with HALTED (R152) (DEDUCED,
notes/assumptions/27). -/
def haltPort (p : PortId) (s : State) : State :=
  let l := (portAt s p).txq.filter unsentRandom
  kerfFrames .halt l (onPort p (fun x => { x with
    txq := (x.txq.filter (fun t => !(unsentRandom t && decide (t.kind = .peer)))).map (fun t =>
      if unsentRandom t then haltedReply t else t) }) s)

/-- A pending response of the access engine ends, and its random words go to kerf (R152, R299) (DEDUCED, notes/assumptions/27). -/
def haltEngine (s : State) : State :=
  match s.lsp.resp with
  | none => s
  | some r =>
    let d := randDone r r.sent
    let sent := (r.rand.take r.moved).drop d
    kerfWords .halt (r.rand.drop (max r.moved d)) (kerfFlight .halt (awRefs sent) sent.length
      { s with lsp := { s.lsp with resp := none, cmd := none } })

/-- The words of a queue that are still in the stack go to kerf (R152) (DEDUCED, notes/assumptions/27). -/
def haltQueue (q : Nat) (s : State) : State :=
  match queueOf s q with
  | none => s
  | some d =>
    let l := (d.ents.filter (fun e => e.st.here)).map (fun e => (q, e.slot))
    if l.isEmpty then s else kerfStack .halt l s

/-- A lane zeroizes its state and, unless it is in FAULT, enters HALT (R122). -/
def haltLane (l : Lane) : Lane :=
  if l.st = .fault then { l with drbg := Drbg.zero, seg := none }
  else { l with
    st := .halt, drbg := Drbg.zero, seg := none, pieces := [], pr := [], asked := none, kats := [], offPend := false }

/-- Every lane halts; the words in its output registers go to kerf (R118, R122) (DEDUCED, notes/assumptions/27). -/
def haltLanes (s : State) : State :=
  let n := (s.lan.lanes.map outputWords).sum
  updBooks (bkKerf .halt false n) (lanKatSettle { s with lan := { s.lan with lanes := s.lan.lanes.map haltLane } })

/-- Every plane halts: blocks and held seeds go to kerf (Table 4-3). -/
def haltPlanes (s : State) : State := (List.range (nBoards s)).foldl (fun t b => haltPlane .halt b t) s

/-- Every bench zeroizes its operand memory and enters HALT (R235) (DEDUCED, notes/assumptions/27). -/
def haltBenches (s : State) : State :=
  bneKatSettle { s with bne := { s.bne with benches := s.bne.benches.map (fun b =>
    { b with st := .halt, mem := [], job := none, kats := [], relPend := false }) } }

/-- What the fatal alarm does to every unit within the step that raised it (R68, R350) (DEDUCED, notes/assumptions/27). -/
def alarmSettle (s : State) : State :=
  if !s.hlt.alarm then s
  else
    let s1 := haltJobs (freezeQueues { s with hlt := { s.hlt with alarm := false } })
    let s2 := (List.range 16).foldl (fun t q => haltWaits q t) (haltEngine (haltParser s1))
    let s3 := (List.range 16).foldl (fun t q => haltQueue q t) (haltPort .b (haltPort .a s2))
    let s4 := haltBenches (haltPlanes (haltLanes s3))
    alarmTx (xipHalt { s4 with stk := { s4.stk with clearing := true, building := none, cmpLane := none, cmpAcc := none } })

/-! ### The end of a step -/

/-- Work of the job engine, the distribution unit, the hash unit and the benches that is due at once. -/
def settleJobs (s : State) : State :=
  if s.job.jobs.isEmpty then s
  else
    let n := s.job.jobs.length + 1
    syncHash (syncBench (benchSettle (hashNext n (permNext n s))))

/-- The tick of the last time at which a port was in SERVICE (R167) (DEDUCED, notes/assumptions/89). -/
def notePath (s : State) : State := if portUp s then { s with ring := { s.ring with noPath := s.clk.ticks } } else s

/-- Frames find their port and go out as credits allow; LINK frames follow what was received (R250, R251, R257) (DESIGN CHOICE,
notes/assumptions/76). -/
def settleRing (s : State) : State :=
  linkSend .b (linkSend .a (pump (reroute .b (reroute .a (notePath s)))))

/-- What follows within the step of every command and every tick (DESIGN CHOICE, notes/assumptions/1). -/
def finishUp (s : State) : State :=
  settleLanes <| passVoids <| settleRing (dselSync (xipStart (lspFill (syncParser (sweepRecords (idleTouch (settleJobs (alarmSettle s))))))))

/-- A command acts on a node that is not held in internal reset (R331, R357) (DESIGN CHOICE, notes/assumptions/1). -/
def act (f : State → State) (s : State) : State := if running s then finishUp (f s) else s

/-- What the slow-domain fields show from this CK_SLOW edge on (R319) (DESIGN CHOICE, notes/assumptions/11). -/
def slowCopy (s : State) : SlowCopy where
  cells := s.grn.cells.map (recent s)
  wits := s.grn.wits.map (recent s)
  peer := s.lan.peerSlow
  reports := s.ring.workers.map (fun w => w.bind (·.reportSlow))

/-- Time counts: a CK_TIME period, and CK_SLOW when one of its edges falls in it, which refreshes the slow-domain copies (R319) (DESIGN
CHOICE, notes/assumptions/2, 3 and 11). -/
def clockOn (s : State) : State :=
  let edge := Config.slowEdge s.clk.ticks
  let t := { s with clk := { s.clk with ticks := s.clk.ticks + 1, slow := s.clk.slow + b2n edge } }
  if edge then { t with clk := { t.clk with copy := slowCopy t } } else t

/-- One CK_TIME period (DESIGN CHOICE, notes/assumptions/2 and 3). -/
def tick (s : State) : State := act (fun t => timeTick (clockOn t)) s

end Sys2Proof.Machine
end

