-- ==== Sys2Proof/Machine/Rows.lean ====
section
/-! DEFINITION. How the rows of the table that are accesses or guarded pairs of one register become accesses to the node's window, and the
small effects that only a row has. -/

namespace Sys2Proof.Machine

/-! ### Registers with a row of their own -/

/-- A write of one register, of those that a table of registers holds (DESIGN CHOICE, notes/assumptions/22). -/
def rowWrite (a : Acc) (inTable : Bool) (off : Nat) (v : W32) (s : State) : State := if inTable then writeAccess a off [v] s else s

/-- A read of one register, of those that a table of registers holds (DESIGN CHOICE, notes/assumptions/22). -/
def rowRead (a : Acc) (inTable : Bool) (off : Nat) (s : State) : State := if inTable then readAccess a off 1 s else s

/-- A completed pair at the guarded register g with the value v: the complement alone if the requester has that value armed there, else
the value and its complement in one access (R313, R320) (DESIGN CHOICE, notes/assumptions/12). -/
def pairRow (a : Acc) (g : Nat) (v : W32) (s : State) : State :=
  match armedNow s (norm s a).req with
  | some x => if x.off = g ∧ x.val = v then writeAccess a (g + 4) [~~~v] s else writeAccess a g [v, ~~~v] s
  | none => writeAccess a g [v, ~~~v] s

/-- The value address of a guarded register is written (R320). -/
def armRow (a : Acc) (off : Nat) (v : W32) (s : State) : State :=
  rowWrite a (decide (guardBase off = some off)) off v s

/-- The _C address of a guarded register is written (R320, R321). -/
def compRow (a : Acc) (off : Nat) (w : W32) (s : State) : State :=
  rowWrite a ((guardBase off).isSome && decide (guardBase off ≠ some off)) off w s

/-- The value of CAL_RESTORE. -/
def calWord (groups : BitVec 4) (lock pin : Bool) : W32 := packR [(31, b2n pin), (30, b2n lock), (0, groups.toNat)]

/-- The value of SYS_COMPAT. -/
def compatWord (en pin : Bool) : W32 := packR [(31, b2n pin), (0, b2n en)]

/-- The value of TIM_CMD. -/
def timWord (set adj pin : Bool) : W32 := packR [(31, b2n pin), (1, b2n adj), (0, b2n set)]

/-- The value of LSP_FLASH_LOCK. -/
def lockWord (l0 l1 pin : Bool) : W32 := packR [(31, b2n pin), (1, b2n l1), (0, b2n l0)]

/-- A write of a register of the CAL block (R345). -/
def calRow (a : Acc) (r : CalReg) (v : W32) (s : State) : State :=
  match r with
  | .cutCell => writeAccess a 0x2010 [v] s
  | .cutWit => writeAccess a 0x2014 [v] s
  | .timeTrim => writeAccess a 0x2018 [v] s
  | .cell n => rowWrite a (n < 64) (0x2100 + 4 * n) v s
  | .wit b => rowWrite a (b < 8) (0x2200 + 4 * b) v s

/-- A write of MBX_SEL with an OP and an item (R324). -/
def mbxRow (a : Acc) (op item : Nat) (s : State) : State := writeAccess a 0x3000 [packR [(30, op), (0, item)]] s

/-- A register access of a length that is no multiple of 4 bytes reads and writes nothing (R312, R313). -/
def oddAccess (a : Acc) (write : Bool) (off len : Nat) (s : State) : State :=
  arrive a false write (fun b t => answer b write (if 0x10000 < off + len then 1 else 3) [] false t) s

/-- A read of n registers and `extra` bytes more: one that takes in CMP_DATA is a stalling read while compatibility mode is active (R153,
R313, R316). -/
def regRow (a : Acc) (off n extra : Nat) (s : State) : State :=
  if extra = 0 then cmpData a off n s else oddAccess a false off (4 * n + extra) s

/-- A write of registers, with the bytes left over of a length that is no multiple of 4 (R313). -/
def writeRow (a : Acc) (off : Nat) (ws : List W32) (tail : List Byte) (s : State) : State :=
  if tail = [] then writeAccess a off ws s else oddAccess a true off (4 * ws.length + tail.length) s

/-! ### Windows -/

/-- A write to a delivery window (R144). -/
def deliveryWrite (a : Acc) (q : Nat) (s : State) : State :=
  if q < 16 then arrive a false true (fun b t => let x := windowWrite t; answer b true x.1 [] false x.2) s else s

/-- A submission write is answered with its status (R155, R156). -/
def submitDone (a : Acc) (w : Nat) (bytes : List Byte) (s : State) : State :=
  let x := submit a w bytes s
  answer a true x.1 [] false x.2

/-- A write to a submission window. Ring SRC 0xFFF is refused by the window itself, with BAD_ID (R156). -/
def submitRow (a : Acc) (w : Nat) (bytes : List Byte) (s : State) : State :=
  match pathPort a.path with
  | some p =>
    if w < 4 ∧ a.req = coreId ∧ s.sys.bootDone = true then
      (if ringOpen s p then submitDone a w bytes (takeRequest p false a.hold s) else s)
    else if w < 4 then arrive a false true (fun b t => submitDone b w bytes t) s
    else s
  | none => if w < 4 then arrive a false true (fun b t => submitDone b w bytes t) s else s

/-- An access to a bench operand window (R220). -/
def benchRow (a : Acc) (n off : Nat) (op : WindowOp) (s : State) : State :=
  let write := match op with
    | .read _ => false
    | .write _ => true
  if n < 4 ∧ off < 0x10000 then
    arrive a false write (fun b t => let x := benchAccess b.req n off op t; answer b write x.1 x.2.1 false x.2.2) s
  else s

/-- An access to an XIP window (R303, R304). -/
def xipRow (a : Acc) (w : Nat) (write : Bool) (off len : Nat) (data : List Byte) (s : State) : State :=
  if w < 2 ∧ off < 0x1000000 then arrive a false write (fun b t => xipAccess b w write off len data t) s else s

/-! ### Small effects -/

/-- Internal reset release, with what follows in its step. -/
def releaseStep (x : ResetPins) (s : State) : State :=
  let t := resetRelease x s
  if decide (s.pwr.phase = .inReset) && running t then finishUp t else t

/-- A race of grain cell n (R27). -/
def raceBit (n : Nat) (bit : Bool) (s : State) : State := if n < 64 then sample n bit s else s

/-- A handshake timeout of a lane that is working: START, RUN, STRETCH, WAIT or KAT (R117). -/
def laneTimeout (n : Nat) (s : State) : State :=
  match laneOf s n with
  | some l => if l.st.inService || decide (l.st = .kat) then laneFault n 2 s else s
  | none => s

/-- A requested tally snapshot is taken and placed in the snapshot buffer (R91, R94) (DESIGN CHOICE, notes/assumptions/10). -/
def talSnapTake (s : State) : State :=
  if s.tal.snapPend = 0 then s
  else
    let s1 := takeSnapshot s
    { s1 with tal := { s1.tal with
        snapPend := s.tal.snapPend - 1, bufValid := true
        buf := snapRecord s s1.tal.epoch, snapEpoch := s1.tal.epoch.setWidth 32 } }

/-- A known-answer run of a bench or of the hash unit ends (R238). -/
def benchTestDone (u : BenchUnit) (ok : Bool) (s : State) : State :=
  match u with
  | .bench n => benchKatDone n ok s
  | .hash => hashKatDone ok s

/-- An all-zero command word carries no command (R297). -/
def engNop (s : State) : State := s

end Sys2Proof.Machine
end

