-- ==== Sys2Proof/Machine/ExecBench.lean ====
section
/-! DEFINITION. The pegma benches and the hash unit: the commands of chapter 9. -/

namespace Sys2Proof.Machine

/-- A write of BNE_OWN_n with CLAIM (R219). -/
def execBenchClaim (a : Acc) (n : Nat) (s : State) : Host.Outcome State Fault Refusal :=
  .next (act (rowWrite a (n < 4) (0xA004 + 16 * n) 0x80000000) s)

/-- A write of BNE_OWN_n with RELEASE (R219). -/
def execBenchRelease (a : Acc) (n : Nat) (s : State) : Host.Outcome State Fault Refusal :=
  .next (act (rowWrite a (n < 4) (0xA004 + 16 * n) 0x40000000) s)

/-- An owned bench stays idle for OWN_IDLE_MS (R221). -/
def execBenchIdleTimeout (n : Nat) (s : State) : Host.Outcome State Fault Refusal :=
  .next (act (benchIdleTimeout n) s)

/-- A waiting VERIFY or BATCH starts on a suitable bench (R222). -/
def execBenchJobStart (s : State) : Host.Outcome State Fault Refusal :=
  .next (act (benchJobStart) s)

/-- A bench releases its verdict (R229). -/
def execBenchVerdict (n : Nat) (agree : Bool) (s : State) : Host.Outcome State Fault Refusal :=
  .next (act (benchVerdict n agree) s)

/-- A bench finishes its end-of-job clear (R217). -/
def execBenchClearDone (n : Nat) (s : State) : Host.Outcome State Fault Refusal :=
  .next (act (benchClearDone n) s)

/-- A write of BNE_CMD with KAT (R238). -/
def execBenchKatCmd (a : Acc) (v : W32) (s : State) : Host.Outcome State Fault Refusal :=
  .next (act (writeAccess a 0xA104 [v ||| 0x100]) s)

/-- A known-answer run of a bench or of the hash unit finishes (R238). -/
def execBenchKatDone (u : BenchUnit) (ok : Bool) (s : State) : Host.Outcome State Fault Refusal :=
  .next (act (benchTestDone u ok) s)

/-- A microcode store read finds an ECC error (R215). -/
def execUcodeStoreError (unc : Bool) (s : State) : Host.Outcome State Fault Refusal :=
  .next (act (ucodeStoreError unc) s)

/-- An access to a bench operand window (R220). -/
def execBenchWindowAccess (a : Acc) (n off : Nat) (op : WindowOp) (s : State) : Host.Outcome State Fault Refusal :=
  .next (act (benchRow a n off op) s)

/-- The hash unit finishes one turn (R216). -/
def execHashTurnDone (s : State) : Host.Outcome State Fault Refusal :=
  .next (act (hashTurnDone) s)

end Sys2Proof.Machine
end

