-- ==== Sys2Proof/Machine/ExecFront.lean ====
section
/-! DEFINITION. The sources, their health, the planes and the tally: the commands of chapters 2 to 4. -/

namespace Sys2Proof.Machine

/-- A grain cell completes a race (R27): one raw bit through its health tests and delay line. -/
def execRace (n : Nat) (bit : Bool) (s : State) : Host.Outcome State Fault Refusal :=
  .next (act (raceBit n bit) s)

/-- A witness takes one sample (R35). -/
def execWitnessSample (b : Nat) (bit : Bool) (s : State) : Host.Outcome State Fault Refusal :=
  .next (act (sample (0x40 + b) bit) s)

/-- A write of GRN_EN_b (R41). -/
def execGrnEnWrite (a : Acc) (b : Nat) (v : W32) (s : State) : Host.Outcome State Fault Refusal :=
  .next (act (rowWrite a (b < 8) (0x4010 + 4 * b) v) s)

/-- A write of GRN_CMD with RESTART (R42). -/
def execGrnRestart (a : Acc) (src : BitVec 7) (s : State) : Host.Outcome State Fault Refusal :=
  .next (act (writeAccess a 0x4030 [src.setWidth 32 ||| 0x100]) s)

/-- A completed GRN_RETIRE pair (R43). -/
def execGrnRetire (a : Acc) (board : Bool) (idx : BitVec 7) (s : State) : Host.Outcome State Fault Refusal :=
  .next (act (pairRow a 0x4034 (packR [(8, b2n board), (0, idx.toNat)])) s)

/-- A completed GRN_RAW_CTRL pair with START (R46). -/
def execCaptureStart (a : Acc) (src : BitVec 7) (pin : Bool) (s : State) : Host.Outcome State Fault Refusal :=
  .next (act (pairRow a 0x4040 (packR [(9, b2n pin), (8, 1), (0, src.toNat)])) s)

/-- A completed GRN_RAW_CTRL pair with PIN (R48). -/
def execCapturePin (a : Acc) (src : BitVec 7) (start : Bool) (s : State) : Host.Outcome State Fault Refusal :=
  .next (act (pairRow a 0x4040 (packR [(9, 1), (8, b2n start), (0, src.toNat)])) s)

/-- A read of GRN_RAW_DATA (R47). -/
def execGrnRawDataRead (a : Acc) (s : State) : Host.Outcome State Fault Refusal :=
  .next (act (readAccess a 0x4050 1) s)

/-- A write of HLT_CMD with SNAP (R70). -/
def execHltSnap (a : Acc) (s : State) : Host.Outcome State Fault Refusal :=
  .next (act (writeAccess a 0x5004 [1]) s)

/-- An estimator snapshot completes (R70). -/
def execHltSnapDone (s : State) : Host.Outcome State Fault Refusal :=
  .next (act (hltSnapTake) s)

/-- A completed HLT_RETRY pair with PIN (R61, R322). -/
def execHltRetryPin (a : Acc) (ms : BitVec 16) (s : State) : Host.Outcome State Fault Refusal :=
  .next (act (pairRow a 0x5008 (ms.setWidth 32 ||| 0x80000000)) s)

/-- Conditioning of a board ends (R81). -/
def execSeedReady (b : Nat) (s : State) : Host.Outcome State Fault Refusal :=
  .next (act (seedReady b) s)

/-- The crossbar hands a seed over (R82). -/
def execSeedHandover (s : State) : Host.Outcome State Fault Refusal :=
  .next (act (handover) s)

/-- A held seed exceeds PLN_HOLD_MAX (R83). -/
def execHeldSeedAged (b : Nat) (s : State) : Host.Outcome State Fault Refusal :=
  .next (act (seedAged b) s)

/-- A plane's known-answer tests finish (R85). -/
def execPlaneKatDone (b : Nat) (compOk hashOk : Bool) (s : State) : Host.Outcome State Fault Refusal :=
  .next (act (planeKatDone b compOk hashOk) s)

/-- A write of PLN_CMD with KAT (R96). -/
def execPlnKatCmd (a : Acc) (mask : BitVec 8) (s : State) : Host.Outcome State Fault Refusal :=
  .next (act (writeAccess a 0x6080 [mask.setWidth 32 ||| 0x100]) s)

/-- A write of TAL_CMD with SNAP (R94). -/
def execTalSnap (a : Acc) (s : State) : Host.Outcome State Fault Refusal :=
  .next (act (writeAccess a 0x6800 [1]) s)

/-- A tally snapshot freezes every counter and gauge (R91 to R94). -/
def execTalSnapDone (s : State) : Host.Outcome State Fault Refusal :=
  .next (act (talSnapTake) s)

end Sys2Proof.Machine
end

