-- ==== Sys2Proof/Machine/ExecJob.lean ====
section
/-! DEFINITION. Job submission, the job instructions, fences and records: the commands of chapters 7 and 8. -/

namespace Sys2Proof.Machine

/-- A write to a submission window (R155, R156). -/
def execSubmissionWrite (a : Acc) (w : Nat) (bytes : List Byte) (s : State) : Host.Outcome State Fault Refusal :=
  .next (act (submitRow a w bytes) s)

/-- A DRAW instruction is parsed (R170). -/
def execDraw (s : State) : Host.Outcome State Fault Refusal :=
  .next (act (parseOp 0x01) s)

/-- A DRAWN instruction is parsed (R171). -/
def execDrawn (s : State) : Host.Outcome State Fault Refusal :=
  .next (act (parseOp 0x02) s)

/-- A DRAWP instruction is parsed (R171). -/
def execDrawp (s : State) : Host.Outcome State Fault Refusal :=
  .next (act (parseOp 0x03) s)

/-- A MIX instruction is parsed (R172). -/
def execMix (s : State) : Host.Outcome State Fault Refusal :=
  .next (act (parseOp 0x08) s)

/-- A RESEED instruction is parsed (R172). -/
def execReseed (s : State) : Host.Outcome State Fault Refusal :=
  .next (act (parseOp 0x09) s)

/-- A PEG instruction is parsed (R191). -/
def execPeg (s : State) : Host.Outcome State Fault Refusal :=
  .next (act (parseOp 0x10) s)

/-- An AT instruction is parsed (R173). -/
def execAtInstr (s : State) : Host.Outcome State Fault Refusal :=
  .next (act (parseOp 0x11) s)

/-- A BEACON instruction is parsed (R174). -/
def execBeacon (s : State) : Host.Outcome State Fault Refusal :=
  .next (act (parseOp 0x12) s)

/-- A VERIFY instruction is parsed (R175). -/
def execVerify (s : State) : Host.Outcome State Fault Refusal :=
  .next (act (parseOp 0x20) s)

/-- A BATCH instruction is parsed (R232). -/
def execBatch (s : State) : Host.Outcome State Fault Refusal :=
  .next (act (parseOp 0x21) s)

/-- A DIGEST instruction is parsed (R177). -/
def execDigest (s : State) : Host.Outcome State Fault Refusal :=
  .next (act (parseOp 0x22) s)

/-- A TALLY instruction is parsed (R178). -/
def execTally (s : State) : Host.Outcome State Fault Refusal :=
  .next (act (parseOp 0x30) s)

/-- A TEST instruction is parsed (R178). -/
def execTest (s : State) : Host.Outcome State Fault Refusal :=
  .next (act (parseOp 0x31) s)

/-- A NOTE instruction is parsed (R178). -/
def execNote (s : State) : Host.Outcome State Fault Refusal :=
  .next (act (parseOp 0x32) s)

/-- An ABORT instruction is parsed (R179). -/
def execAbort (s : State) : Host.Outcome State Fault Refusal :=
  .next (act (parseOp 0x38) s)

/-- A RESTORE instruction is parsed (R178). -/
def execRestore (s : State) : Host.Outcome State Fault Refusal :=
  .next (act (parseOp 0x3E) s)

/-- An END instruction is parsed (R173). -/
def execEndMark (s : State) : Host.Outcome State Fault Refusal :=
  .next (act (parseOp 0x3F) s)

/-- A head word with an unknown opcode, or a malformed one, is parsed (R163). -/
def execUnknownOpcode (s : State) : Host.Outcome State Fault Refusal :=
  .next (act (parseIf badHead) s)

/-- Fabric time reaches an AT job's target (R284). -/
def execAtLaunch (j : Nat) (s : State) : Host.Outcome State Fault Refusal :=
  .next (act (atLaunch j) s)

/-- A launch is 200 µs from its due time (R174). -/
def execBeaconGrantRequest (j : Nat) (s : State) : Host.Outcome State Fault Refusal :=
  .next (act (beaconAsk j) s)

/-- A beacon launch is due (R284). -/
def execBeaconLaunch (j : Nat) (s : State) : Host.Outcome State Fault Refusal :=
  .next (act (beaconLaunch j) s)

/-- The condition of a PEG is met (R191). -/
def execFenceRelease (req : ReqId) (s : State) : Host.Outcome State Fault Refusal :=
  .next (act (fenceRelease req) s)

/-- Room appears in the event queue for a waiting completion record (R185). -/
def execEventQueueStore (s : State) : Host.Outcome State Fault Refusal :=
  .next (act (storeWaiting) s)

/-- A write of JOB_TAG_SEL (R318). -/
def execJobTagSelWrite (a : Acc) (v : W32) (s : State) : Host.Outcome State Fault Refusal :=
  .next (act (writeAccess a 0x9048 [v]) s)

/-- A read of JOB_PEAK (R316). -/
def execJobPeakRead (a : Acc) (s : State) : Host.Outcome State Fault Refusal :=
  .next (act (readAccess a 0x9008 1) s)

/-- The job engine stops working (R24). -/
def execJobEngineLost (s : State) : Host.Outcome State Fault Refusal :=
  .next (act (engineLost) s)

end Sys2Proof.Machine
end

