-- ==== Sys2Proof/Machine/ExecLane.lean ====
section
/-! DEFINITION. The expander lanes, the vine stack and delivery: the commands of chapters 5 and 6. -/

namespace Sys2Proof.Machine

/-- A lane completes one Generate call (R99), or its self-check cuts the segment (R117). -/
def execLaneSegment (n : Nat) (cut : Option Nat) (s : State) : Host.Outcome State Fault Refusal :=
  .next (act (laneSegment n cut) s)

/-- A lane's known-answer tests finish (R119). -/
def execLaneKatDone (n : Nat) (ok : Bool) (s : State) : Host.Outcome State Fault Refusal :=
  .next (act (laneKatDone n ok) s)

/-- The time since a lane's last seed reaches LAN_RESEED_TIME (R105). -/
def execLaneTimeCap (n : Nat) (s : State) : Host.Outcome State Fault Refusal :=
  .next (act (laneTimeCap n) s)

/-- A lane handshake does not complete in time (R117). -/
def execLaneHandshakeTimeout (n : Nat) (s : State) : Host.Outcome State Fault Refusal :=
  .next (act (laneTimeout n) s)

/-- A write of LAN_EN (R120). -/
def execLanEnWrite (a : Acc) (v : W32) (s : State) : Host.Outcome State Fault Refusal :=
  .next (act (writeAccess a 0x7010 [v]) s)

/-- A write of LAN_CMD with RESEED (R111). -/
def execLanReseedCmd (a : Acc) (mask : BitVec 16) (s : State) : Host.Outcome State Fault Refusal :=
  .next (act (writeAccess a 0x7014 [mask.setWidth 32 ||| 0x10000]) s)

/-- A write of LAN_CMD with KAT (R121). -/
def execLanKatCmd (a : Acc) (mask : BitVec 16) (s : State) : Host.Outcome State Fault Refusal :=
  .next (act (writeAccess a 0x7014 [mask.setWidth 32 ||| 0x20000]) s)

/-- A write of LAN_QBIND_q (R116). -/
def execLanQbindWrite (a : Acc) (q : Nat) (v : W32) (s : State) : Host.Outcome State Fault Refusal :=
  .next (act (rowWrite a (q < 16) (0x7040 + 4 * q) v) s)

/-- A lane absorbs one MIX piece (R112). -/
def execMixPieceAbsorb (n : Nat) (s : State) : Host.Outcome State Fault Refusal :=
  .next (act (mixAbsorb n) s)

/-- A lane offers its segment to its next bound queue with room (R115, R134). -/
def execSegmentOffer (n : Nat) (s : State) : Host.Outcome State Fault Refusal :=
  .next (act (segmentOffer n) s)

/-- The patrol reads a word (R125). -/
def execPatrolRead (addr : Nat) (e : EccResult) (s : State) : Host.Outcome State Fault Refusal :=
  .next (act (patrolRead addr e) s)

/-- A resident word's age reaches STK_MAX_AGE (R142). -/
def execAgeScrub (q : Nat) (s : State) : Host.Outcome State Fault Refusal :=
  .next (act (ageScrub q) s)

/-- A write of DQ_CTRL_n with EN set (R130). -/
def execQueueEnable (a : Acc) (q : Nat) (v : W32) (s : State) : Host.Outcome State Fault Refusal :=
  .next (act (rowWrite a (q < 16) (0x8000 + 64 * q) (v ||| 1)) s)

/-- A write of DQ_CTRL_n with EN clear (R131). -/
def execQueueDisable (a : Acc) (q : Nat) (v : W32) (s : State) : Host.Outcome State Fault Refusal :=
  .next (act (rowWrite a (q < 16) (0x8000 + 64 * q) (v &&& 0xFFFFFFFE)) s)

/-- A write of DQ_CTRL_n with FLUSH set (R145). -/
def execQueueFlush (a : Acc) (q : Nat) (v : W32) (s : State) : Host.Outcome State Fault Refusal :=
  .next (act (rowWrite a (q < 16) (0x8000 + 64 * q) (v ||| 0x80)) s)

/-- A write of DQ_BASE_n or DQ_SIZE_n (R129). -/
def execQueueConfigWrite (a : Acc) (q : Nat) (size : Bool) (v : W32) (s : State) : Host.Outcome State Fault Refusal :=
  .next (act (rowWrite a (q < 16) (0x8000 + 64 * q + (if size then 8 else 4)) v) s)

/-- A read of DQ_MIN_n (R137). -/
def execDqMinRead (a : Acc) (q : Nat) (s : State) : Host.Outcome State Fault Refusal :=
  .next (act (rowRead a (q < 16) (0x8000 + 64 * q + 0x18)) s)

/-- A read of DQ_WPTR_n (R132). -/
def execDqWptrRead (a : Acc) (q : Nat) (s : State) : Host.Outcome State Fault Refusal :=
  .next (act (rowRead a (q < 16) (0x8000 + 64 * q + 0x1C)) s)

/-- A write of STK_TAG_SEL (R135). -/
def execStkTagSelWrite (a : Acc) (v : W32) (s : State) : Host.Outcome State Fault Refusal :=
  .next (act (writeAccess a 0x8440 [v]) s)

/-- A read of a delivery window (R143, R144). -/
def execDeliveryRead (a : Acc) (q len : Nat) (hold : Bool) (s : State) : Host.Outcome State Fault Refusal :=
  .next (act (windowRead a q len hold) s)

/-- A write to a delivery window (R144). -/
def execDeliveryWindowWrite (a : Acc) (q : Nat) (s : State) : Host.Outcome State Fault Refusal :=
  .next (act (deliveryWrite a q) s)

/-- A queue allots its next grant (R138). -/
def execGrantAllot (q : Nat) (e : GrantEcc) (s : State) : Host.Outcome State Fault Refusal :=
  .next (act (grantAllot q e) s)

/-- A consumer's wait reaches DQ_STALL_LIMIT (R67, R140). -/
def execStallLimitExpire (w : WaitId) (s : State) : Host.Outcome State Fault Refusal :=
  .next (act (stallExpire w) s)

/-- A word at the mark has been unacknowledged for 1 ms (R147). -/
def execMarkForced (q : Nat) (s : State) : Host.Outcome State Fault Refusal :=
  .next (act (markForced q) s)

/-- A result write has no acknowledgement after 1 ms (R151). -/
def execResultWriteDrop (p : PortId) (txn : BitVec 16) (s : State) : Host.Outcome State Fault Refusal :=
  .next (act (resultDrop p txn) s)

/-- The distribution unit tests one word (R149). -/
def execDistCandidate (j : Nat) (s : State) : Host.Outcome State Fault Refusal :=
  .next (act (distTest j) s)

/-- The overwrite of the stack array finishes (R152). -/
def execArrayClearDone (s : State) : Host.Outcome State Fault Refusal :=
  .next (act (clearDone) s)

end Sys2Proof.Machine
end

