-- ==== Sys2Proof/Machine/ExecLsp.lean ====
section
/-! DEFINITION. The local serial port: the commands of chapter 12. -/

namespace Sys2Proof.Machine

/-- A write of LSP_ROLE (R290). -/
def execRoleSwitch (a : Acc) (v : W32) (s : State) : Host.Outcome State Fault Refusal :=
  .next (act (writeAccess a 0xD000 [v]) s)

/-- A low period of LSP_SEL_1, and those that follow it at once (R292 to R302). -/
def execLspTransfer (mosi : LowPeriods) (s : State) : Host.Outcome State Fault Refusal :=
  .next (act (lspPeriods mosi.bits mosi.more) s)

/-- The engine performs an accepted READ (R298). -/
def execEngineRead (s : State) : Host.Outcome State Fault Refusal :=
  .next (act (engRead) s)

/-- The engine performs an accepted WRITE (R298). -/
def execEngineWrite (s : State) : Host.Outcome State Fault Refusal :=
  .next (act (engWrite) s)

/-- An all-zero command word carries no command and changes no state (R297). -/
def execEngineNop (s : State) : Host.Outcome State Fault Refusal :=
  .next (act (engNop) s)

/-- A read of LSP_RX_DATA (R296). -/
def execLspRxDataRead (a : Acc) (s : State) : Host.Outcome State Fault Refusal :=
  .next (act (readAccess a 0xD018 1) s)

/-- A write of LSP_TX_DATA (R296). -/
def execLspTxDataWrite (a : Acc) (v : W32) (s : State) : Host.Outcome State Fault Refusal :=
  .next (act (writeAccess a 0xD01C [v]) s)

/-- A stored change of ENGINE takes effect (R301). -/
def execEngineSwitch (s : State) : Host.Outcome State Fault Refusal :=
  .next (act (engineSwitch) s)

/-- A read of an XIP window (R303). -/
def execXipRead (a : Acc) (w off len : Nat) (s : State) : Host.Outcome State Fault Refusal :=
  .next (act (xipRow a w false off len []) s)

/-- A write into an XIP window (R304). -/
def execXipWrite (a : Acc) (w off : Nat) (bytes : List Byte) (s : State) : Host.Outcome State Fault Refusal :=
  .next (act (xipRow a w true off bytes.length bytes) s)

/-- A status poll of a write in progress (R304). -/
def execFlashPoll (sr : Byte) (s : State) : Host.Outcome State Fault Refusal :=
  .next (act (flashPoll sr) s)

/-- A write does not finish in TIMEOUT_MS (R304). -/
def execPollTimeout (s : State) : Host.Outcome State Fault Refusal :=
  .next (act (pollTimeout) s)

/-- A completed LSP_MST_CMD pair with START (R306). -/
def execRawCommand (a : Acc) (v : W32) (s : State) : Host.Outcome State Fault Refusal :=
  .next (act (pairRow a 0xD088 (v ||| 0x80000000)) s)

/-- A transaction on the serial bus ends (R305). -/
def execXipTransactionDone (data : List Byte) (s : State) : Host.Outcome State Fault Refusal :=
  .next (act (xipDone data) s)

/-- A completed LSP_FLASH_LOCK pair (R307). -/
def execFlashLock (a : Acc) (l0 l1 pin : Bool) (s : State) : Host.Outcome State Fault Refusal :=
  .next (act (pairRow a 0xD098 (lockWord l0 l1 pin)) s)

/-- A completed LSP_FLASH_LOCK pair with PIN (R322). -/
def execFlashLockPin (a : Acc) (l0 l1 : Bool) (s : State) : Host.Outcome State Fault Refusal :=
  .next (act (pairRow a 0xD098 (lockWord l0 l1 true)) s)

end Sys2Proof.Machine
end

