-- ==== Sys2Proof/Machine/ExecPower.lean ====
section
/-! DEFINITION. Power, reset, boot, tamper, calibration, compatibility mode, CK_SLOW and pace: the commands of chapters 1, 2 and 14. -/

namespace Sys2Proof.Machine

/-- VIN rises through the release threshold; the bank straps are latched (R356, R360). -/
def execVinRise (selL selC : Bool) (s : State) : Host.Outcome State Fault Refusal :=
  .next (vinRise selL selC s)

/-- Internal reset release; straps and TEST_EN are sampled, and a node whose TAMPER_N is low enters tamper hold at once (R331, R332, R349, R358). -/
def execInternalResetRelease (x : ResetPins) (s : State) : Host.Outcome State Fault Refusal :=
  .next (releaseStep x s)

/-- RESET_N goes low: all volatile state is lost (R357, R360). -/
def execResetAssert (s : State) : Host.Outcome State Fault Refusal :=
  .next (resetAssert s)

/-- VIN falls below the falling threshold: keys and bench memories are zeroized and the node enters internal reset (R360, R361). -/
def execBrownOut (s : State) : Host.Outcome State Fault Refusal :=
  .next (brownOut s)

/-- An IEEE 1149.1 instruction becomes current; EXTEST, CLAMP and HIGHZ hold the node in internal reset (R359). -/
def execJtagResetHold (i : JtagHold) (s : State) : Host.Outcome State Fault Refusal :=
  .next (jtagInstr i s)

/-- The mask ROM sequence (R332 to R336). -/
def execRomBoot (x : BootFlash) (s : State) : Host.Outcome State Fault Refusal :=
  .next (act (romBoot x) s)

/-- A completed SYS_BOOT_DONE pair (R328, R341). -/
def execBootDone (a : Acc) (s : State) : Host.Outcome State Fault Refusal :=
  .next (act (pairRow a 0x0008 1) s)

/-- TAMPER_N is low for a time in ns (R348). -/
def execTamper (ns : Nat) (s : State) : Host.Outcome State Fault Refusal :=
  .next (act (tamperPulse ns) s)

/-- A completed CAL_RESTORE pair with group bits (R347). -/
def execCalRestore (a : Acc) (groups : BitVec 4) (lock pin : Bool) (s : State) : Host.Outcome State Fault Refusal :=
  .next (act (pairRow a 0x2000 (calWord groups lock pin)) s)

/-- A completed CAL_RESTORE pair with LOCK (R347). -/
def execCalLock (a : Acc) (groups : BitVec 4) (pin : Bool) (s : State) : Host.Outcome State Fault Refusal :=
  .next (act (pairRow a 0x2000 (calWord groups true pin)) s)

/-- A completed CAL_RESTORE pair with PIN (R322). -/
def execCalRestorePin (a : Acc) (groups : BitVec 4) (lock : Bool) (s : State) : Host.Outcome State Fault Refusal :=
  .next (act (pairRow a 0x2000 (calWord groups lock true)) s)

/-- A write to a CAL override register (R345). -/
def execCalOverrideWrite (a : Acc) (r : CalReg) (v : W32) (s : State) : Host.Outcome State Fault Refusal :=
  .next (act (calRow a r v) s)

/-- A write of SIL_HLT_RESP (R338). -/
def execSilHltRespWrite (a : Acc) (v : W32) (s : State) : Host.Outcome State Fault Refusal :=
  .next (act (writeAccess a 0x1004 [v]) s)

/-- A completed SYS_COMPAT pair with EN set (R329). -/
def execCompatEnter (a : Acc) (pin : Bool) (s : State) : Host.Outcome State Fault Refusal :=
  .next (act (pairRow a 0x0018 (compatWord true pin)) s)

/-- A completed SYS_COMPAT pair with EN clear (R329). -/
def execCompatLeave (a : Acc) (pin : Bool) (s : State) : Host.Outcome State Fault Refusal :=
  .next (act (pairRow a 0x0018 (compatWord false pin)) s)

/-- A completed SYS_COMPAT pair with PIN set (R322). -/
def execCompatPin (a : Acc) (en : Bool) (s : State) : Host.Outcome State Fault Refusal :=
  .next (act (pairRow a 0x0018 (compatWord en true)) s)

/-- A write of SYS_SLOW (R330). -/
def execSlowClockSelect (a : Acc) (v : W32) (s : State) : Host.Outcome State Fault Refusal :=
  .next (act (writeAccess a 0x0020 [v]) s)

/-- SLOWCLK stops (R17). -/
def execSlowclkLost (s : State) : Host.Outcome State Fault Refusal :=
  .next (act (slowclkLost) s)

/-- A PACE window ends (R18 to R21). -/
def execPaceWindowEnd (x : PaceMeasure) (s : State) : Host.Outcome State Fault Refusal :=
  .next (act (paceEnd x) s)

end Sys2Proof.Machine
end

