-- ==== Sys2Proof/Machine/ExecReg.lean ====
section
/-! DEFINITION. Register accesses without a row of their own, guarded pairs, the mailbox and the compatibility window: the commands of chapter 13. -/

namespace Sys2Proof.Machine

/-- A write to registers without a row of their own (R313, R314, R317, R323) (DESIGN CHOICE, notes/assumptions/21). -/
def execRegisterWrite (a : Acc) (off : Nat) (ws : RegBytes) (s : State) : Host.Outcome State Fault Refusal :=
  .next (act (writeRow a off ws.words ws.rest) s)

/-- A write to the value address of a guarded register (R320). -/
def execGuardArm (a : Acc) (off : Nat) (v : W32) (s : State) : Host.Outcome State Fault Refusal :=
  .next (act (armRow a off v) s)

/-- A write to a _C address (R320, R321). -/
def execGuardComplement (a : Acc) (off : Nat) (w : W32) (s : State) : Host.Outcome State Fault Refusal :=
  .next (act (compRow a off w) s)

/-- 32 CK_SLOW cycles pass without the complement (R321). -/
def execGuardTimeout (req : ReqId) (s : State) : Host.Outcome State Fault Refusal :=
  .next (act (guardTimeout req) s)

/-- A write of MBX_SEL with the claim OP (R324). -/
def execMbxClaim (a : Acc) (item : BitVec 16) (s : State) : Host.Outcome State Fault Refusal :=
  .next (act (mbxRow a 2 item.toNat) s)

/-- A write of MBX_SEL with the release OP (R324). -/
def execMbxRelease (a : Acc) (s : State) : Host.Outcome State Fault Refusal :=
  .next (act (mbxRow a 3 0) s)

/-- A read of MBX_DATA_7 (R324). -/
def execMbxData7Read (a : Acc) (s : State) : Host.Outcome State Fault Refusal :=
  .next (act (readAccess a 0x302C 1) s)

/-- The holder is silent for 32 CK_SLOW cycles (R324). -/
def execMbxHoldTimeout (s : State) : Host.Outcome State Fault Refusal :=
  .next (act (mbxTimeout) s)

/-- Read item 0x0000 (R325). -/
def execMbxUidRead (a : Acc) (s : State) : Host.Outcome State Fault Refusal :=
  .next (act (mbxRow a 0 0x0000) s)

/-- Read items 0x0100 to 0x011F (R342). -/
def execMbxClassTableRead (a : Acc) (pg : BitVec 5) (s : State) : Host.Outcome State Fault Refusal :=
  .next (act (mbxRow a 0 (0x0100 + pg.toNat)) s)

/-- Write items 0x0100 to 0x011F (R326, R342). -/
def execMbxClassTableWrite (a : Acc) (pg : BitVec 5) (s : State) : Host.Outcome State Fault Refusal :=
  .next (act (mbxRow a 1 (0x0100 + pg.toNat)) s)

/-- Read item 0x0200 (R352). -/
def execMbxOtpInfoRead (a : Acc) (s : State) : Host.Outcome State Fault Refusal :=
  .next (act (mbxRow a 0 0x0200) s)

/-- Read items 0x0201 and 0x0202 (R352). -/
def execMbxKeyDigestRead (a : Acc) (hi : Bool) (s : State) : Host.Outcome State Fault Refusal :=
  .next (act (mbxRow a 0 (0x0201 + b2n hi)) s)

/-- Read items 0x0600 to 0x0607 (R95). -/
def execMbxTallyPageRead (a : Acc) (pg : BitVec 3) (s : State) : Host.Outcome State Fault Refusal :=
  .next (act (mbxRow a 0 (0x0600 + pg.toNat)) s)

/-- Read item 0x0A00 (R215). -/
def execMbxUcodeDigestRead (a : Acc) (s : State) : Host.Outcome State Fault Refusal :=
  .next (act (mbxRow a 0 0x0A00) s)

/-- Read items 0x0B00 to 0x0B07 (R269). -/
def execMbxGatherTallyRead (a : Acc) (pg : BitVec 3) (s : State) : Host.Outcome State Fault Refusal :=
  .next (act (mbxRow a 0 (0x0B00 + pg.toNat)) s)

/-- Read item 0x0B08 (R269). -/
def execMbxGatherHealthRead (a : Acc) (s : State) : Host.Outcome State Fault Refusal :=
  .next (act (mbxRow a 0 0x0B08) s)

/-- Read item 0x0C00 (R275). -/
def execMbxTimeCapture (a : Acc) (s : State) : Host.Outcome State Fault Refusal :=
  .next (act (mbxRow a 0 0x0C00) s)

/-- Read item 0x0C01 (R278). -/
def execMbxSyncInStamp (a : Acc) (s : State) : Host.Outcome State Fault Refusal :=
  .next (act (mbxRow a 0 0x0C01) s)

/-- Read item 0x0E00 (R186). -/
def execMbxEventRemove (a : Acc) (s : State) : Host.Outcome State Fault Refusal :=
  .next (act (mbxRow a 0 0x0E00) s)

/-- Read item 0x0E01 (R186). -/
def execMbxEventPeek (a : Acc) (s : State) : Host.Outcome State Fault Refusal :=
  .next (act (mbxRow a 0 0x0E01) s)

/-- A read of CMP_DATA (R153). -/
def execCmpDataRead (a : Acc) (s : State) : Host.Outcome State Fault Refusal :=
  .next (act (cmpData a 0xF000 1) s)

/-- A write of CMP_CELL_EN (R51). -/
def execCmpCellEnWrite (a : Acc) (v : W32) (s : State) : Host.Outcome State Fault Refusal :=
  .next (act (writeAccess a 0xF008 [v]) s)

/-- A write of 1 to CMP_REFRESH (R123). -/
def execCmpRefresh (a : Acc) (s : State) : Host.Outcome State Fault Refusal :=
  .next (act (writeAccess a 0xF024 [1]) s)

/-- A read of CMP_FAIL_CNT (R72). -/
def execCmpFailCntRead (a : Acc) (s : State) : Host.Outcome State Fault Refusal :=
  .next (act (readAccess a 0xF01C 1) s)

/-- A read of registers with RC fields (R313, R316) (DESIGN CHOICE, notes/assumptions/21). -/
def execClearingRead (a : Acc) (off : Nat) (n : RegLength) (s : State) : Host.Outcome State Fault Refusal :=
  .next (act (regRow a off n.words n.rest) s)

end Sys2Proof.Machine
end

