-- ==== Sys2Proof/Machine/ExecRing.lean ====
section
/-! DEFINITION. The Ilser ports and frames, the ring hierarchy: the commands of chapter 10. -/

namespace Sys2Proof.Machine

/-- A port gains block lock and deskews (R254). -/
def execPortTrain (p : PortId) (s : State) : Host.Outcome State Fault Refusal :=
  .next (act (portTrain p) s)

/-- An IDENT link frame arrives (R251, R254). -/
def execIdentRx (p : PortId) (w : Word) (s : State) : Host.Outcome State Fault Refusal :=
  .next (act (identRx p w) s)

/-- A LINK frame arrives (R251, R252). -/
def execLinkRx (p : PortId) (w : Word) (s : State) : Host.Outcome State Fault Refusal :=
  .next (act (linkRx p w) s)

/-- A frame arrives that is bad or out of order (R252). -/
def execFrameCrcError (p : PortId) (badBlock : Bool) (s : State) : Host.Outcome State Fault Refusal :=
  .next (act (frameCrcError p badBlock) s)

/-- REPLAY_US passes with frames unacknowledged (R252). -/
def execReplayTimer (p : PortId) (s : State) : Host.Outcome State Fault Refusal :=
  .next (act (replayTimer p) s)

/-- A port has spent RING_RESTORE.MS in READY (R261). -/
def execPortRestoreTimer (p : PortId) (s : State) : Host.Outcome State Fault Refusal :=
  .next (act (restoreTimer p) s)

/-- A write of RING_CTRL (R261). -/
def execPortRestoreCmd (a : Acc) (v : W32) (s : State) : Host.Outcome State Fault Refusal :=
  .next (act (writeAccess a 0xB010 [v]) s)

/-- Block lock or signal stays lost for DEBOUNCE_US (R255). -/
def execLossOfLock (p : PortId) (s : State) : Host.Outcome State Fault Refusal :=
  .next (act (lossOfLock p) s)

/-- hi_ber stays asserted for DEBOUNCE_US (R255). -/
def execHighBer (p : PortId) (s : State) : Host.Outcome State Fault Refusal :=
  .next (act (highBer p) s)

/-- One frame is replayed RETRY_MAX times (R255). -/
def execRetransmissionLimit (p : PortId) (s : State) : Host.Outcome State Fault Refusal :=
  .next (act (retransLimit p) s)

/-- A frame waits CREDIT_TO for credit (R255). -/
def execCreditTimeout (p : PortId) (s : State) : Host.Outcome State Fault Refusal :=
  .next (act (creditTimeout p) s)

/-- A BREAK broadcast arrives (R259). -/
def execBreakRx (p : PortId) (f : Frame) (s : State) : Host.Outcome State Fault Refusal :=
  .next (act (breakRx p f) s)

/-- A frame that no rule accepts arrives (R242). -/
def execRingRxBad (p : PortId) (f : Frame) (s : State) : Host.Outcome State Fault Refusal :=
  .next (act (ringRxBad p f) s)

/-- A frame for another node arrives (R242). -/
def execTransitFrame (p : PortId) (f : Frame) (resid : BitVec 40) (s : State) : Host.Outcome State Fault Refusal :=
  .next (act (transitFrame p f resid.toNat) s)

/-- A write acknowledge arrives (R243). -/
def execWrAckRx (p : PortId) (f : Frame) (s : State) : Host.Outcome State Fault Refusal :=
  .next (act (wrAckRx p f) s)

/-- A response to a read that the node issued arrives (R243). -/
def execRdRspRx (p : PortId) (f : Frame) (s : State) : Host.Outcome State Fault Refusal :=
  .next (act (rdRspRx p f) s)

/-- An access to a reserved range of the window (R312). -/
def execUnmappedAccess (a : Acc) (addr : Nat) (wr : Bool) (s : State) : Host.Outcome State Fault Refusal :=
  .next (act (unmapped a addr wr) s)

/-- An ENUM frame arrives with HOPS 1 (R263). -/
def execEnumFrame (p : PortId) (f : Frame) (s : State) : Host.Outcome State Fault Refusal :=
  .next (act (enumRx p f) s)

/-- A BEACON broadcast arrives (R247). -/
def execBeaconRx (p : PortId) (f : Frame) (s : State) : Host.Outcome State Fault Refusal :=
  .next (act (beaconRx p f) s)

/-- The 100 ms period of an ACTIVE manager (R266). -/
def execAnnounceTx (s : State) : Host.Outcome State Fault Refusal :=
  .next (act (announceTx) s)

/-- An ANNOUNCE arrives (R266). -/
def execAnnounceRx (p : PortId) (f : Frame) (s : State) : Host.Outcome State Fault Refusal :=
  .next (act (announceRx p f) s)

/-- A STANDBY manager has heard no lower ID for 300 ms (R266). -/
def execMgrStandbyTimeout (s : State) : Host.Outcome State Fault Refusal :=
  .next (act (standbyTimeout) s)

/-- A worker sends HELLO (R267). -/
def execHelloTx (s : State) : Host.Outcome State Fault Refusal :=
  .next (act (helloTx) s)

/-- An ACTIVE manager receives HELLO (R267). -/
def execHelloRx (p : PortId) (f : Frame) (s : State) : Host.Outcome State Fault Refusal :=
  .next (act (helloRx p f) s)

/-- A worker has been silent for 30 s (R267). -/
def execWorkerSlotExpire (k : Nat) (s : State) : Host.Outcome State Fault Refusal :=
  .next (act (slotExpire k) s)

/-- The manager sends a PEER frame (R268). -/
def execPeerTx (k : Nat) (s : State) : Host.Outcome State Fault Refusal :=
  .next (act (peerTx k) s)

/-- A worker receives a PEER contribution (R113, R268). -/
def execPeerRx (p : PortId) (f : Frame) (s : State) : Host.Outcome State Fault Refusal :=
  .next (act (peerRx p f) s)

/-- The manager sends GATHER (R269). -/
def execGatherTx (k : Nat) (s : State) : Host.Outcome State Fault Refusal :=
  .next (act (gatherTx k) s)

/-- A worker receives GATHER and reports (R269). -/
def execGatherRx (p : PortId) (f : Frame) (s : State) : Host.Outcome State Fault Refusal :=
  .next (act (gatherRx p f) s)

/-- The manager receives REPORT_TALLY (R269). -/
def execReportTallyRx (p : PortId) (f : Frame) (s : State) : Host.Outcome State Fault Refusal :=
  .next (act (reportRx p f false) s)

/-- The manager receives REPORT_HEALTH (R269). -/
def execReportHealthRx (p : PortId) (f : Frame) (s : State) : Host.Outcome State Fault Refusal :=
  .next (act (reportRx p f true) s)

/-- A slot's report becomes stale (R269). -/
def execGatherStale (k : Nat) (s : State) : Host.Outcome State Fault Refusal :=
  .next (act (gatherStale k) s)

/-- An ACTIVE manager receives ALARM (R270). -/
def execAlarmRx (p : PortId) (f : Frame) (s : State) : Host.Outcome State Fault Refusal :=
  .next (act (alarmRx p f) s)

/-- A node receives FABRIC_ALARM (R270). -/
def execFabricAlarmRx (p : PortId) (f : Frame) (s : State) : Host.Outcome State Fault Refusal :=
  .next (act (fabricAlarmRx p f) s)

/-- CK_RING stops (R254, R362). -/
def execCkRingAbsent (s : State) : Host.Outcome State Fault Refusal :=
  .next (act (refclkLost) s)

end Sys2Proof.Machine
end

