-- ==== Sys2Proof/Machine/ExecTime.lean ====
section
/-! DEFINITION. Fabric time and SYNC_OUT: the commands of chapter 11. -/

namespace Sys2Proof.Machine

/-- An ACTIVE manager sends SYNC (R277). -/
def execSyncTx (s : State) : Host.Outcome State Fault Refusal :=
  .next (act (syncTx) s)

/-- A worker takes a SYNC frame (R277). -/
def execSyncRx (p : PortId) (f : Frame) (s : State) : Host.Outcome State Fault Refusal :=
  .next (act (syncRx p f) s)

/-- No CK_TIME edge for one CK_SLOW cycle (R275). -/
def execCkTimeLost (s : State) : Host.Outcome State Fault Refusal :=
  .next (act (ckTimeLost) s)

/-- CK_TIME runs again (R275). -/
def execCkTimeRestored (s : State) : Host.Outcome State Fault Refusal :=
  .next (act (ckTimeRestored) s)

/-- A completed TIM_CMD pair with SET (R279). -/
def execTimeSet (a : Acc) (adj pin : Bool) (s : State) : Host.Outcome State Fault Refusal :=
  .next (act (pairRow a 0xC054 (timWord true adj pin)) s)

/-- A completed TIM_CMD pair with ADJ (R279). -/
def execTimeAdj (a : Acc) (pin : Bool) (s : State) : Host.Outcome State Fault Refusal :=
  .next (act (pairRow a 0xC054 (timWord false true pin)) s)

/-- A completed TIM_CMD pair with PIN (R322). -/
def execTimCmdPin (a : Acc) (set adj : Bool) (s : State) : Host.Outcome State Fault Refusal :=
  .next (act (pairRow a 0xC054 (timWord set adj true)) s)

/-- A stable rising edge on SYNC_IN (R278). -/
def execSyncInEdge (s : State) : Host.Outcome State Fault Refusal :=
  .next (act (syncInEdge) s)

/-- HOLD_MS passes in TRACK (R280). -/
def execTimeHoldover (s : State) : Host.Outcome State Fault Refusal :=
  .next (act (timeHoldover) s)

/-- A scheduled SYNC_OUT time is reached (R287). -/
def execSyncOutPulse (s : State) : Host.Outcome State Fault Refusal :=
  .next (act (syncOutPulse) s)

/-- The width of a SYNC_OUT pulse elapses (R287). -/
def execSyncOutPulseEnd (s : State) : Host.Outcome State Fault Refusal :=
  .next (act (syncOutEnd) s)

/-- A write of TIM_SYNCOUT_START (R287). -/
def execSyncoutStartWrite (a : Acc) (v : W32) (s : State) : Host.Outcome State Fault Refusal :=
  .next (act (writeAccess a 0xC034 [v]) s)

end Sys2Proof.Machine
end

