-- ==== Sys2Proof/Machine/Dispatch.lean ====
section
/-! DEFINITION. The meaning of each command: one arm per row of spec/opcode_table.json. -/

namespace Sys2Proof.Machine

/-- The effect of a command on everything but the queue of waiting commands. -/
def exec (i : Instr) (s : State) : Host.Outcome State Fault Refusal :=
  match i with
  | .vinRise selL selC => Sys2Proof.Machine.execVinRise selL selC s
  | .internalResetRelease x => Sys2Proof.Machine.execInternalResetRelease x s
  | .resetAssert => Sys2Proof.Machine.execResetAssert s
  | .brownOut => Sys2Proof.Machine.execBrownOut s
  | .jtagResetHold x => Sys2Proof.Machine.execJtagResetHold x s
  | .romBoot x => Sys2Proof.Machine.execRomBoot x s
  | .bootDone a => Sys2Proof.Machine.execBootDone a s
  | .tamper ns => Sys2Proof.Machine.execTamper ns s
  | .calRestore a groups lock pin => Sys2Proof.Machine.execCalRestore a groups lock pin s
  | .calLock a groups pin => Sys2Proof.Machine.execCalLock a groups pin s
  | .calRestorePin a groups lock => Sys2Proof.Machine.execCalRestorePin a groups lock s
  | .calOverrideWrite a r v => Sys2Proof.Machine.execCalOverrideWrite a r v s
  | .silHltRespWrite a v => Sys2Proof.Machine.execSilHltRespWrite a v s
  | .compatEnter a pin => Sys2Proof.Machine.execCompatEnter a pin s
  | .compatLeave a pin => Sys2Proof.Machine.execCompatLeave a pin s
  | .compatPin a en => Sys2Proof.Machine.execCompatPin a en s
  | .slowClockSelect a v => Sys2Proof.Machine.execSlowClockSelect a v s
  | .slowclkLost => Sys2Proof.Machine.execSlowclkLost s
  | .paceWindowEnd x => Sys2Proof.Machine.execPaceWindowEnd x s
  | .race n bit => Sys2Proof.Machine.execRace n bit s
  | .witnessSample b bit => Sys2Proof.Machine.execWitnessSample b bit s
  | .grnEnWrite a b v => Sys2Proof.Machine.execGrnEnWrite a b v s
  | .grnRestart a src => Sys2Proof.Machine.execGrnRestart a src s
  | .grnRetire a board idx => Sys2Proof.Machine.execGrnRetire a board idx s
  | .captureStart a src pin => Sys2Proof.Machine.execCaptureStart a src pin s
  | .capturePin a src start => Sys2Proof.Machine.execCapturePin a src start s
  | .grnRawDataRead a => Sys2Proof.Machine.execGrnRawDataRead a s
  | .hltSnap a => Sys2Proof.Machine.execHltSnap a s
  | .hltSnapDone => Sys2Proof.Machine.execHltSnapDone s
  | .hltRetryPin a ms => Sys2Proof.Machine.execHltRetryPin a ms s
  | .seedReady b => Sys2Proof.Machine.execSeedReady b s
  | .seedHandover => Sys2Proof.Machine.execSeedHandover s
  | .heldSeedAged b => Sys2Proof.Machine.execHeldSeedAged b s
  | .planeKatDone b compOk hashOk => Sys2Proof.Machine.execPlaneKatDone b compOk hashOk s
  | .plnKatCmd a mask => Sys2Proof.Machine.execPlnKatCmd a mask s
  | .talSnap a => Sys2Proof.Machine.execTalSnap a s
  | .talSnapDone => Sys2Proof.Machine.execTalSnapDone s
  | .laneSegment n cut => Sys2Proof.Machine.execLaneSegment n cut s
  | .laneKatDone n ok => Sys2Proof.Machine.execLaneKatDone n ok s
  | .laneTimeCap n => Sys2Proof.Machine.execLaneTimeCap n s
  | .laneHandshakeTimeout n => Sys2Proof.Machine.execLaneHandshakeTimeout n s
  | .lanEnWrite a v => Sys2Proof.Machine.execLanEnWrite a v s
  | .lanReseedCmd a mask => Sys2Proof.Machine.execLanReseedCmd a mask s
  | .lanKatCmd a mask => Sys2Proof.Machine.execLanKatCmd a mask s
  | .lanQbindWrite a q v => Sys2Proof.Machine.execLanQbindWrite a q v s
  | .mixPieceAbsorb n => Sys2Proof.Machine.execMixPieceAbsorb n s
  | .segmentOffer n => Sys2Proof.Machine.execSegmentOffer n s
  | .patrolRead addr e => Sys2Proof.Machine.execPatrolRead addr e s
  | .ageScrub q => Sys2Proof.Machine.execAgeScrub q s
  | .queueEnable a q v => Sys2Proof.Machine.execQueueEnable a q v s
  | .queueDisable a q v => Sys2Proof.Machine.execQueueDisable a q v s
  | .queueFlush a q v => Sys2Proof.Machine.execQueueFlush a q v s
  | .queueConfigWrite a q size v => Sys2Proof.Machine.execQueueConfigWrite a q size v s
  | .dqMinRead a q => Sys2Proof.Machine.execDqMinRead a q s
  | .dqWptrRead a q => Sys2Proof.Machine.execDqWptrRead a q s
  | .stkTagSelWrite a v => Sys2Proof.Machine.execStkTagSelWrite a v s
  | .deliveryRead a q len hold => Sys2Proof.Machine.execDeliveryRead a q len hold s
  | .deliveryWindowWrite a q => Sys2Proof.Machine.execDeliveryWindowWrite a q s
  | .grantAllot q e => Sys2Proof.Machine.execGrantAllot q e s
  | .stallLimitExpire w => Sys2Proof.Machine.execStallLimitExpire w s
  | .markForced q => Sys2Proof.Machine.execMarkForced q s
  | .resultWriteDrop p txn => Sys2Proof.Machine.execResultWriteDrop p txn s
  | .distCandidate j => Sys2Proof.Machine.execDistCandidate j s
  | .arrayClearDone => Sys2Proof.Machine.execArrayClearDone s
  | .submissionWrite a w bytes => Sys2Proof.Machine.execSubmissionWrite a w bytes s
  | .draw => Sys2Proof.Machine.execDraw s
  | .drawn => Sys2Proof.Machine.execDrawn s
  | .drawp => Sys2Proof.Machine.execDrawp s
  | .mix => Sys2Proof.Machine.execMix s
  | .reseed => Sys2Proof.Machine.execReseed s
  | .peg => Sys2Proof.Machine.execPeg s
  | .atInstr => Sys2Proof.Machine.execAtInstr s
  | .beacon => Sys2Proof.Machine.execBeacon s
  | .verify => Sys2Proof.Machine.execVerify s
  | .batch => Sys2Proof.Machine.execBatch s
  | .digest => Sys2Proof.Machine.execDigest s
  | .tally => Sys2Proof.Machine.execTally s
  | .test => Sys2Proof.Machine.execTest s
  | .note => Sys2Proof.Machine.execNote s
  | .abort => Sys2Proof.Machine.execAbort s
  | .restore => Sys2Proof.Machine.execRestore s
  | .endMark => Sys2Proof.Machine.execEndMark s
  | .unknownOpcode => Sys2Proof.Machine.execUnknownOpcode s
  | .atLaunch j => Sys2Proof.Machine.execAtLaunch j s
  | .beaconGrantRequest j => Sys2Proof.Machine.execBeaconGrantRequest j s
  | .beaconLaunch j => Sys2Proof.Machine.execBeaconLaunch j s
  | .fenceRelease req => Sys2Proof.Machine.execFenceRelease req s
  | .eventQueueStore => Sys2Proof.Machine.execEventQueueStore s
  | .jobTagSelWrite a v => Sys2Proof.Machine.execJobTagSelWrite a v s
  | .jobPeakRead a => Sys2Proof.Machine.execJobPeakRead a s
  | .benchClaim a n => Sys2Proof.Machine.execBenchClaim a n s
  | .benchRelease a n => Sys2Proof.Machine.execBenchRelease a n s
  | .benchIdleTimeout n => Sys2Proof.Machine.execBenchIdleTimeout n s
  | .benchJobStart => Sys2Proof.Machine.execBenchJobStart s
  | .benchVerdict n agree => Sys2Proof.Machine.execBenchVerdict n agree s
  | .benchClearDone n => Sys2Proof.Machine.execBenchClearDone n s
  | .benchKatCmd a v => Sys2Proof.Machine.execBenchKatCmd a v s
  | .benchKatDone u ok => Sys2Proof.Machine.execBenchKatDone u ok s
  | .ucodeStoreError unc => Sys2Proof.Machine.execUcodeStoreError unc s
  | .benchWindowAccess a n off op => Sys2Proof.Machine.execBenchWindowAccess a n off op s
  | .hashTurnDone => Sys2Proof.Machine.execHashTurnDone s
  | .portTrain p => Sys2Proof.Machine.execPortTrain p s
  | .identRx p w => Sys2Proof.Machine.execIdentRx p w s
  | .linkRx p w => Sys2Proof.Machine.execLinkRx p w s
  | .frameCrcError p badBlock => Sys2Proof.Machine.execFrameCrcError p badBlock s
  | .replayTimer p => Sys2Proof.Machine.execReplayTimer p s
  | .portRestoreTimer p => Sys2Proof.Machine.execPortRestoreTimer p s
  | .portRestoreCmd a v => Sys2Proof.Machine.execPortRestoreCmd a v s
  | .lossOfLock p => Sys2Proof.Machine.execLossOfLock p s
  | .highBer p => Sys2Proof.Machine.execHighBer p s
  | .retransmissionLimit p => Sys2Proof.Machine.execRetransmissionLimit p s
  | .creditTimeout p => Sys2Proof.Machine.execCreditTimeout p s
  | .breakRx p f => Sys2Proof.Machine.execBreakRx p f s
  | .ringRxBad p f => Sys2Proof.Machine.execRingRxBad p f s
  | .transitFrame p f resid => Sys2Proof.Machine.execTransitFrame p f resid s
  | .wrAckRx p f => Sys2Proof.Machine.execWrAckRx p f s
  | .rdRspRx p f => Sys2Proof.Machine.execRdRspRx p f s
  | .unmappedAccess a addr wr => Sys2Proof.Machine.execUnmappedAccess a addr wr s
  | .enumFrame p f => Sys2Proof.Machine.execEnumFrame p f s
  | .beaconRx p f => Sys2Proof.Machine.execBeaconRx p f s
  | .announceTx => Sys2Proof.Machine.execAnnounceTx s
  | .announceRx p f => Sys2Proof.Machine.execAnnounceRx p f s
  | .mgrStandbyTimeout => Sys2Proof.Machine.execMgrStandbyTimeout s
  | .helloTx => Sys2Proof.Machine.execHelloTx s
  | .helloRx p f => Sys2Proof.Machine.execHelloRx p f s
  | .workerSlotExpire k => Sys2Proof.Machine.execWorkerSlotExpire k s
  | .peerTx k => Sys2Proof.Machine.execPeerTx k s
  | .peerRx p f => Sys2Proof.Machine.execPeerRx p f s
  | .gatherTx k => Sys2Proof.Machine.execGatherTx k s
  | .gatherRx p f => Sys2Proof.Machine.execGatherRx p f s
  | .reportTallyRx p f => Sys2Proof.Machine.execReportTallyRx p f s
  | .reportHealthRx p f => Sys2Proof.Machine.execReportHealthRx p f s
  | .gatherStale k => Sys2Proof.Machine.execGatherStale k s
  | .alarmRx p f => Sys2Proof.Machine.execAlarmRx p f s
  | .fabricAlarmRx p f => Sys2Proof.Machine.execFabricAlarmRx p f s
  | .syncTx => Sys2Proof.Machine.execSyncTx s
  | .syncRx p f => Sys2Proof.Machine.execSyncRx p f s
  | .ckTimeLost => Sys2Proof.Machine.execCkTimeLost s
  | .ckTimeRestored => Sys2Proof.Machine.execCkTimeRestored s
  | .timeSet a adj pin => Sys2Proof.Machine.execTimeSet a adj pin s
  | .timeAdj a pin => Sys2Proof.Machine.execTimeAdj a pin s
  | .timCmdPin a set adj => Sys2Proof.Machine.execTimCmdPin a set adj s
  | .syncInEdge => Sys2Proof.Machine.execSyncInEdge s
  | .timeHoldover => Sys2Proof.Machine.execTimeHoldover s
  | .syncOutPulse => Sys2Proof.Machine.execSyncOutPulse s
  | .syncOutPulseEnd => Sys2Proof.Machine.execSyncOutPulseEnd s
  | .syncoutStartWrite a v => Sys2Proof.Machine.execSyncoutStartWrite a v s
  | .roleSwitch a v => Sys2Proof.Machine.execRoleSwitch a v s
  | .lspTransfer mosi => Sys2Proof.Machine.execLspTransfer mosi s
  | .engineRead => Sys2Proof.Machine.execEngineRead s
  | .engineWrite => Sys2Proof.Machine.execEngineWrite s
  | .engineNop => Sys2Proof.Machine.execEngineNop s
  | .lspRxDataRead a => Sys2Proof.Machine.execLspRxDataRead a s
  | .lspTxDataWrite a v => Sys2Proof.Machine.execLspTxDataWrite a v s
  | .engineSwitch => Sys2Proof.Machine.execEngineSwitch s
  | .xipRead a w off len => Sys2Proof.Machine.execXipRead a w off len s
  | .xipWrite a w off bytes => Sys2Proof.Machine.execXipWrite a w off bytes s
  | .flashPoll sr => Sys2Proof.Machine.execFlashPoll sr s
  | .pollTimeout => Sys2Proof.Machine.execPollTimeout s
  | .rawCommand a v => Sys2Proof.Machine.execRawCommand a v s
  | .xipTransactionDone data => Sys2Proof.Machine.execXipTransactionDone data s
  | .flashLock a l0 l1 pin => Sys2Proof.Machine.execFlashLock a l0 l1 pin s
  | .flashLockPin a l0 l1 => Sys2Proof.Machine.execFlashLockPin a l0 l1 s
  | .registerWrite a off ws => Sys2Proof.Machine.execRegisterWrite a off ws s
  | .guardArm a off v => Sys2Proof.Machine.execGuardArm a off v s
  | .guardComplement a off w => Sys2Proof.Machine.execGuardComplement a off w s
  | .guardTimeout req => Sys2Proof.Machine.execGuardTimeout req s
  | .mbxClaim a item => Sys2Proof.Machine.execMbxClaim a item s
  | .mbxRelease a => Sys2Proof.Machine.execMbxRelease a s
  | .mbxData7Read a => Sys2Proof.Machine.execMbxData7Read a s
  | .mbxHoldTimeout => Sys2Proof.Machine.execMbxHoldTimeout s
  | .mbxUidRead a => Sys2Proof.Machine.execMbxUidRead a s
  | .mbxClassTableRead a pg => Sys2Proof.Machine.execMbxClassTableRead a pg s
  | .mbxClassTableWrite a pg => Sys2Proof.Machine.execMbxClassTableWrite a pg s
  | .mbxOtpInfoRead a => Sys2Proof.Machine.execMbxOtpInfoRead a s
  | .mbxKeyDigestRead a hi => Sys2Proof.Machine.execMbxKeyDigestRead a hi s
  | .mbxTallyPageRead a pg => Sys2Proof.Machine.execMbxTallyPageRead a pg s
  | .mbxUcodeDigestRead a => Sys2Proof.Machine.execMbxUcodeDigestRead a s
  | .mbxGatherTallyRead a pg => Sys2Proof.Machine.execMbxGatherTallyRead a pg s
  | .mbxGatherHealthRead a => Sys2Proof.Machine.execMbxGatherHealthRead a s
  | .mbxTimeCapture a => Sys2Proof.Machine.execMbxTimeCapture a s
  | .mbxSyncInStamp a => Sys2Proof.Machine.execMbxSyncInStamp a s
  | .mbxEventRemove a => Sys2Proof.Machine.execMbxEventRemove a s
  | .mbxEventPeek a => Sys2Proof.Machine.execMbxEventPeek a s
  | .cmpDataRead a => Sys2Proof.Machine.execCmpDataRead a s
  | .cmpCellEnWrite a v => Sys2Proof.Machine.execCmpCellEnWrite a v s
  | .cmpRefresh a => Sys2Proof.Machine.execCmpRefresh a s
  | .cmpFailCntRead a => Sys2Proof.Machine.execCmpFailCntRead a s
  | .clearingRead a off n => Sys2Proof.Machine.execClearingRead a off n s
  | .ckRingAbsent => Sys2Proof.Machine.execCkRingAbsent s
  | .jobEngineLost => Sys2Proof.Machine.execJobEngineLost s

end Sys2Proof.Machine
end

