-- ==== Sys2Proof/WellFormed.lean ====
section
/-! DEFINITION. Well-formed commands: every index names something the largest variant has, every address lies in the range of its row, a
frame carries as many payload bytes as it says, and only the control core is requester 0xFFF on its own path. The meanings are total: a
command that is not well formed stands for nothing the node can receive, and leaves the state as it is or is refused as the spec says. -/

namespace Sys2Proof

/-- The control core's accesses carry requester ID 0xFFF (Table 7-1), and HOLD is a bit of ring requests (R241). -/
def Acc.wf (a : Acc) : Bool :=
  match a.path with
  | .core => decide (a.req = 0xFFF) && !a.hold
  | .portA | .portB => true
  | .lsp => !a.hold

/-- A frame carries LEN bytes of payload, 256 at most (R241). -/
def Frame.wf (f : Frame) : Bool := decide (f.payload.length = f.len.toNat) && decide (f.len.toNat ≤ 256)

/-- A register of the CAL block exists in the largest variant (R345). -/
def CalReg.wf : CalReg → Bool
  | .cutCell | .cutWit | .timeTrim => true
  | .cell n => decide (n < 64)
  | .wit b => decide (b < 8)

/-- A wait names a queue that exists (R140). -/
def WaitId.wf : WaitId → Bool
  | .queue q _ => decide (q < 16)
  | .seeds _ | .path _ => true

/-- A unit of the bench test command exists in the largest variant (R238). -/
def BenchUnit.wf : BenchUnit → Bool
  | .bench n => decide (n < 4)
  | .hash => true

/-- The value addresses of the guarded registers (R320). -/
def guardAddrs : List Nat := [0x0008, 0x0018, 0x2000, 0x4034, 0x4040, 0x5008, 0xC054, 0xD088, 0xD098]

/-- An offset of the node's window lies in a reserved range of Table 13-1. -/
def isReserved (off : Nat) : Bool :=
  (decide (0x10000 ≤ off) && decide (off < 0x100000)) || (decide (0x240000 ≤ off) && decide (off < 0x300000)) ||
    (decide (0x340000 ≤ off) && decide (off < 0x1000000)) || decide (0x3000000 ≤ off)

/-- An offset of the node's window lies in a submission window, which takes no reads. -/
def isSubmission (off : Nat) : Bool := decide (0x200000 ≤ off) && decide (off < 0x240000)

/-- A command is well formed. -/
def Instr.wf : Instr → Bool
  | .vinRise _ _ | .internalResetRelease _ | .resetAssert | .brownOut | .jtagResetHold _ | .romBoot _ => true
  | .bootDone a => a.wf
  | .tamper _ => true
  | .calRestore a _ _ _ | .calLock a _ _ | .calRestorePin a _ _ => a.wf
  | .calOverrideWrite a r _ => a.wf && r.wf
  | .silHltRespWrite a _ | .compatEnter a _ | .compatLeave a _ | .compatPin a _ | .slowClockSelect a _ => a.wf
  | .slowclkLost | .paceWindowEnd _ => true
  | .race n _ => decide (n < 64)
  | .witnessSample b _ => decide (b < 8)
  | .grnEnWrite a b _ => a.wf && decide (b < 8)
  | .grnRestart a _ | .grnRetire a _ _ | .captureStart a _ _ | .capturePin a _ _ | .grnRawDataRead a | .hltSnap a => a.wf
  | .hltSnapDone => true
  | .hltRetryPin a _ => a.wf
  | .seedReady b => decide (b < 8)
  | .seedHandover => true
  | .heldSeedAged b | .planeKatDone b _ _ => decide (b < 8)
  | .plnKatCmd a _ | .talSnap a => a.wf
  | .talSnapDone => true
  | .laneSegment n _ | .laneKatDone n _ | .laneTimeCap n | .laneHandshakeTimeout n => decide (n < 16)
  | .lanEnWrite a _ | .lanReseedCmd a _ | .lanKatCmd a _ => a.wf
  | .lanQbindWrite a q _ => a.wf && decide (q < 16)
  | .mixPieceAbsorb n | .segmentOffer n => decide (n < 16)
  | .patrolRead addr _ => decide (addr < 1048576)
  | .ageScrub q => decide (q < 16)
  | .queueEnable a q _ | .queueDisable a q _ | .queueFlush a q _ | .queueConfigWrite a q _ _ => a.wf && decide (q < 16)
  | .dqMinRead a q | .dqWptrRead a q => a.wf && decide (q < 16)
  | .stkTagSelWrite a _ => a.wf
  | .deliveryRead a q _ _ | .deliveryWindowWrite a q => a.wf && decide (q < 16)
  | .grantAllot q _ => decide (q < 16)
  | .stallLimitExpire w => w.wf
  | .markForced q => decide (q < 16)
  | .resultWriteDrop _ _ | .distCandidate _ | .arrayClearDone => true
  | .submissionWrite a w _ => a.wf && decide (w < 4)
  | .draw | .drawn | .drawp | .mix | .reseed | .peg | .atInstr | .beacon | .verify | .batch | .digest | .tally | .test | .note
  | .abort | .restore | .endMark | .unknownOpcode => true
  | .atLaunch _ | .beaconGrantRequest _ | .beaconLaunch _ | .fenceRelease _ | .eventQueueStore => true
  | .jobTagSelWrite a _ | .jobPeakRead a => a.wf
  | .benchClaim a n | .benchRelease a n => a.wf && decide (n < 4)
  | .benchIdleTimeout n => decide (n < 4)
  | .benchJobStart => true
  | .benchVerdict n _ | .benchClearDone n => decide (n < 4)
  | .benchKatCmd a _ => a.wf
  | .benchKatDone u _ => u.wf
  | .ucodeStoreError _ => true
  | .benchWindowAccess a n off _ => a.wf && decide (n < 4) && decide (off < 0x10000)
  | .hashTurnDone => true
  | .portTrain _ | .identRx _ _ | .linkRx _ _ | .frameCrcError _ _ | .replayTimer _ | .portRestoreTimer _ => true
  | .portRestoreCmd a _ => a.wf
  | .lossOfLock _ | .highBer _ | .retransmissionLimit _ | .creditTimeout _ => true
  | .ringRxBad _ _ => true
  | .breakRx _ f | .transitFrame _ f _ | .wrAckRx _ f | .rdRspRx _ f => f.wf
  | .unmappedAccess a addr wr => a.wf && (isReserved addr || (isSubmission addr && !wr))
  | .enumFrame _ f | .beaconRx _ f => f.wf
  | .announceTx => true
  | .announceRx _ f => f.wf
  | .mgrStandbyTimeout | .helloTx => true
  | .helloRx _ f => f.wf
  | .workerSlotExpire k | .peerTx k => decide (k < 63)
  | .peerRx _ f => f.wf
  | .gatherTx k => decide (k < 63)
  | .gatherRx _ f | .reportTallyRx _ f | .reportHealthRx _ f => f.wf
  | .gatherStale k => decide (k < 63)
  | .alarmRx _ f | .fabricAlarmRx _ f => f.wf
  | .syncTx => true
  | .syncRx _ f => f.wf
  | .ckTimeLost | .ckTimeRestored => true
  | .timeSet a _ _ | .timeAdj a _ | .timCmdPin a _ _ => a.wf
  | .syncInEdge | .timeHoldover | .syncOutPulse | .syncOutPulseEnd => true
  | .syncoutStartWrite a _ | .roleSwitch a _ => a.wf
  | .lspTransfer _ | .engineRead | .engineWrite | .engineNop => true
  | .lspRxDataRead a | .lspTxDataWrite a _ => a.wf
  | .engineSwitch => true
  | .xipRead a w off _ | .xipWrite a w off _ => a.wf && decide (w < 2) && decide (off < 0x1000000)
  | .flashPoll _ | .pollTimeout => true
  | .rawCommand a _ => a.wf
  | .xipTransactionDone _ => true
  | .flashLock a _ _ _ | .flashLockPin a _ _ => a.wf
  | .registerWrite a off ws => a.wf && decide (off < 0x10000) && decide (ws.rest.length < 4)
  | .guardArm a off _ => a.wf && guardAddrs.contains off
  | .guardComplement a off _ => a.wf && guardAddrs.any (fun g => decide (off = g + 4))
  | .guardTimeout _ => true
  | .mbxClaim a _ | .mbxRelease a | .mbxData7Read a => a.wf
  | .mbxHoldTimeout => true
  | .mbxUidRead a | .mbxClassTableRead a _ | .mbxClassTableWrite a _ | .mbxOtpInfoRead a | .mbxKeyDigestRead a _
  | .mbxTallyPageRead a _ | .mbxUcodeDigestRead a | .mbxGatherTallyRead a _ | .mbxGatherHealthRead a | .mbxTimeCapture a
  | .mbxSyncInStamp a | .mbxEventRemove a | .mbxEventPeek a => a.wf
  | .cmpDataRead a | .cmpCellEnWrite a _ | .cmpRefresh a | .cmpFailCntRead a => a.wf
  | .clearingRead a off n => a.wf && decide (off < 0x10000) && decide (n.rest < 4)
  | .ckRingAbsent | .jobEngineLost => true

end Sys2Proof
end

