-- ==== Sys2Proof/Safety.lean ====
section
/-! DEFINITION. The terms in which claims are stated: the settings that only accesses, the boot and power commands change; the limits of
every field with a range (R314 and the field tables); the canonical form of every memory; and how an access enters the node. -/

namespace Sys2Proof.Machine

/-! ### Settings -/

/-- Settings of HLT: the retry window. -/
structure HltSettings where
  retryPin : Bool
  retryMs : BitVec 16
  deriving DecidableEq, Repr

/-- Settings of LAN: the reseed limits and the use of peer contributions. -/
structure LanSettings where
  base : BitVec 9
  max : BitVec 9
  timeMs : BitVec 7
  peerEn : Bool
  deriving DecidableEq, Repr

/-- Settings of STK: the age, stall and patrol settings. -/
structure StkSettings where
  maxAge : BitVec 19
  stallUs : BitVec 17
  period : BitVec 10
  deriving DecidableEq, Repr

/-- Settings of BNE: the idle time and the microcode. -/
structure BneSettings where
  idleMs : BitVec 14
  loaded : Bool
  version : BitVec 16
  ucode : List Byte
  deriving DecidableEq, Repr

/-- Settings of EVT: where records go and which are written. -/
structure EvtSettings where
  irqEn : Bool
  ringEn : Bool
  ringNode : BitVec 12
  thresh : BitVec 11
  mask : List W32
  deriving DecidableEq, Repr

/-- Settings of RING: the settings of the ports and of the manager. -/
structure RingSettings where
  fbase : BitVec 22
  autoRestore : Bool
  bcastB : Bool
  creditTo : BitVec 9
  debounce : BitVec 9
  retryMax : BitVec 5
  replayUs : BitVec 6
  restoreMs : BitVec 14
  route : List W32
  peerEn : Bool
  pq : BitVec 4
  gatherMs : BitVec 16
  deriving DecidableEq, Repr

/-- Settings of TIM: the settings of the discipline and of the pulse pins. -/
structure TimSettings where
  syncPol : Bool
  syncEn : Bool
  clkSel : Bool
  src : BitVec 2
  slewLimit : BitVec 20
  maxPpm : BitVec 9
  holdMs : BitVec 13
  gain : BitVec 3
  late : BitVec 17
  syncTxEn : Bool
  syncTxMs : BitVec 10
  inPeriod : W32
  outPeriod : W32
  outWidth : BitVec 16
  cmdPin : Bool
  deriving DecidableEq, Repr

/-- Settings of LSP: the role, the frame format, the locks and the bus settings of both windows. -/
structure LspSettings where
  role : Bool
  engine : Bool
  lsbFirst : Bool
  mode : BitVec 2
  len : BitVec 6
  decEn : Bool
  bank : BitVec 4
  lockPin : Bool
  lock0 : Bool
  lock1 : Bool
  xip0 : XipCfg
  xip1 : XipCfg
  deriving DecidableEq, Repr

/-- The settings of an XIP window: the last status byte read is none. -/
def xipSettings (c : XipCfg) : XipCfg := { c with lastSr := 0 }

/-- SIL apart from DELIV_READY. -/
def silSettings (x : Sil) : Sil := { x with delivReady := false }

/-- The settings of the HLT block. -/
def hltSettings (x : Hlt) : HltSettings :=
  ⟨x.retryPin, x.retryMs⟩

/-- The settings of the LAN block. -/
def lanSettings (x : Lan) : LanSettings :=
  ⟨x.base, x.max, x.timeMs, x.peerEn⟩

/-- The settings of the STK block. -/
def stkSettings (x : Stk) : StkSettings :=
  ⟨x.maxAge, x.stallUs, x.period⟩

/-- The settings of the BNE block. -/
def bneSettings (x : Bne) : BneSettings :=
  ⟨x.idleMs, x.loaded, x.version, x.ucode⟩

/-- The settings of the EVT block. -/
def evtSettings (x : Evt) : EvtSettings :=
  ⟨x.irqEn, x.ringEn, x.ringNode, x.thresh, x.mask⟩

/-- The settings of the RING block. -/
def ringSettings (x : Ring) : RingSettings :=
  ⟨x.fbase, x.autoRestore, x.bcastB, x.creditTo, x.debounce, x.retryMax, x.replayUs, x.restoreMs, x.route, x.peerEn, x.pq, x.gatherMs⟩

/-- The settings of the TIM block. -/
def timSettings (x : Tim) : TimSettings :=
  ⟨x.syncPol, x.syncEn, x.clkSel, x.src, x.slewLimit, x.maxPpm, x.holdMs, x.gain, x.late, x.syncTxEn, x.syncTxMs, x.inPeriod,
   x.outPeriod, x.outWidth, x.cmdPin⟩

/-- The settings of the LSP block. -/
def lspSettings (x : Lsp) : LspSettings :=
  ⟨x.role, x.engine, x.lsbFirst, x.mode, x.len, x.decEn, x.bank, x.lockPin, x.lock0, x.lock1, xipSettings x.w0, xipSettings x.w1⟩

/-- What only accesses to the node's window and the boot, tamper, pace, clock and power commands change: power and straps, SYS, SIL apart
from DELIV_READY, the mailbox, the control core's memory, and the settings that the other blocks' registers hold; and the commands that
wait. -/
structure Settings where
  pwr : Pwr
  sys : Sys
  sil : Sil
  mbx : Mbx
  ram : Mem
  hlt : HltSettings
  holdMax : BitVec 7
  lan : LanSettings
  stk : StkSettings
  bne : BneSettings
  evt : EvtSettings
  ring : RingSettings
  tim : TimSettings
  lsp : LspSettings
  pending : List Instr
  deriving DecidableEq, Repr

/-- The settings of a state. -/
def settings (s : State) : Settings :=
  ⟨s.pwr, s.sys, silSettings s.sil, s.mbx, s.core.ram, hltSettings s.hlt, s.pln.holdMax, lanSettings s.lan, stkSettings s.stk,
   bneSettings s.bne, evtSettings s.evt, ringSettings s.ring, timSettings s.tim, lspSettings s.lsp, s.pending⟩

/-! ### Limits -/

/-- A value lies within limits. -/
def within (lo hi n : Nat) : Bool := decide (lo ≤ n) && decide (n ≤ hi)

/-- The settings of an XIP window lie within their limits (LSP_XIP_BUS_w, LSP_XIP_WR_w, LSP_XIP_POLL_w). -/
def xipWithin (c : XipCfg) : Bool :=
  decide (c.div.toNat ≤ 254) && decide (c.page.toNat ≤ 8) && within 1 10000 c.timeoutMs.toNat && within 1 10000 c.intervalUs.toNat

/-- The limits of the sill registers (R338; SIL_FLOOR, SIL_RESEED_CAP, SIL_REQ_LIMIT, SIL_LSP_ID, SIL_CLASS_WEIGHT). -/
def silWithin (x : Sil) : Bool :=
  [0, 8, 16, 24].all (fun i => within 1 4 (fld x.weights i 3)) && decide (2 ≤ x.floor.toNat) && within 1 256 x.reseedCap.toNat && within 1 64 x.reqLimit.toNat && decide (x.lspId ≠ 0xFFF)

/-- Every clamped setting lies within the limits of its field table (R314). -/
def settingsWithin (x : Settings) : Bool :=
  silWithin x.sil && within 100 60000 x.hlt.retryMs.toNat && within 1 100 x.holdMax.toNat &&
    within 1 256 x.lan.base.toNat && within 1 256 x.lan.max.toNat && within 1 100 x.lan.timeMs.toNat &&
    within 1 300000 x.stk.maxAge.toNat && within 10 100000 x.stk.stallUs.toNat && within 10 1000 x.stk.period.toNat &&
    decide (x.bne.idleMs.toNat ≤ 10000) && within 1 1024 x.evt.thresh.toNat &&
    within 10 50 x.ring.creditTo.toNat && within 16 256 x.ring.debounce.toNat && within 2 16 x.ring.retryMax.toNat &&
    within 5 50 x.ring.replayUs.toNat && decide (x.ring.retryMax.toNat * x.ring.replayUs.toNat ≤ 500) &&
    within 10 10000 x.ring.restoreMs.toNat && (decide (x.ring.gatherMs = 0) || within 100 60000 x.ring.gatherMs.toNat) &&
    decide (x.tim.slewLimit.toNat ≤ 1000000) && within 10 500 x.tim.maxPpm.toNat && within 20 8191 x.tim.holdMs.toNat &&
    decide (x.tim.late.toNat ≤ 100000) && within 1 1000 x.tim.syncTxMs.toNat && within 100000 1000000000 x.tim.inPeriod.toNat &&
    within 10000 1000000000 x.tim.outPeriod.toNat && within 8 65535 x.tim.outWidth.toNat && within 4 32 x.lsp.len.toNat &&
    xipWithin x.lsp.xip0 && xipWithin x.lsp.xip1 && decide (x.evt.mask.getD 0 0 &&& 0x800C = 0x800C)

/-- A state whose clamped fields all lie within their limits. -/
def Limits (s : State) : Prop := settingsWithin (settings s) = true

/-! ### Frames -/

/-- The calibration registers and the whole GRN block: sources, boards, enables, capture. -/
def front (s : State) : Cal × Grn := (s.cal, s.grn)

/-- What the end of a step leaves alone when no fatal alarm was raised in it: power, the SYS, SIL, CAL, MBX, GRN, HLT, PLN and TIM blocks,
the control core, and the counts of time. -/
structure Calm where
  pwr : Pwr
  ticks : Nat
  slow : Nat
  ckRing : Bool
  ckTime : Bool
  sys : Sys
  sil : Sil
  cal : Cal
  mbx : Mbx
  core : CoreIo
  grn : Grn
  hlt : Hlt
  pln : Pln
  tim : Tim
  pending : List Instr
  deriving DecidableEq, Repr

/-- What the end of a step leaves alone. -/
def calm (s : State) : Calm :=
  ⟨s.pwr, s.clk.ticks, s.clk.slow, s.clk.ckRing, s.clk.ckTime, s.sys, s.sil, s.cal, s.mbx, s.core, s.grn, s.hlt, s.pln, s.tim, s.pending⟩

/-! ### The tally -/

/-- What the two identities of the tally and its two sums of causes leave over (R89, R93): zero when they hold. -/
def imbB (b : Books) : Word × Word × Word × Word :=
  (b.creditSeeded + b.creditKerf + b.creditPending - b.creditIn,
   b.delivered + b.kerf + b.resident + b.inflight - b.gen,
   b.ckHealth + b.ckMode + b.ckRetire + b.ckAged + b.ckHalt - b.creditKerf,
   b.wkAge + b.wkFlush + b.wkFault + b.wkFailover + b.wkReject + b.wkHalt - b.kerf)

/-- What the identities of a state's tally leave over. -/
def imb (s : State) : Word × Word × Word × Word := imbB s.tal.books

/-- The identities of the tally hold (R89, R93). -/
def Balanced (s : State) : Prop :=
  let b := s.tal.books
  b.creditIn = b.creditSeeded + b.creditKerf + b.creditPending ∧
    b.gen = b.delivered + b.kerf + b.resident + b.inflight ∧
    b.creditKerf = b.ckHealth + b.ckMode + b.ckRetire + b.ckAged + b.ckHalt ∧
    b.kerf = b.wkAge + b.wkFlush + b.wkFault + b.wkFailover + b.wkReject + b.wkHalt

/-! ### Memories -/

/-- Every memory of the node has its canonical form: the stack array, the capture buffer, the control core's memory, and the operand
memories of the benches. -/
def memsOk (s : State) : Bool :=
  memWf s.stk.array && memWf s.grn.cap.buf && memWf s.core.ram && s.bne.benches.all (fun b => memWf b.mem)

/-! ### How an access enters -/

/-- An access is performed when it arrives: over a ring port that takes requests, from the local host once SYS_BOOT_DONE is set, or from
a control core that runs; a ring requester is another node, and has no access before SYS_BOOT_DONE (R264, R337, R338). -/
def enters (a : Acc) (s : State) : Bool :=
  running s && (match pathPort a.path with
    | some p => ringOpen s p && s.sys.bootDone && decide (a.req ≠ coreId)
    | none => if a.path = .core then coreRuns s else s.sys.bootDone)

/-- The state in which an access that enters is performed: a ring request has been taken from its port (R248). -/
def entered (a : Acc) (hold : Bool) (s : State) : State :=
  match pathPort a.path with
  | some p => takeRequest p hold a.hold s
  | none => s

/-! ### Answers -/

/-- The command answers a next state that has a property. -/
def Answers (c : Instr) (s : State) (P : State → Prop) : Prop := ∃ t, exec c s = .next t ∧ P t

/-- The command's own effect leaves a state that has a property, and the command answers the state in which what follows in its step has
been done as well. -/
def Effects (c : Instr) (s : State) (P : State → Prop) : Prop := ∃ u, exec c s = .next (finishUp u) ∧ P u

/-- No fatal alarm is left unsettled: so it is between any two steps. -/
def settled (s : State) : Bool := !s.hlt.alarm

/-- The node runs and no fatal alarm is left unsettled. -/
def upAnd (s : State) : Bool := running s && settled s

/-- The requester of an access, by its path (Table 7-1). -/
def who (a : Acc) (s : State) : ReqId := (norm s a).req

/-- A write of the register at an offset enters the node and its requester may make it (R315, R343, R344). -/
def mayWrite (a : Acc) (off : Nat) (s : State) : Bool := enters a s && mayWriteReg s (who a s) off && settled s

/-- A read of registers enters the node and its requester may make it (R315, R343). -/
def mayFetch (a : Acc) (s : State) : Bool := enters a s && permits s (who a s) .read && settled s

/-- A pair at the guarded register g completes with the value v: the requester may write there, the register is not pinned, and the value
is armed already, its time not passed, or there is room to arm it (R320 to R323) (DESIGN CHOICE, notes/assumptions/12). -/
def completes (a : Acc) (g : Nat) (v : W32) (s : State) : Bool :=
  mayWrite a g s && !isPinned s g &&
    (match armedNow s (who a s) with
     | some x => decide (x.off = g) && decide (x.val = v)
     | none => decide ((s.sys.armed.filter (armLives s)).length < 16))

/-- The state of a source. -/
def srcSt (s : State) (code : Nat) : Option SrcState := (srcOf s.grn code).map (·.st)

/-- Power, reset and test-port commands: the only ones that act on a node held in internal reset or without power. -/
def isPowerRow : Instr → Bool
  | .vinRise _ _ | .internalResetRelease _ | .resetAssert | .brownOut | .jtagResetHold _ => true
  | _ => false

/-- Commands of the units: neither accesses to the node's window nor commands of power, boot, tamper, pace, clocks, slave port and
polls. -/
def keepsSettings : Instr → Bool
  | .race _ _ | .witnessSample _ _ | .hltSnapDone | .seedReady _ | .seedHandover | .heldSeedAged _ | .planeKatDone _ _ _ | .talSnapDone => true
  | .laneSegment _ _ | .laneKatDone _ _ | .laneTimeCap _ | .laneHandshakeTimeout _ | .mixPieceAbsorb _ | .segmentOffer _ => true
  | .patrolRead _ _ | .ageScrub _ | .deliveryRead _ _ _ _ | .deliveryWindowWrite _ _ | .grantAllot _ _ | .stallLimitExpire _ => true
  | .markForced _ | .resultWriteDrop _ _ | .distCandidate _ | .arrayClearDone | .submissionWrite _ _ _ => true
  | .draw | .drawn | .drawp | .mix | .reseed | .peg | .atInstr | .beacon | .verify | .batch | .digest | .tally | .test | .note => true
  | .abort | .restore | .endMark | .unknownOpcode | .atLaunch _ | .beaconGrantRequest _ | .beaconLaunch _ | .fenceRelease _ => true
  | .eventQueueStore | .jobEngineLost | .benchIdleTimeout _ | .benchJobStart | .benchVerdict _ _ | .benchClearDone _ => true
  | .benchKatDone _ _ | .ucodeStoreError _ | .benchWindowAccess _ _ _ _ | .hashTurnDone => true
  | .portTrain _ | .identRx _ _ | .linkRx _ _ | .frameCrcError _ _ | .replayTimer _ | .portRestoreTimer _ | .lossOfLock _ | .highBer _ => true
  | .retransmissionLimit _ | .creditTimeout _ | .breakRx _ _ | .ringRxBad _ _ | .transitFrame _ _ _ | .wrAckRx _ _ | .rdRspRx _ _ => true
  | .unmappedAccess _ _ _ | .enumFrame _ _ | .beaconRx _ _ | .announceTx | .announceRx _ _ | .mgrStandbyTimeout | .helloTx => true
  | .helloRx _ _ | .workerSlotExpire _ | .peerTx _ | .peerRx _ _ | .gatherTx _ | .gatherRx _ _ | .reportTallyRx _ _ => true
  | .reportHealthRx _ _ | .gatherStale _ | .alarmRx _ _ | .fabricAlarmRx _ _ | .ckRingAbsent => true
  | .syncTx | .syncRx _ _ | .ckTimeLost | .ckTimeRestored | .syncInEdge | .timeHoldover | .syncOutPulse | .syncOutPulseEnd => true
  | .engineNop | .xipRead _ _ _ _ | .xipWrite _ _ _ _ | .pollTimeout | .xipTransactionDone _ => true
  | _ => false

/-- Commands of the units that also leave the sources, the boards and the calibration alone: no sample is taken, and no job starts that
could restore the calibration. -/
def keepsFront (c : Instr) : Bool :=
  match c with
  | .race _ _ | .witnessSample _ _ | .hltSnapDone => false
  | .draw | .drawn | .drawp | .mix | .reseed | .peg | .atInstr | .beacon | .verify | .batch | .digest | .tally | .test | .note => false
  | .abort | .restore | .endMark | .unknownOpcode | .atLaunch _ | .fenceRelease _ => false
  | _ => keepsSettings c

/-- The volatile state is lost: the memories, keys, jobs, records, books and the boot, apart from the commands that wait (R357, R361). -/
def volatileLost (s t : State) : Prop :=
  t.sys.bootDone = false ∧ t.core.ram = [] ∧ t.core.entry = none ∧ t.stk.array = [] ∧ t.stk.maskKey = 0 ∧ t.grn.cap.buf = [] ∧
    t.job.jobs = [] ∧ t.job.streams = [] ∧ t.evt.queue = [] ∧ t.tal.books = Books.zero ∧
    (∀ b ∈ t.bne.benches, b.mem = []) ∧ (∀ l ∈ t.lan.lanes, l.drbg = Drbg.zero) ∧ t.pending = s.pending

/-- The streams of the job engine belong to different requesters. -/
def streamsUnique (s : State) : Bool := decide ((s.job.streams.map (·.req)).Nodup)

/-- The parser comes to the instruction that stands at the front of the stream x of the requester r: its first word is h and the others
that it takes are t (R157, R158, R198). -/
def parserAt (s : State) (r : ReqId) (x : Stream) (h : SWord) (t : List SWord) : Prop :=
  upAnd s = true ∧ halted s = false ∧ s.job.stopped = false ∧ streamsUnique s = true ∧ rrHead (syncParser s).job.rr = some r ∧
    streamOf s r = some x ∧ nextWords x = h :: t

end Sys2Proof.Machine
end

