-- ==== Sys2Proof/Certificates/Slice0/Obligations.lean ====
section
/-! DEFINITION. The statements for the provers, one definition each; OBLIGATIONS.json says of each where it comes from. `Answers c s P` says
that the command c answers a next state with P, and `Effects c s P` that its own effect leaves a state with P, before what follows in its
step; both are conclusions, so every premise is about the state and the operands alone. -/

open Sys2Proof Sys2Proof.Machine

/-! ### The block as a whole -/

/-- A step takes the command at the front of the queue and is exec of it on the state with the queue's rest. -/
def Obligations.StepRunsFrontCommand : Prop :=
  ∀ (c : Instr) (s : State), step { s with pending := c :: s.pending } = exec c s

/-- On an empty queue one CK_TIME period passes: the count of periods rises by one, that of CK_SLOW edges by one when an edge falls in the
period; a node held in internal reset stays as it is. The fabric-time counter adds its increment, which differs from nominal by the
frequency term and the phase correction and by no more than MAX_PPM; it holds while CK_TIME is lost and through a change of CLK_SEL (R273
to R275, R279). The model's own choices in it: notes/assumptions 2, 3, 8, 92. -/
def Obligations.StepIdleIsOneTick : Prop :=
  ∀ s : State, s.pending = [] →
    (running s = false → step s = .next s) ∧
    (upAnd s = true → ∃ t, step s = .next t ∧ t.pending = [] ∧ t.clk.ticks = s.clk.ticks + 1 ∧
      t.clk.slow = s.clk.slow + (if Config.slowEdge s.clk.ticks then 1 else 0) ∧
      t.sys = s.sys ∧ t.sil = s.sil ∧ t.cal = s.cal ∧ t.grn = s.grn ∧ t.hlt = s.hlt ∧ t.pln = s.pln ∧
      (s.clk.ckTime = false → t.tim.cnt = s.tim.cnt) ∧
      (s.clk.ckTime = true → s.tim.skipTicks ≠ 0 → t.tim.cnt = s.tim.cnt ∧ t.tim.skipTicks = s.tim.skipTicks - 1) ∧
      (s.clk.ckTime = true → s.tim.skipTicks = 0 → s.tim.held = none →
        let nominal : Int := s.tim.inc.toNat * 256
        let rate : Int := rateF s + phaseRate s
        t.tim.cnt = s.tim.cnt + BitVec.ofInt 80 (Int.fdiv (nominal * (2 ^ 32 + rate)) (2 ^ 32)) ∧
        rate.natAbs ≤ s.tim.maxPpm.toNat * 2 ^ 32 / 1000000))

/-- No command changes which commands wait. -/
def Obligations.ExecKeepsQueue : Prop :=
  ∀ (c : Instr) (s t : State), exec c s = .next t → t.pending = s.pending

/-- Reset values that the field tables state, one for each group of registers, and an empty queue of commands; and the state after reset
meets every invariant that the steps keep. The model's own choices in it: notes/assumptions 6, 9. -/
def Obligations.ResetValues : Prop :=
  let s := State.reset
  s.pending = [] ∧ running s = true ∧ s.sys.bootDone = false ∧ s.sys.tamper = false ∧ s.sys.compatEn = false ∧ s.sys.paceMin = 0xFFFF ∧
    s.sil.stage = 0 ∧ s.sil.floor = 3 ∧ s.sil.reseedCap = 0x40 ∧ s.sil.lspId = 0xFFE ∧
    s.cal.lock = false ∧ s.cal.cutCell = 0x03A00079 ∧ s.cal.cutWit = 0x032B003D ∧ s.mbx.holder = none ∧
    s.grn.cells.length = 64 ∧ (∀ x ∈ allSources s.grn, x.st = .seasoning) ∧ s.hlt.fatal = false ∧ s.hlt.retryMs = 1000 ∧
    (∀ p ∈ s.pln.planes, p.st = .kat) ∧ s.pln.holdMax = 100 ∧ s.tal.books = Books.zero ∧ s.tal.epoch = 0 ∧
    s.lan.lanes.length = 16 ∧ (∀ l ∈ s.lan.lanes, l.st = .kat) ∧ s.lan.en = 0xFFFF ∧
    (∀ d ∈ s.stk.queues, d.st = .on ∧ d.ents = []) ∧ s.stk.maxAge = 10000 ∧ s.stk.stallUs = 1000 ∧ s.job.jobs = [] ∧ s.evt.queue = [] ∧
    (∀ b ∈ s.bne.benches, b.st = .load) ∧ s.ring.pa.st = .down ∧ s.ring.pb.st = .down ∧ s.ring.nodeId = 0xFFF ∧
    s.tim.inc = 0x08000000 ∧ s.tim.src = 1 ∧ s.lsp.role = false ∧ s.lsp.engine = true ∧ s.lsp.len = 32 ∧
    Limits s ∧ Balanced s ∧ memsOk s = true ∧ settled s = true ∧ streamsUnique s = true

/-- Every step keeps every clamped setting within the limits of its field table, apart from the watermarks DQ_WM_n of the queues: no
command and no tick stores a value outside them (R314). The settings are those of the sill (R338: SIL_FLOOR, SIL_RESEED_CAP,
SIL_REQ_LIMIT, SIL_LSP_ID, SIL_CLASS_WEIGHT), HLT_RETRY, PLN_HOLD_MAX, the LAN reseed limits, the STK age, stall and patrol settings,
BNE_CFG, EVT_CTRL and EVT_MASK, the RING and TIM settings, LSP_FMT and the bus settings of both flash windows. -/
def Obligations.StepKeepsLimits : Prop :=
  ∀ s t : State, Limits s → step s = .next t → Limits t

/-- Every step keeps the identities of the tally: credit taken in is seeded, in kerf or pending, words generated are delivered, in kerf,
resident or in flight, and the cause counters sum to their totals (R89, R93). -/
def Obligations.StepKeepsTallyBalanced : Prop :=
  ∀ s t : State, Balanced s → step s = .next t → Balanced t

/-- Every step keeps the canonical form of every memory: the stack array, the capture buffer, the control core's memory and the operand
memories of the benches. The model's own choices in it: notes/assumptions 9. -/
def Obligations.StepKeepsMemoriesCanonical : Prop :=
  ∀ s t : State, memsOk s = true → step s = .next t → memsOk t = true

/-- In the step that raises the fatal alarm its effects are complete: no stream is left and every job in flight whose record is not on its
way yet ends with FATAL (R157, R211), every lane is in HALT or FAULT with its state zero and no segment (R122), every plane is in HALT and
holds no block and no seed (Table 4-3), every bench is in HALT with its operand memory clear (R235), no word stands in a queue and nothing
waits on one, and the overwrite of the array has begun (R152, R350). No alarm is left unsettled between two steps, and no requester has two
streams (R158). The model's own choices in it: notes/assumptions 27. -/
def Obligations.StepSettlesAlarm : Prop :=
  ∀ s t : State, step s = .next t →
    (settled s = true → settled t = true) ∧ (streamsUnique s = true → streamsUnique t = true) ∧
    (settled s = true → s.hlt.fatal = false → t.hlt.fatal = true →
      t.job.streams = [] ∧ (∀ j ∈ t.job.jobs, j.accepted = true → j.stop ≠ none) ∧
      (∀ id j, jobOf s id = some j → j.accepted = true → (j.stop = none ∨ j.phase ≠ .recordSent) →
        ∀ k, jobOf t id = some k → k.stop = some stFatal) ∧
      (∀ l ∈ t.lan.lanes, (l.st = .halt ∨ l.st = .fault) ∧ l.drbg = Drbg.zero ∧ l.seg = none) ∧
      (∀ b p, b < nBoards t → planeOf t b = some p → p.st = .halt ∧
        ((planeOf s b).map (·.st) ≠ some .halt → p.blk = none ∧ p.seed = none)) ∧
      (∀ b ∈ t.bne.benches, b.st = .halt ∧ b.mem = [] ∧ b.job = none) ∧
      (∀ q d, q < 16 → queueOf t q = some d → d.waits = [] ∧ ∀ e ∈ d.ents, e.st.here = false) ∧
      t.stk.clearing = true)

/-- The settings of every block, the sill registers, the mailbox, the control core's memory and power change only by accesses, by the
commands of power, boot, tamper, pace and clocks, by the time limits of guarded pairs and of the mailbox, by transfers of the slave port,
the access engine and its switch, and by polls of a flash; the sources, the boards and the calibration change only by those, by samples
and snapshots, and by what the parser, a launch or a fence starts. -/
def Obligations.UnitsKeepSettings : Prop :=
  ∀ (c : Instr) (s t : State), exec c s = .next t →
    (keepsSettings c = true → settings t = settings s) ∧ (keepsFront c = true → front t = front s)

/-- Once SYS_BOOT_DONE is set, no command but a reset changes any sill register, the access class table or the boot status. -/
def Obligations.SillFixedAfterBoot : Prop :=
  ∀ (c : Instr) (s t : State), s.sys.bootDone = true → isPowerRow c = false → exec c s = .next t → silSettings t.sil = silSettings s.sil

/-- The memories: the bytes written read back in their order, and every byte outside them reads as before. -/
def Obligations.MemoryReadAfterWrite : Prop :=
  (∀ (m : Mem) (a : Nat) (l : List Byte), memWf m = true → memRead (memWrite m a l) a l.length = l) ∧
  (∀ (m : Mem) (a k : Nat) (l : List Byte), (k < a ∨ a + l.length ≤ k) → memGet (memWrite m a l) k = memGet m k)

/-! ### Power, boot, tamper and calibration (chapters 1, 2, 14, 15) -/

/-- Power and reset: VIN_RISE latches the bank straps, RESET_ASSERT and BROWN_OUT lose all volatile state, and EXTEST, CLAMP and HIGHZ
hold the node in internal reset; the instruction given last is the current one; a node held there, or without power, ignores every other
command (R331, R356, R357, R359 to R361). The model's own choices in it: notes/assumptions 24. -/
def Obligations.PowerAndReset : Prop :=
  ∀ s : State,
    (∀ l c, s.pwr.phase = .off →
      exec (.vinRise l c) s = .next { s with pwr := { s.pwr with phase := .inReset, bankL := l, bankC := c } }) ∧
    (∀ l c, s.pwr.phase ≠ .off → exec (.vinRise l c) s = .next s) ∧
    (running s = true → Answers .resetAssert s (fun t => t.pwr.phase = .inReset ∧ t.pwr.resetLow = true ∧ volatileLost s t)) ∧
    (running s = false → exec .resetAssert s = .next { s with pwr := { s.pwr with resetLow := true } }) ∧
    (s.pwr.phase ≠ .off → Answers .brownOut s (fun t => t.pwr.phase = .off ∧ volatileLost s t)) ∧
    (s.pwr.phase = .off → exec .brownOut s = .next s) ∧
    (∀ i, running s = true → (i = .extest ∨ i = .clamp ∨ i = .highz) →
      Answers (.jtagResetHold i) s (fun t =>
        t.pwr.phase = .inReset ∧ t.pwr.jtagHold = true ∧ t.pwr.jtag = i ∧ volatileLost s t)) ∧
    (∀ i, ¬ (i = .extest ∨ i = .clamp ∨ i = .highz) →
      exec (.jtagResetHold i) s = .next { s with pwr := { s.pwr with jtagHold := false, jtag := i } }) ∧
    (∀ i, running s = false → (i = .extest ∨ i = .clamp ∨ i = .highz) →
      exec (.jtagResetHold i) s = .next { s with pwr := { s.pwr with jtagHold := true, jtag := i } }) ∧
    (∀ c, running s = false → isPowerRow c = false → exec c s = .next s)

/-- Internal reset release: the straps are sampled and the boot phase begins; with TAMPER_N low the node enters tamper hold at once (R331,
R349, R358); the test port's hold and TEST_EN keep the node in internal reset (R359, R362). The model's own choices in it:
notes/assumptions 6, 26. -/
def Obligations.InternalResetRelease : Prop :=
  ∀ (s : State) (x : ResetPins),
    (s.pwr.phase = .inReset → s.pwr.jtagHold = false → x.testEn = false →
      Answers (.internalResetRelease x) s (fun t =>
        running t = true ∧ t.pwr.role = (x.role && !s.pwr.is832) ∧
        t.pwr.bootSel = BitVec.ofNat 2 (2 * b2n x.bootSel1 + b2n x.bootSel0) ∧ t.sys.bootDone = false ∧
        t.sys.tamper = !x.tamperN ∧ t.hlt.fatal = !x.tamperN ∧ t.sil.stage = (if x.tamperN then 0 else 8) ∧
        (x.tamperN = false → t.hlt.fatalCause = 7 ∧ ∀ y ∈ allSources t.grn, y.st = .stopped))) ∧
    (s.pwr.phase ≠ .inReset ∨ s.pwr.jtagHold = true ∨ x.testEn = true → exec (.internalResetRelease x) s = .next s)

/-- The mask ROM: the boot source is chosen by BOOT_SEL, an image that passes every check is loaded and entered (STAGE 4), and a boot that
fails stops in STAGE 7 with the cause of the check; an uncorrectable OTP error stops it with cause 5, and a host boot in STAGE 6 (R332 to
R336). A completed SYS_BOOT_DONE pair of the control core closes the boot phase: DONE, READY, STAGE 5, and the register is pinned (R322,
R328, R341). The model's own choices in it: notes/assumptions 12, 23. -/
def Obligations.BootPhase : Prop :=
  (∀ (s : State) (x : BootFlash), upAnd s = true → s.sys.tamper = false → s.sil.stage = 0 → s.core.entry = none → s.sys.bootDone = false →
      Answers (.romBoot x) s (fun t =>
        let c1 := imageCause 0 x.primary x.agreeBoot
        let c2 := imageCause 0x800000 x.secondary x.agreeBoot
        let enters (l : List Byte) : Prop := t.sil.stage = 4 ∧ t.core.entry = some (BitVec.ofNat 32 (imgLe l 0x18 4)) ∧
          t.core.ram = memWrite [] 0 (imgBytes l (imgLe l 0x10 4) (imgLe l 0x14 4))
        let stops (stage cause : Nat) : Prop :=
          t.sil.stage = BitVec.ofNat 4 stage ∧ t.sil.fail = BitVec.ofNat 4 cause ∧ t.core = s.core
        if s.pwr.otpUe then stops 7 5
        else if 2 ≤ s.pwr.bootSel.toNat then stops 6 0
        else if c1 = 0 then enters x.primary
        else if s.pwr.bootSel = 0 then stops 7 c1
        else t.sil.secondary = true ∧ (if c2 = 0 then enters x.secondary else stops 7 c2))) ∧
  (∀ (s : State) (a : Acc), completes a 0x0008 1 s = true → who a s = coreId →
    Answers (.bootDone a) s (fun t =>
      t.sys.bootDone = true ∧ t.pwr.ready = true ∧ t.sil.stage = 5 ∧ isPinned t 0x0008 = true ∧
      t.sil.perms = s.sil.perms ∧ t.cal = s.cal ∧ t.grn = s.grn))

/-- TAMPER_N low for 200 ns or more stops every source, raises the fatal alarm with cause 0x07 and zeroizes the control core's memory, the
mailbox, the capture buffer, the mask key of the stack, every lane's Key and V and every bench's operand memory; a pulse shorter than 50 ns
does nothing; between the two it may or may not count (R348, R349). The model's own choices in it: notes/assumptions 25, 26. -/
def Obligations.TamperHold : Prop :=
  ∀ (s : State) (ns : Nat), upAnd s = true →
    (200 ≤ ns → s.sys.tamper = false → s.hlt.fatal = false →
      Answers (.tamper ns) s (fun t =>
        t.sys.tamper = true ∧ t.hlt.fatal = true ∧ t.hlt.fatalCause = 7 ∧ t.core.ram = [] ∧ t.sys.armed = [] ∧
        t.mbx.data = List.replicate 8 0 ∧ t.grn.cap.buf = [] ∧ t.stk.maskKey = 0 ∧ (∀ l ∈ t.lan.lanes, l.drbg = Drbg.zero) ∧
        (∀ b ∈ t.bne.benches, b.mem = []) ∧ t.sil.stage = (if s.sys.bootDone then s.sil.stage else 8) ∧
        ∀ y ∈ allSources t.grn, y.st = .stopped)) ∧
    (50 ≤ ns → ns < 200 → s.sys.tamper = false →
      Answers (.tamper ns) s (fun t => t.sys.tamper = Config.tamperCounts s.clk.free)) ∧
    (ns < 50 → exec (.tamper ns) s = .next (finishUp s))

/-- A completed CAL_RESTORE pair writes the factory values into the user fields of the groups it names, with their enables clear, counts
the restore, and sets LOCK and PIN as its value says (R322, R347). The model's own choices in it: notes/assumptions 12. -/
def Obligations.CalRestorePair : Prop :=
  ∀ (s : State) (a : Acc) (g : BitVec 4) (lock pin : Bool), completes a 0x2000 (calWord g lock pin) s = true →
    let restored (t : State) (lock pin : Bool) : Prop :=
      t.cal.lock = lock ∧ t.cal.pin = pin ∧
      t.cal.cells = (if g.getLsbD 0 then (List.range (nCells s)).map calCellReset else s.cal.cells) ∧
      t.cal.wits = (if g.getLsbD 1 then (List.range (nBoards s)).map (fun b => (Config.witOffset b).zeroExtend 32) else s.cal.wits) ∧
      t.cal.cutCell = (if g.getLsbD 2 then 0x03A00079 else s.cal.cutCell) ∧
      t.cal.cutWit = (if g.getLsbD 2 then 0x032B003D else s.cal.cutWit) ∧
      t.cal.timeTrim = (if g.getLsbD 3 then 0 else s.cal.timeTrim) ∧
      t.cal.restores = s.cal.restores + (if g = 0 then 0 else 1)
    Answers (.calRestore a g lock pin) s (fun t => restored t lock pin) ∧
    (lock = true → Answers (.calLock a g pin) s (fun t => restored t true pin)) ∧
    (pin = true → Answers (.calRestorePin a g lock) s (fun t => restored t lock true))

/-- A write of a CAL override stores the user value as written; while LOCK is 1 it is ignored and sets SYS_LOCK_VIOL (R345 to R347). A
write of SIL_HLT_RESP takes effect in the boot phase, and is ignored after it (R323, R338). -/
def Obligations.OverrideAndResponseWrites : Prop :=
  ∀ (s : State) (a : Acc) (v : W32),
    (mayWrite a 0x2010 s = true →
      Answers (.calOverrideWrite a .cutCell v) s (fun t =>
        if s.cal.lock then t.cal = s.cal ∧ t.sys.viol = true ∧ t.sys.violOff = 0x2010
        else t.cal = { s.cal with cutCell := v &&& 0x87FF00FF }) ∧
      Answers (.calOverrideWrite a .cutWit v) s (fun t =>
        if s.cal.lock then t.cal = s.cal ∧ t.sys.viol = true else t.cal = { s.cal with cutWit := v &&& 0x87FF00FF }) ∧
      Answers (.calOverrideWrite a .timeTrim v) s (fun t =>
        if s.cal.lock then t.cal = s.cal ∧ t.sys.viol = true else t.cal = { s.cal with timeTrim := v &&& 0x8000FFFF }) ∧
      (∀ n, n < nCells s →
        Answers (.calOverrideWrite a (.cell n) v) s (fun t =>
          if s.cal.lock then t.cal = s.cal ∧ t.sys.viol = true
          else t.cal = { s.cal with cells := upd s.cal.cells n (fun _ => v &&& 0xCFFFC000) })) ∧
      ∀ b, b < nBoards s →
        Answers (.calOverrideWrite a (.wit b) v) s (fun t =>
          if s.cal.lock then t.cal = s.cal ∧ t.sys.viol = true
          else t.cal = { s.cal with wits := upd s.cal.wits b (fun _ => v &&& 0x800000FF) })) ∧
    (mayWrite a 0x1004 s = true →
      Answers (.silHltRespWrite a v) s (fun t =>
        if s.sys.bootDone then silSettings t.sil = silSettings s.sil ∧ t.sys.viol = true ∧ t.sys.violOff = 0x1004
        else t.sil.compatOk = bitAt v 8 ∧ t.sil.contCount = bitAt v 1 ∧ t.sil.seasCount = bitAt v 0))

/-! ### Sources, health, planes and the tally (chapters 2 to 4) -/

/-- A completed SYS_COMPAT pair with EN = 1 is refused unless the sill registers permit compatibility mode; any other enters or leaves the
mode at once, and PIN pins the register (R322, R329). SYS_SLOW selects CK_SLOW unless it has fallen back; when SLOWCLK is lost CK_SLOW
falls back until reset; a pace window's figures are kept, with the lowest RATIO seen (R17 to R20, R330). The model's own choices in it:
notes/assumptions 12. -/
def Obligations.CompatibilityAndClocks : Prop :=
  (∀ (s : State) (a : Acc) (en pin : Bool), completes a 0x0018 (compatWord en pin) s = true →
    let done (t : State) (en pin : Bool) : Prop :=
      if en && !s.sil.compatOk then t.sys.compatEn = s.sys.compatEn ∧ t.sys.compatPin = s.sys.compatPin ∧ t.sys.gRefused = true
      else t.sys.compatEn = en ∧ t.sys.compatPin = pin
    (en = true → Answers (.compatEnter a pin) s (fun t => done t true pin)) ∧
    (en = false → Answers (.compatLeave a pin) s (fun t => done t false pin)) ∧
    (pin = true → Answers (.compatPin a en) s (fun t => done t en true))) ∧
  (∀ (s : State) (a : Acc) (v : W32) (x : PaceMeasure),
    (mayWrite a 0x0020 s = true →
      Answers (.slowClockSelect a v) s (fun t =>
        t.sys.slowSel = bitAt v 0 ∧ t.sys.slowExt = (bitAt v 0 && !s.sys.fellBack) ∧ t.sys.fellBack = s.sys.fellBack)) ∧
    (upAnd s = true →
      Answers .slowclkLost s (fun t => t.sys.slowExt = false ∧ t.sys.fellBack = (s.sys.fellBack || s.sys.slowExt)) ∧
      Answers (.paceWindowEnd x) s (fun t =>
        t.sys.paceValid = true ∧ t.sys.paceSeq = s.sys.paceSeq + 1 ∧ t.sys.paceRatio = x.ratio ∧ t.sys.paceTj = x.tj ∧
        t.sys.paceMin.toNat = min s.sys.paceMin.toNat x.ratio.toNat ∧ t.pln = s.pln)))

/-- Every sample of a source in SEASONING, LIVE, CAPTURE or RETIRED passes through the estimator and becomes its latest sample, in every
mode; no other source's samples or estimates change (R27, R35, R52, R69). A cell in OFF and a stopped source take none. The model's own
choices in it: notes/assumptions 30. -/
def Obligations.SampleTaken : Prop :=
  ∀ (s : State) (code : Nat) (bit : Bool) (x : Source), upAnd s = true → srcOf s.grn code = some x →
    let paired : Bool := match (neighbourOf s.grn code).bind (·.last) with
      | some v => v
      | none => if 0x40 ≤ code then false else Config.firstNeighbour s.clk.free
    let taken (t : State) : Prop :=
      (x.st.races = true → (srcOf t.grn code).map (fun y => (y.last, y.est)) = some (some bit, estStep x.last bit paired x.est)) ∧
      (x.st.races = false → t.grn = s.grn) ∧
      ∀ k, k ≠ code → (srcOf t.grn k).map (fun y => (y.last, y.est)) = (srcOf s.grn k).map (fun y => (y.last, y.est))
    (code < 0x40 → Answers (.race code bit) s taken) ∧
    (0x40 ≤ code → Answers (.witnessSample (code - 0x40) bit) s taken)

/-- A write of GRN_EN_b that would leave the board fewer than four counting cells is refused; any other takes effect: a cell in SEASONING,
LIVE or RETIRED whose bit is cleared turns OFF, a cell in OFF whose bit is set seasons, or is RETIRED again if it was retired, and any
other keeps its state (R41, Table 2-3). The model's own choices in it: notes/assumptions 32. -/
def Obligations.EnableWrite : Prop :=
  ∀ (s : State) (a : Acc) (b : Nat) (v : W32), b < nBoards s → mayWrite a (0x4010 + 4 * b) s = true →
    Answers (.grnEnWrite a b v) s (fun t =>
      if boardSt s.grn b ≠ .retired ∧
          countP id (List.zipWith (fun p x => countsAfter (bitAt v p) x) (List.range 8) (boardCells s.grn b)) < 4 then
        t.grn = { s.grn with err := s.grn.err ||| 1 }
      else
        t.grn.en = upd s.grn.en b (fun _ => v.setWidth 8) ∧ t.grn.err = s.grn.err ∧
        (∀ p x, p < 8 → srcOf s.grn (8 * b + p) = some x →
          srcSt t (8 * b + p) = some (
            if bitAt v p then (if x.st = .off then (if x.retired then .retired else .seasoning) else x.st)
            else if x.st = .seasoning ∨ x.st = .live ∨ x.st = .retired then .off else x.st)) ∧
        (∀ k, k < 0x40 → k / 8 ≠ b → srcOf t.grn k = srcOf s.grn k) ∧ t.grn.wits = s.grn.wits)

/-- RESTART of a source in SEASONING or LIVE seasons it from the beginning, its tests and sums afresh and its delay line empty, and counts
no failure; of any other it is ignored, sets CMD_REFUSED and
writes a GRN_REFUSED record (R42). -/
def Obligations.RestartSource : Prop :=
  ∀ (s : State) (a : Acc) (src : BitVec 7), mayWrite a 0x4030 s = true →
    Effects (.grnRestart a src) s (fun u =>
      match srcOf s.grn src.toNat with
      | some x =>
        if x.st = .seasoning ∨ x.st = .live then
          (srcOf u.grn src.toNat).map (fun y => (y.st, y.cntSeas, y.cntApt, y.cntRct, y.fails)) =
            some (.seasoning, x.cntSeas, x.cntApt, x.cntRct, x.fails) ∧
          (srcOf u.grn src.toNat).map (fun y => (y.seas, y.rctRun, y.aptPos, y.aptCnt, y.line)) = some (Seas.zero, 0, 0, 0, []) ∧
          u.grn.err = s.grn.err ∧ u.hlt = s.hlt
        else
          u.grn = { s.grn with err := s.grn.err ||| 2 } ∧
          u.evt = (if eventEnabled s.evt 0x04 then evtStore s.evt 0x04 (mkEntry s 2 0x04 0 1 0 0) else s.evt)
      | none =>
        u.grn = { s.grn with err := s.grn.err ||| 2 } ∧
        u.evt = (if eventEnabled s.evt 0x04 then evtStore s.evt 0x04 (mkEntry s 2 0x04 0 1 0 0) else s.evt))

/-- A guarded retirement retires the named source or board, or is refused with RETIRE_REFUSED and GUARD.REFUSED (R43, R321). HLT_CMD.SNAP
asks for an estimator snapshot; when it completes, SEQ increments and every source's values are copied as one set (R70). A guarded
HLT_RETRY pair with PIN sets the retry window within its limits and pins it (R61, R322). The model's own choices in it: notes/assumptions
12, 46. -/
def Obligations.RetirementAndHealthCommands : Prop :=
  (∀ (s : State) (a : Acc) (board : Bool) (idx : BitVec 7),
    completes a 0x4034 (packR [(8, b2n board), (0, idx.toNat)]) s = true →
    Answers (.grnRetire a board idx) s (fun t =>
      if retireOk board idx.toNat s then
        (board = true → t.grn.boards[idx.toNat % 8]? = some ⟨.retired, 3⟩) ∧
        (board = false → (srcOf t.grn idx.toNat).map (fun y => (y.st, y.retired, y.byHealth)) = some (.retired, true, false))
      else t.grn = { s.grn with err := s.grn.err ||| 8 } ∧ t.sys.gRefused = true)) ∧
  (∀ (s : State) (a : Acc) (ms : BitVec 16),
    (mayWrite a 0x5004 s = true →
      Answers (.hltSnap a) s (fun t => t.hlt = { s.hlt with snapPend := s.hlt.snapPend + 1 } ∧ t.grn = s.grn)) ∧
    (upAnd s = true → s.hlt.snapPend ≠ 0 →
      Answers .hltSnapDone s (fun t =>
        t.hlt.seq = s.hlt.seq + 1 ∧ t.hlt.snapPend = s.hlt.snapPend - 1 ∧
        t.grn.cells = s.grn.cells.map (fun x => { x with snap := ⟨x.est.valid, x.est.ones, x.est.lag1, x.est.xc⟩ }) ∧
        t.grn.wits = s.grn.wits.map (fun x => { x with snap := ⟨x.est.valid, x.est.ones, x.est.lag1, x.est.xc⟩ }))) ∧
    (completes a 0x5008 (ms.setWidth 32 ||| 0x80000000) s = true →
      Answers (.hltRetryPin a ms) s (fun t =>
        t.hlt.retryMs.toNat = max 100 (min 60000 ms.toNat) ∧ t.hlt.retryPin = true ∧ isPinned t 0x5008 = true ∧ t.grn = s.grn)))

/-- A guarded capture start withdraws the source and clears the buffer, or is refused; PIN pins capture off (R46 to R48). A read of
GRN_RAW_DATA returns the word at the pointer, or zero where it is not filled yet, and advances the pointer (R47). The model's own choices
in it: notes/assumptions 12, 32. -/
def Obligations.RawCapture : Prop :=
  ∀ (s : State) (a : Acc) (src : BitVec 7),
    let started (t : State) (pin : Bool) : Prop :=
      if captureOk src.toNat s then
        t.grn.cap.busy = true ∧ t.grn.cap.done = false ∧ t.grn.cap.hltFail = false ∧ t.grn.cap.source = src ∧ t.grn.cap.bits = 0 ∧
        t.grn.cap.ptr = 0 ∧ t.grn.cap.buf = [] ∧ t.grn.cap.pinned = pin ∧ t.grn.cap.ctrlSrc = src ∧ srcSt t src.toNat = some .capture
      else t.grn = { s.grn with err := s.grn.err ||| 4 } ∧ t.sys.gRefused = true
    (∀ pin, completes a 0x4040 (packR [(9, b2n pin), (8, 1), (0, src.toNat)]) s = true →
      Answers (.captureStart a src pin) s (fun t => started t pin)) ∧
    (∀ start, completes a 0x4040 (packR [(9, 1), (8, b2n start), (0, src.toNat)]) s = true →
      Answers (.capturePin a src start) s (fun t =>
        if start then started t true
        else t.grn = { s.grn with cap := { s.grn.cap with ctrlSrc := src, pinned := true } })) ∧
    (mayFetch a s = true → Answers (.grnRawDataRead a) s (fun t =>
      t.grn = { s.grn with cap := { s.grn.cap with ptr := s.grn.cap.ptr + 1 } } ∧
      (a.path = .core → t.core.data = w32ToBytes
        [if (s.grn.cap.ptr.toNat + 1) * 32 ≤ s.grn.cap.bits then memW32 s.grn.cap.buf (4 * s.grn.cap.ptr.toNat) else 0])))

/-- Conditioning ends: a doomed block goes to kerf with its credit; any other becomes the plane's held seed, the leftmost 384 bits of the
digest of its message, with the whole credit of its block (R66, R77, R79). The model's own choices in it: notes/assumptions 35. -/
def Obligations.SeedReady : Prop :=
  ∀ (s : State) (b : Nat) (p : Plane) (k : Block), upAnd s = true → planeOf s b = some p → p.st = .cond → p.blk = some k →
    (k.doomed = true →
      Effects (.seedReady b) s (fun u =>
        u.tal.books.creditKerf = s.tal.books.creditKerf + BitVec.ofNat 64 k.credit ∧
        u.tal.books.ckMode = s.tal.books.ckMode + BitVec.ofNat 64 k.credit ∧
        u.tal.books.creditSeeded = s.tal.books.creditSeeded ∧ (planeOf u b).map (·.kerf) = some (p.kerf + 1))) ∧
    (k.doomed = false → (∀ l ∈ s.lan.lanes, l.asked = none) →
      Effects (.seedReady b) s (fun u =>
        u.tal = s.tal ∧
        planeOf u b = some { p with
          st := if p.kats = [] then .hold else .kat
          blk := none, store := []
          seed := some ⟨BitVec.ofNat 384 (beNat ((sha512 (condMessage b k (k.marked || countOnly s))).take 48)), k.credit,
            k.marked || countOnly s, p.closedAt, s.clk.ord, s.clk.slow⟩ }))

/-- When a lane takes a seed the tally books the whole credit of its block as seeded and none of it as kerf; the plane holds it no longer,
and the lane leaves its request with the seed's mark and a new generation number (R80, R82, R103, R104). -/
def Obligations.SeedHandover : Prop :=
  ∀ (s : State) (n b : Nat) (l : Lane) (k : Seed), upAnd s = true → nextServed s = some n → laneOf s n = some l → seedFor s l = some b →
    (planeOf s b).bind (·.seed) = some k →
    Effects .seedHandover s (fun u =>
      u.tal.books.creditSeeded = s.tal.books.creditSeeded + BitVec.ofNat 64 k.credit ∧
      u.tal.books.creditKerf = s.tal.books.creditKerf ∧ u.tal.books.seeds = s.tal.books.seeds + 1 ∧
      u.tal.books.seedsMarked = s.tal.books.seedsMarked + BitVec.ofNat 64 (b2n k.marked) ∧
      (planeOf u b).map (·.seed) = some none ∧
      (laneOf u n).map (fun x => (x.gen, x.marked, x.unmarkedOnly)) = some (if l.gen = 0xFFFFFFFF then 1 else l.gen + 1, k.marked, false) ∧
      (l.st = .start → (laneOf u n).map (·.drbg) = some (Drbg.instantiate k.v (personalization n))))

/-- A seed held for PLN_HOLD_MAX goes to kerf under its cause, and is not seeded (R83). A plane's known-answer tests that fail raise the
fatal alarm with cause 0x02 or 0x03 and halt the plane; passed ones leave the rest of its runs (R85). PLN_CMD.KAT starts runs of the named
boards, or is refused with an error bit (R96). The model's own choices in it: notes/assumptions 38. -/
def Obligations.HeldSeedsAndPlaneTests : Prop :=
  ∀ (s : State) (a : Acc) (b : Nat) (p : Plane),
    (upAnd s = true → planeOf s b = some p →
      (∀ k, p.seed = some k → msToSlow s.pln.holdMax.toNat ≤ s.clk.slow - k.heldSlow →
        Effects (.heldSeedAged b) s (fun u =>
          u.tal.books.ckAged = s.tal.books.ckAged + BitVec.ofNat 64 k.credit ∧
          u.tal.books.creditKerf = s.tal.books.creditKerf + BitVec.ofNat 64 k.credit ∧
          u.tal.books.creditSeeded = s.tal.books.creditSeeded ∧ (planeOf u b).map (·.seed) = some none)) ∧
      (∀ w rest compOk hashOk, p.kats = w :: rest → (p.st = .kat ∨ p.st = .halt) →
        Effects (.planeKatDone b compOk hashOk) s (fun u =>
          if compOk && hashOk then
            u.hlt = s.hlt ∧ (s.pln.runq = [] → (planeOf u b).map (·.kats) = some rest ∧
              u.pln.katPass = (if w.commanded then s.pln.katPass ||| BitVec.ofNat 8 (2 ^ b) else s.pln.katPass))
          else u.pln.katFail = (if w.commanded then s.pln.katFail ||| BitVec.ofNat 8 (2 ^ b) else s.pln.katFail) ∧
            (planeOf u b).map (·.st) = some .halt ∧ u.hlt.fatal = true ∧
            (s.hlt.fatal = false → u.hlt.fatalCause = (if compOk then 3 else 2) ∧ u.hlt.fatalIdx = BitVec.ofNat 8 b)))) ∧
    (∀ mask : BitVec 8, mayWrite a 0x6080 s = true →
      Answers (.plnKatCmd a mask) s (fun t =>
        if s.pln.katBusy = true ∨ mask = 0 ∨ 2 ^ nBoards s ≤ mask.toNat then t.pln = { s.pln with err := true }
        else t.pln.katBusy = true ∧ t.pln.katDone = false ∧ t.pln.katPass = 0 ∧ t.pln.katFail = 0 ∧ t.pln.katRan = mask ∧
          ∀ i, i < nBoards s → mask.getLsbD i = true → (planeOf t i).map (·.kats) = (planeOf s i).map (fun q => q.kats ++ [.cmd])))

/-- A tally snapshot checks both identities, both bounds and both sums of causes, and raises the fatal alarm with cause 0x08 and INDEX 2
if any fails (R93); TAL_CMD.SNAP asks for one, and it places its record, with the next epoch, in the snapshot buffer (R91, R94). -/
def Obligations.TallySnapshot : Prop :=
  ∀ (s : State) (a : Acc),
    let b := s.tal.books
    let whole : Prop :=
      b.creditIn = b.creditSeeded + b.creditKerf + b.creditPending ∧ b.gen = b.delivered + b.kerf + b.resident + b.inflight ∧
      b.creditPending.toNat ≤ boardsNotRetired s.grn * 262144 ∧ b.inflight.toNat ≤ (if s.pwr.is832 then 16660 else 16724) ∧
      b.resident.toNat ≤ nStackWords s ∧ b.creditKerf = b.ckHealth + b.ckMode + b.ckRetire + b.ckAged + b.ckHalt ∧
      b.kerf = b.wkAge + b.wkFlush + b.wkFault + b.wkFailover + b.wkReject + b.wkHalt
    ((whole → (takeSnapshot s).hlt = s.hlt) ∧
      (¬ whole → s.hlt.fatal = false → (takeSnapshot s).hlt.fatal = true ∧ (takeSnapshot s).hlt.fatalCause = 8 ∧
        (takeSnapshot s).hlt.fatalIdx = 2)) ∧
    (mayWrite a 0x6800 s = true → Effects (.talSnap a) s (fun u => u.tal = { s.tal with snapPend := s.tal.snapPend + 1 })) ∧
    (upAnd s = true → s.tal.snapPend ≠ 0 →
      Effects .talSnapDone s (fun u =>
        u.hlt = (takeSnapshot s).hlt ∧
        u.tal = { s.tal with
          epoch := s.tal.epoch + 1, snapPend := s.tal.snapPend - 1, bufValid := true
          buf := snapRecord s (s.tal.epoch + 1), snapEpoch := (s.tal.epoch + 1).setWidth 32 }))

/-! ### Expander lanes (chapter 5) -/

/-- A lane in RUN or STRETCH with room for a segment makes one: 64 words of one Generate call, tagged with lane, generation and mark, for
the first bound queue that takes it (R99, R104, R115). Where the self-check disagrees the lane zeroizes its state and enters FAULT with
cause 1 (R117, R118). Back-pressured, it makes none (R13). The model's own choices in it: notes/assumptions 40, 41. -/
def Obligations.LaneMakesSegment : Prop :=
  ∀ (s : State) (n : Nat) (l : Lane) (cut : Option Nat), upAnd s = true → laneOf s n = some l → (l.st = .run ∨ l.st = .stretch) →
    l.seg = none → l.pr = [] →
    (offerTo s n l.nextQ 64 = none → exec (.laneSegment n cut) s = .next (finishUp s)) ∧
    (∀ o, offerTo s n l.nextQ 64 = some o →
      Effects (.laneSegment n cut) s (fun u =>
        match cut with
        | none =>
          (laneOf u n).map (·.seg) = some (some ⟨(l.drbg.words 64 (l.pieces.head?.map (·.data))).1, ⟨n, l.gen, l.marked, s.clk.slow⟩, o.1⟩) ∧
          (laneOf u n).map (·.segs) = some (l.segs + 1) ∧ (laneOf u n).map (·.out) = some (l.out + 512) ∧
          u.tal.books.gen = s.tal.books.gen + 8
        | some _ =>
          (laneOf u n).map (fun x => (x.st, x.fault, x.drbg, x.seg)) = some (.fault, 1, Drbg.zero, none)))

/-- A lane's known-answer tests that fail raise the fatal alarm with cause 0x04 and halt the lane; passed ones lead to START with a seed
request, or to OFF if the lane was disabled (R119, R120). A lane whose seed is as old as LAN_RESEED_TIME stops and asks for a seed (R105,
R106), unless it is back-pressured and so keeps its state (R13); one that waits for a seed already has that reseed due too. A lane whose
handshake does not complete enters FAULT with cause 2, and one whose self-check disagrees in START, WAIT or KAT with cause 1 (R117, R118).
The model's own choices in it: notes/assumptions 38, 39, 40, 119. -/
def Obligations.LaneTestsAndTimeouts : Prop :=
  ∀ (s : State) (n : Nat) (l : Lane), upAnd s = true → laneOf s n = some l →
    (∀ w rest ok, l.st = .kat → l.kats = w :: rest →
      Effects (.laneKatDone n ok) s (fun u =>
        if ok then
          (rest ≠ [] → (laneOf u n).map (·.st) = some .kat) ∧
          (rest = [] → (laneOf u n).map (·.st) = some (if s.lan.en.getLsbD n then .start else .off)) ∧
          (rest = [] → s.lan.en.getLsbD n = true → (laneOf u n).map (·.asked.isSome) = some true) ∧ u.hlt = s.hlt
        else (laneOf u n).map (·.st) = some .halt ∧ u.hlt.fatal = true ∧
          (s.hlt.fatal = false → u.hlt.fatalCause = 4 ∧ u.hlt.fatalIdx = BitVec.ofNat 8 n))) ∧
    (∀ c, (l.st = .start ∨ l.st = .wait ∨ l.st = .kat) →
      Effects (.laneSegment n (some c)) s (fun u =>
        (laneOf u n).map (fun x => (x.st, x.fault, x.drbg, x.seg)) = some (.fault, 1, Drbg.zero, none))) ∧
    ((l.st = .run ∨ l.st = .stretch ∨ l.st = .wait) →
      (msToSlow s.lan.timeMs.toNat ≤ s.clk.slow - l.seedSlow →
        Effects (.laneTimeCap n) s (fun u =>
          (laneOf u n).map (·.due) = some true ∧ u.tal = s.tal ∧
          (l.st = .wait ∨ backPressured s n l = true → (laneOf u n).map (fun x => (x.st, x.asked)) = some (l.st, l.asked)) ∧
          (l.st ≠ .wait → backPressured s n l = false → (laneOf u n).map (fun x => (x.st, x.asked.isSome)) = some (.wait, true)))) ∧
      (s.clk.slow - l.seedSlow < msToSlow s.lan.timeMs.toNat → exec (.laneTimeCap n) s = .next (finishUp s))) ∧
    ((l.st.inService = true ∨ l.st = .kat) →
      Effects (.laneHandshakeTimeout n) s (fun u =>
        (laneOf u n).map (fun x => (x.st, x.fault, x.drbg, x.seg)) = some (.fault, 2, Drbg.zero, none))) ∧
    (l.st.inService = false → l.st ≠ .kat → exec (.laneHandshakeTimeout n) s = .next (finishUp s))

/-- A write of LAN_EN that would leave no lane in service is refused; any other is stored, an absent lane enters its tests and a lane in
service at a segment boundary turns OFF (R120). A write of LAN_QBIND_q that names no lane in service is refused; any other is stored
(R115, R116). LAN_CMD.RESEED makes a reseed due on every named lane, and a lane that produces words, and is not back-pressured, stops and
asks for its seed (R13, R106, R111); LAN_CMD.KAT sends every named lane at a segment boundary into its tests (R119); either is refused
when R121 says so. The model's own choices in it: notes/assumptions 38, 39, 119. -/
def Obligations.LaneControl : Prop :=
  (∀ (s : State) (a : Acc) (v : W32),
    (mayWrite a 0x7010 s = true →
      Effects (.lanEnWrite a v) s (fun u =>
        let new : BitVec 16 := BitVec.ofNat 16 (v.toNat % 2 ^ nLanes s)
        if (List.range (nLanes s)).any (fun n => inService s n && new.getLsbD n) then
          u.lan.en = new ∧ u.lan.err = s.lan.err ∧
          ∀ n l, n < nLanes s → laneOf s n = some l →
            (new.getLsbD n = true → l.st = .off → (laneOf u n).map (·.st) = some .kat) ∧
            (new.getLsbD n = false → l.st.inService = true → l.seg = none → l.kats = [] → (laneOf u n).map (·.st) = some .off) ∧
            (new.getLsbD n = false → l.st.inService = true → l.seg ≠ none → (laneOf u n).map (·.offPend) = some true)
        else u.lan = { s.lan with err := s.lan.err ||| 1 })) ∧
    (∀ q, q < 16 → mayWrite a (0x7040 + 4 * q) s = true →
      Effects (.lanQbindWrite a q v) s (fun u =>
        let new := v.toNat % 65536 % 2 ^ nLanes s
        if (maskList (nLanes s) new).any (inService s) then
          u.lan.bind = upd s.lan.bind q (fun _ => BitVec.ofNat 16 new) ∧ u.lan.err = s.lan.err
        else u.lan = { s.lan with err := s.lan.err ||| 8 }))) ∧
  (∀ (s : State) (a : Acc) (mask : BitVec 16), mayWrite a 0x7014 s = true →
    let bad : Bool := lanMaskBad s mask.toNat
    Effects (.lanReseedCmd a mask) s (fun u =>
      if bad then u.lan = { s.lan with err := s.lan.err ||| 2 }
      else ∀ n l, mask.getLsbD n = true → laneOf s n = some l →
        (laneOf u n).map (·.due) = some true ∧
        (l.st = .run ∨ l.st = .stretch → (laneOf u n).map (·.st) = some (if backPressured s n l then l.st else .wait))) ∧
    Effects (.lanKatCmd a mask) s (fun u =>
      if bad || noneLeft s mask.toNat then u.lan = { s.lan with err := s.lan.err ||| 4 }
      else u.lan.katBusy = true ∧ u.lan.katDone = false ∧ u.lan.katFailed = false ∧
        ∀ n l, mask.getLsbD n = true → laneOf s n = some l → l.seg = none → l.offPend = false →
          (laneOf u n).map (fun x => (x.st, x.kats, x.drbg)) = some (.kat, l.kats ++ [.cmd], Drbg.zero)))

/-- A lane without demand absorbs a waiting MIX piece by a Generate call of zero bits; it carries no credit and neither replaces nor
delays a reseed (R112, R114). A finished segment goes whole into the first bound queue that has room: its words become resident with its
tag and the present time; the words past the lane's output registers count as generated then (R115, R134, R135, R89). The model's own
choices in it: notes/assumptions 40, 41, 44. -/
def Obligations.MixAndSegmentOffer : Prop :=
  ∀ (s : State) (n : Nat) (l : Lane), upAnd s = true → laneOf s n = some l →
    (∀ p ps, l.st = .wait → l.seg = none → l.pieces = p :: ps →
      Effects (.mixPieceAbsorb n) s (fun u =>
        (laneOf u n).map (fun x => (x.drbg, x.gen, x.marked, x.st, x.due, x.asked)) =
          some ((l.drbg.generate 0 (some p.data)).2, l.gen, l.marked, l.st, l.due, l.asked) ∧
        u.tal.books.creditIn = s.tal.books.creditIn ∧ u.tal.books.creditSeeded = s.tal.books.creditSeeded)) ∧
    (∀ g q slots w, l.seg = some g → offerTo s n l.nextQ g.words.length = some (q, slots, w) →
      Effects (.segmentOffer n) s (fun u =>
        (laneOf u n).map (·.seg) = some none ∧
        (queueOf u q).map (fun d => (d.wptr, d.ents)) =
          (queueOf s q).map (fun d => (w, d.ents ++ slots.map (fun k => QEntry.mk k { g.tag with t := s.clk.slow } .res))) ∧
        slots.length = g.words.length ∧
        u.tal.books.gen = s.tal.books.gen + BitVec.ofNat 64 (g.words.length - min 8 g.words.length) ∧
        u.tal.books.resident = s.tal.books.resident + BitVec.ofNat 64 g.words.length ∧ u.sil.delivReady = true)) ∧
    (∀ g, l.seg = some g → offerTo s n l.nextQ g.words.length = none → exec (.segmentOffer n) s = .next (finishUp s))

/-! ### The stack and delivery (chapter 6) -/

/-- The patrol: a corrected word is counted, an uncorrectable one is counted and retires the region that serves its address; under the fatal
alarm, outside every queue and in a void region nothing is read (R125 to R127, R133). Old words go to kerf under their cause and none stays
(R142). The overwrite of the array ends (R152). A candidate of the distribution unit is counted: accepted it is delivered, rejected it goes
to kerf (R149, R151). The model's own choices in it: notes/assumptions 51. -/
def Obligations.PatrolAgeAndDistribution : Prop :=
  ∀ s : State, upAnd s = true →
    (∀ addr e, halted s = false →
      (∃ d ∈ s.stk.queues, occupies d = true ∧ d.base.toNat * 512 ≤ addr ∧ addr < d.base.toNat * 512 + depth d) →
      regionVoid s (regionAt addr) = false → physRegion s (regionAt addr) < s.stk.regions.length →
      Effects (.patrolRead addr e) s (fun u =>
        match e with
        | .ok => u.stk.ce = s.stk.ce ∧ u.stk.ue = s.stk.ue ∧ u.stk.regions = s.stk.regions
        | .corrected => u.stk.ce = s.stk.ce + 1 ∧ u.stk.ue = s.stk.ue
        | .uncorrectable =>
          u.stk.ce = s.stk.ce ∧ u.stk.ue = (if s.stk.ue = 0xFFFF then s.stk.ue else s.stk.ue + 1) ∧
          (regionOf u (physRegion s (regionAt addr))).retired = true)) ∧
    (∀ addr e, halted s = true ∨ regionVoid s (regionAt addr) = true ∨
        (∀ d ∈ s.stk.queues, occupies d = true → addr < d.base.toNat * 512 ∨ d.base.toNat * 512 + depth d ≤ addr) →
      exec (.patrolRead addr e) s = .next (finishUp s)) ∧
    (∀ q d, queueOf s q = some d →
      let old (e : QEntry) : Bool := decide (e.st = .res) && tooOld s e.tag.t
      (d.ents.any old = true →
        Effects (.ageScrub q) s (fun u =>
          (queueOf u q).map (fun x => (x.aged, x.ents.any old)) = some (true, false) ∧
          u.tal.books.wkAge = s.tal.books.wkAge + BitVec.ofNat 64 (countP old d.ents))) ∧
      (d.ents.any old = false → exec (.ageScrub q) s = .next (finishUp s))) ∧
    Effects .arrayClearDone s (fun u =>
      u.stk.clearing = false ∧ u.stk.array = (if s.stk.clearing then [] else s.stk.array) ∧ u.tal = s.tal) ∧
    (∀ id j w ws gs, jobOf s id = some j → (j.op = 0x02 ∨ j.op = 0x03) → j.grants = (w :: ws) :: gs →
      Effects (.distCandidate id) s (fun u =>
        let nm1 := if j.op = 0x02 then fldW (jobWord j 0) 0 32 else j.permI
        let ok : Bool := decide (w.v.toNat % 2 ^ bitLen nm1 ≤ nm1)
        u.stk.cand = s.stk.cand + 1 ∧ u.stk.rej = (if ok then s.stk.rej else s.stk.rej + 1) ∧
        u.tal.books.delivered = (if ok then s.tal.books.delivered + 1 else s.tal.books.delivered) ∧
        u.tal.books.wkReject = (if ok then s.tal.books.wkReject else s.tal.books.wkReject + 1)))

/-- DQ_CTRL_n: enabling an OFF queue whose range is free empties it and turns it ON (VOID where too little capacity is left), and is refused
otherwise (R130, R133); disabling one drains it, and is refused for the last queue with capacity (R131); a flush leaves no unallotted word
and no waiting consumer, one with prediction resistance among them (R145). The model's own choices in it: notes/assumptions 47, 49. -/
def Obligations.QueueControl : Prop :=
  ∀ (s : State) (a : Acc) (q : Nat) (v : W32) (d : DQueue), q < 16 → queueOf s q = some d → mayWrite a (0x8000 + 64 * q) s = true →
    let drained (x : DQueue) : Prop := (∀ e ∈ x.ents, e.st ≠ .res) ∧ x.waits = []
    let inQueue (u : State) (P : DQueue → Prop) : Prop := ∃ x, queueOf u q = some x ∧ P x
    Effects (.queueEnable a q v) s (fun u => inQueue u (fun x =>
      x.ordered = bitAt v 1 ∧
      (d.st = .on ∨ d.st = .void → x.st = d.st) ∧
      (d.st = .draining → bitAt v 7 = false → x.st = .draining ∧ u.stk.err = s.stk.err ||| 8) ∧
      (d.st = .off → enableOk s q d = true →
        x.st = (if capacity s d < 512 then .void else .on) ∧ x.wptr = 0 ∧ x.ents = [] ∧ u.stk.err = s.stk.err) ∧
      (d.st = .off → enableOk s q d = false → x.st = .off ∧ u.stk.err = s.stk.err ||| 8))) ∧
    Effects (.queueDisable a q v) s (fun u => inQueue u (fun x =>
      (d.st = .off ∨ d.st = .draining → x.st = d.st) ∧
      (d.st = .on → onCapacity s (some q) = false → x.st = .on ∧ u.stk.err = s.stk.err ||| 16) ∧
      ((d.st = .on ∧ onCapacity s (some q) = true) ∨ d.st = .void → (x.st = .draining ∨ x.st = .off) ∧ drained x))) ∧
    Effects (.queueFlush a q v) s (fun u => inQueue u (fun x => d.st = .on ∨ d.st = .void → drained x))

/-- DQ_BASE_n and DQ_SIZE_n are written only while the queue is OFF and within the stack; any other write is refused (R129). STK_TAG_SEL
captures the generation of the segment at its offset (R135). A read of DQ_WPTR_n captures the read pointer and the mark of the same
instant (R132). -/
def Obligations.QueueConfiguration : Prop :=
  (∀ (s : State) (a : Acc) (q : Nat) (v : W32) (d : DQueue), q < 16 → queueOf s q = some d →
    (∀ size, mayWrite a (0x8000 + 64 * q + (if size then 8 else 4)) s = true →
      Effects (.queueConfigWrite a q size v) s (fun u =>
        if d.st ≠ .off ∨ (size = true ∧ (if s.pwr.is832 then 10 else 11) < v.toNat % 16) then
          u.stk = { s.stk with err := s.stk.err ||| 4 }
        else
          u.stk.err = s.stk.err ∧
          queueOf u q = some (if size then { d with size := v.setWidth 4 }
            else { d with base := BitVec.ofNat 11 (v.toNat % 2 ^ (if s.pwr.is832 then 10 else 11)) }))) ∧
    (mayWrite a 0x8440 s = true →
      Effects (.stkTagSelWrite a v) s (fun u =>
        let e := (queueOf s (v.toNat / 2 ^ 24 % 16)).bind (fun x => (x.ents.filter (fun y => y.st.here))[v.toNat % 2 ^ 15 * 64]?)
        u.stk.tagSel = v &&& 0x0F007FFF ∧ u.stk.tagGen = (e.map (·.tag.gen)).getD 0 ∧
        (bitAt u.stk.tagInfo 31 = e.isSome) ∧ u.stk.queues = s.stk.queues))) ∧
  (∀ (s : State) (a : Acc) (q : Nat) (d : DQueue), q < 16 → queueOf s q = some d → mayFetch a s = true →
    Effects (.dqWptrRead a q) s (fun u =>
      queueOf u q = some { d with capR := BitVec.ofNat 21 (readPtr d), capM := BitVec.ofNat 21 (markPtr d) } ∧ u.tal = s.tal))

/-- DQ_MIN_n holds the lowest level since its previous read: no step leaves it above the queue's level, and no command raises it but a read
of the register (a row for it, a read of any registers, and one of the access engine); a read returns it and sets the field to the present
level (R137). -/
def Obligations.QueueMinimumRead : Prop :=
  (∀ s t : State, (∀ d ∈ s.stk.queues, d.min ≤ level d) → step s = .next t → ∀ d ∈ t.stk.queues, d.min ≤ level d) ∧
  (∀ (c : Instr) (s t : State) (q : Nat) (d : DQueue),
    (match c with
     | .dqMinRead _ _ | .clearingRead _ _ _ | .engineRead => False
     | _ => True) →
    queueOf s q = some d → exec c s = .next t → ∃ x, queueOf t q = some x ∧ x.min ≤ d.min) ∧
  (∀ (s : State) (a : Acc) (q : Nat) (d : DQueue), q < 16 → queueOf s q = some d → mayFetch a s = true →
    Effects (.dqMinRead a q) s (fun u =>
      queueOf u q = some { d with min := level d } ∧ u.stk.err = s.stk.err ∧
      (a.path = .core → u.core.data = w32ToBytes [BitVec.ofNat 32 d.min])))

/-- A read of a delivery window: over the ring without HOLD it is refused at once and no word is consumed (R244); one that R144 ends takes
its status and consumes nothing; any other waits on the queue for its words (R143); past the limit of its path it is not taken (R200). A
write to a delivery window is discarded and sets STK_ERR.WINDOW_WRITE, and under the alarm ends with HALTED (R144, R350). The model's own
choices in it: notes/assumptions 17, 53. -/
def Obligations.DeliveryWindow : Prop :=
  ∀ (s : State) (a : Acc) (q : Nat), q < 16 → enters a s = true → settled s = true →
    (∀ len, pathPort a.path ≠ none →
      Effects (.deliveryRead a q len false) s (fun u =>
        u.tal = s.tal ∧ u.stk = s.stk ∧ u.job = s.job ∧
        ∀ p, pathPort a.path = some p → s.sys.bootDone = true →
          ∃ x ∈ (u.ring.pa.txq ++ u.ring.pb.txq), x.f.status = 3 ∧ x.f.txn = a.txn ∧ x.f.payload = [])) ∧
    (∀ len, slotFree s (norm s a) = true → ∀ st bad, readEnds s (norm s a) q len = some (st, bad) →
      Effects (.deliveryRead a q len true) s (fun u =>
        u.stk = (if bad then { s.stk with err := s.stk.err ||| 1 } else s.stk) ∧ u.tal.books.delivered = s.tal.books.delivered ∧
        (a.path = .core → u.core.status = BitVec.ofNat 4 st ∧ u.core.data = []))) ∧
    (∀ len d, slotFree s (norm s a) = true → readEnds s (norm s a) q len = none → queueOf s q = some d →
      Effects (.deliveryRead a q len true) s (fun u =>
        u.tal = s.tal ∧ (a.path = .core → u.core.waiting = true) ∧
        ∃ w x, queueOf u q = some x ∧ x.waits = d.waits ++ [w] ∧ w.req = who a s ∧ w.need = (len + 7) / 8 ∧ w.pr = false)) ∧
    Effects (.deliveryWindowWrite a q) s (fun u =>
      u.tal = s.tal ∧
      u.stk = { s.stk with err := s.stk.err ||| 2 } ∧ (a.path = .core → u.core.status = (if halted s then 8 else 3)))

/-- A queue allots its next grant to the consumer that its arbitration names, once enough words are there: a read of the control core then
gets its bytes and its words are delivered; with too few words UNDERRUN sets and nobody is served (R138, R139, R14). Under the alarm no
grant is made (R152). The model's own choices in it: notes/assumptions 53. -/
def Obligations.GrantAllotted : Prop :=
  ∀ (s : State) (q : Nat), upAnd s = true →
    (∀ e, halted s = true → exec (.grantAllot q e) s = .next (finishUp s)) ∧
    (∀ d w e, halted s = false → queueOf (syncQ q (ageScrub q s)) q = some d → nextWaiter (syncQ q (ageScrub q s)) q d = some w →
      (d.st ≠ .on ∨ unallotted d + w.held.length < w.need →
        Effects (.grantAllot q e) s (fun u =>
          (queueOf u q).map (fun x => (x.underrun, x.waits)) = some (true, d.waits) ∧
          u.tal.books.delivered = s.tal.books.delivered)) ∧
      (∀ a len v, d.st = .on → w.need ≤ unallotted d → w.held = [] → w.what = .read a len → a.path = .core → 0 < w.need →
        len ≤ 8 * w.need → waitOf (readWords q w.key (d.ents.length + 1) [] (syncQ q (ageScrub q s))) q w.key = some v →
        v.held.length = w.need → v.need = w.need → v.what = w.what →
        Effects (.grantAllot q []) s (fun u =>
          u.core.waiting = false ∧ u.core.status = 0 ∧ u.core.data.length = len ∧
          u.tal.books.delivered = s.tal.books.delivered + BitVec.ofNat 64 w.need ∧
          (queueOf u q).map (fun x => x.waits.any (fun y => decide (y.key = w.key))) = some false)))

/-- A wait that reaches the stall limit ends: a read with STALL, a job with NO_ENTROPY when no lane could serve it, else STALL_LIMIT, and
the queue counts it (R67, R140, R172, R167). A word at the mark unacknowledged for 1 ms forces the mark: its frame is sent no more, its
words go to kerf, and MARK_FORCED sets (R147). A result write unacknowledged for 1 ms is dropped and its job ends with STALL_LIMIT (R151,
R210). The model's own choices in it: notes/assumptions 56. -/
def Obligations.WaitsThatEnd : Prop :=
  (∀ s : State, upAnd s = true →
    (∀ q key d w, queueOf s q = some d → d.waits.find? (fun x => decide (x.key = key)) = some w →
      (stallOver s w.tick w.slow = true →
        Effects (.stallLimitExpire (.queue q key)) s (fun u =>
          (queueOf u q).map (fun x => (x.stallEnd, x.stallEnds)) = some (true, d.stallEnds + 1) ∧
          (∀ id j, w.what = .job id → jobOf s id = some j → j.stop = none →
            (jobOf u id).map (·.stop) =
              some (some (if noEntropy s (drawLanes s q w) = true ∧ j.op ≠ 0x21 then stNoEntropy else stStall))) ∧
          (∀ a len, w.what = .read a len → a.path = .core → u.core.status = 5 ∧ u.core.data = []))) ∧
      (stallOver s w.tick w.slow = false → exec (.stallLimitExpire (.queue q key)) s = .next (finishUp s))) ∧
    (∀ id j, jobOf s id = some j → j.op = 0x09 → j.stop = none → j.phase = .waiting → stallOver s j.waitTick j.waitSlow = true →
      Effects (.stallLimitExpire (.seeds id)) s (fun u =>
        (jobOf u id).map (·.stop) =
          some (some (if noEntropy s (maskList (nLanes s) j.mask.toNat) then stNoEntropy else stStall)))) ∧
    (∀ id j, jobOf s id = some j → j.accepted = true → j.stop = none → lacksPath s j = true →
      stallOver s (max s.ring.noPath j.waitTick) j.waitSlow = true →
      Effects (.stallLimitExpire (.path id)) s (fun u => (jobOf u id).map (·.stop) = some (some stStall)))) ∧
  (∀ s : State, upAnd s = true →
    (∀ q p t, markFrame s q = some (p, t) →
      (overdue s t = true →
        Effects (.markForced q) s (fun u =>
          (queueOf u q).map (·.markForced) = some true ∧ u.tal.books.delivered = s.tal.books.delivered ∧
          (∀ f ∈ (portOf u.ring p).store, ∀ g ∈ (openFrames s p).filter (fun g => overdue s g.2.2.2 && g.2.1.any (fun r => decide (r.1 = q))),
            f.kind ≠ g.1))) ∧
      (overdue s t = false → exec (.markForced q) s = .next (finishUp s))) ∧
    (∀ q, markFrame s q = none → exec (.markForced q) s = .next (finishUp s)) ∧
    (∀ p txn o id no j, s.ring.outst.find? (fun o => decide (o.port = p) && decide (o.txn = txn)) = some o → o.kind = .data id no →
      jobOf s id = some j → (j.op = 0x02 ∨ j.op = 0x03) →
      (overdue s o.sent = true → j.stop = none →
        Effects (.resultWriteDrop p txn) s (fun u =>
          (jobOf u id).map (·.stop) = some (some stStall) ∧ ∀ x ∈ u.ring.outst, x.port = p → x.kind ≠ .data id no)) ∧
      (overdue s o.sent = false → exec (.resultWriteDrop p txn) s = .next (finishUp s))))

/-! ### Jobs (chapters 7 and 8) -/

/-- A submission write is accepted whole, its words joining its requester's stream, or refused whole, with an error bit for each cause
(R154 to R156). The model's own choices in it: notes/assumptions 15. -/
def Obligations.SubmissionWrite : Prop :=
  ∀ (s : State) (a : Acc) (w : Nat) (bytes : List Byte), w < 4 → enters a s = true → settled s = true →
    let b := norm s a
    let bad := (submitCauses s b w bytes).filter (·.1)
    (bad = [] → ((streamOf s b.req).bind (·.discard)) = none →
      Effects (.submissionWrite a w bytes) s (fun u =>
        u.job.cqCnt = upd s.job.cqCnt (cqOf a.path) (· + BitVec.ofNat 32 (bytesToWords bytes).length) ∧ u.job.err = s.job.err ∧
        ((streamOf u b.req).map (fun x => x.words.map (·.w))).getD [] =
          ((streamOf s b.req).map (fun x => x.words.map (·.w))).getD [] ++ bytesToWords bytes ∧
        (a.path = .core → u.core.status = 0))) ∧
    (∀ c cs, bad = c :: cs →
      Effects (.submissionWrite a w bytes) s (fun u =>
        u.job = { s.job with err := s.job.err ||| BitVec.ofNat 7 (maskOf 7 (fun i => bad.any (fun x => decide (x.2 = i)))) } ∧
        (a.path = .core → u.core.status = (if c.2 = 6 then 8 else if c.2 = 5 then 2 else 3))))

/-- Each job instruction that the parser comes to leaves its stream and becomes a job with its opcode and tag: accepted when every check
of R161 passes, and otherwise ended with BAD_INSTR, TAG_BUSY or DENIED (R157, R161, R169, R198). The model's own choices in it:
notes/assumptions 59, 61. -/
def Obligations.JobInstructionParsed : Prop :=
  ∀ (c : Instr) (op : BitVec 8), (c, op) ∈ ([(.draw, 0x01), (.drawn, 0x02), (.drawp, 0x03), (.mix, 0x08), (.reseed, 0x09), (.beacon, 0x12),
      (.verify, 0x20), (.batch, 0x21), (.digest, 0x22), (.tally, 0x30), (.test, 0x31), (.note, 0x32), (.abort, 0x38), (.restore, 0x3E)] :
      List (Instr × BitVec 8)) →
    ∀ (s : State) (r : ReqId) (x : Stream) (h : SWord) (t : List SWord), parserAt s r x h t → hOp h.w = op → hTag h.w ≠ 0xFFF →
      Effects c s (fun u =>
        buffered u r = x.words.length - (t.length + 1) ∧
        ∃ j ∈ u.job.jobs, j.op = op ∧ j.req = r ∧ j.tag = hTag h.w ∧ s.clk.ord ≤ j.id ∧
          (match checkWords (syncParser s) r ((nextWords x).map (·.w)) h.path with
           | some st => j.accepted = false ∧ j.stop = some st
           | none => j.accepted = true))

/-- PEG fences the later part of its stream while an earlier job is in flight; AT waits for the instruction it holds; END does nothing; a
malformed control instruction or TAG 0xFFF makes a program record, and an unknown opcode discards words up to and including END (R162,
R163, R173, R191, R193). The model's own choices in it: notes/assumptions 64. -/
def Obligations.ControlInstructionParsed : Prop :=
  ∀ (s : State) (r : ReqId) (x : Stream) (h : SWord) (t : List SWord), parserAt s r x h t →
    let program (u : State) (n : Nat) : Prop :=
      ∃ j ∈ u.job.jobs, j.prog = true ∧ j.req = r ∧ j.tag = 0xFFF ∧ j.stop = some stBadInstr ∧ j.count = n
    (∀ w, x.atHead = some w → hOp h.w = 0x3F → controlBad h.w = false →
      Effects .endMark s (fun u => program u 1 ∧ (streamOf u r).bind (·.atHead) = none)) ∧
    (x.atHead = none → controlBad h.w = false →
      (hOp h.w = 0x10 → Effects .peg s (fun u =>
        buffered u r = x.words.length - 1 ∧
        (s.job.jobs.any (fun j => j.accepted && decide (j.req = r) && decide (j.op ≠ 0x38)) = true →
          (streamOf u r).map (fun y => y.fences) = some (x.fences ++ [⟨pegScope h.w, s.clk.ord⟩])) ∧
        (s.job.jobs.any (fun j => j.accepted && decide (j.req = r) && decide (j.op ≠ 0x38)) = false →
          ((streamOf u r).map (·.fences)).getD [] = x.fences))) ∧
      (hOp h.w = 0x11 → Effects .atInstr s (fun u =>
        buffered u r = x.words.length - 1 ∧ (streamOf u r).map (·.atHead) = some (some (h.w.setWidth 32)))) ∧
      (hOp h.w = 0x3F → Effects .endMark s (fun u => buffered u r = x.words.length - 1 ∧ u.job.jobs = s.job.jobs))) ∧
    (x.atHead = none → badHead h.w = true →
      Effects .unknownOpcode s (fun u =>
        if knownOp h.w then program u (nextWords x).length ∧ buffered u r = x.words.length - (nextWords x).length
        else match x.words.findIdx? (fun w => decide (w.w = 0x3F00000000000000)) with
          | some i => program u (i + 1) ∧ buffered u r = x.words.length - (i + 1)
          | none => (streamOf u r).map (fun y => (y.words, y.discard)) = some ([], some x.words.length)))

/-- A job that AT holds launches when fabric time reaches its target: on time, late within the window with LATE set, or rejected as late
(R173, R284). Launched it is held no longer and has the present time in its record; a NOTE has then ended, and a DRAW waits on its queue
for its words (R170, R178, R194). The condition of a PEG met, its fence is gone (R191). Before each launch of a BEACON its grant of WORDS
words is asked of its source queue, and at its due time the launch goes out, a broadcast frame with its words, or ends the series (R174,
R284, R285). The model's own choices in it: notes/assumptions 65, 89. -/
def Obligations.LaunchesAndFences : Prop :=
  ∀ s : State, upAnd s = true → halted s = false →
    (∀ id j due, jobOf s id = some j → j.target = some due → j.phase = .held → s.tim.clkOk = true → reached s due = true →
      startHeld s j.req id = false → j.stop = none →
      Effects (.atLaunch id) s (fun u =>
        (onTime s due = true ∨ inLateWindow s due = true →
          (jobOf u id).map (fun x => (decide (x.phase = .held), x.timeFix)) = some (false, some (nowNs s, s.tim.steps.setWidth 8)) ∧
          (j.op = 0x32 → (jobOf u id).map (·.stop) = some (some stOk)) ∧
          (∀ d, j.op = 0x01 → queueOf s (jobSq j) = some d → d.st = .on → 0 < jobNeed s j → (∀ w ∈ d.waits, w.key ≠ id) →
            ∃ x w, queueOf u (jobSq j) = some x ∧ w ∈ x.waits ∧ w.key = id ∧ w.what = .job id ∧ w.need = jobNeed s j ∧ w.req = j.req)) ∧
        if onTime s due = true then
          (jobOf u id).map (·.late) = some false ∧ u.tim.launchLate = s.tim.launchLate ∧ u.tim.launchRej = s.tim.launchRej
        else if inLateWindow s due = true then
          (jobOf u id).map (·.late) = some true ∧ u.tim.launchLate = s.tim.launchLate + 1 ∧ u.tim.launchRej = s.tim.launchRej
        else (jobOf u id).map (·.stop) = some (some stLate) ∧ u.tim.launchRej = s.tim.launchRej + 1)) ∧
    (∀ r x, streamOf s r = some x →
      Effects (.fenceRelease r) s (fun u =>
        (streamOf u r).map (·.fences) = some (x.fences.filter (fun f => !fenceMet s r f)))) ∧
    (∀ id j, jobOf s id = some j → beaconRuns s j = true → j.verdict = none → j.asked < fldW (jobWord j 0) 32 8 →
      reached s (beaconDue j j.asked - 200000) = true →
      Effects (.beaconGrantRequest id) s (fun u =>
        (jobOf u id).map (·.asked) = some (j.asked + 1) ∧
        (∀ d, queueOf s (jobSq j) = some d → d.st = .on → (∀ w ∈ d.waits, w.key ≠ id) → shortGrant j = 0 →
          j.launched + j.grants.length ≤ j.asked → 0 < fldW (jobWord j 1) 0 6 →
          ∃ x w, queueOf u (jobSq j) = some x ∧ w ∈ x.waits ∧ w.key = id ∧ w.what = .job id ∧ w.need = fldW (jobWord j 1) 0 6))) ∧
    (∀ id j ws gs, jobOf s id = some j → beaconRuns s j = true → j.grants = ws :: gs → s.tim.clkOk = true →
      reached s (beaconDue j j.launched) = true → portUp s = true → fldW (jobWord j 1) 0 6 ≤ ws.length →
      Effects (.beaconLaunch id) s (fun u =>
        if onTime s (beaconDue j j.launched) = true ∨ inLateWindow s (beaconDue j j.launched) = true then
          (jobOf u id).map (·.launched) = some (j.launched + 1) ∧
          (jobOf u id).map (·.late) = some (j.late || !onTime s (beaconDue j j.launched)) ∧
          (∃ p l x, (portAt u p).txq = (portAt s p).txq ++ l ∧ x ∈ l ∧ x.f.type = 0x06 ∧ x.f.vc = 2 ∧ x.f.dst = 0xFFF ∧
            x.f.late = !onTime s (beaconDue j j.launched) ∧ x.f.payload = wordsToBytes (ws.map (·.v)) ∧
            x.f.h2.setWidth 32 = ((beaconDue j j.launched).setWidth 32 : BitVec 32) ∧ x.words = ws.length)
        else (jobOf u id).map (·.stop) = some (some stLate) ∧ u.tim.launchRej = s.tim.launchRej + 1))

/-- Once the event queue has room, the completion record that waits first is stored and its job completes (R182, R185). A job engine that
stops working raises the fatal alarm with cause 0x08 and INDEX 3 (R24). JOB_TAG_SEL captures the state of a tag (R318); a read of JOB_PEAK
sets the field to the jobs in flight (R316). The model's own choices in it: notes/assumptions 58. -/
def Obligations.RecordsAndJobRegisters : Prop :=
  ∀ (s : State) (a : Acc) (v : W32),
    (upAnd s = true → ∀ j, s.job.jobs.find? (fun j => waitsRoom j && recordDue s j) = some j →
      (recordRoom s = true →
        Effects .eventQueueStore s (fun u =>
          u.evt.queue = s.evt.queue ++ [recordEntry s j s.evt.seq.toNat] ∧ u.evt.seq = s.evt.seq + 1 ∧ jobOf u j.id = none ∧
          u.job.records = s.job.records + 1)) ∧
      (recordRoom s = false → exec .eventQueueStore s = .next (finishUp s))) ∧
    (upAnd s = true →
      Effects .jobEngineLost s (fun u => u.job.stopped = true ∧ u.hlt.fatal = true ∧
        (s.hlt.fatal = false → u.hlt.fatalCause = 8 ∧ u.hlt.fatalIdx = 3))) ∧
    (mayWrite a 0x9048 s = true →
      Effects (.jobTagSelWrite a v) s (fun u =>
        u.job = { s.job with
          tagSel := v &&& 0x0FFF0FFF
          tagStat := tagState s ((v &&& 0x0FFF0FFF).extractLsb' 16 12) ((v &&& 0x0FFF0FFF).extractLsb' 0 12) })) ∧
    (mayFetch a s = true →
      Effects (.jobPeakRead a) s (fun u =>
        u.job = { s.job with peak := inflightAll s } ∧
        (a.path = .core → u.core.data = w32ToBytes [packR [(0, s.job.peak)]])))

/-! ### Benches (chapter 9) -/

/-- A claim gives an IDLE bench without owner to a requester that has none, while another bench stays shared, and is refused otherwise;
the owner's release takes effect at once and zeroizes the operand memory, or waits for its job; an owned bench left idle loses its owner
(R219, R221). Only the owner of an IDLE bench reads and writes its operand window; under the alarm no bench is IDLE, and the access ends
with HALTED (R220, R300). The model's own choices in it: notes/assumptions 17, 69, 70. -/
def Obligations.BenchOwnership : Prop :=
  ∀ (s : State) (a : Acc) (n : Nat) (b : Bench), n < nBenches s → benchOf s n = some b →
    (mayWrite a (0xA004 + 16 * n) s = true →
      Effects (.benchClaim a n) s (fun u =>
        if claimOk s (who a s) n then (benchOf u n).map (·.owner) = some (some (who a s)) ∧ u.bne.err = s.bne.err
        else u.bne = { s.bne with err := s.bne.err ||| 1 }) ∧
      Effects (.benchRelease a n) s (fun u =>
        if b.owner ≠ some (who a s) then u.bne = { s.bne with err := s.bne.err ||| 2 }
        else if b.job.isSome then (benchOf u n).map (fun x => (x.owner, x.relPend)) = some (b.owner, true)
        else (benchOf u n).map (fun x => (x.owner, x.mem, x.relPend)) = some (none, [], false))) ∧
    (upAnd s = true →
      let expired : Prop := s.bne.idleMs ≠ 0 ∧ b.st = .idle ∧ msToSlow s.bne.idleMs.toNat ≤ s.clk.slow - b.idleSlow ∧
        ∀ j ∈ benchWaiters s, b.owner ≠ some j.req
      (b.owner ≠ none → expired → Effects (.benchIdleTimeout n) s (fun u => (benchOf u n).map (fun x => (x.owner, x.mem)) = some (none, []))) ∧
      (b.owner = none ∨ ¬ expired → exec (.benchIdleTimeout n) s = .next (finishUp s))) ∧
    (enters a s = true → settled s = true →
      (∀ off len, off < 0x10000 → Effects (.benchWindowAccess a n off (.read len)) s (fun u =>
        if halted s then u.bne = { s.bne with err := s.bne.err ||| 4 } ∧ (a.path = .core → u.core.status = 8)
        else if b.owner ≠ some (who a s) ∨ b.st ≠ .idle then
          u.bne = { s.bne with err := s.bne.err ||| 4 } ∧ (a.path = .core → u.core.status = 3)
        else if len < 4 ∨ 256 < len ∨ len % 4 ≠ 0 ∨ off % 4 ≠ 0 then
          u.bne = { s.bne with err := s.bne.err ||| 8 } ∧ (a.path = .core → u.core.status = 3)
        else (benchOf u n).map (·.mem) = some b.mem ∧ (a.path = .core → u.core.status = 0 ∧ u.core.data.length = len))) ∧
      (∀ off bytes, off < 0x10000 → Effects (.benchWindowAccess a n off (.write bytes)) s (fun u =>
        if halted s then u.bne = { s.bne with err := s.bne.err ||| 4 } ∧ (a.path = .core → u.core.status = 8)
        else if b.owner ≠ some (who a s) ∨ b.st ≠ .idle then
          u.bne = { s.bne with err := s.bne.err ||| 4 } ∧ (a.path = .core → u.core.status = 3)
        else if bytes.length < 4 ∨ 256 < bytes.length ∨ bytes.length % 4 ≠ 0 ∨ off % 4 ≠ 0 then
          u.bne = { s.bne with err := s.bne.err ||| 8 } ∧ (a.path = .core → u.core.status = 3)
        else
          (benchOf u n).map (·.mem) = some (memWrite b.mem off (bytes.take (0x6000 - off))) ∧ (a.path = .core → u.core.status = 0))))

/-- A waiting job starts on a bench (R222). The bench's verdict on a VERIFY: a refusal or a fail ends it with that code and count 1, a
pass with OK and CONFIRMED only if the confirmation agrees, and otherwise with MISMATCH and count 0 (R227, R229, R230). The end-of-job
clear leads to IDLE, to a known-answer run that waits, or to RETIRED (R217). The hash unit absorbs up to 64 KiB for each unit of weight in
a turn (R216). The model's own choices in it: notes/assumptions 63, 68, 71, 74. -/
def Obligations.BenchJobs : Prop :=
  ∀ s : State, upAnd s = true →
    (∀ j n, halted s = false → benchPick (syncBench s) = some (j, n) →
      Effects .benchJobStart s (fun u =>
        ∃ x, benchOf u n = some x ∧ ((x.st = .busy ∧ x.job = some j.id) ∨ (x.st = .zero ∧ x.job = none)))) ∧
    (∀ n b j agree, benchOf s n = some b → b.st = .busy → b.job = some j.id → jobOf s j.id = some j → j.op = 0x20 → j.stop = none →
      j.read = none → nextRead j = none →
      Effects (.benchVerdict n agree) s (fun u =>
        let v := sigVerify (fldW j.head 24 8) (fldW j.head 16 8) (fldW j.head 0 16) (fldW (jobWord j 3) 48 16) j.keyBytes j.sigBytes
          (j.digest.getD [])
        (benchOf u n).map (fun x => (x.st, x.job)) = some (.zero, none) ∧
        (jobOf u j.id).map (fun x => (x.stop, x.count, x.confirmed)) =
          some (if v ≠ vPass then (some v, 1, false) else if agree then (some stOk, 1, true) else (some vMismatch, 0, false)))) ∧
    (∀ n b, benchOf s n = some b →
      (b.st = .zero →
        Effects (.benchClearDone n) s (fun u =>
          (benchOf u n).map (fun x => (x.st, x.mem)) =
            some (if b.retiring then (.retired, []) else (if b.kats.isEmpty then .idle else .kat, if b.zeroAll then [] else b.mem)))) ∧
      (b.st ≠ .zero → exec (.benchClearDone n) s = .next (finishUp s))) ∧
    (∀ q j r, halted s = false → rrHead (syncHash s).bne.hashRr = some q →
      argMin (·.got) ((syncHash s).job.jobs.filter (fun j => hashReady j && decide (j.req = q))) = some j → j.read = some r →
      let n := min (r.got.length - j.got) (weightOf s q * 65536)
      Effects .hashTurnDone s (fun u =>
        u.bne.hashBytes = s.bne.hashBytes + BitVec.ofNat 32 (n + (if j.got = 0 then (hashPrefix j r.what).length else 0)) ∧
        (j.got + n ≠ r.total → (jobOf u j.id).map (·.got) = some (j.got + n))))

/-- BNE_CMD.KAT starts runs of the named benches, or is refused with its error bit; a run that fails raises the fatal alarm, with cause 0x06
for a bench and 0x05 for the hash unit (R238). An error of the microcode store is counted, and an uncorrectable one retires every bench that
is not in LOAD or HALT with cause 2, one that is retired already too (R215, R217). The model's own choices in it: notes/assumptions 38,
72. -/
def Obligations.BenchTestsAndMicrocode : Prop :=
  ∀ (s : State) (a : Acc) (v : W32),
    (mayWrite a 0xA104 s = true →
      Effects (.benchKatCmd a v) s (fun u =>
        let m := v.toNat % 16
        if s.bne.katBusy = true ∨ (m = 0 ∧ bitAt v 4 = false) ∨
            (∃ n ∈ maskList 4 m, ∀ b, benchOf s n = some b → b.st = .load ∨ b.st = .retired ∨ b.st = .halt) then
          u.bne = { s.bne with err := s.bne.err ||| 16 }
        else
          u.bne.katBusy = true ∧ u.bne.katDone = false ∧ u.bne.katFailed = false ∧
          (∀ n ∈ maskList 4 m, (benchOf u n).map (·.kats) = (benchOf s n).map (fun b => b.kats ++ [.cmd])) ∧
          u.bne.hashKats = (if bitAt v 4 then s.bne.hashKats ++ [.cmd] else s.bne.hashKats))) ∧
    (upAnd s = true →
      (∀ n b w rest ok, benchOf s n = some b → b.st = .kat → b.kats = w :: rest →
        Effects (.benchKatDone (.bench n) ok) s (fun u =>
          if ok then (benchOf u n).map (fun x => (x.st, x.kats, x.katPass)) = some (if rest.isEmpty then .idle else .kat, rest, true)
          else (benchOf u n).map (fun x => (x.st, x.mem)) = some (.halt, []) ∧ u.hlt.fatal = true ∧
            (s.hlt.fatal = false → u.hlt.fatalCause = 6 ∧ u.hlt.fatalIdx = BitVec.ofNat 8 n))) ∧
      (∀ w rest ok, s.bne.hashKats = w :: rest →
        Effects (.benchKatDone .hash ok) s (fun u =>
          u.bne.hashPass = ok ∧ u.bne.hashKats = rest ∧
          (ok = false → u.hlt.fatal = true ∧ (s.hlt.fatal = false → u.hlt.fatalCause = 5)))) ∧
      (s.bne.loaded = true →
        Effects (.ucodeStoreError false) s (fun u =>
          u.bne = { s.bne with ce := if s.bne.ce = 0xFFFF then s.bne.ce else s.bne.ce + 1 }) ∧
        Effects (.ucodeStoreError true) s (fun u =>
          u.bne.ue = (if s.bne.ue = 0xFFFF then s.bne.ue else s.bne.ue + 1) ∧
          ∀ n b, n < nBenches s → benchOf s n = some b → b.st ≠ .load → b.st ≠ .halt →
            (benchOf u n).map (fun x => (x.st, x.cause, x.mem, x.owner)) = some (.retired, 2, [], none))))

/-! ### The ring (chapter 10) -/

/-- Port states of Table 10-7: a DOWN port that gains block lock trains, with full credits and sequence numbers from the start; an IDENT
makes a training port READY; the restore timer and RING_CTRL.RESTORE put READY ports into SERVICE; without REFCLK both ports are DOWN, and
CK_TIME is lost too where CLK_SEL takes it from there (R248, R251, R252, R254, R261, R274, R362). The model's own choices in it:
notes/assumptions 79, 80, 81. -/
def Obligations.RingPortStates : Prop :=
  ∀ (s : State) (p : PortId), upAnd s = true →
    ((portAt s p).st = .down →
      Effects (.portTrain p) s (fun u =>
        (portAt u p).st = .train ∧ (portAt u p).lock = 3 ∧ (portAt u p).credits = poolSizes ∧ (portAt u p).rxAck = 0xFFF ∧
        (portAt u p).partner = 0xFFF ∧ (portAt u p).delayValid = false ∧ (portAt u (otherPort p)).st = (portAt s (otherPort p)).st)) ∧
    ((portAt s p).st ≠ .down →
      Effects (.portTrain p) s (fun u => portAt u p = { portAt s p with lock := 3 } ∧ portAt u (otherPort p) = portAt s (otherPort p))) ∧
    (∀ w : Word, fldW w 58 6 = 0x3E → (portAt s p).st = .train →
      Effects (.identRx p w) s (fun u =>
        (portAt u p).st = .ready ∧ (portAt u p).partner = BitVec.ofNat 12 (fldW w 44 12) ∧
        (portAt u p).partnerReady = decide (fldW w 57 1 = 1) ∧ (portAt u p).readyTick = s.clk.ticks)) ∧
    (∀ w : Word, fldW w 58 6 ≠ 0x3E ∨ (portAt s p).st = .down → exec (.identRx p w) s = .next (finishUp s)) ∧
    (let due : Prop := s.sys.bootDone = true ∧ s.ring.autoRestore = true ∧ (portAt s p).st = .ready ∧
        s.ring.restoreMs.toNat * 125000 ≤ s.clk.ticks - (portAt s p).readyTick;
      (due → Effects (.portRestoreTimer p) s (fun u => (portAt u p).st = .service ∧ (portAt u p).everService = true)) ∧
      (¬ due → exec (.portRestoreTimer p) s = .next (finishUp s))) ∧
    (∀ a v, mayWrite a 0xB010 s = true →
      Effects (.portRestoreCmd a v) s (fun u =>
        u.ring.autoRestore = bitAt v 16 ∧ u.ring.bcastB = bitAt v 8 ∧
        ∀ q : PortId, (portAt u q).st =
          if bitAt v (portIdx q) = true ∧ s.sys.bootDone = true ∧ (portAt s q).st = .ready then .service else (portAt s q).st)) ∧
    Effects .ckRingAbsent s (fun u =>
      (portAt u p).st = .down ∧ u.clk.ckRing = false ∧ u.stk = s.stk ∧ u.tal = s.tal ∧ u.tim.cnt = s.tim.cnt ∧
      u.clk.ckTime = (s.clk.ckTime && s.tim.clkSel) ∧ u.tim.clkOk = (s.tim.clkOk && (!s.clk.ckTime || s.tim.clkSel)))

/-- A port fails: one in READY or SERVICE enters DOWN with its cause and error bit, and one that was in SERVICE makes a local failover,
which RING_FO_CNT counts, one for two ports that fail together; a port in another state does not fail (R255 to R257, R262). The replay timer
sends every unacknowledged frame again (R252). A discarded frame is counted if it was bad, and a NAK is due (R252). A LINK frame releases
every frame it acknowledges from the store and adds the credits it returns; with NAK what is left is sent again (R248, R251, R252). A held
response that its first hop acknowledges is delivered (R14). The model's own choices in it: notes/assumptions 75, 77, 79, 124. -/
def Obligations.PortFailuresAndLinkFrames : Prop :=
  (∀ (s : State) (p : PortId), upAnd s = true →
    let joined : Prop := (portAt s (otherPort p)).st = .down ∧ s.ring.foTick = some s.clk.ticks ∧ s.ring.foLast.getLsbD 30 = false ∧
      fld s.ring.foLast 29 1 = portIdx (otherPort p)
    let failed (cause : Nat) (u : State) : Prop :=
      if (portAt s p).st = .ready ∨ (portAt s p).st = .service then
        (portAt u p).st = .down ∧ (portAt u p).cause = BitVec.ofNat 3 cause ∧
        (portAt u p).err = (portAt s p).err ||| BitVec.ofNat 5 (2 ^ (cause - 1)) ∧
        u.ring.foRemote = s.ring.foRemote ∧
        ((portAt s p).st = .service → ¬ joined → u.ring.foLocal = s.ring.foLocal + 1) ∧
        ((portAt s p).st ≠ .service ∨ joined → u.ring.foLocal = s.ring.foLocal)
      else (portAt u p).st = (portAt s p).st ∧ (portAt u p).err = (portAt s p).err ∧ u.ring.foLocal = s.ring.foLocal
    Effects (.lossOfLock p) s (failed 1) ∧
    Effects (.highBer p) s (failed 2) ∧
    (∀ t ∈ (portAt s p).store, s.ring.retryMax.toNat ≤ t.replays → Effects (.retransmissionLimit p) s (failed 3)) ∧
    ((∀ t ∈ (portAt s p).store, t.replays < s.ring.retryMax.toNat) → exec (.retransmissionLimit p) s = .next (finishUp s)) ∧
    (∀ k, k < 7 → k ≠ 1 → (portAt s p).credits.getD k 0 = 0 →
      (∃ t ∈ (portAt s p).txq, poolOf (portAt s p).partner t.f = k) →
      usTicks (10 * s.ring.creditTo.toNat) ≤ s.clk.ticks - (portAt s p).creditTick.getD k s.clk.ticks →
      Effects (.creditTimeout p) s (failed 4)) ∧
    (let late : Prop := (portAt s p).st ≠ .down ∧ (portAt s p).store ≠ [] ∧
        usTicks s.ring.replayUs.toNat ≤ s.clk.ticks - (portAt s p).ackTick;
      (late → Effects (.replayTimer p) s (fun u =>
        (portAt u p).store = (portAt s p).store.map (fun t => { t with replays := t.replays + 1, tick := s.clk.ticks }) ∧
        (portAt u p).replay = (portAt s p).replay + 1 ∧ u.tal = s.tal)) ∧
      (¬ late → exec (.replayTimer p) s = .next (finishUp s))) ∧
    (∀ bad, (portAt s p).st ≠ .down →
      Effects (.frameCrcError p bad) s (fun u =>
        (portAt u p).crc = (if bad then (portAt s p).crc + 1 else (portAt s p).crc) ∧ (portAt u p).nakDue = true ∧
        (portAt u p).rxAck = (portAt s p).rxAck))) ∧
  (∀ (s : State) (p : PortId) (w : Word), upAnd s = true → (portAt s p).st ≠ .down → fldW w 58 6 = 0x3F →
    let ack : BitVec 12 := BitVec.ofNat 12 (fldW w 36 12)
    let left := (portAt s p).store.filter (fun t => !ackedBy ack t.lseq)
    Effects (.linkRx p w) s (fun u =>
      (portAt u p).store =
        (if fldW w 57 1 = 1 then left.map (fun t => { t with replays := t.replays + 1, tick := s.clk.ticks }) else left) ∧
      (portAt u p).credits = (List.range 7).map (fun k => (portAt s p).credits.getD k 0 + fldW w (34 - 5 * k - 4) 5) ∧
      (∀ t key, (portAt s p).store = [t] → t.kind = .held key → ackedBy ack t.lseq = true →
        u.tal.books.delivered = s.tal.books.delivered + BitVec.ofNat 64 t.words ∧
        u.tal.books.inflight = s.tal.books.inflight - BitVec.ofNat 64 t.words)))

/-- Frames for others: a transit frame goes on with one hop less, or back with its hops where the node wraps (R258); one that R242 names is
dropped and counted; a BEACON of another node goes on, and its last hop ends it; a BREAK that is new makes a remote failover, and one seen
before, or within 2 ms of a failover, makes none (R242, R247, R256, R259). The model's own choices in it: notes/assumptions 82. -/
def Obligations.ForwardedFrames : Prop :=
  ∀ (s : State) (p : PortId) (f : Frame), upAnd s = true → (portAt s p).st ≠ .down →
    let goesOn (u : State) (pool : Nat) (g : Frame) : Prop :=
      (portAt u (wayOut s p)).txq = (portAt s (wayOut s p)).txq ++
        [plainTx (.transit p pool) { g with hops := if wayOut s p = p then f.hops else f.hops - 1 }] ∧
      (portAt u p).rxAck = (portAt s p).rxAck + 1
    let other : Bool := !(s.ring.enumDone && decide (f.src = s.ring.nodeId))
    (∀ resid, forMe s f = false → isBcast f = false → enumHere f = false → f.hops ≠ 1 →
      Effects (.transitFrame p f resid) s (fun u => goesOn u (poolOf s.ring.nodeId f) (corrected s p f resid.toNat) ∧ u.tal = s.tal)) ∧
    (isBad s f = true → Effects (.ringRxBad p f) s (fun u => u.ring.rxBad = s.ring.rxBad + 1 ∧ u.tal = s.tal ∧ u.job = s.job)) ∧
    (isBad s f = false → exec (.ringRxBad p f) s = .next (finishUp s)) ∧
    (f.dst = 0xFFF → f.type = 0x06 → f.vc = 2 → other = true →
      Effects (.beaconRx p f) s (fun u =>
        (f.hops ≠ 1 → goesOn u 7 f) ∧ (f.hops = 1 → ∀ q, (portAt u q).txq = (portAt s q).txq))) ∧
    (f.dst = 0xFFF → f.type = 0x09 → f.vc = 2 →
      let seen : Bool := s.ring.seen.any (fun b => decide (b.ty = 0x09) && decide (b.src = f.src) &&
        decide (b.key = fldW f.h2 0 16) && decide (s.clk.ticks - b.tick < 1250000))
      let recent : Prop := ∃ t, s.ring.foTick = some t ∧ s.clk.ticks - t < 250000
      Effects (.breakRx p f) s (fun u =>
        u.ring.foLocal = s.ring.foLocal ∧
        u.ring.foRemote = (if other = true ∧ seen = false ∧ ¬ recent then s.ring.foRemote + 1 else s.ring.foRemote)))

/-- Responses to the node's own requests: a WR_ACK ends the request it answers, its words are delivered and the write is acknowledged; with
an error the job ends with DENIED (R14, R167, R243). A response that answers nothing, or an RD_RSP to no read, changes no job. An ENUM gives
the node its ID and window once, and another one is refused: an ENUM_RSP says so (R263). An access to a reserved range ends with UNMAPPED,
and a read of a submission window is refused, under the alarm with HALTED (R312, R350). The model's own choices in it: notes/assumptions 14,
17. -/
def Obligations.ResponsesAndEnumeration : Prop :=
  ∀ (s : State) (p : PortId) (f : Frame),
    (upAnd s = true → (portAt s p).st ≠ .down →
      (∀ o id no, forMe s f = true → f.type = 0x04 → f.vc = 1 → outstFor s f = some o → o.kind = .data id no →
        Effects (.wrAckRx p f) s (fun u =>
          u.ring.outst = s.ring.outst.filter (fun x => decide (x ≠ o)) ∧
          u.tal.books.delivered = s.tal.books.delivered + BitVec.ofNat 64 o.words ∧
          (∀ j, jobOf s id = some j → j.stop = none → f.status ≠ 0 → (jobOf u id).map (·.stop) = some (some stDenied)))) ∧
      (forMe s f = true → f.type = 0x04 → f.vc = 1 → outstFor s f = none →
        Effects (.wrAckRx p f) s (fun u => u.job = s.job ∧ u.tal = s.tal ∧ u.ring.outst = s.ring.outst)) ∧
      (∀ o id, forMe s f = true → f.type = 0x02 → f.vc = 1 → outstFor s f = some o → o.kind = .read id →
        Effects (.rdRspRx p f) s (fun u =>
          u.ring.outst = s.ring.outst.filter (fun x => decide (x ≠ o)) ∧ u.tal.books.delivered = s.tal.books.delivered ∧
          (∀ j, jobOf s id = some j → j.stop = none → f.status ≠ 0 → (jobOf u id).map (·.stop) = some (some stDenied)))) ∧
      (forMe s f = true → f.type = 0x02 → f.vc = 1 → outstFor s f = none →
        Effects (.rdRspRx p f) s (fun u => u.job = s.job ∧ u.tal = s.tal ∧ u.ring.outst = s.ring.outst)) ∧
      (f.type = 0x0A → f.hops = 1 → f.vc = 0 →
        let id : BitVec 12 := f.h2.setWidth 12
        let win : BitVec 22 := f.addr.extractLsb' 26 22
        Effects (.enumFrame p f) s (fun u =>
          (∃ q l x, (portAt u q).txq = (portAt s q).txq ++ l ∧ x ∈ l ∧ x.f.type = 0x0B ∧ x.f.dst = f.src ∧ x.f.txn = f.txn ∧
            x.f.status = (if f.addr.toNat % 0x4000000 = 0 ∧ id ≠ 0xFFF ∧
              (s.ring.enumDone = true → id = s.ring.nodeId ∧ win = s.ring.win) then 0 else 3)) ∧
          if f.addr.toNat % 0x4000000 = 0 ∧ id ≠ 0xFFF ∧ (s.ring.enumDone = true → id = s.ring.nodeId ∧ win = s.ring.win) then
            u.ring.enumDone = true ∧ u.ring.nodeId = id ∧ u.ring.win = win
          else u.ring.enumDone = s.ring.enumDone ∧ u.ring.nodeId = s.ring.nodeId ∧ u.ring.win = s.ring.win))) ∧
    (∀ (a : Acc) (off : Nat) (wr : Bool), enters a s = true → settled s = true →
      (isReserved off = true → Effects (.unmappedAccess a off wr) s (fun u =>
        u.tal = s.tal ∧ u.stk = s.stk ∧ u.job = s.job ∧ (a.path = .core → u.core.status = 1 ∧ u.core.data = []))) ∧
      (isSubmission off = true → Effects (.unmappedAccess a off false) s (fun u =>
        u.tal = s.tal ∧ u.stk = s.stk ∧ u.job = s.job ∧
        (a.path = .core → u.core.status = (if halted s then 8 else 3) ∧ u.core.data = []))))

/-- The hierarchy: an ACTIVE manager announces itself every 100 ms, and repeats the fabric's alarms with that (R270); a worker takes the
source of an ANNOUNCE as its manager; a manager that hears a lower ID stands by, and becomes ACTIVE after 300 ms without one (R265, R266). A
worker says HELLO with its unique identifier, which enters it in the lowest free slot of the table, or refreshes it; a slot silent for 30 s
is freed (R267). The model's own choices in it: notes/assumptions 80, 83. -/
def Obligations.ManagerAndWorkers : Prop :=
  ∀ s : State, upAnd s = true →
    let sends (u : State) (type sub : Nat) (dst : Nat) (h2 : Nat) (payload : List Byte) : Prop :=
      ∃ p l x, (portAt u p).txq = (portAt s p).txq ++ l ∧ x ∈ l ∧ x.f.type.toNat = type ∧ x.f.vc = 2 ∧ subType x.f = sub ∧ x.f.dst.toNat = dst ∧
        fldW x.f.h2 0 56 = h2 ∧ x.f.payload = payload
    (s.ring.mode = .active → mayOriginate s = true → tickDue s s.ring.annTick 12500000 = true →
      Effects .announceTx s (fun u =>
        sends u 0x07 0x01 0xFFF s.ring.annSeq.toNat [] ∧
        (∀ e ∈ s.ring.faRepeat, sends u 0x07 0x04 0xFFF (e.1.toNat * 2 ^ 36 + e.2.1.toNat * 2 ^ 8 + e.2.2.1.toNat) []) ∧
        u.ring.annSeq = s.ring.annSeq + 1 ∧ u.ring.annTick = some s.clk.ticks ∧ u.ring.mode = .active)) ∧
    (s.ring.mode ≠ .active ∨ mayOriginate s = false → exec .announceTx s = .next (finishUp s)) ∧
    (∀ p f, (portAt s p).st ≠ .down → f.type = 0x07 → f.vc = 2 → subType f = 0x01 → f.dst = 0xFFF → fromMe s f = false →
      Effects (.announceRx p f) s (fun u =>
        match s.ring.mode with
        | .worker => u.ring.mode = .worker ∧ u.ring.manager = f.src
        | .active =>
          if f.src < s.ring.nodeId then u.ring.mode = .standby ∧ u.ring.manager = f.src
          else u.ring.mode = .active ∧ u.ring.manager = s.ring.manager
        | .standby => u.ring.mode = .standby ∧ u.ring.manager = (if f.src < s.ring.nodeId then f.src else s.ring.manager))) ∧
    (let alone : Prop := s.ring.mode = .standby ∧ 37500000 ≤ s.clk.ticks - s.ring.lowerTick;
      (alone → Effects .mgrStandbyTimeout s (fun u => u.ring.mode = .active ∧ u.ring.manager = s.ring.nodeId)) ∧
      (¬ alone → exec .mgrStandbyTimeout s = .next (finishUp s))) ∧
    (s.ring.mode ≠ .active → s.ring.manager ≠ 0xFFF → mayOriginate s = true →
      (s.ring.helloDue = true ∨ tickDue s s.ring.helloTick 1250000000 = true) →
      Effects .helloTx s (fun u =>
        sends u 0x08 0x81 s.ring.manager.toNat (if s.pwr.is832 then 2 else 1) ((List.range 16).map (fun k => Config.uid.extractLsb' (8 * k) 8)) ∧
        u.ring.helloDue = false ∧ u.ring.helloTick = some s.clk.ticks)) ∧
    (∀ p f, (portAt s p).st ≠ .down → isWkr s f 0x81 = true → s.ring.mode = .active →
      Effects (.helloRx p f) s (fun u =>
        match slotOf s f.src, s.ring.workers.findIdx? (·.isNone) with
        | some k, _ => u.ring.workers = upd s.ring.workers k (fun w => w.map (fun x => { x with heardTick := s.clk.ticks }))
        | none, some k => u.ring.workers = upd s.ring.workers k (fun _ => some (newWorker s f.src))
        | none, none => u.ring.workers = s.ring.workers)) ∧
    (∀ k w, workerAt s k = some w →
      (3750000000 ≤ s.clk.ticks - w.heardTick → Effects (.workerSlotExpire k) s (fun u =>
        u.ring.workers = upd s.ring.workers k (fun _ => none))) ∧
      (s.clk.ticks - w.heardTick < 3750000000 → exec (.workerSlotExpire k) s = .next (finishUp s)))

/-- Contributions and gathering: at its slot's time the manager waits for six words of its queue for a worker, and asks a worker for its
reports with GATHER; a worker keeps a contribution in its peer slot, and answers GATHER with a snapshot, its tally record and its health
summary; the manager keeps each worker's latest
reports, and a slot whose report has grown old is recorded once (R113, R268, R269). An alarm of a worker is
broadcast, and one of the manager's fabric recorded (R270). The model's own choices in it: notes/assumptions 83, 84. -/
def Obligations.PeersGatheringAndAlarms : Prop :=
  ∀ s : State, upAnd s = true →
    let sends (u : State) (type sub : Nat) (dst : Nat) (h2 : Nat) (payload : List Byte) : Prop :=
      ∃ p l x, (portAt u p).txq = (portAt s p).txq ++ l ∧ x ∈ l ∧ x.f.type.toNat = type ∧ x.f.vc = 2 ∧ subType x.f = sub ∧ x.f.dst.toNat = dst ∧
        fldW x.f.h2 0 56 = h2 ∧ x.f.payload = payload
    (∀ k w, workerAt s k = some w → s.ring.mode = .active → mayOriginate s = true →
      (s.ring.peerEn = true → halted s = false → slotDue s 12500000 k w.peerTick = true → ∀ d, queueOf s s.ring.pq.toNat = some d → d.st = .on →
        Effects (.peerTx k) s (fun u =>
          (workerAt u k).map (·.peerTick) = some (some s.clk.ticks) ∧
          ∃ x v, queueOf u s.ring.pq.toNat = some x ∧ x.waits = d.waits ++ [v] ∧ v.need = 6 ∧ v.what = .peer k ∧ v.req = coreId)) ∧
      (s.ring.gatherMs ≠ 0 → slotDue s (s.ring.gatherMs.toNat * 125000) k w.gatherTick = true →
        Effects (.gatherTx k) s (fun u =>
          sends u 0x07 0x03 w.id.toNat u.ring.gatherSeq.toNat [] ∧
          (u.ring.gatherSeq = s.ring.gatherSeq ∨ u.ring.gatherSeq = s.ring.gatherSeq + 1) ∧
          (workerAt u k).map (·.gatherTick) = some (some s.clk.ticks) ∧ u.tal = s.tal))) ∧
    (∀ p f, (portAt s p).st ≠ .down → f.type = 0x07 → f.vc = 2 → forMe s f = true → s.ring.mode ≠ .active → f.src = s.ring.manager →
      f.src ≠ 0xFFF →
      (subType f = 0x02 → s.pwr.role = false → Effects (.peerRx p f) s (fun u =>
        u.lan = { s.lan with
          peer := BitVec.ofNat 384 (beNat (padTo 48 (f.payload.take 48))), peerNo := s.lan.peerNo + 1
          peerSlow := some s.clk.slow, peerCnt := s.lan.peerCnt + 1 })) ∧
      (subType f = 0x03 → Effects (.gatherRx p f) s (fun u =>
        sends u 0x08 0x82 s.ring.manager.toNat (fldW f.h2 0 32) (wordsToBytes (snapRecord s (s.tal.epoch + 1))) ∧
        sends u 0x08 0x83 s.ring.manager.toNat (fldW f.h2 0 32) (wordsToBytes (healthSummary (takeSnapshot s))) ∧
        u.tal.epoch = s.tal.epoch + 1 ∧ u.ring.healthFails = 0))) ∧
    (∀ p f k w, (portAt s p).st ≠ .down → s.ring.mode = .active → slotOf s f.src = some k → workerAt s k = some w →
      (isWkr s f 0x82 = true → Effects (.reportTallyRx p f) s (fun u =>
        (workerAt u k).map (fun x => (x.tally, x.health, x.reportSlow)) = some (some (bytesToWords f.payload), w.health, some s.clk.slow))) ∧
      (isWkr s f 0x83 = true → Effects (.reportHealthRx p f) s (fun u =>
        (workerAt u k).map (fun x => (x.tally, x.health, x.reportSlow)) = some (w.tally, some (bytesToWords f.payload), some s.clk.slow)))) ∧
    (∀ k w, workerAt s k = some w →
      (isStale s w = true → w.staleTold = false →
        Effects (.gatherStale k) s (fun u => (workerAt u k).map (·.staleTold) = some true ∧ u.evt.seq =
          (if eventEnabled s.evt 0x5A then s.evt.seq + 1 else s.evt.seq))) ∧
      (isStale s w = false ∨ w.staleTold = true → exec (.gatherStale k) s = .next (finishUp s))) ∧
    (∀ p f, (portAt s p).st ≠ .down → isWkr s f 0x84 = true → s.ring.mode = .active →
      Effects (.alarmRx p f) s (fun u =>
        sends u 0x07 0x04 0xFFF (f.src.toNat * 2 ^ 36 + fldW f.h2 0 16) [] ∧
        u.ring.faRepeat = s.ring.faRepeat.filter (fun e => decide (e.1 ≠ f.src)) ++
          [(f.src, f.h2.extractLsb' 8 8, f.h2.extractLsb' 0 8, 10)] ∧ u.hlt = s.hlt)) ∧
    (∀ p f, (portAt s p).st ≠ .down → f.type = 0x07 → f.vc = 2 → subType f = 0x04 → f.dst = 0xFFF → fromMe s f = false →
      (s.ring.mode = .active ∨ (f.src = s.ring.manager ∧ f.src ≠ 0xFFF)) → s.ring.faOrigins.contains (f.h2.extractLsb' 36 12) = false →
      Effects (.fabricAlarmRx p f) s (fun u =>
        u.ring.faValid = true ∧ u.ring.faOrigin = f.h2.extractLsb' 36 12 ∧ u.ring.faCause = f.h2.extractLsb' 8 8 ∧
        u.ring.faIndex = f.h2.extractLsb' 0 8 ∧ u.ring.faCount = (if s.ring.faCount = 7 then 7 else s.ring.faCount + 1) ∧ u.hlt = s.hlt))

/-! ### Fabric time and SYNC_OUT (chapter 11) -/

/-- The discipline: a sample whose error lies beyond the slew limit steps the counter, any other leaves it alone and is slewed, and one of
the selected source then moves the frequency term F by the error over the time since the last sample and 2^GAIN, within MAX_PPM (R279); a
sample that meets another, or a SET, in one CK_TIME period is discarded (R286); SET loads the counter; while CK_TIME is lost a command is
held; a SYNC frame and an edge of SYNC_IN give samples to the source that is selected; without samples TRACK ends in HOLDOVER (R275 to
R281). The model's own choices in it: notes/assumptions 12, 80, 82, 87, 92, 93, 94, 125. -/
def Obligations.TimeDiscipline : Prop :=
  ∀ s : State,
    let met : Prop := s.tim.metT = some s.clk.ticks
    let sampled (t : State) (e : Int) : Prop :=
      if met then t.tim.cnt = s.tim.cnt ∧ t.tim.steps = s.tim.steps ∧ t.tim.phase = s.tim.phase ∧ t.tim.f = s.tim.f
      else if s.tim.slewLimit.toNat * 2 ^ 32 < e.natAbs then
        t.tim.cnt = s.tim.cnt - BitVec.ofInt 80 e ∧ t.tim.steps = s.tim.steps + 1 ∧ t.tim.phase = 0 ∧ t.tim.f = s.tim.f
      else t.tim.cnt = s.tim.cnt ∧ t.tim.steps = s.tim.steps ∧ t.tim.phase = -e
    let since : Nat := match s.tim.lastT with
      | some t0 => max 100000 (min 1000000000 (8 * (s.clk.ticks - t0)))
      | none => 1000000000
    let limit : Int := (s.tim.maxPpm.toNat * 2 ^ 32 / 1000000 : Nat)
    let tracked (t : State) (e : Int) : Prop :=
      sampled t e ∧
      (¬ met → t.tim.disc = .track ∧ t.tim.offset = offset16 e ∧
        (e.natAbs ≤ s.tim.slewLimit.toNat * 2 ^ 32 → t.tim.f =
          if s.tim.skipF then s.tim.f
          else BitVec.ofInt 32 (max (-limit) (min limit (s.tim.f.toInt - Int.tdiv e (since * 2 ^ s.tim.gain.toNat : Nat))))))
    let set (t : State) : Prop :=
      if s.tim.clkOk then
        s.tim.held = none →
        t.tim.cnt = s.tim.setWrap ++ s.tim.setNs ++ (0 : BitVec 32) ∧ t.tim.steps = s.tim.steps + 1 ∧ t.tim.held = none
      else t.tim.cnt = s.tim.cnt ∧ t.tim.held = some (.set s.tim.setWrap s.tim.setNs)
    let adjusted (t : State) : Prop :=
      if s.tim.clkOk then s.tim.held = none → sampled t (-(s.tim.adj.toInt) * 2 ^ 32) ∧ t.tim.held = none
      else t.tim.cnt = s.tim.cnt ∧ t.tim.held = some (.adj s.tim.adj)
    (∀ a adj pin, completes a 0xC054 (timWord true adj pin) s = true →
      Answers (.timeSet a adj pin) s (fun t => set t ∧ t.tim.cmdPin = pin ∧ t.grn = s.grn)) ∧
    (∀ a pin, completes a 0xC054 (timWord false true pin) s = true →
      Answers (.timeAdj a pin) s (fun t => adjusted t ∧ t.tim.cmdPin = pin ∧ t.grn = s.grn)) ∧
    (∀ a set' adj, completes a 0xC054 (timWord set' adj true) s = true →
      Answers (.timCmdPin a set' adj) s (fun t =>
        t.tim.cmdPin = true ∧ isPinned t 0xC054 = true ∧ (set' = true → set t) ∧ (set' = false → adj = true → adjusted t) ∧
        (set' = false → adj = false → t.tim = { s.tim with cmdPin := true }))) ∧
    (upAnd s = true →
      (∀ p f, (portAt s p).st ≠ .down → isMgr s f 0x05 true = true → fromMe s f = false → s.ring.mode ≠ .active →
        f.src = s.ring.manager → f.src ≠ 0xFFF →
        (s.tim.src = 1 → s.tim.clkOk = true →
          Answers (.syncRx p f) s (fun t => tracked t (s.tim.cnt - syncRef s p f).toInt)) ∧
        (s.tim.src ≠ 1 → Answers (.syncRx p f) s (fun t => t.tim = s.tim))) ∧
      (s.tim.clkOk = true →
        (∀ t0, s.tim.inLast = some t0 → s.clk.ticks - t0 < 12500 →
          Answers .syncInEdge s (fun t => t.tim.inIgnored = s.tim.inIgnored + 1 ∧ t.tim.inAccepted = s.tim.inAccepted ∧
            t.tim.cnt = s.tim.cnt)) ∧
        ((∀ t0, s.tim.inLast = some t0 → 12500 ≤ s.clk.ticks - t0) →
          Answers .syncInEdge s (fun t =>
            t.tim.inAccepted = s.tim.inAccepted + 1 ∧ t.tim.inStamp = s.tim.cnt ∧ t.tim.inLast = some s.clk.ticks ∧
            (s.tim.src = 2 → tracked t (s.tim.cnt - (inReference s ++ (0 : BitVec 32))).toInt) ∧
            (s.tim.src ≠ 2 → t.tim.cnt = s.tim.cnt ∧ t.tim.disc = s.tim.disc)))) ∧
      (let due : Prop := s.ring.mode = .active ∧ s.tim.syncTxEn = true ∧ mayOriginate s = true ∧
          tickDue s s.ring.syncTick (s.tim.syncTxMs.toNat * 125000) = true;
        (due → Effects .syncTx s (fun u => u.ring.syncTick = some s.clk.ticks ∧ u.tim = s.tim)) ∧
        (¬ due → exec .syncTx s = .next (finishUp s))) ∧
      (let silent : Prop := s.tim.disc = .track ∧ s.tim.holdMs.toNat * 32768 / 2000 ≤ s.clk.slow - s.tim.trackSlow;
        (silent → Answers .timeHoldover s (fun t =>
          t.tim.disc = .holdover ∧ t.tim.phase = 0 ∧ t.tim.f = s.tim.f ∧ t.tim.cnt = s.tim.cnt)) ∧
        (¬ silent → exec .timeHoldover s = .next (finishUp s))))

/-- CK_TIME lost holds the counter and SYNC_OUT; restored it runs again (R275). A pulse of SYNC_OUT begins when its time is reached, is
counted, and ends after its width; a write of TIM_SYNCOUT_START commits the start time (R287). The model's own choices in it:
notes/assumptions 94. -/
def Obligations.ClockLossAndPulses : Prop :=
  ∀ s : State,
    (upAnd s = true →
      (s.clk.ckTime = true → Answers .ckTimeLost s (fun t =>
        t.clk.ckTime = false ∧ t.tim.clkOk = false ∧ t.tim.outActive = false ∧ t.tim.cnt = s.tim.cnt)) ∧
      (s.clk.ckTime = false → exec .ckTimeLost s = .next (finishUp s)) ∧ (s.clk.ckTime = true → exec .ckTimeRestored s = .next (finishUp s)) ∧
      (s.clk.ckTime = false → Answers .ckTimeRestored s (fun t =>
        t.clk.ckTime = true ∧ t.tim.clkOk = true ∧ t.tim.cnt = s.tim.cnt)) ∧
      (∀ n, s.tim.outNext = some n →
        let starts : Prop := s.tim.syncEn = true ∧ s.tim.clkOk = true ∧ reached s n = true;
        (starts → Answers .syncOutPulse s (fun t =>
          t.tim.outActive = true ∧ t.tim.outEmitted = s.tim.outEmitted + 1 ∧ t.tim.outStart = s.clk.ticks ∧ t.tim.outLen = pulseTicks s ∧
          t.tim.outNext = some (n + s.tim.outPeriod.setWidth 48) ∧ t.tim.cnt = s.tim.cnt)) ∧
        (¬ starts → exec .syncOutPulse s = .next (finishUp s))) ∧
      (let ends : Prop := s.tim.outActive = true ∧ s.tim.outLen ≤ s.clk.ticks - s.tim.outStart;
        (ends → Answers .syncOutPulseEnd s (fun t => t.tim = { s.tim with outActive := false })) ∧
        (¬ ends → exec .syncOutPulseEnd s = .next (finishUp s)))) ∧
    (∀ a v, mayWrite a 0xC034 s = true →
      Answers (.syncoutStartWrite a v) s (fun t =>
        t.tim.outNs = v ∧ t.tim.outWrap = s.tim.outWrapReg ∧ t.tim.cnt = s.tim.cnt ∧
        t.tim.outNext = (if s.tim.syncEn then
          some (nextPulse { s with tim := { s.tim with outNs := v, outWrap := s.tim.outWrapReg } }) else s.tim.outNext)))

/-! ### The local serial port (chapter 12) -/

/-- The port as a slave: a transfer sends the status byte first and is counted (R292, R293, R297); LSP_SEL_1 high for 40 ns ends it and for
less than 10 ns does not (R295); a command word of the access engine makes its command pending, and the engine answers it with a header
and its data (R298, R299); a pending response is shifted out, its random words are delivered as they go, and after its last word it is
pending no longer (R14, R299); a READ of the port's own submission window is refused (R298, R300); in raw mode words pass through the
FIFOs (R296); a change of ENGINE empties them (R301); LSP_ROLE is written in the boot phase only and stays 1, and the uses of the bus that
waited are gone (R290). The model's own choices in it: notes/assumptions 17, 96, 97, 98, 100, 102, 103. -/
def Obligations.LocalSerialSlave : Prop :=
  ∀ s : State,
    (upAnd s = true →
      (∀ mosi, (s.lsp.role = false ∨ s.lsp.slavePend = true) → exec (.lspTransfer ⟨mosi, []⟩) s = .next (finishUp s)) ∧
      (∀ mosi high bits more, high < 10 → exec (.lspTransfer ⟨mosi, (high, bits) :: more⟩) s = exec (.lspTransfer ⟨mosi ++ bits, more⟩) s) ∧
      (∀ mosi high bits, s.lsp.role = true → s.lsp.slavePend = false → 10 ≤ high →
        Effects (.lspTransfer ⟨mosi, [(high, bits)]⟩) s (fun u =>
          u.lsp.transfers = s.lsp.transfers + (if 40 ≤ high ∨ Config.selectEnds s.clk.free = true then 2 else 1))) ∧
      (∀ k r, s.lsp.role = true → s.lsp.slavePend = false → s.lsp.engine = true → s.lsp.engEff = true → s.lsp.resp = some r → 0 < k →
        r.sent < r.words.length →
        Effects (.lspTransfer ⟨List.replicate (8 + 32 * k) false, []⟩) s (fun u =>
          let sent := min r.words.length (r.sent + k)
          u.lsp.miso.drop 8 = (List.range k).flatMap (fun i => bitsOf s.lsp.lsbFirst 32 ((r.words.drop r.sent).getD i 0).toNat) ∧
          (sent = r.words.length → u.lsp.resp = none ∧ u.lsp.cmd = none) ∧
          (sent ≠ r.words.length → u.lsp.resp.map (fun x => (x.sent, x.words)) = some (sent, r.words)) ∧
          u.tal.books.delivered = s.tal.books.delivered + BitVec.ofNat 64 (randDone r sent - randDone r r.sent))) ∧
      (∀ mosi, s.lsp.role = true → s.lsp.slavePend = false →
        Effects (.lspTransfer ⟨mosi, []⟩) s (fun u =>
          u.lsp.transfers = s.lsp.transfers + 1 ∧ u.lsp.lastStatus = statusByte (engineSwitch s) ∧
          u.lsp.miso.take 8 = (bitsOf s.lsp.lsbFirst 8 (statusByte (engineSwitch s)).toNat).take mosi.length ∧
          (mosi.length < 8 → u.tal = s.tal ∧ u.lsp.cmd = s.lsp.cmd ∧ u.lsp.resp = s.lsp.resp) ∧
          (s.lsp.engine = true → s.lsp.engEff = true → mosi.length = 40 → s.lsp.cmd = none → s.lsp.resp = none →
            let w : W32 := BitVec.ofNat 32 (valOf s.lsp.lsbFirst (mosi.drop 8))
            (w = 0 → u.lsp.cmd = none ∧ u.lsp.resp = none) ∧
            (fld w 29 3 = 1 → u.lsp.cmd = some ⟨w, [], false⟩ ∧ u.lsp.resp = none ∧ u.lsp.cseq = s.lsp.cseq + 1) ∧
            (w ≠ 0 → fld w 29 3 ≠ 1 → u.lsp.err.getLsbD 3 = true ∧
              u.lsp.resp.map (fun r => (r.words.length, (r.words.headD 0).toNat / 2 ^ 20 % 16)) = some (1, 9))) ∧
          (s.lsp.engine = false → s.lsp.engEff = false → 4 ≤ s.lsp.len.toNat → s.lsp.len.toNat ≤ 32 →
            mosi.length = 8 + s.lsp.len.toNat → s.lsp.rx.length < 64 →
            u.lsp.rx = s.lsp.rx ++ [(s.lsp.len.toNat, BitVec.ofNat 32 (valOf s.lsp.lsbFirst (mosi.drop 8)))] ∧
            u.lsp.tx = s.lsp.tx.tail ∧ u.lsp.shorts = s.lsp.shorts))) ∧
      (∀ c, engReady s 1 = some c → s.sys.bootDone = true →
        let off := 4 * fld c.word 0 24
        let n := fld c.word 24 5 + 1
        let header (st : Nat) : W32 := packR [(24, c.word.toNat >>> 24), (20, st), (19, 0), (0, s.lsp.cseq.toNat)]
        (regEnds s s.sil.lspId false off n = none → readsCmp s off n = false →
          Effects .engineRead s (fun u => u.lsp.resp.map (·.words) = some (header 0 :: (readMany s.sil.lspId off n s).1))) ∧
        (0x200000 ≤ off → off < 0x240000 →
          Effects .engineRead s (fun u => u.lsp.resp.map (·.words) =
            some [header (if halted s then 8 else if off / 0x10000 % 4 = 2 then 3 else 1)] ∧ settings u = settings s)) ∧
        (∀ st, off < 0x10000 → regEnds s s.sil.lspId false off n = some st → st ≠ 0 →
          Effects .engineRead s (fun u => u.lsp.resp.map (·.words) = some [header st] ∧ settings u = settings s))) ∧
      (∀ c, engReady s 2 = some c → s.sys.bootDone = true →
        let off := 4 * fld c.word 0 24
        regEnds s s.sil.lspId true off c.data.length = none →
        Effects .engineWrite s (fun u =>
          settings u = settings (writeMany s.sil.lspId off c.data s) ∧ front u = front (writeMany s.sil.lspId off c.data s))) ∧
      (engReady s 1 = none → exec .engineRead s = .next (finishUp s)) ∧
      (engReady s 2 = none → exec .engineWrite s = .next (finishUp s)) ∧
      exec .engineNop s = .next (finishUp s) ∧
      (let switches : Prop := s.lsp.engine ≠ s.lsp.engEff ∧ (s.lsp.engEff = true → engPending s = false);
        (switches → Effects .engineSwitch s (fun u => u.lsp = { s.lsp with engEff := s.lsp.engine, rx := [], tx := [] })) ∧
        (¬ switches → exec .engineSwitch s = .next (finishUp s)))) ∧
    (∀ a, mayFetch a s = true →
      Effects (.lspRxDataRead a) s (fun u =>
        u.lsp = { s.lsp with rx := s.lsp.rx.tail } ∧
        (a.path = .core → u.core.data = w32ToBytes [(s.lsp.rx.head?.map (·.2)).getD 0]))) ∧
    (∀ a v, mayWrite a 0xD01C s = true →
      Effects (.lspTxDataWrite a v) s (fun u =>
        u.lsp = (if s.lsp.engEff then s.lsp
          else if 64 ≤ s.lsp.tx.length then { s.lsp with err := s.lsp.err ||| 4, errPend := true }
          else { s.lsp with tx := s.lsp.tx ++ [BitVec.ofNat 32 (v.toNat % 2 ^ s.lsp.len.toNat)] }))) ∧
    (∀ a v, mayWrite a 0xD000 s = true →
      Effects (.roleSwitch a v) s (fun u =>
        u.lsp.role = (s.lsp.role || (bitAt v 0 && !s.sys.bootDone)) ∧
        u.lsp.ops = (if bitAt v 0 && !s.sys.bootDone && !s.lsp.role then s.lsp.ops.take 1 else s.lsp.ops) ∧
        (s.sys.bootDone = true → u.sys.viol = true ∧ u.sys.violOff = 0xD000)))

/-- The flash bus: accesses and raw commands take their turn in the order they came, or are refused (R303 to R307), under the alarm with
HALTED (R350); on the OGN-832 every write is discarded with a record (R5); a read or raw command ends with its transaction, and a write
polls the flash until it is not busy or its time is out (R304 to R306); the locks, under which no write and no raw command goes on waiting
for its window (R307, R322). The model's own choices in it: notes/assumptions 12, 100, 101, 102. -/
def Obligations.FlashBus : Prop :=
  ∀ s : State,
    let waiting (l : List XipOp) : List XipFor := l.map (·.what)
    (∀ (a : Acc) (w off : Nat), w < 2 → off < 0x1000000 → enters a s = true → settled s = true →
      let refused (u : State) (st : Nat) : Prop := u.lsp.ops = s.lsp.ops ∧ (a.path = .core → u.core.status = BitVec.ofNat 4 st)
      let bad (len : Nat) : Prop := len = 0 ∨ 256 < len ∨ 0x1000000 < off + len
      (∀ len, Effects (.xipRead a w off len) s (fun u =>
        if halted s then refused u 8
        else if permits s (who a s) .xipRd = false then refused u 2
        else if s.lsp.role = true ∨ bad len then refused u 3
        else u.lsp.ops.map (fun o => (o.what, o.win, o.write, o.off, o.len)) =
          s.lsp.ops.map (fun o => (o.what, o.win, o.write, o.off, o.len)) ++ [(.access (norm s a), w, false, off, len)])) ∧
      (∀ bytes, Effects (.xipWrite a w off bytes) s (fun u =>
        u.evt.seq = (if s.pwr.is832 && eventEnabled s.evt 0x28 then s.evt.seq + 1 else s.evt.seq) ∧
        if halted s then refused u 8
        else if permits s (who a s) .xipWr = false then refused u 2
        else if s.lsp.role = true ∨ bad bytes.length ∨ s.pwr.is832 = true ∨ xipLocked s w = true then
          refused u 3 ∧ u.lsp.mstErr.getLsbD 2 = (s.lsp.mstErr.getLsbD 2 || xipLocked s w)
        else u.lsp.ops.map (fun o => (o.what, o.win, o.write, o.off, o.len, o.data)) =
          s.lsp.ops.map (fun o => (o.what, o.win, o.write, o.off, o.len, o.data)) ++
            [(.access (norm s a), w, true, off, bytes.length, bytes)]))) ∧
    (∀ (a : Acc) (v : W32), completes a 0xD088 (v ||| 0x80000000) s = true →
      Effects (.rawCommand a v) s (fun u =>
        if rawRefused s (v ||| 0x80000000) then
          u.sys.gRefused = true ∧ u.lsp.mstCmd = s.lsp.mstCmd ∧ u.lsp.ops = s.lsp.ops ∧ u.lsp.mstBusy = s.lsp.mstBusy
        else
          u.lsp.mstBusy = true ∧ u.lsp.mstDone = false ∧ u.lsp.mstCmd = v &&& 0x7FFFFF7F ∧ waiting u.lsp.ops = waiting s.lsp.ops ++ [.raw])) ∧
    (∀ (a : Acc) (l0 l1 pin : Bool),
      (completes a 0xD098 (lockWord l0 l1 pin) s = true →
        Answers (.flashLock a l0 l1 pin) s (fun t =>
          t.lsp.lock0 = l0 ∧ t.lsp.lock1 = l1 ∧ t.lsp.lockPin = pin ∧
          ∀ o ∈ t.lsp.ops.tail, (o.write = true ∨ o.what = .raw) → (if o.win = 0 then l0 else l1) = false)) ∧
      (completes a 0xD098 (lockWord l0 l1 true) s = true →
        Answers (.flashLockPin a l0 l1) s (fun t =>
          t.lsp.lock0 = l0 ∧ t.lsp.lock1 = l1 ∧ t.lsp.lockPin = true ∧ isPinned t 0xD098 = true))) ∧
    (∀ (o : XipOp) (rest : List XipOp), upAnd s = true → s.lsp.ops = o :: rest →
      (o.started = true → o.polling = false →
        (∀ b data, o.what = .access b → o.write = false → data.length = o.len →
          Effects (.xipTransactionDone data) s (fun u =>
            waiting u.lsp.ops = waiting rest ∧ (b.path = .core → u.core.status = 0 ∧ u.core.data = data))) ∧
        (∀ data, o.what = .raw → o.write = false → data.length = fld o.cmd 0 7 →
          Effects (.xipTransactionDone data) s (fun u =>
            waiting u.lsp.ops = waiting rest ∧ u.lsp.mstBusy = false ∧ u.lsp.mstDone = true ∧
            u.lsp.buf = bytesToW32 (data ++ (w32ToBytes s.lsp.buf).drop data.length))) ∧
        (∀ b, o.what = .access b → o.write = true →
          Effects (.xipTransactionDone []) s (fun u =>
            u.lsp.ops = { o with polling := true, pollTick := s.clk.ticks, progTick := s.clk.ticks } :: rest))) ∧
      (∀ data, o.started = false → exec (.xipTransactionDone data) s = .next (finishUp s)) ∧
      (∀ b, o.what = .access b → o.polling = true →
        let c := xipCfg s o.win
        let piece := o.done + pieceLen c o
        (∀ sr : Byte, pollOver s o = false → usTicks c.intervalUs.toNat ≤ s.clk.ticks - o.pollTick →
          Effects (.flashPoll sr) s (fun u =>
            (xipCfg u o.win).lastSr = sr ∧
            (if sr.getLsbD c.busyBit.toNat ≠ c.busyPol then u.lsp.ops = { o with pollTick := s.clk.ticks } :: rest
             else if o.len ≤ piece then waiting u.lsp.ops = waiting rest ∧ (b.path = .core → u.core.status = 0)
             else u.lsp.ops = { o with pollTick := s.clk.ticks, done := piece, polling := false } :: rest))) ∧
        (pollOver s o = true → Effects .pollTimeout s (fun u =>
          waiting u.lsp.ops = waiting rest ∧ u.lsp.mstErr.getLsbD 3 = true ∧ (b.path = .core → u.core.status = 3))) ∧
        (pollOver s o = false → exec .pollTimeout s = .next (finishUp s))))

/-! ### Registers, guarded pairs, the mailbox and the compatibility window (chapter 13) -/

/-- A write of a clamped setting stores the nearest value within its limits (R314), and changes no source, no word count and no job; an
access that a check ends has no effect on any register, one whose length is no multiple of 4 bytes among them (R312, R313, R315). A read
returns each register's value in ascending order, and RC fields take their cleared values after it (R313, R316). The model's own choices in
it: notes/assumptions 14, 52. -/
def Obligations.RegisterAccess : Prop :=
  ∀ (s : State) (a : Acc),
    (∀ v : W32,
      let kept (u : State) : Prop := front u = front s ∧ u.tal = s.tal ∧ u.job = s.job ∧ u.mbx = s.mbx ∧ u.evt.queue = s.evt.queue
      let clamped (off : Nat) (field : State → Nat) (lo hi n : Nat) : Prop :=
        mayWrite a off s = true →
          Effects (.registerWrite a off ⟨[v], []⟩) s (fun u => field u = max lo (min hi (v.toNat % 2 ^ n)) ∧ kept u)
      clamped 0x6088 (·.pln.holdMax.toNat) 1 100 7 ∧ clamped 0x7008 (·.lan.timeMs.toNat) 1 100 7 ∧
      clamped 0x8400 (·.stk.maxAge.toNat) 1 300000 19 ∧ clamped 0x8404 (·.stk.stallUs.toNat) 10 100000 17 ∧
      clamped 0x8430 (·.stk.period.toNat) 10 1000 10 ∧ clamped 0xA100 (·.bne.idleMs.toNat) 0 10000 14 ∧
      clamped 0xB01C (·.ring.restoreMs.toNat) 10 10000 14 ∧ clamped 0xC01C (·.tim.slewLimit.toNat) 0 1000000 20 ∧
      clamped 0xC024 (·.tim.late.toNat) 0 100000 17 ∧ clamped 0xC02C (·.tim.inPeriod.toNat) 100000 1000000000 32 ∧
      clamped 0xC040 (·.tim.outWidth.toNat) 8 65535 16 ∧ clamped 0xD008 (·.lsp.len.toNat) 4 32 6 ∧
      clamped 0xE008 (·.evt.thresh.toNat) 1 1024 11 ∧
      (mayWrite a 0xC050 s = true → Effects (.registerWrite a 0xC050 ⟨[v], []⟩) s (fun u => u.tim = { s.tim with adj := v } ∧ kept u)) ∧
      (mayWrite a 0x9030 s = true →
        Effects (.registerWrite a 0x9030 ⟨[v], []⟩) s (fun u => u.job = { s.job with records := v } ∧ u.tal = s.tal)) ∧
      (mayWrite a 0xE020 s = true → Effects (.registerWrite a 0xE020 ⟨[v], []⟩) s (fun u =>
        u.evt.mask = upd s.evt.mask 0 (fun _ => (v &&& 0x3F0781FE) ||| 0x0000800C) ∧ kept u))) ∧
    (∀ off ws st, enters a s = true → settled s = true → regEnds s (who a s) true off ws.length = some st →
      Effects (.registerWrite a off ⟨ws, []⟩) s (fun u =>
        settings u = settings s ∧ front u = front s ∧ u.tal = s.tal ∧ u.stk = s.stk ∧ u.job = s.job ∧
        (a.path = .core → u.core.status = BitVec.ofNat 4 st))) ∧
    (enters a s = true → settled s = true →
      let nothing (u : State) (off len : Nat) : Prop :=
        settings u = settings s ∧ front u = front s ∧ u.tal = s.tal ∧ u.stk = s.stk ∧ u.job = s.job ∧
        (a.path = .core → u.core.status = (if 0x10000 < off + len then 1 else 3) ∧ u.core.data = [])
      (∀ off ws tail, tail ≠ [] →
        Effects (.registerWrite a off ⟨ws, tail⟩) s (fun u => nothing u off (4 * ws.length + tail.length))) ∧
      (∀ off n extra, 0 < extra → Effects (.clearingRead a off ⟨n, extra⟩) s (fun u => nothing u off (4 * n + extra)))) ∧
    (∀ off n, enters a s = true → settled s = true → regEnds s (who a s) false off n = none → readsCmp s off n = false →
      Effects (.clearingRead a off ⟨n, 0⟩) s (fun u =>
        (a.path = .core → u.core.status = 0 ∧ u.core.data = w32ToBytes (readMany (who a s) off n (entered a false s)).1) ∧
        (∀ k, k < n → off + 4 * k = 0x0010 → u.sys.viol = false) ∧ (∀ k, k < n → off + 4 * k = 0x403C → u.grn.err = 0) ∧
        (∀ k, k < n → off + 4 * k = 0x5020 → u.hlt.sum = 0) ∧ (∀ k, k < n → off + 4 * k = 0x840C → u.stk.err = 0) ∧
        (∀ k, k < n → off + 4 * k = 0x900C → u.job.err = 0) ∧ (∀ k, k < n → off + 4 * k = 0xE004 → u.evt.lost = false)))

/-- Guarded registers: a value written to the value address is armed and has no effect by itself; the complement completes the pair,
another value breaks it with MISMATCH, a complement without an armed value, or with one whose time has passed, sets BROKEN (R320, R321);
an arm of 32 CK_SLOW cycles, over with the 33rd edge, is dropped (R321); a pinned register ignores writes and records them (R322, R323).
The model's own choices in it: notes/assumptions 12, 13, 123. -/
def Obligations.GuardedPairs : Prop :=
  ∀ (s : State) (a : Acc) (g : Nat), g ∈ guardAddrs →
    let r := who a s
    let live (x : Armed) : Bool := decide (s.clk.slow < x.slow + 33)
    let kept (t : State) : Prop :=
      t.cal = s.cal ∧ t.grn = s.grn ∧ t.hlt = s.hlt ∧ t.tim = s.tim ∧ silSettings t.sil = silSettings s.sil ∧
      t.sys.bootDone = s.sys.bootDone ∧ t.sys.compatEn = s.sys.compatEn
    (∀ v, mayWrite a g s = true →
      Answers (.guardArm a g v) s (fun t =>
        kept t ∧
        (isPinned s g = true → armedOf t r = none ∧ t.sys.viol = true ∧ t.sys.violOff = BitVec.ofNat 16 g ∧ t.sys.violReq = r) ∧
        (isPinned s g = false → countP live s.sys.armed < 16 → armedOf t r = some ⟨r, g, v, s.clk.slow⟩) ∧
        (isPinned s g = false → (∀ x ∈ s.sys.armed, live x = true ∧ x.req ≠ r ∧ x.off ≠ g) → 16 ≤ s.sys.armed.length →
          t.sys.armed = s.sys.armed ∧ t.sys.gNoSlot = true ∧ t.sys.gReq = r))) ∧
    (∀ w, mayWrite a (g + 4) s = true → isPinned s g = false →
      (∀ x, armedOf s r = some x → live x = true → x.off = g → w = ~~~x.val →
        Answers (.guardComplement a (g + 4) w) s (fun t =>
          armedOf t r = none ∧ t.sys.gMismatch = s.sys.gMismatch ∧
          (g = 0x5008 → t.hlt.retryMs.toNat = max 100 (min 60000 (x.val.toNat % 65536)) ∧ t.hlt.retryPin = bitAt x.val 31))) ∧
      (∀ x, armedOf s r = some x → live x = true → x.off = g → w ≠ ~~~x.val →
        Answers (.guardComplement a (g + 4) w) s (fun t => kept t ∧ armedOf t r = none ∧ t.sys.gMismatch = true ∧ t.sys.gReq = r)) ∧
      ((∀ x ∈ s.sys.armed, x.req = r → live x = false) → Answers (.guardComplement a (g + 4) w) s (fun t => kept t ∧ t.sys.gBroken = true ∧ t.sys.gReq = r))) ∧
    (∀ q x, upAnd s = true → armedOf s q = some x →
      (live x = false → Answers (.guardTimeout q) s (fun t =>
        kept t ∧ armedOf t q = none ∧ t.sys.gBroken = true ∧ t.sys.gReq = q ∧ t.sys.gOff = BitVec.ofNat 16 x.off)) ∧
      (live x = true → exec (.guardTimeout q) s = .next (finishUp s)))

/-- The mailbox: one requester holds it; a claim takes it with its data cleared, a release, a read of MBX_DATA_7 or 32 CK_SLOW cycles of
silence, over with the 33rd edge, end the holding (R324); a read item is captured at its select, with VALID and the lowest error that
applies (R325, R326), and item 0x0E00 removes the oldest event entry (R186); a page of the access class table is written in the boot phase
only (R326, R342). Another requester's select changes nothing. The model's own choices in it: notes/assumptions 10, 18, 123. -/
def Obligations.Mailbox : Prop :=
  ∀ (s : State) (a : Acc),
    let r := who a s
    let cleared : List W32 := List.replicate 8 0
    let gone : Bool := s.mbx.holder.isSome && decide (s.mbx.slow + 33 ≤ s.clk.slow)
    let box : Mbx := if gone then { s.mbx with holder := none, valid := false, data := cleared } else s.mbx
    let free : Bool := box.holder.isNone || decide (box.holder = some r)
    let mine : Bool := decide (box.holder = some r)
    (mayWrite a 0x3000 s = true →
      (∀ item : BitVec 16, Answers (.mbxClaim a item) s (fun t =>
        if free then t.mbx = ⟨2, item, false, 0, some r, cleared, s.clk.slow⟩ else t.mbx = box)) ∧
      Answers (.mbxRelease a) s (fun t =>
        if mine then t.mbx.holder = none ∧ t.mbx.valid = false ∧ t.mbx.data = cleared else t.mbx = box) ∧
      (∀ (c : Instr) (item : Nat),
        (c, item) ∈ ([(.mbxUidRead a, 0x0000), (.mbxOtpInfoRead a, 0x0200), (.mbxUcodeDigestRead a, 0x0A00), (.mbxGatherHealthRead a, 0x0B08),
          (.mbxTimeCapture a, 0x0C00), (.mbxSyncInStamp a, 0x0C01), (.mbxEventRemove a, 0x0E00), (.mbxEventPeek a, 0x0E01)] :
          List (Instr × Nat)) ∨
        (∃ pg : BitVec 5, c = .mbxClassTableRead a pg ∧ item = 0x0100 + pg.toNat) ∨
        (∃ hi : Bool, c = .mbxKeyDigestRead a hi ∧ item = (if hi then 0x0202 else 0x0201)) ∨
        (∃ pg : BitVec 3, c = .mbxTallyPageRead a pg ∧ item = 0x0600 + pg.toNat) ∨
        (∃ pg : BitVec 3, c = .mbxGatherTallyRead a pg ∧ item = 0x0B00 + pg.toNat) →
        Effects c s (fun u =>
          if free then
            u.mbx = ⟨0, BitVec.ofNat 16 item, true, BitVec.ofNat 4 (mbxErr s r false item), some r,
              if mbxErr s r false item = 0 then eight ((mbxItem s item).getD []) else cleared, s.clk.slow⟩ ∧
            u.evt.queue = (if item = 0x0E00 ∧ mbxErr s r false item = 0 then s.evt.queue.tail else s.evt.queue)
          else u.mbx = box ∧ u.evt = s.evt)) ∧
      (∀ pg : BitVec 5, Answers (.mbxClassTableWrite a pg) s (fun t =>
        if free then
          if s.sys.bootDone then t.sil.classes = s.sil.classes ∧ t.mbx.err ≠ 0 ∧ t.mbx.valid = true
          else
            t.sil.classes = s.sil.classes.take (8 * pg.toNat) ++ box.data ++ s.sil.classes.drop (8 * pg.toNat + 8) ∧
            t.mbx.err = 0 ∧ t.mbx.valid = true
        else t.mbx = box ∧ t.sil.classes = s.sil.classes))) ∧
    (mayFetch a s = true → Answers (.mbxData7Read a) s (fun t =>
      (a.path = .core → t.core.data = w32ToBytes [if mine then box.data.getD 7 0 else 0]) ∧
      (if mine then t.mbx.holder = none ∧ t.mbx.data = cleared else t.mbx = box))) ∧
    (upAnd s = true →
      (∀ q, s.mbx.holder = some q → s.mbx.slow + 33 ≤ s.clk.slow →
        Answers .mbxHoldTimeout s (fun t => t.mbx.holder = none ∧ t.mbx.valid = false ∧ t.mbx.data = cleared)) ∧
      ((s.mbx.holder = none ∨ s.clk.slow < s.mbx.slow + 33) → exec .mbxHoldTimeout s = .next (finishUp s)))

/-- The compatibility window: while the mode is active CMP_DATA waits for one word of queue 0 and gives its low 32 bits, CMP_CELL_EN writes
GRN_EN_0, CMP_REFRESH asks for a fresh seed on a lane bound to queue 0, and CMP_FAIL_CNT clears as it is read (R51, R72, R123, R153, R327);
while it is not, reads give zero and writes do nothing (R315, R327). The model's own choices in it: notes/assumptions 16, 104. -/
def Obligations.CompatibilityWindow : Prop :=
  ∀ (s : State) (a : Acc),
    (mayFetch a s = true →
      (∀ d, s.sys.compatEn = true → slotFree s (norm s a) = true → readEnds s (norm s a) 0 4 = none → queueOf s 0 = some d →
        Effects (.cmpDataRead a) s (fun u =>
          u.tal = s.tal ∧ (a.path = .core → u.core.waiting = true) ∧
          (s.stk.cmpAcc = none →
            ∃ w x, queueOf u 0 = some x ∧ x.waits = d.waits ++ [w] ∧ w.req = who a s ∧ w.need = 1 ∧ w.what = .read (norm s a) 4 ∧ w.pr = false))) ∧
      (s.sys.compatEn = false → Effects (.cmpDataRead a) s (fun u =>
        u.tal = s.tal ∧ u.stk = s.stk ∧ (a.path = .core → u.core.status = 0 ∧ u.core.data = [0, 0, 0, 0]))) ∧
      Effects (.cmpFailCntRead a) s (fun u =>
        u.hlt = (if s.sys.compatEn then { s.hlt with cmpFail := 0 } else s.hlt) ∧
        (a.path = .core → u.core.data = w32ToBytes [if s.sys.compatEn then s.hlt.cmpFail.setWidth 32 else 0]))) ∧
    (∀ v, mayWrite a 0xF008 s = true →
      Answers (.cmpCellEnWrite a v) s (fun t =>
        if s.sys.compatEn then t.grn = (grnEnWrite 0 v s).grn else t.grn = s.grn)) ∧
    (mayWrite a 0xF024 s = true →
      Effects (.cmpRefresh a) s (fun u =>
        u.tal.books.delivered = s.tal.books.delivered ∧
        (if s.sys.compatEn then
          u.stk.cmpBit = true ∧
          (s.stk.cmpBit = false → boundInService s 0 ≠ [] → ∃ n l, n ∈ boundInService s 0 ∧ u.stk.cmpLane = some n ∧ laneOf u n = some l ∧
            ∃ p ∈ l.pr, p.key = 0 ∧ p.seeded = false ∧ u.stk.cmpAcc = some p.accepted ∧ s.clk.ord ≤ p.accepted)
         else u.stk = s.stk ∧ u.lan = s.lan))) ∧
    (∀ d w v x, upAnd s = true → halted s = false → queueOf (syncQ 0 (ageScrub 0 s)) 0 = some d →
      nextWaiter (syncQ 0 (ageScrub 0 s)) 0 d = some w → d.st = .on → 1 ≤ unallotted d → w.held = [] → w.what = .read a 4 → a.path = .core →
      w.need = 1 → waitOf (readWords 0 w.key (d.ents.length + 1) [] (syncQ 0 (ageScrub 0 s))) 0 w.key = some v → v.held = [x] → v.need = 1 →
      v.what = w.what →
      Effects (.grantAllot 0 []) s (fun u =>
        u.core.status = 0 ∧ u.core.data = w32ToBytes [x.v.setWidth 32] ∧ u.tal.books.delivered = s.tal.books.delivered + 1))
end

