-- ==== Sys2Proof/Laws/Imb.lean ====
section
/-! SUPPORT. How the tally's identities pass through record updates, folds, conditional effects and entries of the books, and of each
operation that it keeps them. -/

set_option linter.unnecessarySeqFocus false
set_option linter.unusedTactic false
set_option linter.unusedSimpArgs false
set_option linter.unreachableTactic false

namespace Sys2Proof.Machine

@[simp] theorem imb_mk {pwr : Pwr} {clk : Clk} {sys : Sys} {sil : Sil} {cal : Cal} {mbx : Mbx} {core : CoreIo} {grn : Grn} {hlt : Hlt}
    {pln : Pln} {tal : Tal} {lan : Lan} {stk : Stk} {job : JobEng} {evt : Evt} {bne : Bne} {ring : Ring} {tim : Tim} {lsp : Lsp}
    {pending : List Instr} :
    imb ⟨pwr, clk, sys, sil, cal, mbx, core, grn, hlt, pln, tal, lan, stk, job, evt, bne, ring, tim, lsp, pending⟩ =
      imbB tal.books := rfl

@[simp] theorem imbB_books (s : State) : imbB s.tal.books = imb s := rfl

@[simp] theorem imb_ite {c : Prop} [Decidable c] (a b : State) : imb (if c then a else b) = if c then imb a else imb b :=
  apply_ite imb c a b

/-! ### Machine/Ops.lean -/

@[simp] theorem imb_onlyIf {c : Bool} {f : State → State} {s : State} (h : ∀ u, imb (f u) = imb u) :
    imb (onlyIf c f s) = imb s := by
  cases c
  · rfl
  · exact h s

@[simp] theorem imb_foldl {α : Type} {g : State → α → State} {l : List α} {s : State} (h : ∀ u x, imb (g u x) = imb u) :
    imb (l.foldl g s) = imb s := by
  induction l generalizing s with
  | nil => rfl
  | cons x l ih => exact ih.trans (h s x)

@[simp] theorem imb_foldr {α : Type} {g : α → State → State} {l : List α} {s : State} (h : ∀ x u, imb (g x u) = imb u) :
    imb (l.foldr g s) = imb s := by
  induction l with
  | nil => rfl
  | cons x l ih => exact (h x _).trans ih

/-- A raw bit's credit is taken. -/
@[simp] theorem imbB_bkCreditIn (c : Nat) (b : Books) : imbB (bkCreditIn c b) = imbB b := by
  simp only [imbB, bkCreditIn, Prod.mk.injEq, and_true]
  ring

@[simp] theorem imbB_bkSeeded (c : Nat) (m : Bool) (b : Books) : imbB (bkSeeded c m b) = imbB b := by
  simp only [imbB, bkSeeded, Prod.mk.injEq, and_true]
  ring

@[simp] theorem imbB_bkCreditKerf (why : CreditKerf) (c : Nat) (b : Books) : imbB (bkCreditKerf why c b) = imbB b := by
  cases why <;> simp only [imbB, bkCreditKerf, Prod.mk.injEq, and_true, true_and, reduceIte, reduceCtorEq] <;> constructor <;> ring

@[simp] theorem imbB_bkGen (n : Nat) (b : Books) : imbB (bkGen n b) = imbB b := by
  simp only [imbB, bkGen, Prod.mk.injEq, and_true, true_and]
  ring

@[simp] theorem imbB_bkToResident (n : Nat) (b : Books) : imbB (bkToResident n b) = imbB b := by
  simp only [imbB, bkToResident, Prod.mk.injEq, and_true, true_and]
  ring

@[simp] theorem imbB_bkToFlight (n : Nat) (b : Books) : imbB (bkToFlight n b) = imbB b := by
  simp only [imbB, bkToFlight, Prod.mk.injEq, and_true, true_and]
  ring

@[simp] theorem imbB_bkDelivered (n m : Nat) (b : Books) : imbB (bkDelivered n m b) = imbB b := by
  simp only [imbB, bkDelivered, Prod.mk.injEq, and_true, true_and]
  ring

@[simp] theorem imbB_bkCoef (n : Nat) (b : Books) : imbB (bkCoef n b) = imbB b := by
  simp only [imbB, bkCoef]

@[simp] theorem imbB_bkKerf (why : WordKerf) (st : Bool) (n : Nat) (b : Books) : imbB (bkKerf why st n b) = imbB b := by
  cases st <;> cases why <;>
    simp only [imbB, bkKerf, Prod.mk.injEq, and_true, true_and, reduceIte, reduceCtorEq, Bool.false_eq_true] <;> constructor <;> ring

@[simp] theorem imb_bumpOrd {s : State} : imb (bumpOrd s) = imb s := by
  simp [bumpOrd]

@[simp] theorem imb_bumpFree {s : State} : imb (bumpFree s) = imb s := by
  simp [bumpFree]

@[simp] theorem imb_postEvent {code : Nat} {idx : Nat} {detail : Nat} {extra : Word} {s : State} :
    imb (postEvent code idx detail extra s) = imb s := by
  simp [postEvent]

@[simp] theorem imb_post {code : Nat} {idx : Nat} {detail : Nat} {s : State} : imb (post code idx detail s) = imb s := by
  simp [post]

@[simp] theorem imb_updBooks {f : Books → Books} {s : State} (h : ∀ b, imbB (f b) = imbB b) : imb (updBooks f s) = imb s := h _

@[simp] theorem imb_raiseFatal {cause : Nat} {idx : Nat} {s : State} : imb (raiseFatal cause idx s) = imb s := by
  simp [raiseFatal]

@[simp] theorem imb_takeSnapshot {s : State} : imb (takeSnapshot s) = imb s := by
  simp [takeSnapshot]

/-! ### Machine/Words.lean -/

@[simp] theorem imb_updQ {q : Nat} {f : DQueue → DQueue} {s : State} : imb (updQ q f s) = imb s := by
  simp [updQ]

@[simp] theorem imb_watermarkEvent {q : Nat} {high : Bool} {s : State} : imb (watermarkEvent q high s) = imb s := by
  unfold watermarkEvent
  split <;> simp

@[simp] theorem imb_relevel {q : Nat} {f : DQueue → DQueue} {s : State} : imb (relevel q f s) = imb s := by
  unfold relevel
  split <;> simp

@[simp] theorem imb_toFlight {refs : List (Nat × Nat)} {s : State} : imb (toFlight refs s) = imb s := by
  simp [toFlight]

@[simp] theorem imb_finishSlots {refs : List (Nat × Nat)} {s : State} : imb (finishSlots refs s) = imb s := by
  simp [finishSlots]

@[simp] theorem imb_deliverWords {refs : List (Nat × Nat)} {n : Nat} {m : Nat} {s : State} : imb (deliverWords refs n m s) = imb s := by
  simp [deliverWords]

@[simp] theorem imb_kerfFlight {why : WordKerf} {refs : List (Nat × Nat)} {n : Nat} {s : State} :
    imb (kerfFlight why refs n s) = imb s := by
  simp [kerfFlight]

@[simp] theorem imb_kerfStack {why : WordKerf} {refs : List (Nat × Nat)} {s : State} : imb (kerfStack why refs s) = imb s := by
  simp [kerfStack]

@[simp] theorem imb_countQKerf {q : Nat} {n : Nat} {s : State} : imb (countQKerf q n s) = imb s := by
  simp [countQKerf]

@[simp] theorem imb_kerfWords {why : WordKerf} {ws : List AWord} {s : State} : imb (kerfWords why ws s) = imb s := by
  simp [kerfWords]

@[simp] theorem imb_passWords {ws : List AWord} {s : State} : imb (passWords ws s) = imb s := by
  simp [passWords]

/-! ### Machine/LaneBase.lean -/

@[simp] theorem imb_updLane {n : Nat} {f : Lane → Lane} {s : State} : imb (updLane n f s) = imb s := by
  simp [updLane]

@[simp] theorem imb_raiseRequest {n : Nat} {s : State} : imb (raiseRequest n s) = imb s := by
  simp [raiseRequest]

@[simp] theorem imb_laneWait {n : Nat} {s : State} : imb (laneWait n s) = imb s := by
  unfold laneWait
  split <;> simp

@[simp] theorem imb_makeDue {n : Nat} {s : State} : imb (makeDue n s) = imb s := by
  simp [makeDue]

@[simp] theorem imb_prAdd {n : Nat} {p : PrReq} {s : State} : imb (prAdd n p s) = imb s := by
  unfold prAdd
  split <;> simp

@[simp] theorem imb_prPlace {q : Nat} {key : Nat} {accepted : Nat} {s : State} : imb (prPlace q key accepted s) = imb s := by
  unfold prPlace
  (repeat' split) <;> simp

@[simp] theorem imb_prDrop {key : Nat} {s : State} : imb (prDrop key s) = imb s := by
  unfold prDrop
  (repeat' split) <;> (try simp) <;> (try rw [imb_foldl]) <;> (try intro u x) <;> (repeat' split) <;> simp

/-! ### Machine/Array.lean -/

@[simp] theorem imb_arrayWrite {a : Nat} {w : Word} {s : State} : imb (arrayWrite a w s) = imb s := by
  simp [arrayWrite]

@[simp] theorem imb_kerfQueue {q : Nat} {why : WordKerf} {p : DQueue → QEntry → Bool} {s : State} :
    imb (kerfQueue q why p s) = imb s := by
  unfold kerfQueue
  split <;> simp

@[simp] theorem imb_updWait {q : Nat} {key : Nat} {f : Waiter → Waiter} {s : State} :
    imb (updWait q key f s) = imb s := by
  unfold updWait
  (repeat' split) <;> (try simp) <;> (try rw [imb_foldl]) <;> (try intro u x) <;> (repeat' split) <;> simp

@[simp] theorem imb_putBack {q : Nat} {v : AWord} {s : State} :
    imb (putBack q v s) = imb s := by
  unfold putBack
  (repeat' split) <;> (try simp) <;> (try rw [imb_foldl]) <;> (try intro u x) <;> (repeat' split) <;> simp

@[simp] theorem imb_releaseAllot {q : Nat} {key : Nat} {s : State} : imb (releaseAllot q key s) = imb s := by
  unfold releaseAllot
  (repeat' split) <;> simp

/-! ### Machine/JobOps.lean -/

@[simp] theorem imb_updJob {id : Nat} {f : Job → Job} {s : State} : imb (updJob id f s) = imb s := by
  simp [updJob]

@[simp] theorem imb_dropJob {id : Nat} {s : State} : imb (dropJob id s) = imb s := by
  simp [dropJob]

@[simp] theorem imb_updStream {r : ReqId} {f : Stream → Stream} {s : State} : imb (updStream r f s) = imb s := by
  simp [updStream]

@[simp] theorem imb_withTxn {f : BitVec 16 → State → State} {s : State} (hf : ∀ u0 u1, imb (f u0 u1) = imb u1) :
    imb (withTxn f s) = imb s := by
  simp [withTxn, hf]

@[simp] theorem imb_sendRequest {type : Nat} {addr : Nat} {len : Nat} {payload : List Byte} {fbase : BitVec 22} {t : TxFrame} {s : State} :
    imb (sendRequest type addr len payload fbase t s) = imb s := by
  rfl

@[simp] theorem imb_sendReply {p : PortId} {t : TxFrame} {s : State} : imb (sendReply p t s) = imb s := by
  simp [sendReply]

@[simp] theorem imb_engRespondAt {lead : Nat} {rstat : Nat} {data : List W32} {unchecked : Bool} {rand : List AWord} {s : State} :
    imb (engRespondAt lead rstat data unchecked rand s) = imb s := by
  unfold engRespondAt
  (repeat' split) <;> (try simp) <;> (try rw [imb_foldl]) <;> (try intro u x) <;> (repeat' split) <;> simp

@[simp] theorem imb_engRespond {rstat : Nat} {data : List W32} {unchecked : Bool} {rand : List AWord} {s : State} :
    imb (engRespond rstat data unchecked rand s) = imb s := by
  simp [engRespond]

@[simp] theorem imb_coreAnswer {status : Nat} {data : List Byte} {unchecked : Bool} {s : State} :
    imb (coreAnswer status data unchecked s) = imb s := by
  simp [coreAnswer]

@[simp] theorem imb_readDone {key : Nat} {a : Acc} {lead : Nat} {status : Nat} {data : List Byte} {ws : List AWord} {s : State} :
    imb (readDone key a lead status data ws s) = imb s := by
  unfold readDone
  (repeat' split) <;> (try simp) <;> (try rw [imb_foldl]) <;> (try intro u x) <;> (repeat' split) <;> simp

@[simp] theorem imb_endRead {key : Nat} {a : Acc} {len : Nat} {status : Nat} {ws : List AWord} {s : State} :
    imb (endRead key a len status ws s) = imb s := by
  simp [endRead]

@[simp] theorem imb_endBurst {key : Nat} {a : Acc} {pre : List W32} {post : List W32} {ws : List AWord} {s : State} :
    imb (endBurst key a pre post ws s) = imb s := by
  unfold endBurst
  (repeat' split) <;> (try simp) <;> (try rw [imb_foldl]) <;> (try intro u x) <;> (repeat' split) <;> simp

@[simp] theorem imb_syncQ {q : Nat} {s : State} : imb (syncQ q s) = imb s := by
  simp [syncQ]

@[simp] theorem imb_syncAll {s : State} : imb (syncAll s) = imb s := by
  simp [syncAll]

@[simp] theorem imb_addWaiter {q : Nat} {w : Waiter} {s : State} : imb (addWaiter q w s) = imb s := by
  simp [addWaiter]

@[simp] theorem imb_dropWaiter {q : Nat} {key : Nat} {s : State} : imb (dropWaiter q key s) = imb s := by
  simp [dropWaiter]

@[simp] theorem imb_dropWaits {id : Nat} {s : State} : imb (dropWaits id s) = imb s := by
  simp [dropWaits]

@[simp] theorem imb_issueWrite {id : Nat} {off : Nat} {bytes : List Byte} {ws : List AWord} {random : Bool} {tag : Option Tag} {s : State} :
    imb (issueWrite id off bytes ws random tag s) = imb s := by
  unfold issueWrite
  split <;> simp

@[simp] theorem imb_drawIssue {id : Nat} {u : Nat} {v : State} : imb (drawIssue id u v) = imb v := by
  fun_induction drawIssue id u v <;> simp_all

@[simp] theorem imb_resultIssue {id : Nat} {last : Bool} {u : Nat} {v : State} : imb (resultIssue id last u v) = imb v := by
  fun_induction resultIssue id last u v <;> simp_all

@[simp] theorem imb_pullUnsent {id : Nat} {beacons : Bool} {s : State} : imb (pullUnsent id beacons s) = imb s := by
  simp [pullUnsent]

@[simp] theorem imb_kerfFrames {why : WordKerf} {l : List TxFrame} {s : State} : imb (kerfFrames why l s) = imb s := by
  simp [kerfFrames]

@[simp] theorem imb_dropUnsent {why : WordKerf} {id : Nat} {s : State} : imb (dropUnsent why id s) = imb s := by
  unfold dropUnsent
  split <;> simp

@[simp] theorem imb_releaseUnits {id : Nat} {s : State} : imb (releaseUnits id s) = imb s := by
  simp [releaseUnits]

@[simp] theorem imb_stopJob {id : Nat} {status : BitVec 8} {why : Option WordKerf} {s : State} :
    imb (stopJob id status why s) = imb s := by
  unfold stopJob
  (repeat' split) <;> simp

@[simp] theorem imb_failJob {id : Nat} {status : BitVec 8} {why : Option WordKerf} {s : State} :
    imb (failJob id status why s) = imb s := by
  unfold failJob
  (repeat' split) <;> (try simp) <;> (try rw [imb_foldl]) <;> (try intro u x) <;> (repeat' split) <;> simp

@[simp] theorem imb_completeJob {id : Nat} {s : State} : imb (completeJob id s) = imb s := by
  unfold completeJob
  split <;> simp

@[simp] theorem imb_writeRecord {j : Job} {s : State} : imb (writeRecord j s) = imb s := by
  unfold writeRecord
  split <;> simp

@[simp] theorem imb_recordSweep {n : Nat} {s : State} : imb (recordSweep n s) = imb s := by
  induction n generalizing s with
  | zero => rfl
  | succ n ih =>
    unfold recordSweep recordStep
    cases s.job.jobs.find? (recordGoes s) <;> simp [ih]

@[simp] theorem imb_markWaiting {s : State} : imb (markWaiting s) = imb s := by
  simp [markWaiting]

@[simp] theorem imb_sweepRecords {s : State} : imb (sweepRecords s) = imb s := by
  simp [sweepRecords]

@[simp] theorem imb_storeWaiting {s : State} : imb (storeWaiting s) = imb s := by
  unfold storeWaiting
  split <;> simp

/-! ### Machine/Planes.lean -/

@[simp] theorem imb_updGrn {f : Grn → Grn} {s : State} : imb (updGrn f s) = imb s := by
  simp [updGrn]

@[simp] theorem imb_updPlane {b : Nat} {f : Plane → Plane} {s : State} : imb (updPlane b f s) = imb s := by
  simp [updPlane]

@[simp] theorem imb_closeBlock {b : Nat} {s : State} : imb (closeBlock b s) = imb s := by
  simp [closeBlock]

@[simp] theorem imb_blockCheck {b : Nat} {s : State} : imb (blockCheck b s) = imb s := by
  unfold blockCheck
  split <;> simp

@[simp] theorem imb_takeCellBit {b : Nat} {pos : Nat} {bit : Bool} {s : State} : imb (takeCellBit b pos bit s) = imb s := by
  simp [takeCellBit]

@[simp] theorem imb_takeWitBit {b : Nat} {bit : Bool} {s : State} : imb (takeWitBit b bit s) = imb s := by
  simp [takeWitBit]

@[simp] theorem imb_deliverSample {b : Nat} {pos : Nat} {bit : Bool} {s : State} : imb (deliverSample b pos bit s) = imb s := by
  unfold deliverSample
  (repeat' split) <;> simp

@[simp] theorem imb_startBlock {b : Nat} {s : State} : imb (startBlock b s) = imb s := by
  unfold startBlock
  split <;> simp

@[simp] theorem imb_planeNext {b : Nat} {s : State} : imb (planeNext b s) = imb s := by
  unfold planeNext
  split <;> simp

@[simp] theorem imb_bumpDisc {why : CreditKerf} {b : Nat} {s : State} : imb (bumpDisc why b s) = imb s := by
  unfold bumpDisc
  split <;> simp

@[simp] theorem imb_kerfBlock {why : CreditKerf} {b : Nat} {s : State} : imb (kerfBlock why b s) = imb s := by
  unfold kerfBlock
  split <;> simp

@[simp] theorem imb_kerfSeed {why : CreditKerf} {b : Nat} {s : State} : imb (kerfSeed why b s) = imb s := by
  unfold kerfSeed
  split <;> simp

@[simp] theorem imb_kerfInProgress {why : CreditKerf} {b : Nat} {s : State} : imb (kerfInProgress why b s) = imb s := by
  unfold kerfInProgress
  split <;> simp

@[simp] theorem imb_failBlock {b : Nat} {s : State} :
    imb (failBlock b s) = imb s := by
  unfold failBlock
  (repeat' split) <;> (try simp) <;> (try rw [imb_foldl]) <;> (try intro u x) <;> (repeat' split) <;> simp

@[simp] theorem imb_planeResume {b : Nat} {s : State} : imb (planeResume b s) = imb s := by
  unfold planeResume
  split <;> simp

@[simp] theorem imb_discardBlock {why : CreditKerf} {b : Nat} {s : State} : imb (discardBlock why b s) = imb s := by
  simp [discardBlock]

@[simp] theorem imb_haltPlane {why : CreditKerf} {b : Nat} {s : State} : imb (haltPlane why b s) = imb s := by
  unfold haltPlane
  split <;> simp

@[simp] theorem imb_planeOnBoard {b : Nat} {s : State} : imb (planeOnBoard b s) = imb s := by
  unfold planeOnBoard
  (repeat' split) <;> simp

@[simp] theorem imb_boardRefresh {left : Bool} {b : Nat} {s : State} :
    imb (boardRefresh left b s) = imb s := by
  unfold boardRefresh
  split <;> simp

@[simp] theorem imb_setSum {i : Nat} {s : State} : imb (setSum i s) = imb s := by
  simp [setSum]

@[simp] theorem imb_retireBoard {b : Nat} {cause : Nat} {s : State} : imb (retireBoard b cause s) = imb s := by
  simp [retireBoard]

/-! ### Machine/Sources.lean -/

@[simp] theorem imb_keyCheck {s : State} : imb (keyCheck s) = imb s := by
  simp [keyCheck]

@[simp] theorem imb_goSrc {code : Nat} {f : Source → Source} {s : State} : imb (goSrc code f s) = imb s := by
  simp [goSrc]

@[simp] theorem imb_retireSource {code : Nat} {byHealth : Bool} {s : State} : imb (retireSource code byHealth s) = imb s := by
  simp [retireSource]

@[simp] theorem imb_healthRecord {code : Nat} {test : Nat} {seas : Bool} {s : State} : imb (healthRecord code test seas s) = imb s := by
  unfold healthRecord
  split <;> simp

@[simp] theorem imb_countFailure {code : Nat} {seas : Bool} {rct : Bool} {apt : Bool} {s : State} :
    imb (countFailure code seas rct apt s) = imb s := by
  simp [countFailure]

@[simp] theorem imb_noteRetry {code : Nat} {s : State} : imb (noteRetry code s) = imb s := by
  simp [noteRetry]

@[simp] theorem imb_sourceFails {code : Nat} {seas : Bool} {rct : Bool} {apt : Bool} {s : State} :
    imb (sourceFails code seas rct apt s) = imb s := by
  unfold sourceFails
  split <;> simp

@[simp] theorem imb_seasonSample {code : Nat} {xcTested : Bool} {before : Bool} {rct : Bool} {apt : Bool} {s : State} :
    imb (seasonSample code xcTested before rct apt s) = imb s := by
  unfold seasonSample
  split <;> simp

@[simp] theorem imb_lineSample {code : Nat} {bit : Bool} {s : State} : imb (lineSample code bit s) = imb s := by
  unfold lineSample
  split <;> simp

@[simp] theorem imb_captureEnd {code : Nat} {s : State} : imb (captureEnd code s) = imb s := by
  simp [captureEnd]

@[simp] theorem imb_captureSample {code : Nat} {bit : Bool} {rct : Bool} {apt : Bool} {s : State} :
    imb (captureSample code bit rct apt s) = imb s := by
  simp [captureSample]

@[simp] theorem imb_sample {code : Nat} {bit : Bool} {s : State} : imb (sample code bit s) = imb s := by
  unfold sample
  (repeat' split) <;> simp

@[simp] theorem imb_grnRefuse {bit : Nat} {s : State} : imb (grnRefuse bit s) = imb s := by
  simp [grnRefuse]

@[simp] theorem imb_grnEnWrite {b : Nat} {v : W32} {s : State} : imb (grnEnWrite b v s) = imb s := by
  simp [grnEnWrite]

@[simp] theorem imb_grnRestart {code : Nat} {s : State} : imb (grnRestart code s) = imb s := by
  unfold grnRestart
  split <;> simp

@[simp] theorem imb_grnRetire {board : Bool} {idx : Nat} {s : State} : imb (grnRetire board idx s) = imb s := by
  simp [grnRetire]

@[simp] theorem imb_captureStart {code : Nat} {s : State} : imb (captureStart code s) = imb s := by
  simp [captureStart]

@[simp] theorem imb_rawAdvance {s : State} : imb (rawAdvance s) = imb s := by
  simp [rawAdvance]

@[simp] theorem imb_hltSnapAsk {s : State} : imb (hltSnapAsk s) = imb s := by
  simp [hltSnapAsk]

@[simp] theorem imb_hltSnapTake {s : State} : imb (hltSnapTake s) = imb s := by
  simp [hltSnapTake]

/-! ### Machine/Lanes.lean -/

@[simp] theorem imb_endIfDone {id : Nat} {s : State} : imb (endIfDone id s) = imb s := by
  unfold endIfDone
  split <;> simp

@[simp] theorem imb_testUnitDone {id : Nat} {unit : Nat} {ok : Bool} {s : State} : imb (testUnitDone id unit ok s) = imb s := by
  simp [testUnitDone]

@[simp] theorem imb_reseedJobs {n : Nat} {sat : Bool} {s : State} : imb (reseedJobs n sat s) = imb s := by
  unfold reseedJobs
  (repeat' split) <;> (try simp) <;> (try rw [imb_foldl]) <;> (try intro u x) <;> (repeat' split) <;> simp

@[simp] theorem imb_mixCheck {id : Nat} {s : State} : imb (mixCheck id s) = imb s := by
  unfold mixCheck
  split <;> simp

@[simp] theorem imb_mixLeave {n : Nat} {s : State} : imb (mixLeave n s) = imb s := by
  simp [mixLeave]

@[simp] theorem imb_mixFeed {n : Nat} {u : Nat} {v : State} : imb (mixFeed n u v) = imb v := by
  fun_induction mixFeed n u v <;> simp_all

@[simp] theorem imb_pieceAbsorbed {n : Nat} {s : State} : imb (pieceAbsorbed n s) = imb s := by
  unfold pieceAbsorbed
  (repeat' split) <;> simp

@[simp] theorem imb_rebindQueue {q : Nat} {s : State} : imb (rebindQueue q s) = imb s := by
  unfold rebindQueue
  (repeat' split) <;> simp

@[simp] theorem imb_rebindAll {n : Nat} {s : State} :
    imb (rebindAll n s) = imb s := by
  simp [rebindAll]

@[simp] theorem imb_placeOrphans {s : State} : imb (placeOrphans s) = imb s := by
  unfold placeOrphans
  (repeat' split) <;> (try simp) <;> (try rw [imb_foldl]) <;> (try intro u x) <;> (repeat' split) <;> simp

@[simp] theorem imb_placeRefresh {s : State} : imb (placeRefresh s) = imb s := by
  unfold placeRefresh
  (repeat' split) <;> simp

@[simp] theorem imb_refreshDone {n : Nat} {s : State} :
    imb (refreshDone n s) = imb s := by
  unfold refreshDone
  (repeat' split) <;> (try simp) <;> (try rw [imb_foldl]) <;> (try intro u x) <;> (repeat' split) <;> simp

@[simp] theorem imb_laneLeave {n : Nat} {st : LaneState} {s : State} : imb (laneLeave n st s) = imb s := by
  unfold laneLeave
  split <;> simp

@[simp] theorem imb_laneKat {n : Nat} {s : State} : imb (laneKat n s) = imb s := by
  simp [laneKat]

@[simp] theorem imb_laneBoundary {n : Nat} {s : State} : imb (laneBoundary n s) = imb s := by
  unfold laneBoundary
  split <;> simp

@[simp] theorem imb_laneStart {n : Nat} {s : State} : imb (laneStart n s) = imb s := by
  simp [laneStart]

@[simp] theorem imb_lanKatSettle {s : State} : imb (lanKatSettle s) = imb s := by
  unfold lanKatSettle
  split <;> simp

@[simp] theorem imb_lanKatsGone {n : Nat} {l : List KatWho} {s : State} : imb (lanKatsGone n l s) = imb s := by
  unfold lanKatsGone
  (repeat' split) <;> (try simp) <;> (try rw [imb_foldl]) <;> (try intro u x) <;> (repeat' split) <;> simp

@[simp] theorem imb_laneFault {n : Nat} {cause : Nat} {s : State} : imb (laneFault n cause s) = imb s := by
  unfold laneFault
  split <;> simp

@[simp] theorem imb_laneDemand {n : Nat} {s : State} : imb (laneDemand n s) = imb s := by
  unfold laneDemand
  split <;> simp

@[simp] theorem imb_limitsChanged {s : State} : imb (limitsChanged s) = imb s := by
  simp [limitsChanged]

@[simp] theorem imb_laneSeeded {n : Nat} {k : Seed} {s : State} : imb (laneSeeded n k s) = imb s := by
  unfold laneSeeded
  split <;> simp

@[simp] theorem imb_handover {s : State} : imb (handover s) = imb s := by
  unfold handover
  (repeat' split) <;> simp

@[simp] theorem imb_seedReady {b : Nat} {s : State} : imb (seedReady b s) = imb s := by
  unfold seedReady
  (repeat' split) <;> simp

@[simp] theorem imb_seedAged {b : Nat} {s : State} : imb (seedAged b s) = imb s := by
  unfold seedAged
  split <;> simp

@[simp] theorem imb_planeKat {b : Nat} {who : KatWho} {s : State} : imb (planeKat b who s) = imb s := by
  simp [planeKat]

@[simp] theorem imb_plnRun {mask : Nat} {who : KatWho} {s : State} : imb (plnRun mask who s) = imb s := by
  simp [plnRun]

@[simp] theorem imb_plnRunNext {l : List Nat} {s : State} : imb (plnRunNext l s) = imb s := by
  induction l generalizing s with
  | nil => simp [plnRunNext]
  | cons id ids ih =>
    unfold plnRunNext
    (repeat' split) <;> simp [ih]

@[simp] theorem imb_plnTest {id : Nat} {mask : Nat} {s : State} : imb (plnTest id mask s) = imb s := by
  simp [plnTest]

@[simp] theorem imb_planeKatReport {b : Nat} {who : KatWho} {s : State} : imb (planeKatReport b who s) = imb s := by
  unfold planeKatReport
  cases who <;> simp [KatWho.commanded]

@[simp] theorem imb_planeKatFailed {b : Nat} {who : KatWho} {s : State} : imb (planeKatFailed b who s) = imb s := by
  unfold planeKatFailed
  split <;> simp

@[simp] theorem imb_planeKatDone {b : Nat} {compOk : Bool} {hashOk : Bool} {s : State} :
    imb (planeKatDone b compOk hashOk s) = imb s := by
  unfold planeKatDone
  (repeat' split) <;> simp

@[simp] theorem imb_plnKatCmd {mask : Nat} {s : State} : imb (plnKatCmd mask s) = imb s := by
  simp [plnKatCmd]

@[simp] theorem imb_askLaneKat {n : Nat} {who : KatWho} {s : State} : imb (askLaneKat n who s) = imb s := by
  simp [askLaneKat]

@[simp] theorem imb_lanRun {s : State} : imb (lanRun s) = imb s := by
  simp [lanRun]

@[simp] theorem imb_laneKatReport {n : Nat} {who : KatWho} {s : State} : imb (laneKatReport n who s) = imb s := by
  unfold laneKatReport
  cases who <;> simp

@[simp] theorem imb_laneKatFailed {n : Nat} {s : State} : imb (laneKatFailed n s) = imb s := by
  simp [laneKatFailed]

@[simp] theorem imb_laneKatDone {n : Nat} {ok : Bool} {s : State} : imb (laneKatDone n ok s) = imb s := by
  unfold laneKatDone
  (repeat' split) <;> simp

@[simp] theorem imb_lanErr {bit : Nat} {s : State} : imb (lanErr bit s) = imb s := by
  simp [lanErr]

@[simp] theorem imb_lanRefuse {bit : Nat} {s : State} : imb (lanRefuse bit s) = imb s := by
  simp [lanRefuse]

@[simp] theorem imb_lanCmd {mask : Nat} {reseed : Bool} {kat : Bool} {s : State} : imb (lanCmd mask reseed kat s) = imb s := by
  simp [lanCmd]

@[simp] theorem imb_lanEnWrite {v : W32} {s : State} : imb (lanEnWrite v s) = imb s := by
  unfold lanEnWrite
  (repeat' split) <;> (try simp) <;> (try rw [imb_foldl]) <;> (try intro u x) <;> (repeat' split) <;> simp

@[simp] theorem imb_prUnbind {q : Nat} {s : State} :
    imb (prUnbind q s) = imb s := by
  unfold prUnbind
  (repeat' split) <;> (try simp) <;> (try rw [imb_foldl]) <;> (try intro u x) <;> (repeat' split) <;> simp

@[simp] theorem imb_lanQbindWrite {q : Nat} {v : W32} {s : State} : imb (lanQbindWrite q v s) = imb s := by
  simp [lanQbindWrite]

@[simp] theorem imb_laneTimeCap {n : Nat} {s : State} : imb (laneTimeCap n s) = imb s := by
  unfold laneTimeCap
  split <;> simp

@[simp] theorem imb_settleLanes {s : State} :
    imb (settleLanes s) = imb s := by
  unfold settleLanes
  (repeat' split) <;> (try simp) <;> (try rw [imb_foldl]) <;> (try intro u x) <;> (repeat' split) <;> simp

@[simp] theorem imb_eachBoard {f : Nat → State → State} {s : State} (hf : ∀ u0 u1, imb (f u0 u1) = imb u1) :
    imb (eachBoard f s) = imb s := by
  simp [eachBoard, hf]

@[simp] theorem imb_dropMarked {b : Nat} {s : State} : imb (dropMarked b s) = imb s := by
  simp [dropMarked]

@[simp] theorem imb_afterDrop {b : Nat} {s : State} : imb (afterDrop b s) = imb s := by
  unfold afterDrop
  split <;> simp

@[simp] theorem imb_restartAll {s : State} : imb (restartAll s) = imb s := by
  simp [restartAll]

@[simp] theorem imb_forceUnmarked {s : State} : imb (forceUnmarked s) = imb s := by
  simp [forceUnmarked]

@[simp] theorem imb_modeChange {before : Bool} {s : State} : imb (modeChange before s) = imb s := by
  simp [modeChange]

/-! ### Machine/Give.lean -/

@[simp] theorem imb_beaconFlushed {id : Nat} {s : State} : imb (beaconFlushed id s) = imb s := by
  unfold beaconFlushed
  split <;> simp

@[simp] theorem imb_jobAsk {id : Nat} {s : State} : imb (jobAsk id s) = imb s := by
  simp only [jobAsk]
  (repeat' split) <;> simp

@[simp] theorem imb_finishCheck {id : Nat} {s : State} : imb (finishCheck id s) = imb s := by
  unfold finishCheck
  split <;> simp

@[simp] theorem imb_issueResult {id : Nat} {bytes : List Byte} {status : BitVec 8} {s : State} :
    imb (issueResult id bytes status s) = imb s := by
  simp [issueResult]

@[simp] theorem imb_permDone {id : Nat} {s : State} : imb (permDone id s) = imb s := by
  unfold permDone
  split <;> simp

@[simp] theorem imb_permStart {id : Nat} {s : State} : imb (permStart id s) = imb s := by
  unfold permStart
  split <;> simp

@[simp] theorem imb_permNext {u : Nat} {v : State} : imb (permNext u v) = imb v := by
  fun_induction permNext u v <;> simp_all

@[simp] theorem imb_acceptInt {id : Nat} {v : Nat} {tag : Tag} {s : State} : imb (acceptInt id v tag s) = imb s := by
  unfold acceptInt
  split <;> simp

@[simp] theorem imb_acceptSwap {id : Nat} {c : Nat} {s : State} : imb (acceptSwap id c s) = imb s := by
  simp [acceptSwap]

@[simp] theorem imb_wordsDone {id : Nat} {s : State} : imb (wordsDone id s) = imb s := by
  unfold wordsDone
  split <;> simp

@[simp] theorem imb_resultGo {id : Nat} {s : State} : imb (resultGo id s) = imb s := by
  unfold resultGo
  split <;> simp

@[simp] theorem imb_distEnd {id : Nat} {s : State} : imb (distEnd id s) = imb s := by
  unfold distEnd
  split <;> simp

@[simp] theorem imb_distTest {id : Nat} {s : State} : imb (distTest id s) = imb s := by
  unfold distTest
  (repeat' split) <;> simp

@[simp] theorem imb_mstErr {bit : Nat} {s : State} : imb (mstErr bit s) = imb s := by
  simp [mstErr]

@[simp] theorem imb_readFailed {id : Nat} {s : State} : imb (readFailed id s) = imb s := by
  unfold readFailed
  split <;> simp

@[simp] theorem imb_issueRead {id : Nat} {s : State} : imb (issueRead id s) = imb s := by
  unfold issueRead
  (repeat' split) <;> simp

@[simp] theorem imb_readKeep {id : Nat} {r : SrcRead} {s : State} : imb (readKeep id r s) = imb s := by
  unfold readKeep
  split <;> simp

@[simp] theorem imb_readBegin {id : Nat} {what : ReadFor} {addr : Nat} {total : Nat} {s : State} :
    imb (readBegin id what addr total s) = imb s := by
  unfold readBegin
  (repeat' split) <;> simp

@[simp] theorem imb_batchGo {id : Nat} {s : State} : imb (batchGo id s) = imb s := by
  unfold batchGo
  split <;> simp

@[simp] theorem imb_fetchRun {id : Nat} {u : Nat} {v : State} : imb (fetchRun id u v) = imb v := by
  fun_induction fetchRun id u v <;> simp_all

@[simp] theorem imb_hashNext {u : Nat} {v : State} : imb (hashNext u v) = imb v := by
  fun_induction hashNext u v <;> simp_all

@[simp] theorem imb_takeCoefs {id : Nat} {ws : List AWord} {s : State} : imb (takeCoefs id ws s) = imb s := by
  simp [takeCoefs]

@[simp] theorem imb_jobGive {id : Nat} {ws : List AWord} {s : State} : imb (jobGive id ws s) = imb s := by
  simp only [jobGive]
  (repeat' split) <;> simp

@[simp] theorem imb_peerGive {slot : Nat} {ws : List AWord} {s : State} : imb (peerGive slot ws s) = imb s := by
  unfold peerGive
  split <;> simp

@[simp] theorem imb_giveWords {w : Waiter} {ws : List AWord} {s : State} : imb (giveWords w ws s) = imb s := by
  unfold giveWords
  split <;> simp

/-! ### Machine/CalOps.lean -/

@[simp] theorem imb_calRestart {code : Nat} {s : State} : imb (calRestart code s) = imb s := by
  simp [calRestart]

@[simp] theorem imb_calApply {c : Cal} {s : State} : imb (calApply c s) = imb s := by
  simp [calApply]

@[simp] theorem imb_calRestoreGroups {req : ReqId} {groups : BitVec 4} {s : State} : imb (calRestoreGroups req groups s) = imb s := by
  simp [calRestoreGroups]

/-! ### Machine/Jobs.lean -/

@[simp] theorem imb_addJob {j : Job} {s : State} : imb (addJob j s) = imb s := by
  simp [addJob]

@[simp] theorem imb_progRecord {req : ReqId} {path : Path} {words : Nat} {s : State} : imb (progRecord req path words s) = imb s := by
  simp [progRecord]

@[simp] theorem imb_rejectJob {j : Job} {status : BitVec 8} {s : State} : imb (rejectJob j status s) = imb s := by
  simp [rejectJob]

@[simp] theorem imb_benchKat {n : Nat} {who : KatWho} {s : State} : imb (benchKat n who s) = imb s := by
  simp [benchKat]

@[simp] theorem imb_bneRun {s : State} : imb (bneRun s) = imb s := by
  simp [bneRun]

@[simp] theorem imb_bneKatSettle {s : State} : imb (bneKatSettle s) = imb s := by
  unfold bneKatSettle
  split <;> simp

@[simp] theorem imb_hashKat {who : KatWho} {s : State} : imb (hashKat who s) = imb s := by
  simp [hashKat]

@[simp] theorem imb_testStart {id : Nat} {j : Job} {s : State} : imb (testStart id j s) = imb s := by
  simp [testStart]

@[simp] theorem imb_mixStart {id : Nat} {j : Job} {s : State} : imb (mixStart id j s) = imb s := by
  simp [mixStart]

@[simp] theorem imb_reseedStart {id : Nat} {j : Job} {s : State} : imb (reseedStart id j s) = imb s := by
  simp [reseedStart]

@[simp] theorem imb_benchWait {id : Nat} {s : State} : imb (benchWait id s) = imb s := by
  unfold benchWait
  split <;> simp

@[simp] theorem imb_verifyStart {id : Nat} {j : Job} {s : State} : imb (verifyStart id j s) = imb s := by
  simp [verifyStart]

@[simp] theorem imb_tallyStart {id : Nat} {s : State} : imb (tallyStart id s) = imb s := by
  simp [tallyStart]

@[simp] theorem imb_restoreStart {id : Nat} {j : Job} {s : State} : imb (restoreStart id j s) = imb s := by
  simp [restoreStart]

@[simp] theorem imb_voidVerdict {v : Nat} {k : Job} {s : State} :
    imb (voidVerdict v k s) = imb s := by
  unfold voidVerdict
  (repeat' split) <;> (try simp) <;> (try rw [imb_foldl]) <;> (try intro u x) <;> (repeat' split) <;> simp

@[simp] theorem imb_leaveLine {v : Nat} {s : State} :
    imb (leaveLine v s) = imb s := by
  unfold leaveLine
  (repeat' split) <;> (try simp) <;> (try rw [imb_foldl]) <;> (try intro u x) <;> (repeat' split) <;> simp

@[simp] theorem imb_abortTarget {v : Nat} {s : State} : imb (abortTarget v s) = imb s := by
  unfold abortTarget
  split <;> simp

@[simp] theorem imb_abortStart {id : Nat} {j : Job} {s : State} : imb (abortStart id j s) = imb s := by
  simp only [abortStart]
  (repeat' split) <;> simp

@[simp] theorem imb_startJob {id : Nat} {s : State} : imb (startJob id s) = imb s := by
  unfold startJob
  split <;> simp

@[simp] theorem imb_acceptJob {j : Job} {at_ : Option (BitVec 32)} {s : State} : imb (acceptJob j at_ s) = imb s := by
  simp [acceptJob]

@[simp] theorem imb_syncParser {s : State} : imb (syncParser s) = imb s := by
  simp [syncParser]

@[simp] theorem imb_discardRun {r : ReqId} {s : State} : imb (discardRun r s) = imb s := by
  unfold discardRun
  (repeat' split) <;> simp

@[simp] theorem imb_parsePeg {r : ReqId} {h : Word} {s : State} : imb (parsePeg r h s) = imb s := by
  simp [parsePeg]

@[simp] theorem imb_dropAt {r : ReqId} {s : State} : imb (dropAt r s) = imb s := by
  unfold dropAt
  split <;> simp

@[simp] theorem imb_parseOne {r : ReqId} {s : State} : imb (parseOne r s) = imb s := by
  simp only [parseOne]
  (repeat' split) <;> simp

@[simp] theorem imb_parseIf {p : Word → Bool} {s : State} : imb (parseIf p s) = imb s := by
  simp only [parseIf]
  (repeat' split) <;> simp

@[simp] theorem imb_parseOp {op : BitVec 8} {s : State} : imb (parseOp op s) = imb s := by
  simp [parseOp]

@[simp] theorem imb_appendWords {a : Acc} {ws : List Word} {s : State} : imb (appendWords a ws s) = imb s := by
  simp only [appendWords]
  (repeat' split) <;> simp

@[simp] theorem imb_submit {a : Acc} {w : Nat} {bytes : List Byte} {s : State} : imb (submit a w bytes s).2 = imb s := by
  simp only [submit]
  (repeat' split) <;> simp

@[simp] theorem imb_startFree {r : ReqId} {s : State} : imb (startFree r s) = imb s := by
  simp [startFree]

@[simp] theorem imb_fenceRelease {r : ReqId} {s : State} : imb (fenceRelease r s) = imb s := by
  unfold fenceRelease
  (repeat' split) <;> simp

@[simp] theorem imb_countLaunch {late : Bool} {rej : Bool} {s : State} : imb (countLaunch late rej s) = imb s := by
  simp [countLaunch]

@[simp] theorem imb_rejectLaunch {id : Nat} {s : State} : imb (rejectLaunch id s) = imb s := by
  unfold rejectLaunch
  split <;> simp

@[simp] theorem imb_atLaunch {id : Nat} {s : State} : imb (atLaunch id s) = imb s := by
  unfold atLaunch
  (repeat' split) <;> simp

@[simp] theorem imb_beaconAsk {id : Nat} {s : State} : imb (beaconAsk id s) = imb s := by
  unfold beaconAsk
  split <;> simp

@[simp] theorem imb_beaconLaunch {id : Nat} {s : State} : imb (beaconLaunch id s) = imb s := by
  unfold beaconLaunch
  (repeat' split) <;> simp

@[simp] theorem imb_tagSelWrite {v : W32} {s : State} : imb (tagSelWrite v s) = imb s := by
  simp [tagSelWrite]

@[simp] theorem imb_engineLost {s : State} : imb (engineLost s) = imb s := by
  simp [engineLost]

/-! ### Machine/Stack.lean -/

@[simp] theorem imb_stkRefuse {bit : Nat} {s : State} : imb (stkRefuse bit s) = imb s := by
  simp [stkRefuse]

@[simp] theorem imb_peerSkipped {s : State} : imb (peerSkipped s) = imb s := by
  simp [peerSkipped]

@[simp] theorem imb_flushWaiter {q : Nat} {w : Waiter} {s : State} : imb (flushWaiter q w s) = imb s := by
  simp only [flushWaiter]
  (repeat' split) <;> simp

@[simp] theorem imb_flushWaiters {q : Nat} {s : State} : imb (flushWaiters q s) = imb s := by
  unfold flushWaiters
  split <;> simp

@[simp] theorem imb_dropSegments {q : Nat} {why : WordKerf} {s : State} :
    imb (dropSegments q why s) = imb s := by
  unfold dropSegments
  (repeat' split) <;> (try simp) <;> (try rw [imb_foldl]) <;> (try intro u x) <;> (repeat' split) <;> simp

@[simp] theorem imb_queueFlush {q : Nat} {s : State} : imb (queueFlush q s) = imb s := by
  unfold queueFlush
  split <;> simp

@[simp] theorem imb_queueVoid {q : Nat} {s : State} : imb (queueVoid q s) = imb s := by
  unfold queueVoid
  split <;> simp

@[simp] theorem imb_voidCheck {qs : List Nat} {s : State} : imb (voidCheck qs s) = imb s := by
  simp [voidCheck]

@[simp] theorem imb_retireRegion {r : Nat} {s : State} : imb (retireRegion r s) = imb s := by
  simp only [retireRegion]
  (repeat' split) <;> simp

@[simp] theorem imb_countCe {a : Nat} {s : State} : imb (countCe a s) = imb s := by
  simp [countCe]

@[simp] theorem imb_handleUe {a : Nat} {s : State} : imb (handleUe a s) = imb s := by
  simp [handleUe]

@[simp] theorem imb_patrolRead {a : Nat} {e : EccResult} {s : State} : imb (patrolRead a e s) = imb s := by
  unfold patrolRead
  (repeat' split) <;> simp

@[simp] theorem imb_passVoid {q : Nat} {u : Nat} {v : State} :
    imb (passVoid q u v) = imb v := by
  fun_induction passVoid q u v <;> simp_all

@[simp] theorem imb_passVoids {s : State} :
    imb (passVoids s) = imb s := by
  unfold passVoids
  (repeat' split) <;> (try simp) <;> (try rw [imb_foldl]) <;> (try intro u x) <;> (repeat' split) <;> simp

@[simp] theorem imb_deliveryReady {q : Nat} {s : State} : imb (deliveryReady q s) = imb s := by
  simp [deliveryReady]

@[simp] theorem imb_writeSegment {q : Nat} {slots : List Nat} {w : Nat} {ws : List Word} {tag : Tag} {s : State} :
    imb (writeSegment q slots w ws tag s) = imb s := by
  unfold writeSegment
  split <;> simp

@[simp] theorem imb_segmentOffer {n : Nat} {s : State} : imb (segmentOffer n s) = imb s := by
  unfold segmentOffer
  (repeat' split) <;> simp

@[simp] theorem imb_laneGenerate {n : Nat} {k : Nat} {l : Lane} {s : State} : imb (laneGenerate n k l s).2 = imb s := by
  simp [laneGenerate]

@[simp] theorem imb_cutLane {n : Nat} {left : Nat} {s : State} : imb (cutLane n left s) = imb s := by
  simp [cutLane]

@[simp] theorem imb_refreshUsed {s : State} :
    imb (refreshUsed s) = imb s := by
  unfold refreshUsed
  (repeat' split) <;> (try simp) <;> (try rw [imb_foldl]) <;> (try intro u x) <;> (repeat' split) <;> simp

@[simp] theorem imb_laneServe {n : Nat} {l : Lane} {p : PrReq} {cut : Option Nat} {s : State} : imb (laneServe n l p cut s) = imb s := by
  unfold laneServe
  (repeat' split) <;> simp

@[simp] theorem imb_laneProduce {n : Nat} {l : Lane} {cut : Option Nat} {s : State} : imb (laneProduce n l cut s) = imb s := by
  unfold laneProduce
  (repeat' split) <;> simp

@[simp] theorem imb_laneSegment {n : Nat} {cut : Option Nat} {s : State} : imb (laneSegment n cut s) = imb s := by
  unfold laneSegment
  (repeat' split) <;> simp

@[simp] theorem imb_mixAbsorb {n : Nat} {s : State} : imb (mixAbsorb n s) = imb s := by
  unfold mixAbsorb
  (repeat' split) <;> simp

@[simp] theorem imb_ageScrub {q : Nat} {s : State} : imb (ageScrub q s) = imb s := by
  unfold ageScrub
  split <;> simp

@[simp] theorem imb_readWords {q : Nat} {key : Nat} {u : Nat} {v : GrantEcc} {w : State} :
    imb (readWords q key u v w) = imb w := by
  fun_induction readWords q key u v w <;> simp_all +zetaDelta

@[simp] theorem imb_grantAllot {q : Nat} {ecc : GrantEcc} {s : State} : imb (grantAllot q ecc s) = imb s := by
  simp only [grantAllot]
  (repeat' split) <;> simp

@[simp] theorem imb_takeSlot {a : Acc} {key : Nat} {s : State} : imb (takeSlot a key s) = imb s := by
  unfold takeSlot
  split <;> simp

@[simp] theorem imb_readWait {a : Acc} {q : Nat} {len : Nat} {what : WaitFor} {cmp : Bool} {s : State} :
    imb (readWait a q len what cmp s) = imb s := by
  unfold readWait
  split <;> simp

@[simp] theorem imb_stallingRead {a : Acc} {q : Nat} {len : Nat} {what : WaitFor} {hold : Bool} {cmp : Bool} {s : State} :
    imb (stallingRead a q len what hold cmp s) = imb s := by
  unfold stallingRead
  (repeat' split) <;> (try simp) <;> (try rw [imb_foldl]) <;> (try intro u x) <;> (repeat' split) <;> simp

@[simp] theorem imb_deliveryRead {a : Acc} {q : Nat} {len : Nat} {hold : Bool} {cmp : Bool} {s : State} :
    imb (deliveryRead a q len hold cmp s) = imb s := by
  simp [deliveryRead]

@[simp] theorem imb_cmpRefresh {s : State} : imb (cmpRefresh s) = imb s := by
  simp [cmpRefresh]

@[simp] theorem imb_stallWaiter {q : Nat} {w : Waiter} {s : State} : imb (stallWaiter q w s) = imb s := by
  simp only [stallWaiter]
  (repeat' split) <;> simp

@[simp] theorem imb_stallExpire {w : WaitId} {s : State} : imb (stallExpire w s) = imb s := by
  unfold stallExpire
  (repeat' split) <;> simp

@[simp] theorem imb_dropKinds {p : PortId} {ks : List TxKind} {s : State} : imb (dropKinds p ks s) = imb s := by
  simp [dropKinds]

@[simp] theorem imb_endWrite {id : Nat} {no : Nat} {st : WState} {s : State} : imb (endWrite id no st s) = imb s := by
  simp [endWrite]

@[simp] theorem imb_endBeacon {id : Nat} {st : WState} {s : State} : imb (endBeacon id st s) = imb s := by
  unfold endBeacon
  split <;> simp

@[simp] theorem imb_forceJob {k : TxKind} {s : State} : imb (forceJob k s) = imb s := by
  unfold forceJob
  split <;> simp

@[simp] theorem imb_markForced {q : Nat} {s : State} : imb (markForced q s) = imb s := by
  unfold markForced
  split <;> simp

@[simp] theorem imb_resultDrop {p : PortId} {txn : BitVec 16} {s : State} : imb (resultDrop p txn s) = imb s := by
  unfold resultDrop
  (repeat' split) <;> simp

@[simp] theorem imb_queueOn {q : Nat} {s : State} : imb (queueOn q s) = imb s := by
  unfold queueOn
  split <;> simp

@[simp] theorem imb_queueOffWrite {q : Nat} {flush : Bool} {s : State} : imb (queueOffWrite q flush s) = imb s := by
  unfold queueOffWrite
  split <;> simp

@[simp] theorem imb_dqCtrlWrite {q : Nat} {v : W32} {s : State} : imb (dqCtrlWrite q v s) = imb s := by
  simp [dqCtrlWrite]

@[simp] theorem imb_dqConfigWrite {q : Nat} {size : Bool} {v : W32} {s : State} : imb (dqConfigWrite q size v s) = imb s := by
  unfold dqConfigWrite
  split <;> simp

@[simp] theorem imb_dqWmWrite {q : Nat} {v : W32} {s : State} : imb (dqWmWrite q v s) = imb s := by
  simp [dqWmWrite]

@[simp] theorem imb_stkTagSel {v : W32} {s : State} : imb (stkTagSel v s) = imb s := by
  simp [stkTagSel]

@[simp] theorem imb_clearDone {s : State} : imb (clearDone s) = imb s := by
  simp [clearDone]

/-! ### Machine/Bench.lean -/

@[simp] theorem imb_updBench {n : Nat} {f : Bench → Bench} {s : State} : imb (updBench n f s) = imb s := by
  simp [updBench]

@[simp] theorem imb_bneRefuse {n : Nat} {bit : Nat} {s : State} : imb (bneRefuse n bit s) = imb s := by
  simp [bneRefuse]

@[simp] theorem imb_syncBench {s : State} : imb (syncBench s) = imb s := by
  simp [syncBench]

@[simp] theorem imb_benchJobStart {s : State} : imb (benchJobStart s) = imb s := by
  simp only [benchJobStart]
  (repeat' split) <;> simp

@[simp] theorem imb_denyOrphans {s : State} : imb (denyOrphans s) = imb s := by
  simp [denyOrphans]

@[simp] theorem imb_starveWaiters {s : State} : imb (starveWaiters s) = imb s := by
  simp [starveWaiters]

@[simp] theorem imb_benchSettle {s : State} : imb (benchSettle s) = imb s := by
  simp [benchSettle]

@[simp] theorem imb_idleTouch {s : State} : imb (idleTouch s) = imb s := by
  simp [idleTouch]

@[simp] theorem imb_benchClaim {r : ReqId} {n : Nat} {s : State} : imb (benchClaim r n s) = imb s := by
  simp [benchClaim]

@[simp] theorem imb_endOwner {n : Nat} {s : State} : imb (endOwner n s) = imb s := by
  simp [endOwner]

@[simp] theorem imb_benchRelease {r : ReqId} {n : Nat} {s : State} : imb (benchRelease r n s) = imb s := by
  unfold benchRelease
  split <;> simp

@[simp] theorem imb_benchIdleTimeout {n : Nat} {s : State} : imb (benchIdleTimeout n s) = imb s := by
  unfold benchIdleTimeout
  (repeat' split) <;> simp

@[simp] theorem imb_benchWindow {r : ReqId} {n : Nat} {off : Nat} {op : WindowOp} {s : State} :
    imb (benchWindow r n off op s).2.2 = imb s := by
  simp only [benchWindow]
  (repeat' split) <;> simp

@[simp] theorem imb_benchEnd {n : Nat} {s : State} : imb (benchEnd n s) = imb s := by
  unfold benchEnd
  (repeat' split) <;> simp

@[simp] theorem imb_verdictEnd {n : Nat} {id : Nat} {status : BitVec 8} {count : Nat} {confirmed : Bool} {s : State} :
    imb (verdictEnd n id status count confirmed s) = imb s := by
  simp [verdictEnd]

@[simp] theorem imb_mismatch {n : Nat} {id : Nat} {s : State} : imb (mismatch n id s) = imb s := by
  unfold mismatch
  split <;> simp

@[simp] theorem imb_verifyVerdict {n : Nat} {id : Nat} {j : Job} {agree : Bool} {s : State} :
    imb (verifyVerdict n id j agree s) = imb s := by
  simp [verifyVerdict]

@[simp] theorem imb_batchEnd {n : Nat} {id : Nat} {j : Job} {ok : List Nat} {s : State} : imb (batchEnd n id j ok s) = imb s := by
  simp [batchEnd]

@[simp] theorem imb_batchVerdict {n : Nat} {id : Nat} {j : Job} {agree : Bool} {s : State} :
    imb (batchVerdict n id j agree s) = imb s := by
  simp [batchVerdict]

@[simp] theorem imb_benchVerdict {n : Nat} {agree : Bool} {s : State} : imb (benchVerdict n agree s) = imb s := by
  unfold benchVerdict
  (repeat' split) <;> simp

@[simp] theorem imb_dropBenchKats {n : Nat} {s : State} : imb (dropBenchKats n s) = imb s := by
  unfold dropBenchKats
  (repeat' split) <;> (try simp) <;> (try rw [imb_foldl]) <;> (try intro u x) <;> (repeat' split) <;> simp

@[simp] theorem imb_retireBench {n : Nat} {cause : Nat} {s : State} : imb (retireBench n cause s) = imb s := by
  simp [retireBench]

@[simp] theorem imb_benchClearDone {n : Nat} {s : State} : imb (benchClearDone n s) = imb s := by
  unfold benchClearDone
  split <;> simp

@[simp] theorem imb_ucodeUncorrectable {s : State} : imb (ucodeUncorrectable s) = imb s := by
  unfold ucodeUncorrectable
  (repeat' split) <;> (try simp) <;> (try rw [imb_foldl]) <;> (try intro u x) <;> (repeat' split) <;> simp

@[simp] theorem imb_ucodeStoreError {unc : Bool} {s : State} : imb (ucodeStoreError unc s) = imb s := by
  simp [ucodeStoreError]

@[simp] theorem imb_bneKatCmd {v : W32} {s : State} : imb (bneKatCmd v s) = imb s := by
  simp [bneKatCmd]

@[simp] theorem imb_bneKatReport {unit : Nat} {who : KatWho} {ok : Bool} {s : State} : imb (bneKatReport unit who ok s) = imb s := by
  unfold bneKatReport
  cases who <;> simp

@[simp] theorem imb_benchKatDone {n : Nat} {ok : Bool} {s : State} : imb (benchKatDone n ok s) = imb s := by
  unfold benchKatDone
  (repeat' split) <;> simp

@[simp] theorem imb_hashKatDone {ok : Bool} {s : State} : imb (hashKatDone ok s) = imb s := by
  unfold hashKatDone
  (repeat' split) <;> simp

@[simp] theorem imb_syncHash {s : State} : imb (syncHash s) = imb s := by
  simp [syncHash]

@[simp] theorem imb_digestDone {id : Nat} {r : SrcRead} {d : List Byte} {s : State} : imb (digestDone id r d s) = imb s := by
  unfold digestDone
  split <;> simp

@[simp] theorem imb_hashTurnDone {s : State} : imb (hashTurnDone s) = imb s := by
  simp only [hashTurnDone]
  (repeat' split) <;> simp

/-! ### Machine/RingLink.lean -/

@[simp] theorem imb_onPort {p : PortId} {f : Port → Port} {s : State} : imb (onPort p f s) = imb s := by
  simp [onPort]

@[simp] theorem imb_giveCredit {p : PortId} {pool : Nat} {s : State} : imb (giveCredit p pool s) = imb s := by
  simp [giveCredit]

@[simp] theorem imb_rxFrame {p : PortId} {f : Frame} {s : State} : imb (rxFrame p f s) = imb s := by
  simp [rxFrame]

@[simp] theorem imb_rxAccess {p : PortId} {hold : Bool} {mark : Bool} {s : State} :
    imb (rxAccess p hold mark s) = imb s := by
  simp [rxAccess]

@[simp] theorem imb_noteSent {p : PortId} {t : TxFrame} {s : State} : imb (noteSent p t s) = imb s := by
  simp [noteSent]

@[simp] theorem imb_noteBcast {p : PortId} {t : TxFrame} {s : State} : imb (noteBcast p t s) = imb s := by
  simp [noteBcast]

@[simp] theorem imb_freeTransit {t : TxFrame} {s : State} : imb (freeTransit t s) = imb s := by
  unfold freeTransit
  split <;> simp

@[simp] theorem imb_sendAt {p : PortId} {i : Nat} {s : State} : imb (sendAt p i s) = imb s := by
  simp only [sendAt]
  (repeat' split) <;> simp

@[simp] theorem imb_pumpPort {p : PortId} {u : Nat} {v : State} : imb (pumpPort p u v) = imb v := by
  fun_induction pumpPort p u v <;> simp_all

@[simp] theorem imb_creditWait {p : PortId} {s : State} : imb (creditWait p s) = imb s := by
  simp [creditWait]

@[simp] theorem imb_pump {s : State} : imb (pump s) = imb s := by
  simp [pump]

@[simp] theorem imb_sendIdent {p : PortId} {s : State} : imb (sendIdent p s) = imb s := by
  simp [sendIdent]

@[simp] theorem imb_sendIdents {s : State} : imb (sendIdents s) = imb s := by
  simp [sendIdents]

@[simp] theorem imb_linkSend {p : PortId} {s : State} : imb (linkSend p s) = imb s := by
  simp [linkSend]

@[simp] theorem imb_replay {p : PortId} {s : State} : imb (replay p s) = imb s := by
  simp [replay]

@[simp] theorem imb_freeHeld {key : Nat} {s : State} : imb (freeHeld key s) = imb s := by
  simp [freeHeld]

@[simp] theorem imb_markJob {id : Nat} {marked : Nat} {s : State} : imb (markJob id marked s) = imb s := by
  simp [markJob]

@[simp] theorem imb_frameAcked {t : TxFrame} {s : State} : imb (frameAcked t s) = imb s := by
  unfold frameAcked
  (repeat' split) <;> simp

@[simp] theorem imb_linkRx {p : PortId} {w : Word} {s : State} : imb (linkRx p w s) = imb s := by
  simp [linkRx]

@[simp] theorem imb_frameCrcError {p : PortId} {bad : Bool} {s : State} : imb (frameCrcError p bad s) = imb s := by
  simp [frameCrcError]

@[simp] theorem imb_replayTimer {p : PortId} {s : State} : imb (replayTimer p s) = imb s := by
  simp [replayTimer]

@[simp] theorem imb_forward {p : PortId} {pool : Nat} {f : Frame} {s : State} : imb (forward p pool f s) = imb s := by
  simp [forward]

@[simp] theorem imb_forwardBcast {p : PortId} {f : Frame} {resid : Nat} {s : State} : imb (forwardBcast p f resid s) = imb s := by
  simp [forwardBcast]

@[simp] theorem imb_rxBad {p : PortId} {f : Frame} {s : State} : imb (rxBad p f s) = imb s := by
  simp [rxBad]

@[simp] theorem imb_ringRxBad {p : PortId} {f : Frame} {s : State} : imb (ringRxBad p f s) = imb s := by
  simp [ringRxBad]

@[simp] theorem imb_transitFrame {p : PortId} {f : Frame} {resid : Nat} {s : State} : imb (transitFrame p f resid s) = imb s := by
  simp [transitFrame]

/-! ### Machine/Failover.lean -/

@[simp] theorem imb_takeBack {id : Nat} {s : State} : imb (takeBack id s) = imb s := by
  unfold takeBack
  split <;> simp

@[simp] theorem imb_rebuild {id : Nat} {s : State} : imb (rebuild id s) = imb s := by
  simp [rebuild]

@[simp] theorem imb_reserve {id : Nat} {nos : List Nat} {s : State} : imb (reserve id nos s) = imb s := by
  unfold reserve
  split <;> simp

@[simp] theorem imb_reroute {p : PortId} {s : State} : imb (reroute p s) = imb s := by
  simp [reroute]

@[simp] theorem imb_requeueStores {ps : List PortId} {s : State} : imb (requeueStores ps s) = imb s := by
  simp [requeueStores]

@[simp] theorem imb_lostReply {t : TxFrame} {s : State} : imb (lostReply t s) = imb s := by
  unfold lostReply
  split <;> simp

@[simp] theorem imb_lostBeacon {k : TxKind} {s : State} : imb (lostBeacon k s) = imb s := by
  unfold lostBeacon
  split <;> simp

@[simp] theorem imb_breakFrame {p : PortId} {s : State} : imb (breakFrame p s) = imb s := by
  simp [breakFrame]

@[simp] theorem imb_sendBreak {p : PortId} {s : State} : imb (sendBreak p s) = imb s := by
  simp [sendBreak]

@[simp] theorem imb_failoverNote {from_ : PortId ⊕ BitVec 12} {cause : Nat} {n : Nat} {s : State} :
    imb (failoverNote from_ cause n s) = imb s := by
  simp [failoverNote]

@[simp] theorem imb_declareLost {ps : List PortId} {s : State} :
    imb (declareLost ps s) = imb s := by
  unfold declareLost
  (repeat' split) <;> (try simp) <;> (try rw [imb_foldl]) <;> (try intro u x) <;> (repeat' split) <;> simp

@[simp] theorem imb_failover {ps : List PortId} {from_ : PortId ⊕ BitVec 12} {cause : Nat} {s : State} :
    imb (failover ps from_ cause s) = imb s := by
  cases from_ <;> simp [failover]

@[simp] theorem imb_failoverJoin {p : PortId} {s : State} :
    imb (failoverJoin p s) = imb s := by
  unfold failoverJoin
  (repeat' split) <;> (try simp) <;> (try rw [imb_foldl]) <;> (try intro u x) <;> (repeat' split) <;> simp

@[simp] theorem imb_enterService {p : PortId} {s : State} : imb (enterService p s) = imb s := by
  simp [enterService]

@[simp] theorem imb_portTrain {p : PortId} {s : State} : imb (portTrain p s) = imb s := by
  simp [portTrain]

@[simp] theorem imb_failPort {p : PortId} {cause : Nat} {s : State} : imb (failPort p cause s) = imb s := by
  simp [failPort]

@[simp] theorem imb_identRx {p : PortId} {w : Word} {s : State} : imb (identRx p w s) = imb s := by
  simp [identRx]

@[simp] theorem imb_lossOfLock {p : PortId} {s : State} : imb (lossOfLock p s) = imb s := by
  simp [lossOfLock]

@[simp] theorem imb_highBer {p : PortId} {s : State} : imb (highBer p s) = imb s := by
  simp [highBer]

@[simp] theorem imb_retransLimit {p : PortId} {s : State} : imb (retransLimit p s) = imb s := by
  simp [retransLimit]

@[simp] theorem imb_creditTimeout {p : PortId} {s : State} : imb (creditTimeout p s) = imb s := by
  simp [creditTimeout]

@[simp] theorem imb_restoreTimer {p : PortId} {s : State} : imb (restoreTimer p s) = imb s := by
  simp [restoreTimer]

@[simp] theorem imb_restoreCmd {bits : Nat} {s : State} : imb (restoreCmd bits s) = imb s := by
  simp [restoreCmd]

@[simp] theorem imb_ckRingAbsent {s : State} : imb (ckRingAbsent s) = imb s := by
  simp [ckRingAbsent]

@[simp] theorem imb_breakRx {p : PortId} {f : Frame} {s : State} : imb (breakRx p f s) = imb s := by
  simp [breakRx]

@[simp] theorem imb_beaconRx {p : PortId} {f : Frame} {s : State} : imb (beaconRx p f s) = imb s := by
  simp [beaconRx]

@[simp] theorem imb_dropOutst {o : Outst} {s : State} : imb (dropOutst o s) = imb s := by
  simp [dropOutst]

@[simp] theorem imb_wrAckRx {p : PortId} {f : Frame} {s : State} : imb (wrAckRx p f s) = imb s := by
  unfold wrAckRx
  (repeat' split) <;> simp

@[simp] theorem imb_readArrives {id : Nat} {data : List Byte} {s : State} : imb (readArrives id data s) = imb s := by
  unfold readArrives
  (repeat' split) <;> simp

@[simp] theorem imb_rdRspRx {p : PortId} {f : Frame} {s : State} : imb (rdRspRx p f s) = imb s := by
  unfold rdRspRx
  (repeat' split) <;> simp

@[simp] theorem imb_enumRx {p : PortId} {f : Frame} {s : State} : imb (enumRx p f s) = imb s := by
  simp [enumRx]

/-! ### Machine/Hier.lean -/

@[simp] theorem imb_sendPlain {t : TxFrame} {s : State} : imb (sendPlain t s) = imb s := by
  simp [sendPlain]

@[simp] theorem imb_updWorker {k : Nat} {f : Worker → Worker} {s : State} : imb (updWorker k f s) = imb s := by
  simp [updWorker]

@[simp] theorem imb_fabricAlarm {o : BitVec 12} {cause : BitVec 8} {idx : BitVec 8} {s : State} :
    imb (fabricAlarm o cause idx s) = imb s := by
  simp [fabricAlarm]

@[simp] theorem imb_raiseFabric {o : BitVec 12} {cause : BitVec 8} {idx : BitVec 8} {s : State} :
    imb (raiseFabric o cause idx s) = imb s := by
  simp [raiseFabric]

@[simp] theorem imb_alarmTx {s : State} : imb (alarmTx s) = imb s := by
  simp [alarmTx]

@[simp] theorem imb_announceTx {s : State} : imb (announceTx s) = imb s := by
  simp [announceTx]

@[simp] theorem imb_hierIn {p : PortId} {f : Frame} {resid : Nat} {s : State} : imb (hierIn p f resid s) = imb s := by
  simp [hierIn]

@[simp] theorem imb_takeManager {src : BitVec 12} {s : State} : imb (takeManager src s) = imb s := by
  simp [takeManager]

@[simp] theorem imb_announceRx {p : PortId} {f : Frame} {s : State} : imb (announceRx p f s) = imb s := by
  unfold announceRx
  (repeat' split) <;> simp

@[simp] theorem imb_standbyTimeout {s : State} : imb (standbyTimeout s) = imb s := by
  simp [standbyTimeout]

@[simp] theorem imb_mgrForeign {f : Frame} {s : State} : imb (mgrForeign f s) = imb s := by
  simp [mgrForeign]

@[simp] theorem imb_fromManager {f : Frame} {g : State → State} {s : State} (hg : ∀ u0, imb (g u0) = imb u0) :
    imb (fromManager f g s) = imb s := by
  simp [fromManager, hg]

@[simp] theorem imb_helloTx {s : State} : imb (helloTx s) = imb s := by
  simp [helloTx]

@[simp] theorem imb_helloRx {p : PortId} {f : Frame} {s : State} : imb (helloRx p f s) = imb s := by
  unfold helloRx
  (repeat' split) <;> simp

@[simp] theorem imb_slotExpire {k : Nat} {s : State} : imb (slotExpire k s) = imb s := by
  unfold slotExpire
  split <;> simp

@[simp] theorem imb_peerTx {k : Nat} {s : State} : imb (peerTx k s) = imb s := by
  unfold peerTx
  split <;> simp

@[simp] theorem imb_peerStore {f : Frame} {s : State} : imb (peerStore f s) = imb s := by
  simp [peerStore]

@[simp] theorem imb_peerRx {p : PortId} {f : Frame} {s : State} : imb (peerRx p f s) = imb s := by
  simp [peerRx]

@[simp] theorem imb_gatherTx {k : Nat} {s : State} : imb (gatherTx k s) = imb s := by
  unfold gatherTx
  split <;> simp

@[simp] theorem imb_gatherReply {seq : Nat} {s : State} : imb (gatherReply seq s) = imb s := by
  simp [gatherReply]

@[simp] theorem imb_gatherRx {p : PortId} {f : Frame} {s : State} : imb (gatherRx p f s) = imb s := by
  simp [gatherRx]

@[simp] theorem imb_reportRx {p : PortId} {f : Frame} {health : Bool} {s : State} : imb (reportRx p f health s) = imb s := by
  unfold reportRx
  (repeat' split) <;> simp

@[simp] theorem imb_gatherStale {k : Nat} {s : State} : imb (gatherStale k s) = imb s := by
  unfold gatherStale
  split <;> simp

@[simp] theorem imb_alarmRx {p : PortId} {f : Frame} {s : State} : imb (alarmRx p f s) = imb s := by
  simp [alarmRx]

@[simp] theorem imb_recordFabric {f : Frame} {s : State} : imb (recordFabric f s) = imb s := by
  simp [recordFabric]

@[simp] theorem imb_fabricAlarmRx {p : PortId} {f : Frame} {s : State} : imb (fabricAlarmRx p f s) = imb s := by
  simp [fabricAlarmRx]

/-! ### Machine/Tim.lean -/

@[simp] theorem imb_countUp {s : State} : imb (countUp s) = imb s := by
  unfold countUp
  exact imb_mk

@[simp] theorem imb_resched {s : State} : imb (resched s) = imb s := by
  simp [resched]

@[simp] theorem imb_timeStep {src : Nat} {new : BitVec 80} {corr : ℤ} {s : State} : imb (timeStep src new corr s) = imb s := by
  simp [timeStep]

@[simp] theorem imb_enterTrack {s : State} : imb (enterTrack s) = imb s := by
  simp [enterTrack]

@[simp] theorem imb_sampleApply {src : Nat} {own : Bool} {e : Int} {s : State} :
    imb (sampleApply src own e s) = imb s := by
  unfold sampleApply
  extract_lets t src1 s1 f
  have h : imb s1 = imb s := by
    simp only [s1]
    split <;> simp
  clear_value f
  split
  · simp [h]
  · exact imb_mk.trans h

@[simp] theorem imb_meetHere {s : State} :
    imb (meetHere s) = imb s := by
  unfold meetHere
  (repeat' split) <;> (try simp) <;> (try rw [imb_foldl]) <;> (try intro u x) <;> (repeat' split) <;> simp

@[simp] theorem imb_timeSample {src : Nat} {own : Bool} {e : ℤ} {s : State} : imb (timeSample src own e s) = imb s := by
  simp [timeSample]

@[simp] theorem imb_timeSet {wrap : BitVec 16} {ns : BitVec 32} {s : State} : imb (timeSet wrap ns s) = imb s := by
  simp [timeSet]

@[simp] theorem imb_timeAdj {v : W32} {s : State} : imb (timeAdj v s) = imb s := by
  simp [timeAdj]

@[simp] theorem imb_applyHeld {s : State} : imb (applyHeld s) = imb s := by
  unfold applyHeld
  (repeat' split) <;> simp

@[simp] theorem imb_timCmd {v : W32} {s : State} : imb (timCmd v s) = imb s := by
  simp [timCmd]

@[simp] theorem imb_timeHoldover {s : State} : imb (timeHoldover s) = imb s := by
  simp [timeHoldover]

@[simp] theorem imb_syncTake {p : PortId} {f : Frame} {s : State} : imb (syncTake p f s) = imb s := by
  simp [syncTake]

@[simp] theorem imb_syncRx {p : PortId} {f : Frame} {s : State} : imb (syncRx p f s) = imb s := by
  simp [syncRx]

@[simp] theorem imb_syncTx {s : State} : imb (syncTx s) = imb s := by
  simp [syncTx]

@[simp] theorem imb_syncInIgnored {s : State} : imb (syncInIgnored s) = imb s := by
  simp [syncInIgnored]

@[simp] theorem imb_syncInEdge {s : State} : imb (syncInEdge s) = imb s := by
  simp [syncInEdge]

@[simp] theorem imb_ckTimeLost {s : State} : imb (ckTimeLost s) = imb s := by
  simp [ckTimeLost]

@[simp] theorem imb_refclkLost {s : State} :
    imb (refclkLost s) = imb s := by
  unfold refclkLost
  (repeat' split) <;> (try simp) <;> (try rw [imb_foldl]) <;> (try intro u x) <;> (repeat' split) <;> simp

@[simp] theorem imb_ckTimeRestored {s : State} : imb (ckTimeRestored s) = imb s := by
  simp [ckTimeRestored]

@[simp] theorem imb_timeTick {s : State} : imb (timeTick s) = imb s := by
  simp [timeTick]

@[simp] theorem imb_syncOutPulse {s : State} : imb (syncOutPulse s) = imb s := by
  unfold syncOutPulse
  split <;> simp

@[simp] theorem imb_syncOutEnd {s : State} : imb (syncOutEnd s) = imb s := by
  simp [syncOutEnd]

@[simp] theorem imb_syncOutStart {v : W32} {s : State} : imb (syncOutStart v s) = imb s := by
  simp [syncOutStart]

@[simp] theorem imb_timCtrlWrite {v : W32} {s : State} : imb (timCtrlWrite v s) = imb s := by
  simp [timCtrlWrite]

/-! ### Machine/Lsp.lean -/

@[simp] theorem imb_answer {a : Acc} {write : Bool} {status : Nat} {data : List Byte} {un : Bool} {s : State} :
    imb (answer a write status data un s) = imb s := by
  unfold answer
  split <;> simp

@[simp] theorem imb_slvErr {bit : Nat} {s : State} : imb (slvErr bit s) = imb s := by
  simp [slvErr]

@[simp] theorem imb_engineSwitch {s : State} : imb (engineSwitch s) = imb s := by
  simp [engineSwitch]

@[simp] theorem imb_lspFill {s : State} : imb (lspFill s) = imb s := by
  unfold lspFill
  split <;> simp

@[simp] theorem imb_respShift {k : Nat} {s : State} : imb (respShift k s) = imb s := by
  unfold respShift
  split <;> simp

@[simp] theorem imb_engFormat {w : W32} {s : State} : imb (engFormat w s) = imb s := by
  simp [engFormat]

@[simp] theorem imb_engTake {words : List (List Bool)} {s : State} : imb (engTake words s) = imb s := by
  unfold engTake
  split <;> simp

@[simp] theorem imb_engSlots {ready : Bool} {words : List (List Bool)} {s : State} : imb (engSlots ready words s).2 = imb s := by
  simp [engSlots]

@[simp] theorem imb_rawSlot {b : List Bool} {s : State} : imb (rawSlot b s).2 = imb s := by
  simp [rawSlot]

@[simp] theorem imb_rawSlots {u : List (List Bool)} {v : State} : imb (rawSlots u v).2 = imb v := by
  fun_induction rawSlots u v <;> simp_all +zetaDelta

@[simp] theorem imb_shortWord {words : List (List Bool)} {s : State} : imb (shortWord words s) = imb s := by
  unfold shortWord
  split <;> simp

@[simp] theorem imb_lspTransfer {mosi : List Bool} {s : State} : imb (lspTransfer mosi s) = imb s := by
  simp only [lspTransfer]
  (repeat' split) <;> simp

@[simp] theorem imb_lspPeriods {bits : List Bool} {u : List (Nat × List Bool)} {v : State} :
    imb (lspPeriods bits u v) = imb v := by
  fun_induction lspPeriods bits u v <;> simp_all

@[simp] theorem imb_updXip {w : Nat} {f : XipCfg → XipCfg} {s : State} : imb (updXip w f s) = imb s := by
  simp [updXip]

@[simp] theorem imb_xipStart {s : State} : imb (xipStart s) = imb s := by
  unfold xipStart
  split <;> simp

@[simp] theorem imb_dselSync {s : State} : imb (dselSync s) = imb s := by
  simp [dselSync]

@[simp] theorem imb_xipReply {o : XipOp} {status : Nat} {data : List Byte} {s : State} : imb (xipReply o status data s) = imb s := by
  unfold xipReply
  split <;> simp

@[simp] theorem imb_xipNext {s : State} : imb (xipNext s) = imb s := by
  simp [xipNext]

@[simp] theorem imb_xipComplete {o : XipOp} {data : List Byte} {s : State} : imb (xipComplete o data s) = imb s := by
  unfold xipComplete
  split <;> simp

@[simp] theorem imb_xipDone {data : List Byte} {s : State} : imb (xipDone data s) = imb s := by
  unfold xipDone
  (repeat' split) <;> simp

@[simp] theorem imb_writeOn {o : XipOp} {rest : List XipOp} {s : State} : imb (writeOn o rest s) = imb s := by
  simp [writeOn]

@[simp] theorem imb_flashPoll {sr : Byte} {s : State} : imb (flashPoll sr s) = imb s := by
  unfold flashPoll
  split <;> simp

@[simp] theorem imb_pollTimeout {s : State} : imb (pollTimeout s) = imb s := by
  unfold pollTimeout
  split <;> simp

@[simp] theorem imb_xipQueue {o : XipOp} {s : State} : imb (xipQueue o s) = imb s := by
  simp [xipQueue]

@[simp] theorem imb_xipAccess {a : Acc} {w : Nat} {write : Bool} {off : Nat} {len : Nat} {data : List Byte} {s : State} :
    imb (xipAccess a w write off len data s) = imb s := by
  simp [xipAccess]

@[simp] theorem imb_rawCommand {v : W32} {s : State} : imb (rawCommand v s) = imb s := by
  simp [rawCommand]

@[simp] theorem imb_xipEndWaiting {p : XipOp → Bool} {status : Nat} {f : State → State} {s : State} (hf : ∀ u0, imb (f u0) = imb u0) :
    imb (xipEndWaiting p status f s) = imb s := by
  simp [xipEndWaiting, hf]

@[simp] theorem imb_roleSwitch {s : State} : imb (roleSwitch s) = imb s := by
  simp [roleSwitch]

@[simp] theorem imb_flashLock {l0 : Bool} {l1 : Bool} {s : State} : imb (flashLock l0 l1 s) = imb s := by
  simp [flashLock]

@[simp] theorem imb_xipHalt {s : State} : imb (xipHalt s) = imb s := by
  simp [xipHalt]

/-! ### Machine/RegRead.lean -/

@[simp] theorem imb_mbxEnd {s : State} : imb (mbxEnd s) = imb s := by
  simp [mbxEnd]

@[simp] theorem imb_familyReadEffect {off : Nat} {s : State} : imb (familyReadEffect off s) = imb s := by
  unfold familyReadEffect
  split <;> simp

@[simp] theorem imb_regAfter {r : ReqId} {off : Nat} {s : State} : imb (regAfter r off s) = imb s := by
  unfold regAfter
  (repeat' split) <;> first | (simp; done) | (rw [imb_onlyIf]; intro u; simp)

/-! ### Machine/Boot.lean -/

@[simp] theorem imb_vinRise {selL : Bool} {selC : Bool} {s : State} : imb (vinRise selL selC s) = imb s := by
  unfold vinRise
  split <;> simp

@[simp] theorem imb_tamperPort {p : PortId} {s : State} : imb (tamperPort p s) = imb s := by
  unfold tamperPort
  (repeat' split) <;> (try simp) <;> (try rw [imb_foldl]) <;> (try intro u x) <;> (repeat' split) <;> simp

@[simp] theorem imb_tamperAct {s : State} : imb (tamperAct s) = imb s := by
  simp [tamperAct]

@[simp] theorem imb_tamperPulse {ns : Nat} {s : State} : imb (tamperPulse ns s) = imb s := by
  simp [tamperPulse]

@[simp] theorem imb_imageBus {l : List Byte} {s : State} : imb (imageBus l s) = imb s := by
  simp [imageBus]

@[simp] theorem imb_bootEnter {l : List Byte} {agree : Bool} {s : State} : imb (bootEnter l agree s) = imb s := by
  simp [bootEnter]

@[simp] theorem imb_bootStop {stage : Nat} {cause : Nat} {s : State} : imb (bootStop stage cause s) = imb s := by
  simp [bootStop]

@[simp] theorem imb_tryImage {base : Nat} {l : List Byte} {agree : Bool} {s : State} : imb (tryImage base l agree s).2 = imb s := by
  simp [tryImage]

@[simp] theorem imb_romBoot {x : BootFlash} {s : State} : imb (romBoot x s) = imb s := by
  simp [romBoot]

@[simp] theorem imb_bootClose {s : State} : imb (bootClose s) = imb s := by
  simp [bootClose]

@[simp] theorem imb_compatSet {en : Bool} {pin : Bool} {s : State} : imb (compatSet en pin s) = imb s := by
  simp [compatSet]

@[simp] theorem imb_slowSelect {v : W32} {s : State} : imb (slowSelect v s) = imb s := by
  simp [slowSelect]

@[simp] theorem imb_slowclkLost {s : State} : imb (slowclkLost s) = imb s := by
  simp [slowclkLost]

@[simp] theorem imb_paceEnd {x : PaceMeasure} {s : State} : imb (paceEnd x s) = imb s := by
  simp [paceEnd]

/-! ### Machine/RegWrite.lean -/

@[simp] theorem imb_lockViol {r : ReqId} {off : Nat} {s : State} : imb (lockViol r off s) = imb s := by
  simp [lockViol]

@[simp] theorem imb_bootOnly {r : ReqId} {off : Nat} {f : State → State} {s : State} (hf : ∀ u0, imb (f u0) = imb u0) :
    imb (bootOnly r off f s) = imb s := by
  simp [bootOnly, hf]

@[simp] theorem imb_guardNote {r : ReqId} {off : Nat} {s : State} : imb (guardNote r off s) = imb s := by
  simp [guardNote]

@[simp] theorem imb_guardBroken {r : ReqId} {off : Nat} {s : State} : imb (guardBroken r off s) = imb s := by
  simp [guardBroken]

@[simp] theorem imb_disarm {r : ReqId} {s : State} : imb (disarm r s) = imb s := by
  simp [disarm]

@[simp] theorem imb_breakArm {r : ReqId} {s : State} : imb (breakArm r s) = imb s := by
  unfold breakArm
  split <;> simp

@[simp] theorem imb_breakOthers {r : ReqId} {off : Nat} {s : State} : imb (breakOthers r off s) = imb s := by
  simp [breakOthers]

@[simp] theorem imb_calRestorePair {r : ReqId} {v : W32} {s : State} : imb (calRestorePair r v s) = imb s := by
  simp [calRestorePair]

@[simp] theorem imb_capturePair {v : W32} {s : State} : imb (capturePair v s) = imb s := by
  simp [capturePair]

@[simp] theorem imb_retryPair {v : W32} {s : State} : imb (retryPair v s) = imb s := by
  simp [retryPair]

@[simp] theorem imb_timCmdPair {v : W32} {s : State} : imb (timCmdPair v s) = imb s := by
  simp [timCmdPair]

@[simp] theorem imb_mstCmdPair {v : W32} {s : State} : imb (mstCmdPair v s) = imb s := by
  simp [mstCmdPair]

@[simp] theorem imb_flashLockPair {v : W32} {s : State} : imb (flashLockPair v s) = imb s := by
  simp [flashLockPair]

@[simp] theorem imb_guardApply {r : ReqId} {g : Nat} {v : W32} {s : State} : imb (guardApply r g v s) = imb s := by
  unfold guardApply
  split <;> simp

@[simp] theorem imb_guardRefusal {g : Nat} {v : W32} {s : State} : imb (guardRefusal g v s) = imb s := by
  unfold guardRefusal
  split <;> simp

@[simp] theorem imb_guardComplete {r : ReqId} {g : Nat} {v : W32} {s : State} : imb (guardComplete r g v s) = imb s := by
  simp [guardComplete]

@[simp] theorem imb_guardArm {r : ReqId} {g : Nat} {v : W32} {s : State} : imb (guardArm r g v s) = imb s := by
  simp [guardArm]

@[simp] theorem imb_guardComp {r : ReqId} {g : Nat} {w : W32} {s : State} : imb (guardComp r g w s) = imb s := by
  simp only [guardComp]
  (repeat' split) <;> simp

@[simp] theorem imb_guardTimeout {r : ReqId} {s : State} : imb (guardTimeout r s) = imb s := by
  unfold guardTimeout
  split <;> simp

@[simp] theorem imb_guardExpire {s : State} :
    imb (guardExpire s) = imb s := by
  unfold guardExpire
  (repeat' split) <;> (try simp) <;> (try rw [imb_foldl]) <;> (try intro u x) <;> (repeat' split) <;> simp

@[simp] theorem imb_guardWrite {r : ReqId} {g : Nat} {off : Nat} {v : W32} {s : State} : imb (guardWrite r g off v s) = imb s := by
  simp [guardWrite]

@[simp] theorem imb_sysWrite {off : Nat} {v : W32} {s : State} : imb (sysWrite off v s) = imb s := by
  unfold sysWrite
  split <;> simp

@[simp] theorem imb_hltRespWrite {v : W32} {s : State} : imb (hltRespWrite v s) = imb s := by
  simp [hltRespWrite]

@[simp] theorem imb_silApply {off : Nat} {v : W32} {s : State} : imb (silApply off v s) = imb s := by
  unfold silApply
  (repeat' split) <;> simp

@[simp] theorem imb_silWrite {r : ReqId} {off : Nat} {v : W32} {s : State} : imb (silWrite r off v s) = imb s := by
  simp [silWrite]

@[simp] theorem imb_calWrite {r : ReqId} {off : Nat} {v : W32} {s : State} : imb (calWrite r off v s) = imb s := by
  unfold calWrite
  split <;> simp

@[simp] theorem imb_grnWrite {off : Nat} {v : W32} {s : State} : imb (grnWrite off v s) = imb s := by
  unfold grnWrite
  (repeat' split) <;> simp

@[simp] theorem imb_hltWrite {off : Nat} {v : W32} {s : State} : imb (hltWrite off v s) = imb s := by
  unfold hltWrite
  (repeat' split) <;> simp

@[simp] theorem imb_plnWrite {off : Nat} {v : W32} {s : State} : imb (plnWrite off v s) = imb s := by
  unfold plnWrite
  (repeat' split) <;> first | (simp; done) | (rw [imb_onlyIf]; intro u; simp)

@[simp] theorem imb_lanWrite {off : Nat} {v : W32} {s : State} : imb (lanWrite off v s) = imb s := by
  unfold lanWrite
  (repeat' split) <;> simp

@[simp] theorem imb_queueWrite {q : Nat} {k : Nat} {v : W32} {s : State} : imb (queueWrite q k v s) = imb s := by
  unfold queueWrite
  split <;> simp

@[simp] theorem imb_stkWrite {off : Nat} {v : W32} {s : State} : imb (stkWrite off v s) = imb s := by
  unfold stkWrite
  (repeat' split) <;> simp

@[simp] theorem imb_jobWrite {off : Nat} {v : W32} {s : State} : imb (jobWrite off v s) = imb s := by
  unfold jobWrite
  (repeat' split) <;> simp

@[simp] theorem imb_bneWrite {r : ReqId} {off : Nat} {v : W32} {s : State} : imb (bneWrite r off v s) = imb s := by
  unfold bneWrite
  (repeat' split) <;> simp

@[simp] theorem imb_retryWrite {v : W32} {s : State} : imb (retryWrite v s) = imb s := by
  simp [retryWrite]

@[simp] theorem imb_mgrCtrlWrite {v : W32} {s : State} : imb (mgrCtrlWrite v s) = imb s := by
  simp [mgrCtrlWrite]

@[simp] theorem imb_ringWrite {off : Nat} {v : W32} {s : State} : imb (ringWrite off v s) = imb s := by
  unfold ringWrite
  (repeat' split) <;> simp

@[simp] theorem imb_syncTxWrite {v : W32} {s : State} : imb (syncTxWrite v s) = imb s := by
  simp [syncTxWrite]

@[simp] theorem imb_timWrite {off : Nat} {v : W32} {s : State} : imb (timWrite off v s) = imb s := by
  unfold timWrite
  split <;> simp

@[simp] theorem imb_txDataWrite {v : W32} {s : State} : imb (txDataWrite v s) = imb s := by
  simp [txDataWrite]

@[simp] theorem imb_xipWriteReg {w : Nat} {k : Nat} {v : W32} {s : State} : imb (xipWriteReg w k v s) = imb s := by
  unfold xipWriteReg
  split <;> simp

@[simp] theorem imb_lspWrite {off : Nat} {v : W32} {s : State} : imb (lspWrite off v s) = imb s := by
  unfold lspWrite
  (repeat' split) <;> simp

@[simp] theorem imb_evtWrite {off : Nat} {v : W32} {s : State} : imb (evtWrite off v s) = imb s := by
  unfold evtWrite
  (repeat' split) <;> simp

@[simp] theorem imb_cmpWrite {off : Nat} {v : W32} {s : State} : imb (cmpWrite off v s) = imb s := by
  simp [cmpWrite]

@[simp] theorem imb_plainWrite {r : ReqId} {off : Nat} {v : W32} {s : State} : imb (plainWrite r off v s) = imb s := by
  unfold plainWrite
  split <;> simp

/-! ### Machine/Bus.lean -/

@[simp] theorem imb_mbxFail {err : Nat} {s : State} : imb (mbxFail err s) = imb s := by
  simp [mbxFail]

@[simp] theorem imb_mbxRead {r : ReqId} {item : Nat} {s : State} : imb (mbxRead r item s) = imb s := by
  simp [mbxRead]

@[simp] theorem imb_mbxApply {r : ReqId} {item : Nat} {s : State} : imb (mbxApply r item s) = imb s := by
  simp [mbxApply]

@[simp] theorem imb_mbxSelect {r : ReqId} {v : W32} {s : State} : imb (mbxSelect r v s) = imb s := by
  simp [mbxSelect]

@[simp] theorem imb_mbxTimeout {s : State} : imb (mbxTimeout s) = imb s := by
  simp [mbxTimeout]

@[simp] theorem imb_mbxTouch {r : ReqId} {off : Nat} {s : State} : imb (mbxTouch r off s) = imb s := by
  simp [mbxTouch]

@[simp] theorem imb_mbxWrite {r : ReqId} {off : Nat} {v : W32} {s : State} : imb (mbxWrite r off v s) = imb s := by
  unfold mbxWrite
  (repeat' split) <;> simp

@[simp] theorem imb_readOne {r : ReqId} {off : Nat} {s : State} : imb (readOne r off s).2 = imb s := by
  simp [readOne]

@[simp] theorem imb_writeOne {r : ReqId} {off : Nat} {v : W32} {s : State} : imb (writeOne r off v s) = imb s := by
  unfold writeOne
  split <;> simp

@[simp] theorem imb_readMany {r : ReqId} {off : Nat} {u : Nat} {v : State} : imb (readMany r off u v).2 = imb v := by
  fun_induction readMany r off u v <;> simp_all +zetaDelta

@[simp] theorem imb_writeMany {r : ReqId} {off : Nat} {u : List W32} {v : State} : imb (writeMany r off u v) = imb v := by
  fun_induction writeMany r off u v <;> simp_all

@[simp] theorem imb_regRead {r : ReqId} {off : Nat} {n : Nat} {s : State} : imb (regRead r off n s).2.2 = imb s := by
  unfold regRead
  (repeat' split) <;> simp

@[simp] theorem imb_cmpRead {a : Acc} {off : Nat} {n : Nat} {s : State} :
    imb (cmpRead a off n s) = imb s := by
  unfold cmpRead
  (repeat' split) <;> (try simp) <;> (try rw [imb_foldl]) <;> (try intro u x) <;> (repeat' split) <;> simp

@[simp] theorem imb_regWrite {r : ReqId} {off : Nat} {ws : List W32} {s : State} : imb (regWrite r off ws s).2 = imb s := by
  unfold regWrite
  split <;> simp

@[simp] theorem imb_takeRequest {p : PortId} {hold : Bool} {mark : Bool} {s : State} :
    imb (takeRequest p hold mark s) = imb s := by
  simp [takeRequest]

@[simp] theorem imb_dropHold {p : PortId} {hold : Bool} {s : State} : imb (dropHold p hold s) = imb s := by
  simp [dropHold]

@[simp] theorem imb_arrive {a : Acc} {hold : Bool} {write : Bool} {f : Acc → State → State} {s : State} (hf : ∀ u0 u1, imb (f u0 u1) = imb u1) :
    imb (arrive a hold write f s) = imb s := by
  unfold arrive
  split <;> simp [hf]

@[simp] theorem imb_readAccess {a : Acc} {off : Nat} {n : Nat} {s : State} : imb (readAccess a off n s) = imb s := by
  unfold readAccess
  split <;> simp

@[simp] theorem imb_writeAccess {a : Acc} {off : Nat} {ws : List W32} {s : State} : imb (writeAccess a off ws s) = imb s := by
  simp [writeAccess]

@[simp] theorem imb_windowRead {a : Acc} {q : Nat} {len : Nat} {hold : Bool} {s : State} : imb (windowRead a q len hold s) = imb s := by
  simp [windowRead]

@[simp] theorem imb_cmpData {a : Acc} {off : Nat} {n : Nat} {s : State} :
    imb (cmpData a off n s) = imb s := by
  unfold cmpData
  split
  · rw [imb_arrive]
    intro b t
    (repeat' split) <;> simp
  · simp

@[simp] theorem imb_windowWrite {s : State} : imb (windowWrite s).2 = imb s := by
  unfold windowWrite
  split <;> simp

@[simp] theorem imb_benchAccess {r : ReqId} {n : Nat} {off : Nat} {op : WindowOp} {s : State} :
    imb (benchAccess r n off op s).2.2 = imb s := by
  unfold benchAccess
  split <;> simp

@[simp] theorem imb_unmapped {a : Acc} {off : Nat} {write : Bool} {s : State} : imb (unmapped a off write s) = imb s := by
  simp [unmapped]

@[simp] theorem imb_engXip {w : Nat} {write : Bool} {off : Nat} {n : Nat} {data : List Byte} {s : State} :
    imb (engXip w write off n data s) = imb s := by
  simp [engXip]

@[simp] theorem imb_engReadAt {off : Nat} {n : Nat} {s : State} : imb (engReadAt off n s) = imb s := by
  simp [engReadAt]

@[simp] theorem imb_engAck {rstat : Nat} {n : Nat} {s : State} : imb (engAck rstat n s) = imb s := by
  simp [engAck]

@[simp] theorem imb_engWriteAt {off : Nat} {ws : List W32} {s : State} : imb (engWriteAt off ws s) = imb s := by
  simp [engWriteAt]

@[simp] theorem imb_engRead {s : State} : imb (engRead s) = imb s := by
  unfold engRead
  split <;> simp

@[simp] theorem imb_engWrite {s : State} : imb (engWrite s) = imb s := by
  unfold engWrite
  split <;> simp

/-! ### Machine/Tick.lean -/

@[simp] theorem imb_freezeQueues {s : State} : imb (freezeQueues s) = imb s := by
  simp [freezeQueues]

@[simp] theorem imb_haltJobs {s : State} : imb (haltJobs s) = imb s := by
  simp [haltJobs]

@[simp] theorem imb_haltParser {s : State} : imb (haltParser s) = imb s := by
  simp [haltParser]

@[simp] theorem imb_haltWaits {q : Nat} {s : State} : imb (haltWaits q s) = imb s := by
  unfold haltWaits
  (repeat' split) <;> (try simp) <;> (try rw [imb_foldl]) <;> (try intro u x) <;> (repeat' split) <;> simp

@[simp] theorem imb_haltPort {p : PortId} {s : State} : imb (haltPort p s) = imb s := by
  simp [haltPort]

@[simp] theorem imb_haltEngine {s : State} : imb (haltEngine s) = imb s := by
  unfold haltEngine
  split <;> simp

@[simp] theorem imb_haltQueue {q : Nat} {s : State} : imb (haltQueue q s) = imb s := by
  unfold haltQueue
  split <;> simp

@[simp] theorem imb_haltLanes {s : State} : imb (haltLanes s) = imb s := by
  simp [haltLanes]

@[simp] theorem imb_haltPlanes {s : State} : imb (haltPlanes s) = imb s := by
  simp [haltPlanes]

@[simp] theorem imb_haltBenches {s : State} : imb (haltBenches s) = imb s := by
  simp [haltBenches]

@[simp] theorem imb_alarmSettle {s : State} : imb (alarmSettle s) = imb s := by
  simp [alarmSettle]

@[simp] theorem imb_settleJobs {s : State} : imb (settleJobs s) = imb s := by
  simp [settleJobs]

@[simp] theorem imb_notePath {s : State} : imb (notePath s) = imb s := by
  simp [notePath]

@[simp] theorem imb_settleRing {s : State} : imb (settleRing s) = imb s := by
  simp [settleRing]

@[simp] theorem imb_finishUp {s : State} : imb (finishUp s) = imb s := by
  simp [finishUp]

@[simp] theorem imb_act {f : State → State} {s : State} (hf : ∀ u0, imb (f u0) = imb u0) : imb (act f s) = imb s := by
  simp [act, hf]

@[simp] theorem imb_clockOn {s : State} :
    imb (clockOn s) = imb s := by
  unfold clockOn
  (repeat' split) <;> (try simp) <;> (try rw [imb_foldl]) <;> (try intro u x) <;> (repeat' split) <;> simp

@[simp] theorem imb_tick {s : State} : imb (tick s) = imb s := by
  simp [tick]

/-! ### Machine/Rows.lean -/

@[simp] theorem imb_rowWrite {a : Acc} {inTable : Bool} {off : Nat} {v : W32} {s : State} : imb (rowWrite a inTable off v s) = imb s := by
  simp [rowWrite]

@[simp] theorem imb_rowRead {a : Acc} {inTable : Bool} {off : Nat} {s : State} : imb (rowRead a inTable off s) = imb s := by
  simp [rowRead]

@[simp] theorem imb_pairRow {a : Acc} {g : Nat} {v : W32} {s : State} : imb (pairRow a g v s) = imb s := by
  unfold pairRow
  split <;> simp

@[simp] theorem imb_armRow {a : Acc} {off : Nat} {v : W32} {s : State} : imb (armRow a off v s) = imb s := by
  simp [armRow]

@[simp] theorem imb_compRow {a : Acc} {off : Nat} {w : W32} {s : State} : imb (compRow a off w s) = imb s := by
  simp [compRow]

@[simp] theorem imb_calRow {a : Acc} {r : CalReg} {v : W32} {s : State} : imb (calRow a r v s) = imb s := by
  unfold calRow
  split <;> simp

@[simp] theorem imb_mbxRow {a : Acc} {op : Nat} {item : Nat} {s : State} : imb (mbxRow a op item s) = imb s := by
  simp [mbxRow]

@[simp] theorem imb_oddAccess {a : Acc} {write : Bool} {off : Nat} {len : Nat} {s : State} :
    imb (oddAccess a write off len s) = imb s := by
  unfold oddAccess
  (repeat' split) <;> (try simp) <;> (try rw [imb_foldl]) <;> (try intro u x) <;> (repeat' split) <;> simp

@[simp] theorem imb_regRow {a : Acc} {off : Nat} {n : Nat} {extra : Nat} {s : State} :
    imb (regRow a off n extra s) = imb s := by
  simp [regRow]

@[simp] theorem imb_writeRow {a : Acc} {off : Nat} {ws : List W32} {tail : List Byte} {s : State} :
    imb (writeRow a off ws tail s) = imb s := by
  unfold writeRow
  (repeat' split) <;> (try simp) <;> (try rw [imb_foldl]) <;> (try intro u x) <;> (repeat' split) <;> simp

@[simp] theorem imb_deliveryWrite {a : Acc} {q : Nat} {s : State} : imb (deliveryWrite a q s) = imb s := by
  simp [deliveryWrite]

@[simp] theorem imb_submitDone {a : Acc} {w : Nat} {bytes : List Byte} {s : State} : imb (submitDone a w bytes s) = imb s := by
  simp [submitDone]

@[simp] theorem imb_submitRow {a : Acc} {w : Nat} {bytes : List Byte} {s : State} : imb (submitRow a w bytes s) = imb s := by
  unfold submitRow
  split <;> simp

@[simp] theorem imb_benchRow {a : Acc} {n : Nat} {off : Nat} {op : WindowOp} {s : State} : imb (benchRow a n off op s) = imb s := by
  simp [benchRow]

@[simp] theorem imb_xipRow {a : Acc} {w : Nat} {write : Bool} {off : Nat} {len : Nat} {data : List Byte} {s : State} :
    imb (xipRow a w write off len data s) = imb s := by
  simp [xipRow]

@[simp] theorem imb_raceBit {n : Nat} {bit : Bool} {s : State} : imb (raceBit n bit s) = imb s := by
  simp [raceBit]

@[simp] theorem imb_laneTimeout {n : Nat} {s : State} : imb (laneTimeout n s) = imb s := by
  unfold laneTimeout
  split <;> simp

@[simp] theorem imb_talSnapTake {s : State} : imb (talSnapTake s) = imb s := by
  simp [talSnapTake]

@[simp] theorem imb_benchTestDone {u : BenchUnit} {ok : Bool} {s : State} : imb (benchTestDone u ok s) = imb s := by
  unfold benchTestDone
  split <;> simp

@[simp] theorem imb_engNop {s : State} : imb (engNop s) = imb s := by
  simp [engNop]

end Sys2Proof.Machine
end

