-- ==== Sys2Proof/Laws/Settings.lean ====
section
/-! SUPPORT. How settings pass through record updates, conditional effects and folds, and of each operation
that it leaves the settings as they are. -/

set_option linter.unnecessarySeqFocus false
set_option linter.unusedTactic false
set_option linter.unusedSimpArgs false
set_option linter.unreachableTactic false

namespace Sys2Proof.Machine

@[simp] theorem hltSettings_mk {retryPin : Bool} {retryMs : BitVec 16} {fatal : Bool} {fatalIdx : BitVec 8} {fatalCause : BitVec 8}
    {alarm : Bool} {sum : BitVec 7} {snapPend : Nat} {wvalid : BitVec 8} {seq : BitVec 16} {disc : List W32} {cmpFail : BitVec 16} :
    hltSettings ⟨retryPin, retryMs, fatal, fatalIdx, fatalCause, alarm, sum, snapPend, wvalid, seq, disc, cmpFail⟩ =
      ⟨retryPin, retryMs⟩ := rfl

@[simp] theorem hltSettings_fold (x : Hlt) :
    (⟨x.retryPin, x.retryMs⟩ : HltSettings) =
      hltSettings x := rfl

@[simp] theorem hltSettings_ite {c : Prop} [Decidable c] (a b : Hlt) :
    hltSettings (if c then a else b) = if c then hltSettings a else hltSettings b := apply_ite _ c a b

@[simp] theorem lanSettings_mk {lanes : List Lane} {base : BitVec 9} {max : BitVec 9} {timeMs : BitVec 7} {en : BitVec 16} {err :
    BitVec 4} {peerEn : Bool} {katBusy : Bool} {katDone : Bool} {katFailed : Bool} {katFailLane : BitVec 4}
    {peer : Seed384} {peerNo : Nat} {peerSlow : Option Nat} {peerCnt : BitVec 16} {bind : List (BitVec 16)}
    {rebound : List Bool} :
    lanSettings ⟨lanes, base, max, timeMs, en, err, peerEn, katBusy, katDone, katFailed, katFailLane, peer, peerNo, peerSlow,
    peerCnt, bind, rebound⟩ =
      ⟨base, max, timeMs, peerEn⟩ := rfl

@[simp] theorem lanSettings_fold (x : Lan) :
    (⟨x.base, x.max, x.timeMs, x.peerEn⟩ : LanSettings) =
      lanSettings x := rfl

@[simp] theorem lanSettings_ite {c : Prop} [Decidable c] (a b : Lan) :
    lanSettings (if c then a else b) = if c then lanSettings a else lanSettings b := apply_ite _ c a b

@[simp] theorem stkSettings_mk {queues : List DQueue} {regions : List Region} {array : Mem} {maskKey : BitVec 256} {keyReady : Bool}
    {clearing : Bool} {maxAge : BitVec 19} {stallUs : BitVec 17} {err : BitVec 5} {ce : W32} {ue : BitVec 16} {rgnSel : BitVec 7}
    {passes : BitVec 16} {period : BitVec 10} {tagSel : W32} {tagInfo : W32} {tagGen : W32} {building : Option Nat} {cand : W32}
    {rej : W32} {cmpBit : Bool} {cmpLane : Option Nat}
    {cmpAcc : Option Nat} :
    stkSettings ⟨queues, regions, array, maskKey, keyReady, clearing, maxAge, stallUs, err, ce, ue, rgnSel, passes, period, tagSel,
    tagInfo, tagGen, building, cand, rej, cmpBit, cmpLane, cmpAcc⟩ =
      ⟨maxAge, stallUs, period⟩ := rfl

@[simp] theorem stkSettings_fold (x : Stk) :
    (⟨x.maxAge, x.stallUs, x.period⟩ : StkSettings) =
      stkSettings x := rfl

@[simp] theorem stkSettings_ite {c : Prop} [Decidable c] (a b : Stk) :
    stkSettings (if c then a else b) = if c then stkSettings a else stkSettings b := apply_ite _ c a b

@[simp] theorem bneSettings_mk {benches : List Bench} {idleMs : BitVec 14} {katBusy : Bool} {katDone : Bool} {katFailed : Bool}
    {hashPass : Bool} {hashKats : List KatWho} {err : BitVec 5} {loaded : Bool} {version : BitVec 16} {ucode :
    List Byte} {ue : BitVec 16} {ce : BitVec 16} {hashBytes : W32} {hashRr : Rr} {benchRr : Rr} :
    bneSettings ⟨benches, idleMs, katBusy, katDone, katFailed, hashPass, hashKats, err, loaded, version, ucode, ue, ce,
    hashBytes, hashRr, benchRr⟩ =
      ⟨idleMs, loaded, version, ucode⟩ := rfl

@[simp] theorem bneSettings_fold (x : Bne) :
    (⟨x.idleMs, x.loaded, x.version, x.ucode⟩ : BneSettings) =
      bneSettings x := rfl

@[simp] theorem bneSettings_ite {c : Prop} [Decidable c] (a b : Bne) :
    bneSettings (if c then a else b) = if c then bneSettings a else bneSettings b := apply_ite _ c a b

@[simp] theorem evtSettings_mk {queue : List Entry} {irqEn : Bool} {ringEn : Bool} {ringNode : BitVec 12} {lost : Bool} {thresh :
    BitVec 11} {lostCnt : W32} {seq : BitVec 16} {mask : List W32} :
    evtSettings ⟨queue, irqEn, ringEn, ringNode, lost, thresh, lostCnt, seq, mask⟩ =
      ⟨irqEn, ringEn, ringNode, thresh, mask⟩ := rfl

@[simp] theorem evtSettings_fold (x : Evt) :
    (⟨x.irqEn, x.ringEn, x.ringNode, x.thresh, x.mask⟩ : EvtSettings) =
      evtSettings x := rfl

@[simp] theorem evtSettings_ite {c : Prop} [Decidable c] (a b : Evt) :
    evtSettings (if c then a else b) = if c then evtSettings a else evtSettings b := apply_ite _ c a b

@[simp] theorem ringSettings_mk {pa : Port} {pb : Port} {enumDone : Bool} {nodeId : BitVec 12} {win : BitVec 22} {fbase : BitVec 22}
    {autoRestore : Bool} {bcastB : Bool} {creditTo : BitVec 9} {debounce : BitVec 9} {retryMax : BitVec 5} {replayUs : BitVec 6}
    {restoreMs : BitVec 14} {foRemote : BitVec 16} {foLocal : BitVec 16} {foLast : W32} {foLost : BitVec 15} {foTick : Option Nat}
    {noPath : Nat} {rxBad : W32} {route : List W32} {txn : BitVec 16} {eseq : W32} {bseq : BitVec 16} {outst : List Outst} {seen :
    List SeenB} {mode : MgrMode} {manager : BitVec 12} {peerEn : Bool} {pq : BitVec 4} {gatherMs : BitVec 16} {workers : List
    (Option Worker)} {peerSkip : BitVec 5} {foreign : BitVec 5} {foreignT : Option Nat} {gatherSel : BitVec 6} {gatherSeq : W32}
    {annSeq : W32} {annTick : Option Nat} {lowerTick : Nat} {helloTick : Option Nat} {helloDue : Bool} {syncTick : Option Nat}
    {faValid : Bool} {faCount : BitVec 3} {faOrigins : List (BitVec 12)} {faOrigin : BitVec 12} {faCause : BitVec 8} {faIndex :
    BitVec 8} {faRepeat : List (BitVec 12 × BitVec 8 × BitVec 8 × Nat)} {healthFails : W32} :
    ringSettings ⟨pa, pb, enumDone, nodeId, win, fbase, autoRestore, bcastB, creditTo, debounce, retryMax, replayUs, restoreMs,
    foRemote, foLocal, foLast, foLost, foTick, noPath, rxBad, route, txn, eseq, bseq, outst, seen, mode, manager, peerEn, pq,
    gatherMs, workers, peerSkip, foreign, foreignT, gatherSel, gatherSeq, annSeq, annTick, lowerTick, helloTick, helloDue, syncTick,
    faValid, faCount, faOrigins, faOrigin, faCause, faIndex, faRepeat, healthFails⟩ =
      ⟨fbase, autoRestore, bcastB, creditTo, debounce, retryMax, replayUs, restoreMs, route, peerEn, pq, gatherMs⟩ := rfl

@[simp] theorem ringSettings_fold (x : Ring) :
    (⟨x.fbase, x.autoRestore, x.bcastB, x.creditTo, x.debounce, x.retryMax, x.replayUs, x.restoreMs, x.route, x.peerEn, x.pq, x.gatherMs⟩ : RingSettings) =
      ringSettings x := rfl

@[simp] theorem ringSettings_ite {c : Prop} [Decidable c] (a b : Ring) :
    ringSettings (if c then a else b) = if c then ringSettings a else ringSettings b := apply_ite _ c a b

@[simp] theorem timSettings_mk {cnt : BitVec 80} {prev : BitVec 80} {syncPol : Bool} {syncEn : Bool} {clkSel : Bool} {src : BitVec
    2} {disc : Disc} {clkOk : Bool} {steps : BitVec 16} {inc : W32} {f : W32} {offset : W32} {phase : Int} {phaseT : Nat} {skipF :
    Bool} {lastT : Option Nat} {metT : Option Nat} {skipTicks : Nat} {slewLimit : BitVec 20} {maxPpm : BitVec 9} {holdMs : BitVec 13} {gain : BitVec 3}
    {late : BitVec 17} {syncTxEn : Bool} {syncTxMs : BitVec 10} {inPeriod : W32} {inAccepted : BitVec 16} {inIgnored : BitVec 16}
    {inLast : Option Nat} {inRef : Option (BitVec 48)} {inStamp : BitVec 80} {inIgnT : Option Nat} {outNs : BitVec 32} {outWrap :
    BitVec 16} {outWrapReg : BitVec 16} {outPeriod : W32} {outWidth : BitVec 16} {outEmitted : BitVec 16} {outSkipped : BitVec 16}
    {outNext : Option (BitVec 48)} {outLast : Option (BitVec 48)} {outActive : Bool} {outStart : Nat} {outLen : Nat} {setNs : W32}
    {setWrap : BitVec 16} {adj : W32} {cmdPin : Bool} {launchLate : BitVec 16} {launchRej : BitVec 16} {trackSlow : Nat} {held :
    Option HeldTime} :
    timSettings ⟨cnt, prev, syncPol, syncEn, clkSel, src, disc, clkOk, steps, inc, f, offset, phase, phaseT, skipF, lastT, metT, skipTicks,
    slewLimit, maxPpm, holdMs, gain, late, syncTxEn, syncTxMs, inPeriod, inAccepted, inIgnored, inLast, inRef, inStamp, inIgnT,
    outNs, outWrap, outWrapReg, outPeriod, outWidth, outEmitted, outSkipped, outNext, outLast, outActive, outStart, outLen, setNs,
    setWrap, adj, cmdPin, launchLate, launchRej, trackSlow, held⟩ =
      ⟨syncPol, syncEn, clkSel, src, slewLimit, maxPpm, holdMs, gain, late, syncTxEn, syncTxMs, inPeriod, outPeriod, outWidth, cmdPin⟩ := rfl

@[simp] theorem timSettings_fold (x : Tim) :
    (⟨x.syncPol, x.syncEn, x.clkSel, x.src, x.slewLimit, x.maxPpm, x.holdMs, x.gain, x.late, x.syncTxEn, x.syncTxMs, x.inPeriod, x.outPeriod, x.outWidth, x.cmdPin⟩ : TimSettings) =
      timSettings x := rfl

@[simp] theorem timSettings_ite {c : Prop} [Decidable c] (a b : Tim) :
    timSettings (if c then a else b) = if c then timSettings a else timSettings b := apply_ite _ c a b

@[simp] theorem lspSettings_mk {role : Bool} {engine : Bool} {engEff : Bool} {lsbFirst : Bool} {mode : BitVec 2} {len : BitVec 6}
    {lastStatus : BitVec 8} {short : Bool} {errPend : Bool} {err : BitVec 5} {rx : List (Nat × W32)} {tx : List W32} {transfers :
    BitVec 16} {shorts : BitVec 16} {cmd : Option EngCmd} {waiting : Bool} {resp : Option EngResp} {cseq : BitVec 16} {miso : List
    Bool} {w0 : XipCfg} {w1 : XipCfg} {decEn : Bool} {bank : BitVec 4} {bankOut : BitVec 4} {mstErr : BitVec 5} {mstCmd : W32}
    {mstAddr : W32} {mstBusy : Bool} {mstDone : Bool} {lock0 : Bool} {lock1 : Bool} {lockPin : Bool} {buf : List W32} {ops : List
    XipOp} {bus : List XipTx} {slavePend : Bool} :
    lspSettings ⟨role, engine, engEff, lsbFirst, mode, len, lastStatus, short, errPend, err, rx, tx, transfers, shorts, cmd, waiting,
    resp, cseq, miso, w0, w1, decEn, bank, bankOut, mstErr, mstCmd, mstAddr, mstBusy, mstDone, lock0, lock1, lockPin, buf, ops, bus,
    slavePend⟩ =
      ⟨role, engine, lsbFirst, mode, len, decEn, bank, lockPin, lock0, lock1, xipSettings w0, xipSettings w1⟩ := rfl

@[simp] theorem lspSettings_fold (x : Lsp) :
    (⟨x.role, x.engine, x.lsbFirst, x.mode, x.len, x.decEn, x.bank, x.lockPin, x.lock0, x.lock1, xipSettings x.w0, xipSettings x.w1⟩ : LspSettings) =
      lspSettings x := rfl

@[simp] theorem lspSettings_ite {c : Prop} [Decidable c] (a b : Lsp) :
    lspSettings (if c then a else b) = if c then lspSettings a else lspSettings b := apply_ite _ c a b

@[simp] theorem silSettings_mk {delivReady : Bool} {dev : Bool} {secondary : Bool} {stage : BitVec 4} {fail : BitVec 4} {uc : BitVec
    2} {compatOk : Bool} {contCount : Bool} {seasCount : Bool} {floor : BitVec 4} {reseedCap : BitVec 9} {reqLimit : BitVec 7}
    {lspId : BitVec 12} {weights : W32} {perms : List W32} {queues : List W32} {classes : List W32} :
    silSettings ⟨delivReady, dev, secondary, stage, fail, uc, compatOk, contCount, seasCount, floor, reseedCap, reqLimit, lspId,
    weights, perms, queues, classes⟩ =
      ⟨false, dev, secondary, stage, fail, uc, compatOk, contCount, seasCount, floor, reseedCap, reqLimit, lspId, weights, perms, queues,
       classes⟩ := rfl

@[simp] theorem silSettings_fold (x : Sil) :
    (⟨false, x.dev, x.secondary, x.stage, x.fail, x.uc, x.compatOk, x.contCount, x.seasCount, x.floor, x.reseedCap, x.reqLimit, x.lspId,
     x.weights, x.perms, x.queues, x.classes⟩ : Sil) =
      silSettings x := rfl

@[simp] theorem silSettings_ite {c : Prop} [Decidable c] (a b : Sil) :
    silSettings (if c then a else b) = if c then silSettings a else silSettings b := apply_ite _ c a b

@[simp] theorem xipSettings_mk {lateSample : Bool} {mode : BitVec 2} {div : BitVec 8} {rdOp : BitVec 8} {addrHi : BitVec 8} {dummy :
    BitVec 5} {addr4 : Bool} {ppOp : BitVec 8} {wrenOp : BitVec 8} {rdsrOp : BitVec 8} {busyPol : Bool} {busyBit : BitVec 3} {page :
    BitVec 4} {timeoutMs : BitVec 16} {intervalUs : BitVec 16} {gap : BitVec 8} {post : BitVec 8} {pre : BitVec 8} {lastSr : BitVec
    8} :
    xipSettings ⟨lateSample, mode, div, rdOp, addrHi, dummy, addr4, ppOp, wrenOp, rdsrOp, busyPol, busyBit, page, timeoutMs, intervalUs,
    gap, post, pre, lastSr⟩ =
      ⟨lateSample, mode, div, rdOp, addrHi, dummy, addr4, ppOp, wrenOp, rdsrOp, busyPol, busyBit, page, timeoutMs, intervalUs, gap, post,
       pre, 0⟩ := rfl

@[simp] theorem xipSettings_fold (x : XipCfg) :
    (⟨x.lateSample, x.mode, x.div, x.rdOp, x.addrHi, x.dummy, x.addr4, x.ppOp, x.wrenOp, x.rdsrOp, x.busyPol, x.busyBit, x.page,
     x.timeoutMs, x.intervalUs, x.gap, x.post, x.pre, 0⟩ : XipCfg) =
      xipSettings x := rfl

@[simp] theorem xipSettings_ite {c : Prop} [Decidable c] (a b : XipCfg) :
    xipSettings (if c then a else b) = if c then xipSettings a else xipSettings b := apply_ite _ c a b

@[simp] theorem settings_mk {pwr : Pwr} {clk : Clk} {sys : Sys} {sil : Sil} {cal : Cal} {mbx : Mbx} {core : CoreIo} {grn : Grn} {hlt : Hlt}
    {pln : Pln} {tal : Tal} {lan : Lan} {stk : Stk} {job : JobEng} {evt : Evt} {bne : Bne} {ring : Ring} {tim : Tim} {lsp : Lsp}
    {pending : List Instr} :
    settings ⟨pwr, clk, sys, sil, cal, mbx, core, grn, hlt, pln, tal, lan, stk, job, evt, bne, ring, tim, lsp, pending⟩ =
      ⟨pwr, sys, silSettings sil, mbx, core.ram, hltSettings hlt, pln.holdMax, lanSettings lan, stkSettings stk,
       bneSettings bne, evtSettings evt, ringSettings ring, timSettings tim, lspSettings lsp, pending⟩ := rfl

@[simp] theorem settings_fold (s : State) :
    (⟨s.pwr, s.sys, silSettings s.sil, s.mbx, s.core.ram, hltSettings s.hlt, s.pln.holdMax, lanSettings s.lan,
      stkSettings s.stk, bneSettings s.bne, evtSettings s.evt, ringSettings s.ring, timSettings s.tim, lspSettings s.lsp,
      s.pending⟩ : Settings) = settings s := rfl

@[simp] theorem settings_ite {c : Prop} [Decidable c] (a b : State) : settings (if c then a else b) = if c then settings a else settings b :=
  apply_ite settings c a b

/-! ### Machine/Ops.lean -/

@[simp] theorem settings_onlyIf {c : Bool} {f : State → State} {s : State} (h : ∀ u, settings (f u) = settings u) :
    settings (onlyIf c f s) = settings s := by
  cases c
  · rfl
  · exact h s

@[simp] theorem settings_foldl {α : Type} {g : State → α → State} {l : List α} {s : State} (h : ∀ u x, settings (g u x) = settings u) :
    settings (l.foldl g s) = settings s := by
  induction l generalizing s with
  | nil => rfl
  | cons x l ih => exact ih.trans (h s x)

@[simp] theorem settings_foldr {α : Type} {g : α → State → State} {l : List α} {s : State} (h : ∀ x u, settings (g x u) = settings u) :
    settings (l.foldr g s) = settings s := by
  induction l with
  | nil => rfl
  | cons x l ih => exact (h x _).trans ih

@[simp] theorem ringSettings_updPort {r : Ring} {p : PortId} {f : Port → Port} : ringSettings (updPort r p f) = ringSettings r := by
  cases p <;> rfl

@[simp] theorem ringSettings_queueTx {p : PortId} {t : TxFrame} {r : Ring} : ringSettings (queueTx p t r) = ringSettings r := by
  simp [queueTx]

@[simp] theorem ringSettings_sendTx {t : TxFrame} {r : Ring} : ringSettings (sendTx t r) = ringSettings r := by
  simp [sendTx]

@[simp] theorem ringSettings_sendEvent {s : State} {dst : Nat} {kind : TxKind} {payload : List Byte} {r : Ring} :
    ringSettings (sendEvent s dst kind payload r) = ringSettings r := by
  simp [sendEvent]

@[simp] theorem evtSettings_evtStore {v : Evt} {code : Nat} {e : Entry} : evtSettings (evtStore v code e) = evtSettings v := by
  simp [evtStore]

@[simp] theorem settings_bumpOrd {s : State} : settings (bumpOrd s) = settings s := by
  simp [bumpOrd]

@[simp] theorem settings_bumpFree {s : State} : settings (bumpFree s) = settings s := by
  simp [bumpFree]

@[simp] theorem settings_postEvent {code : Nat} {idx : Nat} {detail : Nat} {extra : Word} {s : State} :
    settings (postEvent code idx detail extra s) = settings s := by
  simp [postEvent]

@[simp] theorem settings_post {code : Nat} {idx : Nat} {detail : Nat} {s : State} : settings (post code idx detail s) = settings s := by
  simp [post]

@[simp] theorem settings_updBooks {f : Books → Books} {s : State} : settings (updBooks f s) = settings s := by
  simp [updBooks]

@[simp] theorem settings_raiseFatal {cause : Nat} {idx : Nat} {s : State} : settings (raiseFatal cause idx s) = settings s := by
  simp [raiseFatal]

@[simp] theorem settings_takeSnapshot {s : State} : settings (takeSnapshot s) = settings s := by
  simp [takeSnapshot]

/-! ### Machine/Words.lean -/

@[simp] theorem settings_updQ {q : Nat} {f : DQueue → DQueue} {s : State} : settings (updQ q f s) = settings s := by
  simp [updQ]

@[simp] theorem settings_watermarkEvent {q : Nat} {high : Bool} {s : State} : settings (watermarkEvent q high s) = settings s := by
  unfold watermarkEvent
  split <;> simp

@[simp] theorem settings_relevel {q : Nat} {f : DQueue → DQueue} {s : State} : settings (relevel q f s) = settings s := by
  unfold relevel
  split <;> simp

@[simp] theorem settings_toFlight {refs : List (Nat × Nat)} {s : State} : settings (toFlight refs s) = settings s := by
  simp [toFlight]

@[simp] theorem settings_finishSlots {refs : List (Nat × Nat)} {s : State} : settings (finishSlots refs s) = settings s := by
  simp [finishSlots]

@[simp] theorem settings_deliverWords {refs : List (Nat × Nat)} {n : Nat} {m : Nat} {s : State} :
    settings (deliverWords refs n m s) = settings s := by
  simp [deliverWords]

@[simp] theorem settings_kerfFlight {why : WordKerf} {refs : List (Nat × Nat)} {n : Nat} {s : State} :
    settings (kerfFlight why refs n s) = settings s := by
  simp [kerfFlight]

@[simp] theorem settings_kerfStack {why : WordKerf} {refs : List (Nat × Nat)} {s : State} :
    settings (kerfStack why refs s) = settings s := by
  simp [kerfStack]

@[simp] theorem settings_countQKerf {q : Nat} {n : Nat} {s : State} : settings (countQKerf q n s) = settings s := by
  simp [countQKerf]

@[simp] theorem settings_kerfWords {why : WordKerf} {ws : List AWord} {s : State} : settings (kerfWords why ws s) = settings s := by
  simp [kerfWords]

@[simp] theorem settings_passWords {ws : List AWord} {s : State} : settings (passWords ws s) = settings s := by
  simp [passWords]

/-! ### Machine/LaneBase.lean -/

@[simp] theorem settings_updLane {n : Nat} {f : Lane → Lane} {s : State} : settings (updLane n f s) = settings s := by
  simp [updLane]

@[simp] theorem settings_raiseRequest {n : Nat} {s : State} : settings (raiseRequest n s) = settings s := by
  simp [raiseRequest]

@[simp] theorem settings_laneWait {n : Nat} {s : State} : settings (laneWait n s) = settings s := by
  unfold laneWait
  split <;> simp

@[simp] theorem settings_makeDue {n : Nat} {s : State} : settings (makeDue n s) = settings s := by
  simp [makeDue]

@[simp] theorem settings_prAdd {n : Nat} {p : PrReq} {s : State} : settings (prAdd n p s) = settings s := by
  unfold prAdd
  split <;> simp

@[simp] theorem settings_prPlace {q : Nat} {key : Nat} {accepted : Nat} {s : State} :
    settings (prPlace q key accepted s) = settings s := by
  unfold prPlace
  (repeat' split) <;> simp

@[simp] theorem settings_prDrop {key : Nat} {s : State} : settings (prDrop key s) = settings s := by
  unfold prDrop
  (repeat' split) <;> (try simp) <;> (try rw [settings_foldl]) <;> (try intro u x) <;> (repeat' split) <;> simp

/-! ### Machine/Array.lean -/

@[simp] theorem settings_arrayWrite {a : Nat} {w : Word} {s : State} : settings (arrayWrite a w s) = settings s := by
  simp [arrayWrite]

@[simp] theorem settings_kerfQueue {q : Nat} {why : WordKerf} {p : DQueue → QEntry → Bool} {s : State} :
    settings (kerfQueue q why p s) = settings s := by
  unfold kerfQueue
  split <;> simp

@[simp] theorem settings_updWait {q : Nat} {key : Nat} {f : Waiter → Waiter} {s : State} :
    settings (updWait q key f s) = settings s := by
  unfold updWait
  (repeat' split) <;> (try simp) <;> (try rw [settings_foldl]) <;> (try intro u x) <;> (repeat' split) <;> simp

@[simp] theorem settings_putBack {q : Nat} {v : AWord} {s : State} :
    settings (putBack q v s) = settings s := by
  unfold putBack
  (repeat' split) <;> (try simp) <;> (try rw [settings_foldl]) <;> (try intro u x) <;> (repeat' split) <;> simp

@[simp] theorem settings_releaseAllot {q : Nat} {key : Nat} {s : State} : settings (releaseAllot q key s) = settings s := by
  unfold releaseAllot
  (repeat' split) <;> simp

/-! ### Machine/JobOps.lean -/

@[simp] theorem settings_updJob {id : Nat} {f : Job → Job} {s : State} : settings (updJob id f s) = settings s := by
  simp [updJob]

@[simp] theorem settings_dropJob {id : Nat} {s : State} : settings (dropJob id s) = settings s := by
  simp [dropJob]

@[simp] theorem settings_updStream {r : ReqId} {f : Stream → Stream} {s : State} : settings (updStream r f s) = settings s := by
  simp [updStream]

@[simp] theorem settings_withTxn {f : BitVec 16 → State → State} {s : State} (hf : ∀ u0 u1, settings (f u0 u1) = settings u1) :
    settings (withTxn f s) = settings s := by
  simp [withTxn, hf]

@[simp] theorem settings_sendRequest {type : Nat} {addr : Nat} {len : Nat} {payload : List Byte} {fbase : BitVec 22} {t : TxFrame} {s : State} :
    settings (sendRequest type addr len payload fbase t s) = settings s := by
  simp [sendRequest]

@[simp] theorem settings_sendReply {p : PortId} {t : TxFrame} {s : State} : settings (sendReply p t s) = settings s := by
  simp [sendReply]

@[simp] theorem settings_engRespondAt {lead : Nat} {rstat : Nat} {data : List W32} {unchecked : Bool} {rand : List AWord} {s : State} :
    settings (engRespondAt lead rstat data unchecked rand s) = settings s := by
  unfold engRespondAt
  (repeat' split) <;> (try simp) <;> (try rw [settings_foldl]) <;> (try intro u x) <;> (repeat' split) <;> simp

@[simp] theorem settings_engRespond {rstat : Nat} {data : List W32} {unchecked : Bool} {rand : List AWord} {s : State} :
    settings (engRespond rstat data unchecked rand s) = settings s := by
  simp [engRespond]

@[simp] theorem settings_coreAnswer {status : Nat} {data : List Byte} {unchecked : Bool} {s : State} :
    settings (coreAnswer status data unchecked s) = settings s := by
  simp [coreAnswer]

@[simp] theorem settings_readDone {key : Nat} {a : Acc} {lead : Nat} {status : Nat} {data : List Byte} {ws : List AWord} {s : State} :
    settings (readDone key a lead status data ws s) = settings s := by
  unfold readDone
  (repeat' split) <;> (try simp) <;> (try rw [settings_foldl]) <;> (try intro u x) <;> (repeat' split) <;> simp

@[simp] theorem settings_endRead {key : Nat} {a : Acc} {len : Nat} {status : Nat} {ws : List AWord} {s : State} :
    settings (endRead key a len status ws s) = settings s := by
  simp [endRead]

@[simp] theorem settings_endBurst {key : Nat} {a : Acc} {pre : List W32} {post : List W32} {ws : List AWord} {s : State} :
    settings (endBurst key a pre post ws s) = settings s := by
  unfold endBurst
  (repeat' split) <;> (try simp) <;> (try rw [settings_foldl]) <;> (try intro u x) <;> (repeat' split) <;> simp

@[simp] theorem settings_syncQ {q : Nat} {s : State} : settings (syncQ q s) = settings s := by
  simp [syncQ]

@[simp] theorem settings_syncAll {s : State} : settings (syncAll s) = settings s := by
  simp [syncAll]

@[simp] theorem settings_addWaiter {q : Nat} {w : Waiter} {s : State} : settings (addWaiter q w s) = settings s := by
  simp [addWaiter]

@[simp] theorem settings_dropWaiter {q : Nat} {key : Nat} {s : State} : settings (dropWaiter q key s) = settings s := by
  simp [dropWaiter]

@[simp] theorem settings_dropWaits {id : Nat} {s : State} : settings (dropWaits id s) = settings s := by
  simp [dropWaits]

@[simp] theorem settings_issueWrite {id : Nat} {off : Nat} {bytes : List Byte} {ws : List AWord} {random : Bool} {tag : Option Tag} {s : State} :
    settings (issueWrite id off bytes ws random tag s) = settings s := by
  unfold issueWrite
  split <;> simp

@[simp] theorem settings_drawIssue {id : Nat} {u : Nat} {v : State} : settings (drawIssue id u v) = settings v := by
  fun_induction drawIssue id u v <;> simp_all

@[simp] theorem settings_resultIssue {id : Nat} {last : Bool} {u : Nat} {v : State} :
    settings (resultIssue id last u v) = settings v := by
  fun_induction resultIssue id last u v <;> simp_all

@[simp] theorem settings_pullUnsent {id : Nat} {beacons : Bool} {s : State} : settings (pullUnsent id beacons s) = settings s := by
  simp [pullUnsent]

@[simp] theorem settings_kerfFrames {why : WordKerf} {l : List TxFrame} {s : State} : settings (kerfFrames why l s) = settings s := by
  simp [kerfFrames]

@[simp] theorem settings_dropUnsent {why : WordKerf} {id : Nat} {s : State} : settings (dropUnsent why id s) = settings s := by
  unfold dropUnsent
  split <;> simp

@[simp] theorem settings_releaseUnits {id : Nat} {s : State} : settings (releaseUnits id s) = settings s := by
  simp [releaseUnits]

@[simp] theorem settings_stopJob {id : Nat} {status : BitVec 8} {why : Option WordKerf} {s : State} :
    settings (stopJob id status why s) = settings s := by
  unfold stopJob
  (repeat' split) <;> simp

@[simp] theorem settings_failJob {id : Nat} {status : BitVec 8} {why : Option WordKerf} {s : State} :
    settings (failJob id status why s) = settings s := by
  unfold failJob
  (repeat' split) <;> (try simp) <;> (try rw [settings_foldl]) <;> (try intro u x) <;> (repeat' split) <;> simp

@[simp] theorem settings_completeJob {id : Nat} {s : State} : settings (completeJob id s) = settings s := by
  unfold completeJob
  split <;> simp

@[simp] theorem settings_writeRecord {j : Job} {s : State} : settings (writeRecord j s) = settings s := by
  unfold writeRecord
  split <;> simp

@[simp] theorem settings_recordSweep {n : Nat} {s : State} : settings (recordSweep n s) = settings s := by
  induction n generalizing s with
  | zero => rfl
  | succ n ih =>
    unfold recordSweep recordStep
    cases s.job.jobs.find? (recordGoes s) <;> simp [ih]

@[simp] theorem settings_markWaiting {s : State} : settings (markWaiting s) = settings s := by
  simp [markWaiting]

@[simp] theorem settings_sweepRecords {s : State} : settings (sweepRecords s) = settings s := by
  simp [sweepRecords]

@[simp] theorem settings_storeWaiting {s : State} : settings (storeWaiting s) = settings s := by
  unfold storeWaiting
  split <;> simp

/-! ### Machine/Planes.lean -/

@[simp] theorem settings_updGrn {f : Grn → Grn} {s : State} : settings (updGrn f s) = settings s := by
  simp [updGrn]

@[simp] theorem settings_updPlane {b : Nat} {f : Plane → Plane} {s : State} : settings (updPlane b f s) = settings s := by
  simp [updPlane]

@[simp] theorem settings_closeBlock {b : Nat} {s : State} : settings (closeBlock b s) = settings s := by
  simp [closeBlock]

@[simp] theorem settings_blockCheck {b : Nat} {s : State} : settings (blockCheck b s) = settings s := by
  unfold blockCheck
  split <;> simp

@[simp] theorem settings_takeCellBit {b : Nat} {pos : Nat} {bit : Bool} {s : State} :
    settings (takeCellBit b pos bit s) = settings s := by
  simp [takeCellBit]

@[simp] theorem settings_takeWitBit {b : Nat} {bit : Bool} {s : State} : settings (takeWitBit b bit s) = settings s := by
  simp [takeWitBit]

@[simp] theorem settings_deliverSample {b : Nat} {pos : Nat} {bit : Bool} {s : State} :
    settings (deliverSample b pos bit s) = settings s := by
  unfold deliverSample
  (repeat' split) <;> simp

@[simp] theorem settings_startBlock {b : Nat} {s : State} : settings (startBlock b s) = settings s := by
  unfold startBlock
  split <;> simp

@[simp] theorem settings_planeNext {b : Nat} {s : State} : settings (planeNext b s) = settings s := by
  unfold planeNext
  split <;> simp

@[simp] theorem settings_bumpDisc {why : CreditKerf} {b : Nat} {s : State} : settings (bumpDisc why b s) = settings s := by
  unfold bumpDisc
  split <;> simp

@[simp] theorem settings_kerfBlock {why : CreditKerf} {b : Nat} {s : State} : settings (kerfBlock why b s) = settings s := by
  unfold kerfBlock
  split <;> simp

@[simp] theorem settings_kerfSeed {why : CreditKerf} {b : Nat} {s : State} : settings (kerfSeed why b s) = settings s := by
  unfold kerfSeed
  split <;> simp

@[simp] theorem settings_kerfInProgress {why : CreditKerf} {b : Nat} {s : State} : settings (kerfInProgress why b s) = settings s := by
  unfold kerfInProgress
  split <;> simp

@[simp] theorem settings_failBlock {b : Nat} {s : State} :
    settings (failBlock b s) = settings s := by
  unfold failBlock
  (repeat' split) <;> (try simp) <;> (try rw [settings_foldl]) <;> (try intro u x) <;> (repeat' split) <;> simp

@[simp] theorem settings_planeResume {b : Nat} {s : State} : settings (planeResume b s) = settings s := by
  unfold planeResume
  split <;> simp

@[simp] theorem settings_discardBlock {why : CreditKerf} {b : Nat} {s : State} : settings (discardBlock why b s) = settings s := by
  simp [discardBlock]

@[simp] theorem settings_haltPlane {why : CreditKerf} {b : Nat} {s : State} : settings (haltPlane why b s) = settings s := by
  unfold haltPlane
  split <;> simp

@[simp] theorem settings_planeOnBoard {b : Nat} {s : State} : settings (planeOnBoard b s) = settings s := by
  unfold planeOnBoard
  (repeat' split) <;> simp

@[simp] theorem settings_boardRefresh {left : Bool} {b : Nat} {s : State} :
    settings (boardRefresh left b s) = settings s := by
  unfold boardRefresh
  split <;> simp

@[simp] theorem settings_setSum {i : Nat} {s : State} : settings (setSum i s) = settings s := by
  simp [setSum]

@[simp] theorem settings_retireBoard {b : Nat} {cause : Nat} {s : State} : settings (retireBoard b cause s) = settings s := by
  simp [retireBoard]

/-! ### Machine/Sources.lean -/

@[simp] theorem settings_keyCheck {s : State} : settings (keyCheck s) = settings s := by
  simp [keyCheck]

@[simp] theorem settings_goSrc {code : Nat} {f : Source → Source} {s : State} : settings (goSrc code f s) = settings s := by
  simp [goSrc]

@[simp] theorem settings_retireSource {code : Nat} {byHealth : Bool} {s : State} :
    settings (retireSource code byHealth s) = settings s := by
  simp [retireSource]

@[simp] theorem settings_healthRecord {code : Nat} {test : Nat} {seas : Bool} {s : State} :
    settings (healthRecord code test seas s) = settings s := by
  unfold healthRecord
  split <;> simp

@[simp] theorem settings_countFailure {code : Nat} {seas : Bool} {rct : Bool} {apt : Bool} {s : State} :
    settings (countFailure code seas rct apt s) = settings s := by
  simp [countFailure]

@[simp] theorem settings_noteRetry {code : Nat} {s : State} : settings (noteRetry code s) = settings s := by
  simp [noteRetry]

@[simp] theorem settings_sourceFails {code : Nat} {seas : Bool} {rct : Bool} {apt : Bool} {s : State} :
    settings (sourceFails code seas rct apt s) = settings s := by
  unfold sourceFails
  split <;> simp

@[simp] theorem settings_seasonSample {code : Nat} {xcTested : Bool} {before : Bool} {rct : Bool} {apt : Bool} {s : State} :
    settings (seasonSample code xcTested before rct apt s) = settings s := by
  unfold seasonSample
  split <;> simp

@[simp] theorem settings_lineSample {code : Nat} {bit : Bool} {s : State} : settings (lineSample code bit s) = settings s := by
  unfold lineSample
  split <;> simp

@[simp] theorem settings_captureEnd {code : Nat} {s : State} : settings (captureEnd code s) = settings s := by
  simp [captureEnd]

@[simp] theorem settings_captureSample {code : Nat} {bit : Bool} {rct : Bool} {apt : Bool} {s : State} :
    settings (captureSample code bit rct apt s) = settings s := by
  simp [captureSample]

@[simp] theorem settings_sample {code : Nat} {bit : Bool} {s : State} : settings (sample code bit s) = settings s := by
  unfold sample
  (repeat' split) <;> simp

@[simp] theorem settings_grnRefuse {bit : Nat} {s : State} : settings (grnRefuse bit s) = settings s := by
  simp [grnRefuse]

@[simp] theorem settings_grnEnWrite {b : Nat} {v : W32} {s : State} : settings (grnEnWrite b v s) = settings s := by
  simp [grnEnWrite]

@[simp] theorem settings_grnRestart {code : Nat} {s : State} : settings (grnRestart code s) = settings s := by
  unfold grnRestart
  split <;> simp

@[simp] theorem settings_grnRetire {board : Bool} {idx : Nat} {s : State} : settings (grnRetire board idx s) = settings s := by
  simp [grnRetire]

@[simp] theorem settings_captureStart {code : Nat} {s : State} : settings (captureStart code s) = settings s := by
  simp [captureStart]

@[simp] theorem settings_rawAdvance {s : State} : settings (rawAdvance s) = settings s := by
  simp [rawAdvance]

@[simp] theorem settings_hltSnapAsk {s : State} : settings (hltSnapAsk s) = settings s := by
  simp [hltSnapAsk]

@[simp] theorem settings_hltSnapTake {s : State} : settings (hltSnapTake s) = settings s := by
  simp [hltSnapTake]

/-! ### Machine/Lanes.lean -/

@[simp] theorem holdMax_plnKatOutcome {b : Nat} {ok : Bool} {p : Pln} : (plnKatOutcome b ok p).holdMax = p.holdMax := by
  unfold plnKatOutcome
  (repeat' split) <;> rfl

@[simp] theorem settings_endIfDone {id : Nat} {s : State} : settings (endIfDone id s) = settings s := by
  unfold endIfDone
  split <;> simp

@[simp] theorem settings_testUnitDone {id : Nat} {unit : Nat} {ok : Bool} {s : State} :
    settings (testUnitDone id unit ok s) = settings s := by
  simp [testUnitDone]

@[simp] theorem settings_reseedJobs {n : Nat} {sat : Bool} {s : State} : settings (reseedJobs n sat s) = settings s := by
  unfold reseedJobs
  (repeat' split) <;> (try simp) <;> (try rw [settings_foldl]) <;> (try intro u x) <;> (repeat' split) <;> simp

@[simp] theorem settings_mixCheck {id : Nat} {s : State} : settings (mixCheck id s) = settings s := by
  unfold mixCheck
  split <;> simp

@[simp] theorem settings_mixLeave {n : Nat} {s : State} : settings (mixLeave n s) = settings s := by
  simp [mixLeave]

@[simp] theorem settings_mixFeed {n : Nat} {u : Nat} {v : State} : settings (mixFeed n u v) = settings v := by
  fun_induction mixFeed n u v <;> simp_all

@[simp] theorem settings_pieceAbsorbed {n : Nat} {s : State} : settings (pieceAbsorbed n s) = settings s := by
  unfold pieceAbsorbed
  (repeat' split) <;> simp

@[simp] theorem settings_rebindQueue {q : Nat} {s : State} : settings (rebindQueue q s) = settings s := by
  unfold rebindQueue
  (repeat' split) <;> simp

@[simp] theorem settings_rebindAll {n : Nat} {s : State} :
    settings (rebindAll n s) = settings s := by
  simp [rebindAll]

@[simp] theorem settings_placeOrphans {s : State} : settings (placeOrphans s) = settings s := by
  unfold placeOrphans
  (repeat' split) <;> (try simp) <;> (try rw [settings_foldl]) <;> (try intro u x) <;> (repeat' split) <;> simp

@[simp] theorem settings_placeRefresh {s : State} : settings (placeRefresh s) = settings s := by
  unfold placeRefresh
  (repeat' split) <;> simp

@[simp] theorem settings_refreshDone {n : Nat} {s : State} :
    settings (refreshDone n s) = settings s := by
  unfold refreshDone
  (repeat' split) <;> (try simp) <;> (try rw [settings_foldl]) <;> (try intro u x) <;> (repeat' split) <;> simp

@[simp] theorem settings_laneLeave {n : Nat} {st : LaneState} {s : State} : settings (laneLeave n st s) = settings s := by
  unfold laneLeave
  split <;> simp

@[simp] theorem settings_laneKat {n : Nat} {s : State} : settings (laneKat n s) = settings s := by
  simp [laneKat]

@[simp] theorem settings_laneBoundary {n : Nat} {s : State} : settings (laneBoundary n s) = settings s := by
  unfold laneBoundary
  split <;> simp

@[simp] theorem settings_laneStart {n : Nat} {s : State} : settings (laneStart n s) = settings s := by
  simp [laneStart]

@[simp] theorem settings_lanKatSettle {s : State} : settings (lanKatSettle s) = settings s := by
  unfold lanKatSettle
  split <;> simp

@[simp] theorem settings_lanKatsGone {n : Nat} {l : List KatWho} {s : State} : settings (lanKatsGone n l s) = settings s := by
  unfold lanKatsGone
  (repeat' split) <;> (try simp) <;> (try rw [settings_foldl]) <;> (try intro u x) <;> (repeat' split) <;> simp

@[simp] theorem settings_laneFault {n : Nat} {cause : Nat} {s : State} : settings (laneFault n cause s) = settings s := by
  unfold laneFault
  split <;> simp

@[simp] theorem settings_laneDemand {n : Nat} {s : State} : settings (laneDemand n s) = settings s := by
  unfold laneDemand
  split <;> simp

@[simp] theorem settings_limitsChanged {s : State} : settings (limitsChanged s) = settings s := by
  simp [limitsChanged]

@[simp] theorem settings_laneSeeded {n : Nat} {k : Seed} {s : State} : settings (laneSeeded n k s) = settings s := by
  unfold laneSeeded
  split <;> simp

@[simp] theorem settings_handover {s : State} : settings (handover s) = settings s := by
  unfold handover
  (repeat' split) <;> simp

@[simp] theorem settings_seedReady {b : Nat} {s : State} : settings (seedReady b s) = settings s := by
  unfold seedReady
  (repeat' split) <;> simp

@[simp] theorem settings_seedAged {b : Nat} {s : State} : settings (seedAged b s) = settings s := by
  unfold seedAged
  split <;> simp

@[simp] theorem settings_planeKat {b : Nat} {who : KatWho} {s : State} : settings (planeKat b who s) = settings s := by
  simp [planeKat]

@[simp] theorem settings_plnRun {mask : Nat} {who : KatWho} {s : State} : settings (plnRun mask who s) = settings s := by
  simp [plnRun]

@[simp] theorem settings_plnRunNext {l : List Nat} {s : State} : settings (plnRunNext l s) = settings s := by
  induction l generalizing s with
  | nil => simp [plnRunNext]
  | cons id ids ih =>
    unfold plnRunNext
    (repeat' split) <;> simp [ih]

@[simp] theorem settings_plnTest {id : Nat} {mask : Nat} {s : State} : settings (plnTest id mask s) = settings s := by
  simp [plnTest]

@[simp] theorem settings_planeKatReport {b : Nat} {who : KatWho} {s : State} : settings (planeKatReport b who s) = settings s := by
  unfold planeKatReport
  cases who <;> simp [KatWho.commanded]

@[simp] theorem settings_planeKatFailed {b : Nat} {who : KatWho} {s : State} : settings (planeKatFailed b who s) = settings s := by
  unfold planeKatFailed
  split <;> simp

@[simp] theorem settings_planeKatDone {b : Nat} {compOk : Bool} {hashOk : Bool} {s : State} :
    settings (planeKatDone b compOk hashOk s) = settings s := by
  unfold planeKatDone
  (repeat' split) <;> simp

@[simp] theorem settings_plnKatCmd {mask : Nat} {s : State} : settings (plnKatCmd mask s) = settings s := by
  simp [plnKatCmd]

@[simp] theorem settings_askLaneKat {n : Nat} {who : KatWho} {s : State} : settings (askLaneKat n who s) = settings s := by
  simp [askLaneKat]

@[simp] theorem settings_lanRun {s : State} : settings (lanRun s) = settings s := by
  simp [lanRun]

@[simp] theorem settings_laneKatReport {n : Nat} {who : KatWho} {s : State} : settings (laneKatReport n who s) = settings s := by
  unfold laneKatReport
  cases who <;> simp

@[simp] theorem settings_laneKatFailed {n : Nat} {s : State} : settings (laneKatFailed n s) = settings s := by
  simp [laneKatFailed]

@[simp] theorem settings_laneKatDone {n : Nat} {ok : Bool} {s : State} : settings (laneKatDone n ok s) = settings s := by
  unfold laneKatDone
  (repeat' split) <;> simp

@[simp] theorem settings_lanErr {bit : Nat} {s : State} : settings (lanErr bit s) = settings s := by
  simp [lanErr]

@[simp] theorem settings_lanRefuse {bit : Nat} {s : State} : settings (lanRefuse bit s) = settings s := by
  simp [lanRefuse]

@[simp] theorem settings_lanCmd {mask : Nat} {reseed : Bool} {kat : Bool} {s : State} :
    settings (lanCmd mask reseed kat s) = settings s := by
  simp [lanCmd]

@[simp] theorem settings_lanEnWrite {v : W32} {s : State} : settings (lanEnWrite v s) = settings s := by
  unfold lanEnWrite
  (repeat' split) <;> (try simp) <;> (try rw [settings_foldl]) <;> (try intro u x) <;> (repeat' split) <;> simp

@[simp] theorem settings_prUnbind {q : Nat} {s : State} :
    settings (prUnbind q s) = settings s := by
  unfold prUnbind
  (repeat' split) <;> (try simp) <;> (try rw [settings_foldl]) <;> (try intro u x) <;> (repeat' split) <;> simp

@[simp] theorem settings_lanQbindWrite {q : Nat} {v : W32} {s : State} : settings (lanQbindWrite q v s) = settings s := by
  simp [lanQbindWrite]

@[simp] theorem settings_laneTimeCap {n : Nat} {s : State} : settings (laneTimeCap n s) = settings s := by
  unfold laneTimeCap
  split <;> simp

@[simp] theorem settings_settleLanes {s : State} :
    settings (settleLanes s) = settings s := by
  unfold settleLanes
  (repeat' split) <;> (try simp) <;> (try rw [settings_foldl]) <;> (try intro u x) <;> (repeat' split) <;> simp

@[simp] theorem settings_eachBoard {f : Nat → State → State} {s : State} (hf : ∀ u0 u1, settings (f u0 u1) = settings u1) :
    settings (eachBoard f s) = settings s := by
  simp [eachBoard, hf]

@[simp] theorem settings_dropMarked {b : Nat} {s : State} : settings (dropMarked b s) = settings s := by
  simp [dropMarked]

@[simp] theorem settings_afterDrop {b : Nat} {s : State} : settings (afterDrop b s) = settings s := by
  unfold afterDrop
  split <;> simp

@[simp] theorem settings_restartAll {s : State} : settings (restartAll s) = settings s := by
  simp [restartAll]

@[simp] theorem settings_forceUnmarked {s : State} : settings (forceUnmarked s) = settings s := by
  simp [forceUnmarked]

@[simp] theorem settings_modeChange {before : Bool} {s : State} : settings (modeChange before s) = settings s := by
  simp [modeChange]

/-! ### Machine/Give.lean -/

@[simp] theorem settings_beaconFlushed {id : Nat} {s : State} : settings (beaconFlushed id s) = settings s := by
  unfold beaconFlushed
  split <;> simp

@[simp] theorem settings_jobAsk {id : Nat} {s : State} : settings (jobAsk id s) = settings s := by
  simp only [jobAsk]
  (repeat' split) <;> simp

@[simp] theorem settings_finishCheck {id : Nat} {s : State} : settings (finishCheck id s) = settings s := by
  unfold finishCheck
  split <;> simp

@[simp] theorem settings_issueResult {id : Nat} {bytes : List Byte} {status : BitVec 8} {s : State} :
    settings (issueResult id bytes status s) = settings s := by
  simp [issueResult]

@[simp] theorem settings_permDone {id : Nat} {s : State} : settings (permDone id s) = settings s := by
  unfold permDone
  split <;> simp

@[simp] theorem settings_permStart {id : Nat} {s : State} : settings (permStart id s) = settings s := by
  unfold permStart
  split <;> simp

@[simp] theorem settings_permNext {u : Nat} {v : State} : settings (permNext u v) = settings v := by
  fun_induction permNext u v <;> simp_all

@[simp] theorem settings_acceptInt {id : Nat} {v : Nat} {tag : Tag} {s : State} : settings (acceptInt id v tag s) = settings s := by
  unfold acceptInt
  split <;> simp

@[simp] theorem settings_acceptSwap {id : Nat} {c : Nat} {s : State} : settings (acceptSwap id c s) = settings s := by
  simp [acceptSwap]

@[simp] theorem settings_wordsDone {id : Nat} {s : State} : settings (wordsDone id s) = settings s := by
  unfold wordsDone
  split <;> simp

@[simp] theorem settings_resultGo {id : Nat} {s : State} : settings (resultGo id s) = settings s := by
  unfold resultGo
  split <;> simp

@[simp] theorem settings_distEnd {id : Nat} {s : State} : settings (distEnd id s) = settings s := by
  unfold distEnd
  split <;> simp

@[simp] theorem settings_distTest {id : Nat} {s : State} : settings (distTest id s) = settings s := by
  unfold distTest
  (repeat' split) <;> simp

@[simp] theorem settings_mstErr {bit : Nat} {s : State} : settings (mstErr bit s) = settings s := by
  simp [mstErr]

@[simp] theorem settings_readFailed {id : Nat} {s : State} : settings (readFailed id s) = settings s := by
  unfold readFailed
  split <;> simp

@[simp] theorem settings_issueRead {id : Nat} {s : State} : settings (issueRead id s) = settings s := by
  unfold issueRead
  (repeat' split) <;> simp

@[simp] theorem settings_readKeep {id : Nat} {r : SrcRead} {s : State} : settings (readKeep id r s) = settings s := by
  unfold readKeep
  split <;> simp

@[simp] theorem settings_readBegin {id : Nat} {what : ReadFor} {addr : Nat} {total : Nat} {s : State} :
    settings (readBegin id what addr total s) = settings s := by
  unfold readBegin
  (repeat' split) <;> simp

@[simp] theorem settings_batchGo {id : Nat} {s : State} : settings (batchGo id s) = settings s := by
  unfold batchGo
  split <;> simp

@[simp] theorem settings_fetchRun {id : Nat} {u : Nat} {v : State} : settings (fetchRun id u v) = settings v := by
  fun_induction fetchRun id u v <;> simp_all

@[simp] theorem settings_hashNext {u : Nat} {v : State} : settings (hashNext u v) = settings v := by
  fun_induction hashNext u v <;> simp_all

@[simp] theorem settings_takeCoefs {id : Nat} {ws : List AWord} {s : State} : settings (takeCoefs id ws s) = settings s := by
  simp [takeCoefs]

@[simp] theorem settings_jobGive {id : Nat} {ws : List AWord} {s : State} : settings (jobGive id ws s) = settings s := by
  simp only [jobGive]
  (repeat' split) <;> simp

@[simp] theorem settings_peerGive {slot : Nat} {ws : List AWord} {s : State} : settings (peerGive slot ws s) = settings s := by
  unfold peerGive
  split <;> simp

@[simp] theorem settings_giveWords {w : Waiter} {ws : List AWord} {s : State} : settings (giveWords w ws s) = settings s := by
  unfold giveWords
  split <;> simp

/-! ### Machine/CalOps.lean -/

@[simp] theorem settings_calRestart {code : Nat} {s : State} : settings (calRestart code s) = settings s := by
  simp [calRestart]

@[simp] theorem settings_calApply {c : Cal} {s : State} : settings (calApply c s) = settings s := by
  simp [calApply]

@[simp] theorem settings_calRestoreGroups {req : ReqId} {groups : BitVec 4} {s : State} :
    settings (calRestoreGroups req groups s) = settings s := by
  simp [calRestoreGroups]

/-! ### Machine/Jobs.lean -/

@[simp] theorem settings_addJob {j : Job} {s : State} : settings (addJob j s) = settings s := by
  simp [addJob]

@[simp] theorem settings_progRecord {req : ReqId} {path : Path} {words : Nat} {s : State} :
    settings (progRecord req path words s) = settings s := by
  simp [progRecord]

@[simp] theorem settings_rejectJob {j : Job} {status : BitVec 8} {s : State} : settings (rejectJob j status s) = settings s := by
  simp [rejectJob]

@[simp] theorem settings_benchKat {n : Nat} {who : KatWho} {s : State} : settings (benchKat n who s) = settings s := by
  simp [benchKat]

@[simp] theorem settings_bneRun {s : State} : settings (bneRun s) = settings s := by
  simp [bneRun]

@[simp] theorem settings_bneKatSettle {s : State} : settings (bneKatSettle s) = settings s := by
  unfold bneKatSettle
  split <;> simp

@[simp] theorem settings_hashKat {who : KatWho} {s : State} : settings (hashKat who s) = settings s := by
  simp [hashKat]

@[simp] theorem settings_testStart {id : Nat} {j : Job} {s : State} : settings (testStart id j s) = settings s := by
  simp [testStart]

@[simp] theorem settings_mixStart {id : Nat} {j : Job} {s : State} : settings (mixStart id j s) = settings s := by
  simp [mixStart]

@[simp] theorem settings_reseedStart {id : Nat} {j : Job} {s : State} : settings (reseedStart id j s) = settings s := by
  simp [reseedStart]

@[simp] theorem settings_benchWait {id : Nat} {s : State} : settings (benchWait id s) = settings s := by
  unfold benchWait
  split <;> simp

@[simp] theorem settings_verifyStart {id : Nat} {j : Job} {s : State} : settings (verifyStart id j s) = settings s := by
  simp [verifyStart]

@[simp] theorem settings_tallyStart {id : Nat} {s : State} : settings (tallyStart id s) = settings s := by
  simp [tallyStart]

@[simp] theorem settings_restoreStart {id : Nat} {j : Job} {s : State} : settings (restoreStart id j s) = settings s := by
  simp [restoreStart]

@[simp] theorem settings_voidVerdict {v : Nat} {k : Job} {s : State} :
    settings (voidVerdict v k s) = settings s := by
  unfold voidVerdict
  (repeat' split) <;> (try simp) <;> (try rw [settings_foldl]) <;> (try intro u x) <;> (repeat' split) <;> simp

@[simp] theorem settings_leaveLine {v : Nat} {s : State} :
    settings (leaveLine v s) = settings s := by
  unfold leaveLine
  (repeat' split) <;> (try simp) <;> (try rw [settings_foldl]) <;> (try intro u x) <;> (repeat' split) <;> simp

@[simp] theorem settings_abortTarget {v : Nat} {s : State} : settings (abortTarget v s) = settings s := by
  unfold abortTarget
  split <;> simp

@[simp] theorem settings_abortStart {id : Nat} {j : Job} {s : State} : settings (abortStart id j s) = settings s := by
  simp only [abortStart]
  (repeat' split) <;> simp

@[simp] theorem settings_startJob {id : Nat} {s : State} : settings (startJob id s) = settings s := by
  unfold startJob
  split <;> simp

@[simp] theorem settings_acceptJob {j : Job} {at_ : Option (BitVec 32)} {s : State} : settings (acceptJob j at_ s) = settings s := by
  simp [acceptJob]

@[simp] theorem settings_syncParser {s : State} : settings (syncParser s) = settings s := by
  simp [syncParser]

@[simp] theorem settings_discardRun {r : ReqId} {s : State} : settings (discardRun r s) = settings s := by
  unfold discardRun
  (repeat' split) <;> simp

@[simp] theorem settings_parsePeg {r : ReqId} {h : Word} {s : State} : settings (parsePeg r h s) = settings s := by
  simp [parsePeg]

@[simp] theorem settings_dropAt {r : ReqId} {s : State} : settings (dropAt r s) = settings s := by
  unfold dropAt
  split <;> simp

@[simp] theorem settings_parseOne {r : ReqId} {s : State} : settings (parseOne r s) = settings s := by
  simp only [parseOne]
  (repeat' split) <;> simp

@[simp] theorem settings_parseIf {p : Word → Bool} {s : State} : settings (parseIf p s) = settings s := by
  simp only [parseIf]
  (repeat' split) <;> simp

@[simp] theorem settings_parseOp {op : BitVec 8} {s : State} : settings (parseOp op s) = settings s := by
  simp [parseOp]

@[simp] theorem settings_appendWords {a : Acc} {ws : List Word} {s : State} : settings (appendWords a ws s) = settings s := by
  simp only [appendWords]
  (repeat' split) <;> simp

@[simp] theorem settings_submit {a : Acc} {w : Nat} {bytes : List Byte} {s : State} : settings (submit a w bytes s).2 = settings s := by
  simp only [submit]
  (repeat' split) <;> simp

@[simp] theorem settings_startFree {r : ReqId} {s : State} : settings (startFree r s) = settings s := by
  simp [startFree]

@[simp] theorem settings_fenceRelease {r : ReqId} {s : State} : settings (fenceRelease r s) = settings s := by
  unfold fenceRelease
  (repeat' split) <;> simp

@[simp] theorem settings_countLaunch {late : Bool} {rej : Bool} {s : State} : settings (countLaunch late rej s) = settings s := by
  simp [countLaunch]

@[simp] theorem settings_rejectLaunch {id : Nat} {s : State} : settings (rejectLaunch id s) = settings s := by
  unfold rejectLaunch
  split <;> simp

@[simp] theorem settings_atLaunch {id : Nat} {s : State} : settings (atLaunch id s) = settings s := by
  unfold atLaunch
  (repeat' split) <;> simp

@[simp] theorem settings_beaconAsk {id : Nat} {s : State} : settings (beaconAsk id s) = settings s := by
  unfold beaconAsk
  split <;> simp

@[simp] theorem settings_beaconLaunch {id : Nat} {s : State} : settings (beaconLaunch id s) = settings s := by
  unfold beaconLaunch
  (repeat' split) <;> simp

@[simp] theorem settings_tagSelWrite {v : W32} {s : State} : settings (tagSelWrite v s) = settings s := by
  simp [tagSelWrite]

@[simp] theorem settings_engineLost {s : State} : settings (engineLost s) = settings s := by
  simp [engineLost]

/-! ### Machine/Stack.lean -/

@[simp] theorem settings_stkRefuse {bit : Nat} {s : State} : settings (stkRefuse bit s) = settings s := by
  simp [stkRefuse]

@[simp] theorem settings_peerSkipped {s : State} : settings (peerSkipped s) = settings s := by
  simp [peerSkipped]

@[simp] theorem settings_flushWaiter {q : Nat} {w : Waiter} {s : State} : settings (flushWaiter q w s) = settings s := by
  simp only [flushWaiter]
  (repeat' split) <;> simp

@[simp] theorem settings_flushWaiters {q : Nat} {s : State} : settings (flushWaiters q s) = settings s := by
  unfold flushWaiters
  split <;> simp

@[simp] theorem settings_dropSegments {q : Nat} {why : WordKerf} {s : State} :
    settings (dropSegments q why s) = settings s := by
  unfold dropSegments
  (repeat' split) <;> (try simp) <;> (try rw [settings_foldl]) <;> (try intro u x) <;> (repeat' split) <;> simp

@[simp] theorem settings_queueFlush {q : Nat} {s : State} : settings (queueFlush q s) = settings s := by
  unfold queueFlush
  split <;> simp

@[simp] theorem settings_queueVoid {q : Nat} {s : State} : settings (queueVoid q s) = settings s := by
  unfold queueVoid
  split <;> simp

@[simp] theorem settings_voidCheck {qs : List Nat} {s : State} : settings (voidCheck qs s) = settings s := by
  simp [voidCheck]

@[simp] theorem settings_retireRegion {r : Nat} {s : State} : settings (retireRegion r s) = settings s := by
  simp only [retireRegion]
  (repeat' split) <;> simp

@[simp] theorem settings_countCe {a : Nat} {s : State} : settings (countCe a s) = settings s := by
  simp [countCe]

@[simp] theorem settings_handleUe {a : Nat} {s : State} : settings (handleUe a s) = settings s := by
  simp [handleUe]

@[simp] theorem settings_patrolRead {a : Nat} {e : EccResult} {s : State} : settings (patrolRead a e s) = settings s := by
  unfold patrolRead
  (repeat' split) <;> simp

@[simp] theorem settings_passVoid {q : Nat} {u : Nat} {v : State} :
    settings (passVoid q u v) = settings v := by
  fun_induction passVoid q u v <;> simp_all

@[simp] theorem settings_passVoids {s : State} :
    settings (passVoids s) = settings s := by
  unfold passVoids
  (repeat' split) <;> (try simp) <;> (try rw [settings_foldl]) <;> (try intro u x) <;> (repeat' split) <;> simp

@[simp] theorem settings_deliveryReady {q : Nat} {s : State} : settings (deliveryReady q s) = settings s := by
  simp [deliveryReady]

@[simp] theorem settings_writeSegment {q : Nat} {slots : List Nat} {w : Nat} {ws : List Word} {tag : Tag} {s : State} :
    settings (writeSegment q slots w ws tag s) = settings s := by
  unfold writeSegment
  split <;> simp

@[simp] theorem settings_segmentOffer {n : Nat} {s : State} : settings (segmentOffer n s) = settings s := by
  unfold segmentOffer
  (repeat' split) <;> simp

@[simp] theorem settings_laneGenerate {n : Nat} {k : Nat} {l : Lane} {s : State} : settings (laneGenerate n k l s).2 = settings s := by
  simp [laneGenerate]

@[simp] theorem settings_cutLane {n : Nat} {left : Nat} {s : State} : settings (cutLane n left s) = settings s := by
  simp [cutLane]

@[simp] theorem settings_refreshUsed {s : State} :
    settings (refreshUsed s) = settings s := by
  unfold refreshUsed
  (repeat' split) <;> (try simp) <;> (try rw [settings_foldl]) <;> (try intro u x) <;> (repeat' split) <;> simp

@[simp] theorem settings_laneServe {n : Nat} {l : Lane} {p : PrReq} {cut : Option Nat} {s : State} :
    settings (laneServe n l p cut s) = settings s := by
  unfold laneServe
  (repeat' split) <;> simp

@[simp] theorem settings_laneProduce {n : Nat} {l : Lane} {cut : Option Nat} {s : State} :
    settings (laneProduce n l cut s) = settings s := by
  unfold laneProduce
  (repeat' split) <;> simp

@[simp] theorem settings_laneSegment {n : Nat} {cut : Option Nat} {s : State} : settings (laneSegment n cut s) = settings s := by
  unfold laneSegment
  (repeat' split) <;> simp

@[simp] theorem settings_mixAbsorb {n : Nat} {s : State} : settings (mixAbsorb n s) = settings s := by
  unfold mixAbsorb
  (repeat' split) <;> simp

@[simp] theorem settings_ageScrub {q : Nat} {s : State} : settings (ageScrub q s) = settings s := by
  unfold ageScrub
  split <;> simp

@[simp] theorem settings_readWords {q : Nat} {key : Nat} {u : Nat} {v : GrantEcc} {w : State} :
    settings (readWords q key u v w) = settings w := by
  fun_induction readWords q key u v w <;> simp_all +zetaDelta

@[simp] theorem settings_grantAllot {q : Nat} {ecc : GrantEcc} {s : State} : settings (grantAllot q ecc s) = settings s := by
  simp only [grantAllot]
  (repeat' split) <;> simp

@[simp] theorem settings_takeSlot {a : Acc} {key : Nat} {s : State} : settings (takeSlot a key s) = settings s := by
  unfold takeSlot
  split <;> simp

@[simp] theorem settings_readWait {a : Acc} {q : Nat} {len : Nat} {what : WaitFor} {cmp : Bool} {s : State} :
    settings (readWait a q len what cmp s) = settings s := by
  unfold readWait
  split <;> simp

@[simp] theorem settings_stallingRead {a : Acc} {q : Nat} {len : Nat} {what : WaitFor} {hold : Bool} {cmp : Bool} {s : State} :
    settings (stallingRead a q len what hold cmp s) = settings s := by
  unfold stallingRead
  (repeat' split) <;> (try simp) <;> (try rw [settings_foldl]) <;> (try intro u x) <;> (repeat' split) <;> simp

@[simp] theorem settings_deliveryRead {a : Acc} {q : Nat} {len : Nat} {hold : Bool} {cmp : Bool} {s : State} :
    settings (deliveryRead a q len hold cmp s) = settings s := by
  simp [deliveryRead]

@[simp] theorem settings_cmpRefresh {s : State} : settings (cmpRefresh s) = settings s := by
  simp [cmpRefresh]

@[simp] theorem settings_stallWaiter {q : Nat} {w : Waiter} {s : State} : settings (stallWaiter q w s) = settings s := by
  simp only [stallWaiter]
  (repeat' split) <;> simp

@[simp] theorem settings_stallExpire {w : WaitId} {s : State} : settings (stallExpire w s) = settings s := by
  unfold stallExpire
  (repeat' split) <;> simp

@[simp] theorem settings_dropKinds {p : PortId} {ks : List TxKind} {s : State} : settings (dropKinds p ks s) = settings s := by
  simp [dropKinds]

@[simp] theorem settings_endWrite {id : Nat} {no : Nat} {st : WState} {s : State} : settings (endWrite id no st s) = settings s := by
  simp [endWrite]

@[simp] theorem settings_endBeacon {id : Nat} {st : WState} {s : State} : settings (endBeacon id st s) = settings s := by
  unfold endBeacon
  split <;> simp

@[simp] theorem settings_forceJob {k : TxKind} {s : State} : settings (forceJob k s) = settings s := by
  unfold forceJob
  split <;> simp

@[simp] theorem settings_markForced {q : Nat} {s : State} : settings (markForced q s) = settings s := by
  unfold markForced
  split <;> simp

@[simp] theorem settings_resultDrop {p : PortId} {txn : BitVec 16} {s : State} : settings (resultDrop p txn s) = settings s := by
  unfold resultDrop
  (repeat' split) <;> simp

@[simp] theorem settings_queueOn {q : Nat} {s : State} : settings (queueOn q s) = settings s := by
  unfold queueOn
  split <;> simp

@[simp] theorem settings_queueOffWrite {q : Nat} {flush : Bool} {s : State} : settings (queueOffWrite q flush s) = settings s := by
  unfold queueOffWrite
  split <;> simp

@[simp] theorem settings_dqCtrlWrite {q : Nat} {v : W32} {s : State} : settings (dqCtrlWrite q v s) = settings s := by
  simp [dqCtrlWrite]

@[simp] theorem settings_dqConfigWrite {q : Nat} {size : Bool} {v : W32} {s : State} :
    settings (dqConfigWrite q size v s) = settings s := by
  unfold dqConfigWrite
  split <;> simp

@[simp] theorem settings_dqWmWrite {q : Nat} {v : W32} {s : State} : settings (dqWmWrite q v s) = settings s := by
  simp [dqWmWrite]

@[simp] theorem settings_stkTagSel {v : W32} {s : State} : settings (stkTagSel v s) = settings s := by
  simp [stkTagSel]

@[simp] theorem settings_clearDone {s : State} : settings (clearDone s) = settings s := by
  simp [clearDone]

/-! ### Machine/Bench.lean -/

@[simp] theorem settings_updBench {n : Nat} {f : Bench → Bench} {s : State} : settings (updBench n f s) = settings s := by
  simp [updBench]

@[simp] theorem settings_bneRefuse {n : Nat} {bit : Nat} {s : State} : settings (bneRefuse n bit s) = settings s := by
  simp [bneRefuse]

@[simp] theorem settings_syncBench {s : State} : settings (syncBench s) = settings s := by
  simp [syncBench]

@[simp] theorem settings_benchJobStart {s : State} : settings (benchJobStart s) = settings s := by
  simp only [benchJobStart]
  (repeat' split) <;> simp

@[simp] theorem settings_denyOrphans {s : State} : settings (denyOrphans s) = settings s := by
  simp [denyOrphans]

@[simp] theorem settings_starveWaiters {s : State} : settings (starveWaiters s) = settings s := by
  simp [starveWaiters]

@[simp] theorem settings_benchSettle {s : State} : settings (benchSettle s) = settings s := by
  simp [benchSettle]

@[simp] theorem settings_idleTouch {s : State} : settings (idleTouch s) = settings s := by
  simp [idleTouch]

@[simp] theorem settings_benchClaim {r : ReqId} {n : Nat} {s : State} : settings (benchClaim r n s) = settings s := by
  simp [benchClaim]

@[simp] theorem settings_endOwner {n : Nat} {s : State} : settings (endOwner n s) = settings s := by
  simp [endOwner]

@[simp] theorem settings_benchRelease {r : ReqId} {n : Nat} {s : State} : settings (benchRelease r n s) = settings s := by
  unfold benchRelease
  split <;> simp

@[simp] theorem settings_benchIdleTimeout {n : Nat} {s : State} : settings (benchIdleTimeout n s) = settings s := by
  unfold benchIdleTimeout
  (repeat' split) <;> simp

@[simp] theorem settings_benchWindow {r : ReqId} {n : Nat} {off : Nat} {op : WindowOp} {s : State} :
    settings (benchWindow r n off op s).2.2 = settings s := by
  simp only [benchWindow]
  (repeat' split) <;> simp

@[simp] theorem settings_benchEnd {n : Nat} {s : State} : settings (benchEnd n s) = settings s := by
  unfold benchEnd
  (repeat' split) <;> simp

@[simp] theorem settings_verdictEnd {n : Nat} {id : Nat} {status : BitVec 8} {count : Nat} {confirmed : Bool} {s : State} :
    settings (verdictEnd n id status count confirmed s) = settings s := by
  simp [verdictEnd]

@[simp] theorem settings_mismatch {n : Nat} {id : Nat} {s : State} : settings (mismatch n id s) = settings s := by
  unfold mismatch
  split <;> simp

@[simp] theorem settings_verifyVerdict {n : Nat} {id : Nat} {j : Job} {agree : Bool} {s : State} :
    settings (verifyVerdict n id j agree s) = settings s := by
  simp [verifyVerdict]

@[simp] theorem settings_batchEnd {n : Nat} {id : Nat} {j : Job} {ok : List Nat} {s : State} :
    settings (batchEnd n id j ok s) = settings s := by
  simp [batchEnd]

@[simp] theorem settings_batchVerdict {n : Nat} {id : Nat} {j : Job} {agree : Bool} {s : State} :
    settings (batchVerdict n id j agree s) = settings s := by
  simp [batchVerdict]

@[simp] theorem settings_benchVerdict {n : Nat} {agree : Bool} {s : State} : settings (benchVerdict n agree s) = settings s := by
  unfold benchVerdict
  (repeat' split) <;> simp

@[simp] theorem settings_dropBenchKats {n : Nat} {s : State} : settings (dropBenchKats n s) = settings s := by
  unfold dropBenchKats
  (repeat' split) <;> (try simp) <;> (try rw [settings_foldl]) <;> (try intro u x) <;> (repeat' split) <;> simp

@[simp] theorem settings_retireBench {n : Nat} {cause : Nat} {s : State} : settings (retireBench n cause s) = settings s := by
  simp [retireBench]

@[simp] theorem settings_benchClearDone {n : Nat} {s : State} : settings (benchClearDone n s) = settings s := by
  unfold benchClearDone
  split <;> simp

@[simp] theorem settings_ucodeUncorrectable {s : State} : settings (ucodeUncorrectable s) = settings s := by
  unfold ucodeUncorrectable
  (repeat' split) <;> (try simp) <;> (try rw [settings_foldl]) <;> (try intro u x) <;> (repeat' split) <;> simp

@[simp] theorem settings_ucodeStoreError {unc : Bool} {s : State} : settings (ucodeStoreError unc s) = settings s := by
  simp [ucodeStoreError]

@[simp] theorem settings_bneKatCmd {v : W32} {s : State} : settings (bneKatCmd v s) = settings s := by
  simp [bneKatCmd]

@[simp] theorem settings_bneKatReport {unit : Nat} {who : KatWho} {ok : Bool} {s : State} : settings (bneKatReport unit who ok s) = settings s := by
  unfold bneKatReport
  cases who <;> simp

@[simp] theorem settings_benchKatDone {n : Nat} {ok : Bool} {s : State} : settings (benchKatDone n ok s) = settings s := by
  unfold benchKatDone
  (repeat' split) <;> simp

@[simp] theorem settings_hashKatDone {ok : Bool} {s : State} : settings (hashKatDone ok s) = settings s := by
  unfold hashKatDone
  (repeat' split) <;> simp

@[simp] theorem settings_syncHash {s : State} : settings (syncHash s) = settings s := by
  simp [syncHash]

@[simp] theorem settings_digestDone {id : Nat} {r : SrcRead} {d : List Byte} {s : State} :
    settings (digestDone id r d s) = settings s := by
  unfold digestDone
  split <;> simp

@[simp] theorem settings_hashTurnDone {s : State} : settings (hashTurnDone s) = settings s := by
  simp only [hashTurnDone]
  (repeat' split) <;> simp

/-! ### Machine/RingLink.lean -/

@[simp] theorem ringSettings_remember {b : SeenB} {r : Ring} : ringSettings (remember b r) = ringSettings r := by
  simp [remember]

@[simp] theorem settings_onPort {p : PortId} {f : Port → Port} {s : State} : settings (onPort p f s) = settings s := by
  simp [onPort]

@[simp] theorem settings_giveCredit {p : PortId} {pool : Nat} {s : State} : settings (giveCredit p pool s) = settings s := by
  simp [giveCredit]

@[simp] theorem settings_rxFrame {p : PortId} {f : Frame} {s : State} : settings (rxFrame p f s) = settings s := by
  simp [rxFrame]

@[simp] theorem settings_rxAccess {p : PortId} {hold : Bool} {mark : Bool} {s : State} :
    settings (rxAccess p hold mark s) = settings s := by
  simp [rxAccess]

@[simp] theorem settings_noteSent {p : PortId} {t : TxFrame} {s : State} : settings (noteSent p t s) = settings s := by
  simp [noteSent]

@[simp] theorem settings_noteBcast {p : PortId} {t : TxFrame} {s : State} : settings (noteBcast p t s) = settings s := by
  simp [noteBcast]

@[simp] theorem settings_freeTransit {t : TxFrame} {s : State} : settings (freeTransit t s) = settings s := by
  unfold freeTransit
  split <;> simp

@[simp] theorem settings_sendAt {p : PortId} {i : Nat} {s : State} : settings (sendAt p i s) = settings s := by
  simp only [sendAt]
  (repeat' split) <;> simp

@[simp] theorem settings_pumpPort {p : PortId} {u : Nat} {v : State} : settings (pumpPort p u v) = settings v := by
  fun_induction pumpPort p u v <;> simp_all

@[simp] theorem settings_creditWait {p : PortId} {s : State} : settings (creditWait p s) = settings s := by
  simp [creditWait]

@[simp] theorem settings_pump {s : State} : settings (pump s) = settings s := by
  simp [pump]

@[simp] theorem settings_sendIdent {p : PortId} {s : State} : settings (sendIdent p s) = settings s := by
  simp [sendIdent]

@[simp] theorem settings_sendIdents {s : State} : settings (sendIdents s) = settings s := by
  simp [sendIdents]

@[simp] theorem settings_linkSend {p : PortId} {s : State} : settings (linkSend p s) = settings s := by
  simp [linkSend]

@[simp] theorem settings_replay {p : PortId} {s : State} : settings (replay p s) = settings s := by
  simp [replay]

@[simp] theorem settings_freeHeld {key : Nat} {s : State} : settings (freeHeld key s) = settings s := by
  simp [freeHeld]

@[simp] theorem settings_markJob {id : Nat} {marked : Nat} {s : State} : settings (markJob id marked s) = settings s := by
  simp [markJob]

@[simp] theorem settings_frameAcked {t : TxFrame} {s : State} : settings (frameAcked t s) = settings s := by
  unfold frameAcked
  (repeat' split) <;> simp

@[simp] theorem settings_linkRx {p : PortId} {w : Word} {s : State} : settings (linkRx p w s) = settings s := by
  simp [linkRx]

@[simp] theorem settings_frameCrcError {p : PortId} {bad : Bool} {s : State} : settings (frameCrcError p bad s) = settings s := by
  simp [frameCrcError]

@[simp] theorem settings_replayTimer {p : PortId} {s : State} : settings (replayTimer p s) = settings s := by
  simp [replayTimer]

@[simp] theorem settings_forward {p : PortId} {pool : Nat} {f : Frame} {s : State} : settings (forward p pool f s) = settings s := by
  simp [forward]

@[simp] theorem settings_forwardBcast {p : PortId} {f : Frame} {resid : Nat} {s : State} :
    settings (forwardBcast p f resid s) = settings s := by
  simp [forwardBcast]

@[simp] theorem settings_rxBad {p : PortId} {f : Frame} {s : State} : settings (rxBad p f s) = settings s := by
  simp [rxBad]

@[simp] theorem settings_ringRxBad {p : PortId} {f : Frame} {s : State} : settings (ringRxBad p f s) = settings s := by
  simp [ringRxBad]

@[simp] theorem settings_transitFrame {p : PortId} {f : Frame} {resid : Nat} {s : State} :
    settings (transitFrame p f resid s) = settings s := by
  simp [transitFrame]

/-! ### Machine/Failover.lean -/

@[simp] theorem settings_takeBack {id : Nat} {s : State} : settings (takeBack id s) = settings s := by
  unfold takeBack
  split <;> simp

@[simp] theorem settings_rebuild {id : Nat} {s : State} : settings (rebuild id s) = settings s := by
  simp [rebuild]

@[simp] theorem settings_reserve {id : Nat} {nos : List Nat} {s : State} : settings (reserve id nos s) = settings s := by
  unfold reserve
  split <;> simp

@[simp] theorem settings_reroute {p : PortId} {s : State} : settings (reroute p s) = settings s := by
  simp [reroute]

@[simp] theorem settings_requeueStores {ps : List PortId} {s : State} : settings (requeueStores ps s) = settings s := by
  simp [requeueStores]

@[simp] theorem settings_lostReply {t : TxFrame} {s : State} : settings (lostReply t s) = settings s := by
  unfold lostReply
  split <;> simp

@[simp] theorem settings_lostBeacon {k : TxKind} {s : State} : settings (lostBeacon k s) = settings s := by
  unfold lostBeacon
  split <;> simp

@[simp] theorem settings_breakFrame {p : PortId} {s : State} : settings (breakFrame p s) = settings s := by
  simp [breakFrame]

@[simp] theorem settings_sendBreak {p : PortId} {s : State} : settings (sendBreak p s) = settings s := by
  simp [sendBreak]

@[simp] theorem settings_failoverNote {from_ : PortId ⊕ BitVec 12} {cause : Nat} {n : Nat} {s : State} :
    settings (failoverNote from_ cause n s) = settings s := by
  simp [failoverNote]

@[simp] theorem settings_declareLost {ps : List PortId} {s : State} :
    settings (declareLost ps s) = settings s := by
  unfold declareLost
  (repeat' split) <;> (try simp) <;> (try rw [settings_foldl]) <;> (try intro u x) <;> (repeat' split) <;> simp

@[simp] theorem settings_failover {ps : List PortId} {from_ : PortId ⊕ BitVec 12} {cause : Nat} {s : State} :
    settings (failover ps from_ cause s) = settings s := by
  cases from_ <;> simp [failover]

@[simp] theorem settings_failoverJoin {p : PortId} {s : State} :
    settings (failoverJoin p s) = settings s := by
  unfold failoverJoin
  (repeat' split) <;> (try simp) <;> (try rw [settings_foldl]) <;> (try intro u x) <;> (repeat' split) <;> simp

@[simp] theorem settings_enterService {p : PortId} {s : State} : settings (enterService p s) = settings s := by
  simp [enterService]

@[simp] theorem settings_portTrain {p : PortId} {s : State} : settings (portTrain p s) = settings s := by
  simp [portTrain]

@[simp] theorem settings_failPort {p : PortId} {cause : Nat} {s : State} : settings (failPort p cause s) = settings s := by
  simp [failPort]

@[simp] theorem settings_identRx {p : PortId} {w : Word} {s : State} : settings (identRx p w s) = settings s := by
  simp [identRx]

@[simp] theorem settings_lossOfLock {p : PortId} {s : State} : settings (lossOfLock p s) = settings s := by
  simp [lossOfLock]

@[simp] theorem settings_highBer {p : PortId} {s : State} : settings (highBer p s) = settings s := by
  simp [highBer]

@[simp] theorem settings_retransLimit {p : PortId} {s : State} : settings (retransLimit p s) = settings s := by
  simp [retransLimit]

@[simp] theorem settings_creditTimeout {p : PortId} {s : State} : settings (creditTimeout p s) = settings s := by
  simp [creditTimeout]

@[simp] theorem settings_restoreTimer {p : PortId} {s : State} : settings (restoreTimer p s) = settings s := by
  simp [restoreTimer]

@[simp] theorem settings_restoreCmd {bits : Nat} {s : State} : settings (restoreCmd bits s) = settings s := by
  simp [restoreCmd]

@[simp] theorem settings_ckRingAbsent {s : State} : settings (ckRingAbsent s) = settings s := by
  simp [ckRingAbsent]

@[simp] theorem settings_breakRx {p : PortId} {f : Frame} {s : State} : settings (breakRx p f s) = settings s := by
  simp [breakRx]

@[simp] theorem settings_beaconRx {p : PortId} {f : Frame} {s : State} : settings (beaconRx p f s) = settings s := by
  simp [beaconRx]

@[simp] theorem settings_dropOutst {o : Outst} {s : State} : settings (dropOutst o s) = settings s := by
  simp [dropOutst]

@[simp] theorem settings_wrAckRx {p : PortId} {f : Frame} {s : State} : settings (wrAckRx p f s) = settings s := by
  unfold wrAckRx
  (repeat' split) <;> simp

@[simp] theorem settings_readArrives {id : Nat} {data : List Byte} {s : State} : settings (readArrives id data s) = settings s := by
  unfold readArrives
  (repeat' split) <;> simp

@[simp] theorem settings_rdRspRx {p : PortId} {f : Frame} {s : State} : settings (rdRspRx p f s) = settings s := by
  unfold rdRspRx
  (repeat' split) <;> simp

@[simp] theorem settings_enumRx {p : PortId} {f : Frame} {s : State} : settings (enumRx p f s) = settings s := by
  simp [enumRx]

/-! ### Machine/Hier.lean -/

@[simp] theorem settings_sendPlain {t : TxFrame} {s : State} : settings (sendPlain t s) = settings s := by
  simp [sendPlain]

@[simp] theorem settings_updWorker {k : Nat} {f : Worker → Worker} {s : State} : settings (updWorker k f s) = settings s := by
  simp [updWorker]

@[simp] theorem settings_fabricAlarm {o : BitVec 12} {cause : BitVec 8} {idx : BitVec 8} {s : State} :
    settings (fabricAlarm o cause idx s) = settings s := by
  simp [fabricAlarm]

@[simp] theorem settings_raiseFabric {o : BitVec 12} {cause : BitVec 8} {idx : BitVec 8} {s : State} :
    settings (raiseFabric o cause idx s) = settings s := by
  simp [raiseFabric]

@[simp] theorem settings_alarmTx {s : State} : settings (alarmTx s) = settings s := by
  simp [alarmTx]

@[simp] theorem settings_announceTx {s : State} : settings (announceTx s) = settings s := by
  simp [announceTx]

@[simp] theorem settings_hierIn {p : PortId} {f : Frame} {resid : Nat} {s : State} : settings (hierIn p f resid s) = settings s := by
  simp [hierIn]

@[simp] theorem settings_takeManager {src : BitVec 12} {s : State} : settings (takeManager src s) = settings s := by
  simp [takeManager]

@[simp] theorem settings_announceRx {p : PortId} {f : Frame} {s : State} : settings (announceRx p f s) = settings s := by
  unfold announceRx
  (repeat' split) <;> simp

@[simp] theorem settings_standbyTimeout {s : State} : settings (standbyTimeout s) = settings s := by
  simp [standbyTimeout]

@[simp] theorem settings_mgrForeign {f : Frame} {s : State} : settings (mgrForeign f s) = settings s := by
  simp [mgrForeign]

@[simp] theorem settings_fromManager {f : Frame} {g : State → State} {s : State} (hg : ∀ u0, settings (g u0) = settings u0) :
    settings (fromManager f g s) = settings s := by
  simp [fromManager, hg]

@[simp] theorem settings_helloTx {s : State} : settings (helloTx s) = settings s := by
  simp [helloTx]

@[simp] theorem settings_helloRx {p : PortId} {f : Frame} {s : State} : settings (helloRx p f s) = settings s := by
  unfold helloRx
  (repeat' split) <;> simp

@[simp] theorem settings_slotExpire {k : Nat} {s : State} : settings (slotExpire k s) = settings s := by
  unfold slotExpire
  split <;> simp

@[simp] theorem settings_peerTx {k : Nat} {s : State} : settings (peerTx k s) = settings s := by
  unfold peerTx
  split <;> simp

@[simp] theorem settings_peerStore {f : Frame} {s : State} : settings (peerStore f s) = settings s := by
  simp [peerStore]

@[simp] theorem settings_peerRx {p : PortId} {f : Frame} {s : State} : settings (peerRx p f s) = settings s := by
  simp [peerRx]

@[simp] theorem settings_gatherTx {k : Nat} {s : State} : settings (gatherTx k s) = settings s := by
  unfold gatherTx
  split <;> simp

@[simp] theorem settings_gatherReply {seq : Nat} {s : State} : settings (gatherReply seq s) = settings s := by
  simp [gatherReply]

@[simp] theorem settings_gatherRx {p : PortId} {f : Frame} {s : State} : settings (gatherRx p f s) = settings s := by
  simp [gatherRx]

@[simp] theorem settings_reportRx {p : PortId} {f : Frame} {health : Bool} {s : State} :
    settings (reportRx p f health s) = settings s := by
  unfold reportRx
  (repeat' split) <;> simp

@[simp] theorem settings_gatherStale {k : Nat} {s : State} : settings (gatherStale k s) = settings s := by
  unfold gatherStale
  split <;> simp

@[simp] theorem settings_alarmRx {p : PortId} {f : Frame} {s : State} : settings (alarmRx p f s) = settings s := by
  simp [alarmRx]

@[simp] theorem settings_recordFabric {f : Frame} {s : State} : settings (recordFabric f s) = settings s := by
  simp [recordFabric]

@[simp] theorem settings_fabricAlarmRx {p : PortId} {f : Frame} {s : State} : settings (fabricAlarmRx p f s) = settings s := by
  simp [fabricAlarmRx]

/-! ### Machine/Tim.lean -/

/-- The counter's own fields are no settings. -/
theorem settings_counted {s : State} {a b : BitVec 80} {p : Int} :
    settings { s with tim := { s.tim with prev := a, cnt := b, phase := p } } = settings s := rfl

/-- The fields of the discipline are no settings. -/
theorem settings_slewed {s : State} {d : Bool} {p : Int} {f : W32} {n : Nat} :
    settings { s with tim := { s.tim with f := f, skipF := d, phase := p, phaseT := n } } = settings s := rfl

@[simp] theorem settings_countUp {s : State} : settings (countUp s) = settings s := by
  unfold countUp
  exact settings_counted

@[simp] theorem settings_resched {s : State} : settings (resched s) = settings s := by
  simp [resched]

@[simp] theorem settings_timeStep {src : Nat} {new : BitVec 80} {corr : ℤ} {s : State} :
    settings (timeStep src new corr s) = settings s := by
  simp [timeStep]

@[simp] theorem settings_enterTrack {s : State} : settings (enterTrack s) = settings s := by
  simp [enterTrack]

@[simp] theorem settings_sampleApply {src : Nat} {own : Bool} {e : Int} {s : State} :
    settings (sampleApply src own e s) = settings s := by
  unfold sampleApply
  extract_lets t src1 s1 f
  have h : settings s1 = settings s := by
    simp only [s1, src1]
    split <;> simp
  clear_value f
  split
  · simp [h]
  · exact settings_slewed.trans h

@[simp] theorem settings_meetHere {s : State} :
    settings (meetHere s) = settings s := by
  unfold meetHere
  (repeat' split) <;> (try simp) <;> (try rw [settings_foldl]) <;> (try intro u x) <;> (repeat' split) <;> simp

@[simp] theorem settings_timeSample {src : Nat} {own : Bool} {e : ℤ} {s : State} : settings (timeSample src own e s) = settings s := by
  simp [timeSample]

@[simp] theorem settings_timeSet {wrap : BitVec 16} {ns : BitVec 32} {s : State} : settings (timeSet wrap ns s) = settings s := by
  simp [timeSet]

@[simp] theorem settings_timeAdj {v : W32} {s : State} : settings (timeAdj v s) = settings s := by
  simp [timeAdj]

@[simp] theorem settings_applyHeld {s : State} : settings (applyHeld s) = settings s := by
  unfold applyHeld
  (repeat' split) <;> simp

@[simp] theorem settings_timCmd {v : W32} {s : State} : settings (timCmd v s) = settings s := by
  simp [timCmd]

@[simp] theorem settings_timeHoldover {s : State} : settings (timeHoldover s) = settings s := by
  simp [timeHoldover]

@[simp] theorem settings_syncTake {p : PortId} {f : Frame} {s : State} : settings (syncTake p f s) = settings s := by
  simp [syncTake]

@[simp] theorem settings_syncRx {p : PortId} {f : Frame} {s : State} : settings (syncRx p f s) = settings s := by
  simp [syncRx]

@[simp] theorem settings_syncTx {s : State} : settings (syncTx s) = settings s := by
  simp [syncTx]

@[simp] theorem settings_syncInIgnored {s : State} : settings (syncInIgnored s) = settings s := by
  simp [syncInIgnored]

@[simp] theorem settings_syncInEdge {s : State} : settings (syncInEdge s) = settings s := by
  simp [syncInEdge]

@[simp] theorem settings_ckTimeLost {s : State} : settings (ckTimeLost s) = settings s := by
  simp [ckTimeLost]

@[simp] theorem settings_refclkLost {s : State} :
    settings (refclkLost s) = settings s := by
  unfold refclkLost
  (repeat' split) <;> (try simp) <;> (try rw [settings_foldl]) <;> (try intro u x) <;> (repeat' split) <;> simp

@[simp] theorem settings_ckTimeRestored {s : State} : settings (ckTimeRestored s) = settings s := by
  simp [ckTimeRestored]

@[simp] theorem settings_timeTick {s : State} : settings (timeTick s) = settings s := by
  simp [timeTick]

@[simp] theorem settings_syncOutPulse {s : State} : settings (syncOutPulse s) = settings s := by
  unfold syncOutPulse
  split <;> simp

@[simp] theorem settings_syncOutEnd {s : State} : settings (syncOutEnd s) = settings s := by
  simp [syncOutEnd]

@[simp] theorem settings_syncOutStart {v : W32} {s : State} : settings (syncOutStart v s) = settings s := by
  simp [syncOutStart]

/-! ### Machine/Lsp.lean -/

@[simp] theorem settings_answer {a : Acc} {write : Bool} {status : Nat} {data : List Byte} {un : Bool} {s : State} :
    settings (answer a write status data un s) = settings s := by
  unfold answer
  split <;> simp

@[simp] theorem settings_slvErr {bit : Nat} {s : State} : settings (slvErr bit s) = settings s := by
  simp [slvErr]

@[simp] theorem settings_engineSwitch {s : State} : settings (engineSwitch s) = settings s := by
  simp [engineSwitch]

@[simp] theorem settings_lspFill {s : State} : settings (lspFill s) = settings s := by
  unfold lspFill
  split <;> simp

@[simp] theorem settings_respShift {k : Nat} {s : State} : settings (respShift k s) = settings s := by
  unfold respShift
  split <;> simp

@[simp] theorem settings_engFormat {w : W32} {s : State} : settings (engFormat w s) = settings s := by
  simp [engFormat]

@[simp] theorem settings_engTake {words : List (List Bool)} {s : State} : settings (engTake words s) = settings s := by
  unfold engTake
  split <;> simp

@[simp] theorem settings_engSlots {ready : Bool} {words : List (List Bool)} {s : State} :
    settings (engSlots ready words s).2 = settings s := by
  simp [engSlots]

@[simp] theorem settings_rawSlot {b : List Bool} {s : State} : settings (rawSlot b s).2 = settings s := by
  simp [rawSlot]

@[simp] theorem settings_rawSlots {u : List (List Bool)} {v : State} : settings (rawSlots u v).2 = settings v := by
  fun_induction rawSlots u v <;> simp_all +zetaDelta

@[simp] theorem settings_shortWord {words : List (List Bool)} {s : State} : settings (shortWord words s) = settings s := by
  unfold shortWord
  split <;> simp

@[simp] theorem settings_lspTransfer {mosi : List Bool} {s : State} : settings (lspTransfer mosi s) = settings s := by
  simp only [lspTransfer]
  (repeat' split) <;> simp

@[simp] theorem settings_lspPeriods {bits : List Bool} {u : List (Nat × List Bool)} {v : State} :
    settings (lspPeriods bits u v) = settings v := by
  fun_induction lspPeriods bits u v <;> simp_all

@[simp] theorem settings_updXip {w : Nat} {f : XipCfg → XipCfg} {s : State} (h : ∀ c, xipSettings (f c) = xipSettings c) :
    settings (updXip w f s) = settings s := by
  unfold updXip
  split <;> simp [h]

@[simp] theorem settings_xipStart {s : State} : settings (xipStart s) = settings s := by
  unfold xipStart
  split <;> simp

@[simp] theorem settings_dselSync {s : State} : settings (dselSync s) = settings s := by
  simp [dselSync]

@[simp] theorem settings_xipReply {o : XipOp} {status : Nat} {data : List Byte} {s : State} :
    settings (xipReply o status data s) = settings s := by
  unfold xipReply
  split <;> simp

@[simp] theorem settings_xipNext {s : State} : settings (xipNext s) = settings s := by
  simp [xipNext]

@[simp] theorem settings_xipComplete {o : XipOp} {data : List Byte} {s : State} : settings (xipComplete o data s) = settings s := by
  unfold xipComplete
  split <;> simp

@[simp] theorem settings_xipDone {data : List Byte} {s : State} : settings (xipDone data s) = settings s := by
  unfold xipDone
  (repeat' split) <;> simp

@[simp] theorem settings_writeOn {o : XipOp} {rest : List XipOp} {s : State} : settings (writeOn o rest s) = settings s := by
  simp [writeOn]

@[simp] theorem settings_pollTimeout {s : State} : settings (pollTimeout s) = settings s := by
  unfold pollTimeout
  split <;> simp

@[simp] theorem settings_xipQueue {o : XipOp} {s : State} : settings (xipQueue o s) = settings s := by
  simp [xipQueue]

@[simp] theorem settings_xipAccess {a : Acc} {w : Nat} {write : Bool} {off : Nat} {len : Nat} {data : List Byte} {s : State} :
    settings (xipAccess a w write off len data s) = settings s := by
  simp [xipAccess]

@[simp] theorem settings_rawCommand {v : W32} {s : State} : settings (rawCommand v s) = settings s := by
  simp [rawCommand]

@[simp] theorem settings_xipEndWaiting {p : XipOp → Bool} {status : Nat} {f : State → State} {s : State} (hf : ∀ u0, settings (f u0) = settings u0) :
    settings (xipEndWaiting p status f s) = settings s := by
  simp [xipEndWaiting, hf]

@[simp] theorem settings_xipHalt {s : State} : settings (xipHalt s) = settings s := by
  simp [xipHalt]

/-! ### Machine/RegRead.lean -/

@[simp] theorem settings_familyReadEffect {off : Nat} {s : State} : settings (familyReadEffect off s) = settings s := by
  unfold familyReadEffect
  split <;> simp

/-! ### Machine/Boot.lean -/

@[simp] theorem settings_tamperPort {p : PortId} {s : State} : settings (tamperPort p s) = settings s := by
  unfold tamperPort
  (repeat' split) <;> (try simp) <;> (try rw [settings_foldl]) <;> (try intro u x) <;> (repeat' split) <;> simp

/-! ### Machine/RegWrite.lean -/

@[simp] theorem settings_calRestorePair {r : ReqId} {v : W32} {s : State} : settings (calRestorePair r v s) = settings s := by
  simp [calRestorePair]

@[simp] theorem settings_capturePair {v : W32} {s : State} : settings (capturePair v s) = settings s := by
  simp [capturePair]

@[simp] theorem settings_mstCmdPair {v : W32} {s : State} : settings (mstCmdPair v s) = settings s := by
  simp [mstCmdPair]

@[simp] theorem settings_guardRefusal {g : Nat} {v : W32} {s : State} : settings (guardRefusal g v s) = settings s := by
  unfold guardRefusal
  split <;> simp

@[simp] theorem settings_grnWrite {off : Nat} {v : W32} {s : State} : settings (grnWrite off v s) = settings s := by
  unfold grnWrite
  (repeat' split) <;> simp

@[simp] theorem settings_hltWrite {off : Nat} {v : W32} {s : State} : settings (hltWrite off v s) = settings s := by
  unfold hltWrite
  (repeat' split) <;> simp

@[simp] theorem settings_queueWrite {q : Nat} {k : Nat} {v : W32} {s : State} : settings (queueWrite q k v s) = settings s := by
  unfold queueWrite
  split <;> simp

@[simp] theorem settings_jobWrite {off : Nat} {v : W32} {s : State} : settings (jobWrite off v s) = settings s := by
  unfold jobWrite
  (repeat' split) <;> simp

@[simp] theorem settings_txDataWrite {v : W32} {s : State} : settings (txDataWrite v s) = settings s := by
  simp [txDataWrite]

@[simp] theorem settings_cmpWrite {off : Nat} {v : W32} {s : State} : settings (cmpWrite off v s) = settings s := by
  simp [cmpWrite]

/-! ### Machine/Bus.lean -/

@[simp] theorem settings_takeRequest {p : PortId} {hold : Bool} {mark : Bool} {s : State} :
    settings (takeRequest p hold mark s) = settings s := by
  simp [takeRequest]

@[simp] theorem settings_dropHold {p : PortId} {hold : Bool} {s : State} : settings (dropHold p hold s) = settings s := by
  simp [dropHold]

@[simp] theorem settings_arrive {a : Acc} {hold : Bool} {write : Bool} {f : Acc → State → State} {s : State} (hf : ∀ u0 u1, settings (f u0 u1) = settings u1) :
    settings (arrive a hold write f s) = settings s := by
  unfold arrive
  split <;> simp [hf]

@[simp] theorem settings_windowRead {a : Acc} {q : Nat} {len : Nat} {hold : Bool} {s : State} :
    settings (windowRead a q len hold s) = settings s := by
  simp [windowRead]

@[simp] theorem settings_windowWrite {s : State} : settings (windowWrite s).2 = settings s := by
  unfold windowWrite
  split <;> simp

@[simp] theorem settings_benchAccess {r : ReqId} {n : Nat} {off : Nat} {op : WindowOp} {s : State} :
    settings (benchAccess r n off op s).2.2 = settings s := by
  unfold benchAccess
  split <;> simp

@[simp] theorem settings_unmapped {a : Acc} {off : Nat} {write : Bool} {s : State} : settings (unmapped a off write s) = settings s := by
  simp [unmapped]

@[simp] theorem settings_engXip {w : Nat} {write : Bool} {off : Nat} {n : Nat} {data : List Byte} {s : State} :
    settings (engXip w write off n data s) = settings s := by
  simp [engXip]

@[simp] theorem settings_engAck {rstat : Nat} {n : Nat} {s : State} : settings (engAck rstat n s) = settings s := by
  simp [engAck]

/-! ### Machine/Tick.lean -/

@[simp] theorem settings_freezeQueues {s : State} : settings (freezeQueues s) = settings s := by
  simp [freezeQueues]

@[simp] theorem settings_haltJobs {s : State} : settings (haltJobs s) = settings s := by
  simp [haltJobs]

@[simp] theorem settings_haltParser {s : State} : settings (haltParser s) = settings s := by
  simp [haltParser]

@[simp] theorem settings_haltWaits {q : Nat} {s : State} : settings (haltWaits q s) = settings s := by
  unfold haltWaits
  (repeat' split) <;> (try simp) <;> (try rw [settings_foldl]) <;> (try intro u x) <;> (repeat' split) <;> simp

@[simp] theorem settings_haltPort {p : PortId} {s : State} : settings (haltPort p s) = settings s := by
  simp [haltPort]

@[simp] theorem settings_haltEngine {s : State} : settings (haltEngine s) = settings s := by
  unfold haltEngine
  split <;> simp

@[simp] theorem settings_haltQueue {q : Nat} {s : State} : settings (haltQueue q s) = settings s := by
  unfold haltQueue
  split <;> simp

@[simp] theorem settings_haltLanes {s : State} : settings (haltLanes s) = settings s := by
  simp [haltLanes]

@[simp] theorem settings_haltPlanes {s : State} : settings (haltPlanes s) = settings s := by
  simp [haltPlanes]

@[simp] theorem settings_haltBenches {s : State} : settings (haltBenches s) = settings s := by
  simp [haltBenches]

@[simp] theorem settings_alarmSettle {s : State} : settings (alarmSettle s) = settings s := by
  simp [alarmSettle]

@[simp] theorem settings_settleJobs {s : State} : settings (settleJobs s) = settings s := by
  simp [settleJobs]

@[simp] theorem settings_notePath {s : State} : settings (notePath s) = settings s := by
  simp [notePath]

@[simp] theorem settings_settleRing {s : State} : settings (settleRing s) = settings s := by
  simp [settleRing]

@[simp] theorem settings_finishUp {s : State} : settings (finishUp s) = settings s := by
  simp [finishUp]

@[simp] theorem settings_act {f : State → State} {s : State} (hf : ∀ u0, settings (f u0) = settings u0) :
    settings (act f s) = settings s := by
  simp [act, hf]

@[simp] theorem settings_clockOn {s : State} :
    settings (clockOn s) = settings s := by
  unfold clockOn
  (repeat' split) <;> (try simp) <;> (try rw [settings_foldl]) <;> (try intro u x) <;> (repeat' split) <;> simp

@[simp] theorem settings_tick {s : State} : settings (tick s) = settings s := by
  simp [tick]

/-! ### Machine/Rows.lean -/

@[simp] theorem settings_oddAccess {a : Acc} {write : Bool} {off : Nat} {len : Nat} {s : State} :
    settings (oddAccess a write off len s) = settings s := by
  unfold oddAccess
  (repeat' split) <;> (try simp) <;> (try rw [settings_foldl]) <;> (try intro u x) <;> (repeat' split) <;> simp

@[simp] theorem settings_deliveryWrite {a : Acc} {q : Nat} {s : State} : settings (deliveryWrite a q s) = settings s := by
  simp [deliveryWrite]

@[simp] theorem settings_submitDone {a : Acc} {w : Nat} {bytes : List Byte} {s : State} :
    settings (submitDone a w bytes s) = settings s := by
  simp [submitDone]

@[simp] theorem settings_submitRow {a : Acc} {w : Nat} {bytes : List Byte} {s : State} :
    settings (submitRow a w bytes s) = settings s := by
  unfold submitRow
  split <;> simp

@[simp] theorem settings_benchRow {a : Acc} {n : Nat} {off : Nat} {op : WindowOp} {s : State} :
    settings (benchRow a n off op s) = settings s := by
  simp [benchRow]

@[simp] theorem settings_xipRow {a : Acc} {w : Nat} {write : Bool} {off : Nat} {len : Nat} {data : List Byte} {s : State} :
    settings (xipRow a w write off len data s) = settings s := by
  simp [xipRow]

@[simp] theorem settings_raceBit {n : Nat} {bit : Bool} {s : State} : settings (raceBit n bit s) = settings s := by
  simp [raceBit]

@[simp] theorem settings_laneTimeout {n : Nat} {s : State} : settings (laneTimeout n s) = settings s := by
  unfold laneTimeout
  split <;> simp

@[simp] theorem settings_talSnapTake {s : State} : settings (talSnapTake s) = settings s := by
  simp [talSnapTake]

@[simp] theorem settings_benchTestDone {u : BenchUnit} {ok : Bool} {s : State} : settings (benchTestDone u ok s) = settings s := by
  unfold benchTestDone
  split <;> simp

@[simp] theorem settings_engNop {s : State} : settings (engNop s) = settings s := by
  simp [engNop]

end Sys2Proof.Machine
end

