-- ==== Sys2Proof/Laws/Calm.lean ====
section
/-! SUPPORT. How what the end of a step leaves alone passes through record updates, conditional effects and folds, and of each
operation at the end of a step that it leaves it alone. -/

set_option linter.unnecessarySeqFocus false
set_option linter.unusedTactic false
set_option linter.unusedSimpArgs false
set_option linter.unreachableTactic false

namespace Sys2Proof.Machine

@[simp] theorem calm_mk {pwr : Pwr} {clk : Clk} {sys : Sys} {sil : Sil} {cal : Cal} {mbx : Mbx} {core : CoreIo} {grn : Grn} {hlt : Hlt}
    {pln : Pln} {tal : Tal} {lan : Lan} {stk : Stk} {job : JobEng} {evt : Evt} {bne : Bne} {ring : Ring} {tim : Tim} {lsp : Lsp}
    {pending : List Instr} :
    calm ⟨pwr, clk, sys, sil, cal, mbx, core, grn, hlt, pln, tal, lan, stk, job, evt, bne, ring, tim, lsp, pending⟩ =
      ⟨pwr, clk.ticks, clk.slow, clk.ckRing, clk.ckTime, sys, sil, cal, mbx, core, grn, hlt, pln, tim, pending⟩ := rfl

@[simp] theorem calm_fold (s : State) : (⟨s.pwr, s.clk.ticks, s.clk.slow, s.clk.ckRing, s.clk.ckTime, s.sys, s.sil, s.cal, s.mbx, s.core, s.grn, s.hlt, s.pln, s.tim,
      s.pending⟩ : Calm) = calm s := rfl

@[simp] theorem calm_ite {c : Prop} [Decidable c] (a b : State) : calm (if c then a else b) = if c then calm a else calm b :=
  apply_ite calm c a b

/-! ### Machine/Ops.lean -/

@[simp] theorem calm_onlyIf {c : Bool} {f : State → State} {s : State} (h : ∀ u, calm (f u) = calm u) :
    calm (onlyIf c f s) = calm s := by
  cases c
  · rfl
  · exact h s

@[simp] theorem calm_foldl {α : Type} {g : State → α → State} {l : List α} {s : State} (h : ∀ u x, calm (g u x) = calm u) :
    calm (l.foldl g s) = calm s := by
  induction l generalizing s with
  | nil => rfl
  | cons x l ih => exact ih.trans (h s x)

@[simp] theorem calm_foldr {α : Type} {g : α → State → State} {l : List α} {s : State} (h : ∀ x u, calm (g x u) = calm u) :
    calm (l.foldr g s) = calm s := by
  induction l with
  | nil => rfl
  | cons x l ih => exact (h x _).trans ih

@[simp] theorem calm_bumpOrd {s : State} : calm (bumpOrd s) = calm s := by
  simp [bumpOrd]

@[simp] theorem calm_bumpFree {s : State} : calm (bumpFree s) = calm s := by
  simp [bumpFree]

@[simp] theorem calm_postEvent {code : Nat} {idx : Nat} {detail : Nat} {extra : Word} {s : State} :
    calm (postEvent code idx detail extra s) = calm s := by
  simp [postEvent]

@[simp] theorem calm_post {code : Nat} {idx : Nat} {detail : Nat} {s : State} : calm (post code idx detail s) = calm s := by
  simp [post]

@[simp] theorem calm_updBooks {f : Books → Books} {s : State} : calm (updBooks f s) = calm s := by
  simp [updBooks]

/-! ### Machine/Words.lean -/

@[simp] theorem calm_updQ {q : Nat} {f : DQueue → DQueue} {s : State} : calm (updQ q f s) = calm s := by
  simp [updQ]

@[simp] theorem calm_watermarkEvent {q : Nat} {high : Bool} {s : State} : calm (watermarkEvent q high s) = calm s := by
  unfold watermarkEvent
  split <;> simp

@[simp] theorem calm_relevel {q : Nat} {f : DQueue → DQueue} {s : State} : calm (relevel q f s) = calm s := by
  unfold relevel
  split <;> simp

@[simp] theorem calm_toFlight {refs : List (Nat × Nat)} {s : State} : calm (toFlight refs s) = calm s := by
  simp [toFlight]

@[simp] theorem calm_finishSlots {refs : List (Nat × Nat)} {s : State} : calm (finishSlots refs s) = calm s := by
  simp [finishSlots]

@[simp] theorem calm_kerfFlight {why : WordKerf} {refs : List (Nat × Nat)} {n : Nat} {s : State} :
    calm (kerfFlight why refs n s) = calm s := by
  simp [kerfFlight]

@[simp] theorem calm_kerfStack {why : WordKerf} {refs : List (Nat × Nat)} {s : State} : calm (kerfStack why refs s) = calm s := by
  simp [kerfStack]

@[simp] theorem calm_countQKerf {q : Nat} {n : Nat} {s : State} :
    calm (countQKerf q n s) = calm s := by
  unfold countQKerf
  (repeat' split) <;> (try simp) <;> (try rw [calm_foldl]) <;> (try intro u x) <;> (repeat' split) <;> simp

@[simp] theorem calm_kerfWords {why : WordKerf} {ws : List AWord} {s : State} : calm (kerfWords why ws s) = calm s := by
  simp [kerfWords]

/-! ### Machine/LaneBase.lean -/

@[simp] theorem calm_updLane {n : Nat} {f : Lane → Lane} {s : State} : calm (updLane n f s) = calm s := by
  simp [updLane]

@[simp] theorem calm_raiseRequest {n : Nat} {s : State} : calm (raiseRequest n s) = calm s := by
  simp [raiseRequest]

@[simp] theorem calm_laneWait {n : Nat} {s : State} : calm (laneWait n s) = calm s := by
  unfold laneWait
  split <;> simp

@[simp] theorem calm_makeDue {n : Nat} {s : State} :
    calm (makeDue n s) = calm s := by
  unfold makeDue
  (repeat' split) <;> (try simp) <;> (try rw [calm_foldl]) <;> (try intro u x) <;> (repeat' split) <;> simp

@[simp] theorem calm_prAdd {n : Nat} {p : PrReq} {s : State} : calm (prAdd n p s) = calm s := by
  unfold prAdd
  split <;> simp

@[simp] theorem calm_prPlace {q : Nat} {key : Nat} {accepted : Nat} {s : State} : calm (prPlace q key accepted s) = calm s := by
  unfold prPlace
  (repeat' split) <;> simp

@[simp] theorem calm_prDrop {key : Nat} {s : State} : calm (prDrop key s) = calm s := by
  unfold prDrop
  (repeat' split) <;> (try simp) <;> (try rw [calm_foldl]) <;> (try intro u x) <;> (repeat' split) <;> simp

/-! ### Machine/Array.lean -/

@[simp] theorem calm_arrayWrite {a : Nat} {w : Word} {s : State} :
    calm (arrayWrite a w s) = calm s := by
  unfold arrayWrite
  (repeat' split) <;> (try simp) <;> (try rw [calm_foldl]) <;> (try intro u x) <;> (repeat' split) <;> simp

@[simp] theorem calm_kerfQueue {q : Nat} {why : WordKerf} {p : DQueue → QEntry → Bool} {s : State} :
    calm (kerfQueue q why p s) = calm s := by
  unfold kerfQueue
  (repeat' split) <;> (try simp) <;> (try rw [calm_foldl]) <;> (try intro u x) <;> (repeat' split) <;> simp

@[simp] theorem calm_updWait {q : Nat} {key : Nat} {f : Waiter → Waiter} {s : State} :
    calm (updWait q key f s) = calm s := by
  unfold updWait
  (repeat' split) <;> (try simp) <;> (try rw [calm_foldl]) <;> (try intro u x) <;> (repeat' split) <;> simp

@[simp] theorem calm_putBack {q : Nat} {v : AWord} {s : State} :
    calm (putBack q v s) = calm s := by
  unfold putBack
  split <;> simp

@[simp] theorem calm_releaseAllot {q : Nat} {key : Nat} {s : State} :
    calm (releaseAllot q key s) = calm s := by
  unfold releaseAllot
  (repeat' split) <;> simp

/-! ### Machine/JobOps.lean -/

@[simp] theorem calm_updJob {id : Nat} {f : Job → Job} {s : State} : calm (updJob id f s) = calm s := by
  simp [updJob]

@[simp] theorem calm_dropJob {id : Nat} {s : State} : calm (dropJob id s) = calm s := by
  simp [dropJob]

@[simp] theorem calm_withTxn {f : BitVec 16 → State → State} {s : State} (hf : ∀ u0 u1, calm (f u0 u1) = calm u1) :
    calm (withTxn f s) = calm s := by
  simp [withTxn, hf]

@[simp] theorem calm_sendRequest {type : Nat} {addr : Nat} {len : Nat} {payload : List Byte} {fbase : BitVec 22} {t : TxFrame} {s : State} :
    calm (sendRequest type addr len payload fbase t s) = calm s := by
  rfl

@[simp] theorem calm_syncQ {q : Nat} {s : State} : calm (syncQ q s) = calm s := by
  simp [syncQ]

@[simp] theorem calm_syncAll {s : State} : calm (syncAll s) = calm s := by
  simp [syncAll]

@[simp] theorem calm_addWaiter {q : Nat} {w : Waiter} {s : State} : calm (addWaiter q w s) = calm s := by
  simp [addWaiter]

@[simp] theorem calm_dropWaiter {q : Nat} {key : Nat} {s : State} :
    calm (dropWaiter q key s) = calm s := by
  unfold dropWaiter
  (repeat' split) <;> (try simp) <;> (try rw [calm_foldl]) <;> (try intro u x) <;> (repeat' split) <;> simp

@[simp] theorem calm_dropWaits {id : Nat} {s : State} : calm (dropWaits id s) = calm s := by
  simp [dropWaits]

@[simp] theorem calm_issueWrite {id : Nat} {off : Nat} {bytes : List Byte} {ws : List AWord} {random : Bool} {tag : Option Tag} {s : State} :
    calm (issueWrite id off bytes ws random tag s) = calm s := by
  unfold issueWrite
  split <;> simp

@[simp] theorem calm_drawIssue {id : Nat} {u : Nat} {v : State} : calm (drawIssue id u v) = calm v := by
  fun_induction drawIssue id u v <;> simp_all

@[simp] theorem calm_resultIssue {id : Nat} {last : Bool} {u : Nat} {v : State} : calm (resultIssue id last u v) = calm v := by
  fun_induction resultIssue id last u v <;> simp_all

@[simp] theorem calm_pullUnsent {id : Nat} {beacons : Bool} {s : State} : calm (pullUnsent id beacons s) = calm s := by
  simp [pullUnsent]

@[simp] theorem calm_kerfFrames {why : WordKerf} {l : List TxFrame} {s : State} : calm (kerfFrames why l s) = calm s := by
  simp [kerfFrames]

@[simp] theorem calm_dropUnsent {why : WordKerf} {id : Nat} {s : State} : calm (dropUnsent why id s) = calm s := by
  unfold dropUnsent
  split <;> simp

@[simp] theorem calm_releaseUnits {id : Nat} {s : State} : calm (releaseUnits id s) = calm s := by
  simp [releaseUnits]

@[simp] theorem calm_stopJob {id : Nat} {status : BitVec 8} {why : Option WordKerf} {s : State} :
    calm (stopJob id status why s) = calm s := by
  unfold stopJob
  (repeat' split) <;> simp

@[simp] theorem calm_failJob {id : Nat} {status : BitVec 8} {why : Option WordKerf} {s : State} :
    calm (failJob id status why s) = calm s := by
  unfold failJob
  (repeat' split) <;> (try simp) <;> (try rw [calm_foldl]) <;> (try intro u x) <;> (repeat' split) <;> simp

@[simp] theorem calm_completeJob {id : Nat} {s : State} : calm (completeJob id s) = calm s := by
  unfold completeJob
  split <;> simp

@[simp] theorem calm_writeRecord {j : Job} {s : State} : calm (writeRecord j s) = calm s := by
  unfold writeRecord
  split <;> simp

@[simp] theorem calm_recordSweep {n : Nat} {s : State} : calm (recordSweep n s) = calm s := by
  induction n generalizing s with
  | zero => rfl
  | succ n ih =>
    unfold recordSweep recordStep
    cases s.job.jobs.find? (recordGoes s) <;> simp [ih]

@[simp] theorem calm_markWaiting {s : State} : calm (markWaiting s) = calm s := by
  simp [markWaiting]

@[simp] theorem calm_sweepRecords {s : State} : calm (sweepRecords s) = calm s := by
  simp [sweepRecords]

/-! ### Machine/Lanes.lean -/

@[simp] theorem calm_placeOrphans {s : State} :
    calm (placeOrphans s) = calm s := by
  unfold placeOrphans
  (repeat' split) <;> (try simp) <;> (try rw [calm_foldl]) <;> (try intro u x) <;> (repeat' split) <;> simp

@[simp] theorem calm_placeRefresh {s : State} :
    calm (placeRefresh s) = calm s := by
  unfold placeRefresh
  (repeat' split) <;> (try simp) <;> (try rw [calm_foldl]) <;> (try intro u x) <;> (repeat' split) <;> simp

@[simp] theorem calm_laneDemand {n : Nat} {s : State} :
    calm (laneDemand n s) = calm s := by
  unfold laneDemand
  (repeat' split) <;> (try simp) <;> (try rw [calm_foldl]) <;> (try intro u x) <;> (repeat' split) <;> simp

@[simp] theorem calm_settleLanes {s : State} :
    calm (settleLanes s) = calm s := by
  unfold settleLanes
  (repeat' split) <;> (try simp) <;> (try rw [calm_foldl]) <;> (try intro u x) <;> (repeat' split) <;> simp

/-! ### Machine/Give.lean -/

@[simp] theorem calm_beaconFlushed {id : Nat} {s : State} :
    calm (beaconFlushed id s) = calm s := by
  unfold beaconFlushed
  (repeat' split) <;> (try simp) <;> (try rw [calm_foldl]) <;> (try intro u x) <;> (repeat' split) <;> simp

@[simp] theorem calm_jobAsk {id : Nat} {s : State} : calm (jobAsk id s) = calm s := by
  simp only [jobAsk]
  (repeat' split) <;> simp

@[simp] theorem calm_permDone {id : Nat} {s : State} : calm (permDone id s) = calm s := by
  unfold permDone
  split <;> simp

@[simp] theorem calm_permStart {id : Nat} {s : State} : calm (permStart id s) = calm s := by
  unfold permStart
  split <;> simp

@[simp] theorem calm_permNext {u : Nat} {v : State} : calm (permNext u v) = calm v := by
  fun_induction permNext u v <;> simp_all

@[simp] theorem calm_mstErr {bit : Nat} {s : State} :
    calm (mstErr bit s) = calm s := by
  unfold mstErr
  (repeat' split) <;> (try simp) <;> (try rw [calm_foldl]) <;> (try intro u x) <;> (repeat' split) <;> simp

@[simp] theorem calm_readFailed {id : Nat} {s : State} :
    calm (readFailed id s) = calm s := by
  unfold readFailed
  (repeat' split) <;> (try simp) <;> (try rw [calm_foldl]) <;> (try intro u x) <;> (repeat' split) <;> simp

@[simp] theorem calm_issueRead {id : Nat} {s : State} : calm (issueRead id s) = calm s := by
  unfold issueRead
  (repeat' split) <;> simp

@[simp] theorem calm_readKeep {id : Nat} {r : SrcRead} {s : State} : calm (readKeep id r s) = calm s := by
  unfold readKeep
  split <;> simp

@[simp] theorem calm_readBegin {id : Nat} {what : ReadFor} {addr : Nat} {total : Nat} {s : State} :
    calm (readBegin id what addr total s) = calm s := by
  unfold readBegin
  (repeat' split) <;> simp

@[simp] theorem calm_batchGo {id : Nat} {s : State} : calm (batchGo id s) = calm s := by
  unfold batchGo
  split <;> simp

@[simp] theorem calm_fetchRun {id : Nat} {u : Nat} {v : State} : calm (fetchRun id u v) = calm v := by
  fun_induction fetchRun id u v <;> simp_all

@[simp] theorem calm_hashNext {u : Nat} {v : State} : calm (hashNext u v) = calm v := by
  fun_induction hashNext u v <;> simp_all

/-! ### Machine/Jobs.lean -/

@[simp] theorem calm_syncParser {s : State} : calm (syncParser s) = calm s := by
  simp [syncParser]

/-! ### Machine/Stack.lean -/

@[simp] theorem calm_passVoid {q : Nat} {u : Nat} {v : State} :
    calm (passVoid q u v) = calm v := by
  fun_induction passVoid q u v <;> simp_all

@[simp] theorem calm_passVoids {s : State} :
    calm (passVoids s) = calm s := by
  unfold passVoids
  (repeat' split) <;> (try simp) <;> (try rw [calm_foldl]) <;> (try intro u x) <;> (repeat' split) <;> simp

/-! ### Machine/Bench.lean -/

@[simp] theorem calm_syncBench {s : State} : calm (syncBench s) = calm s := by
  simp [syncBench]

@[simp] theorem calm_denyOrphans {s : State} : calm (denyOrphans s) = calm s := by
  simp [denyOrphans]

@[simp] theorem calm_starveWaiters {s : State} : calm (starveWaiters s) = calm s := by
  simp [starveWaiters]

@[simp] theorem calm_benchSettle {s : State} : calm (benchSettle s) = calm s := by
  simp [benchSettle]

@[simp] theorem calm_idleTouch {s : State} : calm (idleTouch s) = calm s := by
  simp [idleTouch]

@[simp] theorem calm_syncHash {s : State} : calm (syncHash s) = calm s := by
  simp [syncHash]

/-! ### Machine/RingLink.lean -/

@[simp] theorem calm_onPort {p : PortId} {f : Port → Port} {s : State} : calm (onPort p f s) = calm s := by
  simp [onPort]

@[simp] theorem calm_giveCredit {p : PortId} {pool : Nat} {s : State} : calm (giveCredit p pool s) = calm s := by
  simp [giveCredit]

@[simp] theorem calm_noteSent {p : PortId} {t : TxFrame} {s : State} : calm (noteSent p t s) = calm s := by
  simp [noteSent]

@[simp] theorem calm_noteBcast {p : PortId} {t : TxFrame} {s : State} : calm (noteBcast p t s) = calm s := by
  simp [noteBcast]

@[simp] theorem calm_freeTransit {t : TxFrame} {s : State} : calm (freeTransit t s) = calm s := by
  unfold freeTransit
  split <;> simp

@[simp] theorem calm_sendAt {p : PortId} {i : Nat} {s : State} : calm (sendAt p i s) = calm s := by
  simp only [sendAt]
  (repeat' split) <;> simp

@[simp] theorem calm_pumpPort {p : PortId} {u : Nat} {v : State} : calm (pumpPort p u v) = calm v := by
  fun_induction pumpPort p u v <;> simp_all

@[simp] theorem calm_creditWait {p : PortId} {s : State} : calm (creditWait p s) = calm s := by
  simp [creditWait]

@[simp] theorem calm_pump {s : State} : calm (pump s) = calm s := by
  simp [pump]

@[simp] theorem calm_linkSend {p : PortId} {s : State} : calm (linkSend p s) = calm s := by
  simp [linkSend]

/-! ### Machine/Failover.lean -/

@[simp] theorem calm_reroute {p : PortId} {s : State} : calm (reroute p s) = calm s := by
  simp [reroute]

/-! ### Machine/Lsp.lean -/

@[simp] theorem calm_lspFill {s : State} : calm (lspFill s) = calm s := by
  unfold lspFill
  split <;> simp

@[simp] theorem calm_xipStart {s : State} : calm (xipStart s) = calm s := by
  unfold xipStart
  split <;> simp

@[simp] theorem calm_dselSync {s : State} : calm (dselSync s) = calm s := by
  simp [dselSync]

/-! ### Machine/Tick.lean -/

@[simp] theorem calm_settleJobs {s : State} : calm (settleJobs s) = calm s := by
  simp [settleJobs]

@[simp] theorem calm_notePath {s : State} : calm (notePath s) = calm s := by
  simp [notePath]

@[simp] theorem calm_settleRing {s : State} : calm (settleRing s) = calm s := by
  simp [settleRing]

end Sys2Proof.Machine
end

