-- ==== Sys2Proof/Laws/Front.lean ====
section
/-! SUPPORT. How the calibration and the sources pass through record updates, conditional effects and folds, and of each
operation that leaves them alone that it does. -/

set_option linter.unnecessarySeqFocus false
set_option linter.unusedTactic false
set_option linter.unusedSimpArgs false
set_option linter.unreachableTactic false

namespace Sys2Proof.Machine

@[simp] theorem front_mk {pwr : Pwr} {clk : Clk} {sys : Sys} {sil : Sil} {cal : Cal} {mbx : Mbx} {core : CoreIo} {grn : Grn} {hlt : Hlt}
    {pln : Pln} {tal : Tal} {lan : Lan} {stk : Stk} {job : JobEng} {evt : Evt} {bne : Bne} {ring : Ring} {tim : Tim} {lsp : Lsp}
    {pending : List Instr} :
    front ⟨pwr, clk, sys, sil, cal, mbx, core, grn, hlt, pln, tal, lan, stk, job, evt, bne, ring, tim, lsp, pending⟩ =
      (cal, grn) := rfl

@[simp] theorem front_fold (s : State) : ((s.cal, s.grn) : Cal × Grn) = front s := rfl

@[simp] theorem front_ite {c : Prop} [Decidable c] (a b : State) : front (if c then a else b) = if c then front a else front b :=
  apply_ite front c a b

/-! ### Machine/Ops.lean -/

@[simp] theorem front_onlyIf {c : Bool} {f : State → State} {s : State} (h : ∀ u, front (f u) = front u) :
    front (onlyIf c f s) = front s := by
  cases c
  · rfl
  · exact h s

@[simp] theorem front_foldl {α : Type} {g : State → α → State} {l : List α} {s : State} (h : ∀ u x, front (g u x) = front u) :
    front (l.foldl g s) = front s := by
  induction l generalizing s with
  | nil => rfl
  | cons x l ih => exact ih.trans (h s x)

@[simp] theorem front_foldr {α : Type} {g : α → State → State} {l : List α} {s : State} (h : ∀ x u, front (g x u) = front u) :
    front (l.foldr g s) = front s := by
  induction l with
  | nil => rfl
  | cons x l ih => exact (h x _).trans ih

@[simp] theorem front_bumpOrd {s : State} : front (bumpOrd s) = front s := by
  simp [bumpOrd]

@[simp] theorem front_bumpFree {s : State} : front (bumpFree s) = front s := by
  simp [bumpFree]

@[simp] theorem front_postEvent {code : Nat} {idx : Nat} {detail : Nat} {extra : Word} {s : State} :
    front (postEvent code idx detail extra s) = front s := by
  simp [postEvent]

@[simp] theorem front_post {code : Nat} {idx : Nat} {detail : Nat} {s : State} : front (post code idx detail s) = front s := by
  simp [post]

@[simp] theorem front_updBooks {f : Books → Books} {s : State} : front (updBooks f s) = front s := by
  simp [updBooks]

@[simp] theorem front_raiseFatal {cause : Nat} {idx : Nat} {s : State} : front (raiseFatal cause idx s) = front s := by
  simp [raiseFatal]

@[simp] theorem front_takeSnapshot {s : State} : front (takeSnapshot s) = front s := by
  simp [takeSnapshot]

/-! ### Machine/Words.lean -/

@[simp] theorem front_updQ {q : Nat} {f : DQueue → DQueue} {s : State} : front (updQ q f s) = front s := by
  simp [updQ]

@[simp] theorem front_watermarkEvent {q : Nat} {high : Bool} {s : State} : front (watermarkEvent q high s) = front s := by
  unfold watermarkEvent
  split <;> simp

@[simp] theorem front_relevel {q : Nat} {f : DQueue → DQueue} {s : State} : front (relevel q f s) = front s := by
  unfold relevel
  split <;> simp

@[simp] theorem front_toFlight {refs : List (Nat × Nat)} {s : State} : front (toFlight refs s) = front s := by
  simp [toFlight]

@[simp] theorem front_finishSlots {refs : List (Nat × Nat)} {s : State} : front (finishSlots refs s) = front s := by
  simp [finishSlots]

@[simp] theorem front_deliverWords {refs : List (Nat × Nat)} {n : Nat} {m : Nat} {s : State} :
    front (deliverWords refs n m s) = front s := by
  simp [deliverWords]

@[simp] theorem front_kerfFlight {why : WordKerf} {refs : List (Nat × Nat)} {n : Nat} {s : State} :
    front (kerfFlight why refs n s) = front s := by
  simp [kerfFlight]

@[simp] theorem front_kerfStack {why : WordKerf} {refs : List (Nat × Nat)} {s : State} : front (kerfStack why refs s) = front s := by
  simp [kerfStack]

@[simp] theorem front_countQKerf {q : Nat} {n : Nat} {s : State} : front (countQKerf q n s) = front s := by
  simp [countQKerf]

@[simp] theorem front_kerfWords {why : WordKerf} {ws : List AWord} {s : State} : front (kerfWords why ws s) = front s := by
  simp [kerfWords]

@[simp] theorem front_passWords {ws : List AWord} {s : State} : front (passWords ws s) = front s := by
  simp [passWords]

/-! ### Machine/LaneBase.lean -/

@[simp] theorem front_updLane {n : Nat} {f : Lane → Lane} {s : State} : front (updLane n f s) = front s := by
  simp [updLane]

@[simp] theorem front_raiseRequest {n : Nat} {s : State} : front (raiseRequest n s) = front s := by
  simp [raiseRequest]

@[simp] theorem front_laneWait {n : Nat} {s : State} : front (laneWait n s) = front s := by
  unfold laneWait
  split <;> simp

@[simp] theorem front_makeDue {n : Nat} {s : State} : front (makeDue n s) = front s := by
  simp [makeDue]

@[simp] theorem front_prAdd {n : Nat} {p : PrReq} {s : State} : front (prAdd n p s) = front s := by
  unfold prAdd
  split <;> simp

@[simp] theorem front_prPlace {q : Nat} {key : Nat} {accepted : Nat} {s : State} : front (prPlace q key accepted s) = front s := by
  unfold prPlace
  (repeat' split) <;> simp

@[simp] theorem front_prDrop {key : Nat} {s : State} : front (prDrop key s) = front s := by
  unfold prDrop
  (repeat' split) <;> (try simp) <;> (try rw [front_foldl]) <;> (try intro u x) <;> (repeat' split) <;> simp

/-! ### Machine/Array.lean -/

@[simp] theorem front_arrayWrite {a : Nat} {w : Word} {s : State} : front (arrayWrite a w s) = front s := by
  simp [arrayWrite]

@[simp] theorem front_kerfQueue {q : Nat} {why : WordKerf} {p : DQueue → QEntry → Bool} {s : State} :
    front (kerfQueue q why p s) = front s := by
  unfold kerfQueue
  split <;> simp

@[simp] theorem front_updWait {q : Nat} {key : Nat} {f : Waiter → Waiter} {s : State} :
    front (updWait q key f s) = front s := by
  unfold updWait
  (repeat' split) <;> (try simp) <;> (try rw [front_foldl]) <;> (try intro u x) <;> (repeat' split) <;> simp

@[simp] theorem front_putBack {q : Nat} {v : AWord} {s : State} :
    front (putBack q v s) = front s := by
  unfold putBack
  (repeat' split) <;> (try simp) <;> (try rw [front_foldl]) <;> (try intro u x) <;> (repeat' split) <;> simp

@[simp] theorem front_releaseAllot {q : Nat} {key : Nat} {s : State} : front (releaseAllot q key s) = front s := by
  unfold releaseAllot
  (repeat' split) <;> simp

/-! ### Machine/JobOps.lean -/

@[simp] theorem front_updJob {id : Nat} {f : Job → Job} {s : State} : front (updJob id f s) = front s := by
  simp [updJob]

@[simp] theorem front_dropJob {id : Nat} {s : State} : front (dropJob id s) = front s := by
  simp [dropJob]

@[simp] theorem front_updStream {r : ReqId} {f : Stream → Stream} {s : State} : front (updStream r f s) = front s := by
  simp [updStream]

@[simp] theorem front_withTxn {f : BitVec 16 → State → State} {s : State} (hf : ∀ u0 u1, front (f u0 u1) = front u1) :
    front (withTxn f s) = front s := by
  simp [withTxn, hf]

@[simp] theorem front_sendRequest {type : Nat} {addr : Nat} {len : Nat} {payload : List Byte} {fbase : BitVec 22} {t : TxFrame} {s : State} :
    front (sendRequest type addr len payload fbase t s) = front s := by
  rfl

@[simp] theorem front_sendReply {p : PortId} {t : TxFrame} {s : State} : front (sendReply p t s) = front s := by
  simp [sendReply]

@[simp] theorem front_engRespondAt {lead : Nat} {rstat : Nat} {data : List W32} {unchecked : Bool} {rand : List AWord} {s : State} :
    front (engRespondAt lead rstat data unchecked rand s) = front s := by
  unfold engRespondAt
  (repeat' split) <;> (try simp) <;> (try rw [front_foldl]) <;> (try intro u x) <;> (repeat' split) <;> simp

@[simp] theorem front_engRespond {rstat : Nat} {data : List W32} {unchecked : Bool} {rand : List AWord} {s : State} :
    front (engRespond rstat data unchecked rand s) = front s := by
  simp [engRespond]

@[simp] theorem front_coreAnswer {status : Nat} {data : List Byte} {unchecked : Bool} {s : State} :
    front (coreAnswer status data unchecked s) = front s := by
  simp [coreAnswer]

@[simp] theorem front_readDone {key : Nat} {a : Acc} {lead : Nat} {status : Nat} {data : List Byte} {ws : List AWord} {s : State} :
    front (readDone key a lead status data ws s) = front s := by
  unfold readDone
  (repeat' split) <;> (try simp) <;> (try rw [front_foldl]) <;> (try intro u x) <;> (repeat' split) <;> simp

@[simp] theorem front_endRead {key : Nat} {a : Acc} {len : Nat} {status : Nat} {ws : List AWord} {s : State} :
    front (endRead key a len status ws s) = front s := by
  simp [endRead]

@[simp] theorem front_endBurst {key : Nat} {a : Acc} {pre : List W32} {post : List W32} {ws : List AWord} {s : State} :
    front (endBurst key a pre post ws s) = front s := by
  unfold endBurst
  (repeat' split) <;> (try simp) <;> (try rw [front_foldl]) <;> (try intro u x) <;> (repeat' split) <;> simp

@[simp] theorem front_syncQ {q : Nat} {s : State} : front (syncQ q s) = front s := by
  simp [syncQ]

@[simp] theorem front_syncAll {s : State} : front (syncAll s) = front s := by
  simp [syncAll]

@[simp] theorem front_addWaiter {q : Nat} {w : Waiter} {s : State} : front (addWaiter q w s) = front s := by
  simp [addWaiter]

@[simp] theorem front_dropWaiter {q : Nat} {key : Nat} {s : State} : front (dropWaiter q key s) = front s := by
  simp [dropWaiter]

@[simp] theorem front_dropWaits {id : Nat} {s : State} : front (dropWaits id s) = front s := by
  simp [dropWaits]

@[simp] theorem front_issueWrite {id : Nat} {off : Nat} {bytes : List Byte} {ws : List AWord} {random : Bool} {tag : Option Tag} {s : State} :
    front (issueWrite id off bytes ws random tag s) = front s := by
  unfold issueWrite
  split <;> simp

@[simp] theorem front_drawIssue {id : Nat} {u : Nat} {v : State} : front (drawIssue id u v) = front v := by
  fun_induction drawIssue id u v <;> simp_all

@[simp] theorem front_resultIssue {id : Nat} {last : Bool} {u : Nat} {v : State} : front (resultIssue id last u v) = front v := by
  fun_induction resultIssue id last u v <;> simp_all

@[simp] theorem front_pullUnsent {id : Nat} {beacons : Bool} {s : State} : front (pullUnsent id beacons s) = front s := by
  simp [pullUnsent]

@[simp] theorem front_kerfFrames {why : WordKerf} {l : List TxFrame} {s : State} : front (kerfFrames why l s) = front s := by
  simp [kerfFrames]

@[simp] theorem front_dropUnsent {why : WordKerf} {id : Nat} {s : State} : front (dropUnsent why id s) = front s := by
  unfold dropUnsent
  split <;> simp

@[simp] theorem front_releaseUnits {id : Nat} {s : State} : front (releaseUnits id s) = front s := by
  simp [releaseUnits]

@[simp] theorem front_stopJob {id : Nat} {status : BitVec 8} {why : Option WordKerf} {s : State} :
    front (stopJob id status why s) = front s := by
  unfold stopJob
  (repeat' split) <;> simp

@[simp] theorem front_failJob {id : Nat} {status : BitVec 8} {why : Option WordKerf} {s : State} :
    front (failJob id status why s) = front s := by
  unfold failJob
  (repeat' split) <;> (try simp) <;> (try rw [front_foldl]) <;> (try intro u x) <;> (repeat' split) <;> simp

@[simp] theorem front_completeJob {id : Nat} {s : State} : front (completeJob id s) = front s := by
  unfold completeJob
  split <;> simp

@[simp] theorem front_writeRecord {j : Job} {s : State} : front (writeRecord j s) = front s := by
  unfold writeRecord
  split <;> simp

@[simp] theorem front_recordSweep {n : Nat} {s : State} : front (recordSweep n s) = front s := by
  induction n generalizing s with
  | zero => rfl
  | succ n ih =>
    unfold recordSweep recordStep
    cases s.job.jobs.find? (recordGoes s) <;> simp [ih]

@[simp] theorem front_markWaiting {s : State} : front (markWaiting s) = front s := by
  simp [markWaiting]

@[simp] theorem front_sweepRecords {s : State} : front (sweepRecords s) = front s := by
  simp [sweepRecords]

@[simp] theorem front_storeWaiting {s : State} : front (storeWaiting s) = front s := by
  unfold storeWaiting
  split <;> simp

/-! ### Machine/Planes.lean -/

@[simp] theorem front_updPlane {b : Nat} {f : Plane → Plane} {s : State} : front (updPlane b f s) = front s := by
  simp [updPlane]

@[simp] theorem front_closeBlock {b : Nat} {s : State} : front (closeBlock b s) = front s := by
  simp [closeBlock]

@[simp] theorem front_blockCheck {b : Nat} {s : State} : front (blockCheck b s) = front s := by
  unfold blockCheck
  split <;> simp

@[simp] theorem front_takeCellBit {b : Nat} {pos : Nat} {bit : Bool} {s : State} : front (takeCellBit b pos bit s) = front s := by
  simp [takeCellBit]

@[simp] theorem front_takeWitBit {b : Nat} {bit : Bool} {s : State} : front (takeWitBit b bit s) = front s := by
  simp [takeWitBit]

@[simp] theorem front_deliverSample {b : Nat} {pos : Nat} {bit : Bool} {s : State} : front (deliverSample b pos bit s) = front s := by
  unfold deliverSample
  (repeat' split) <;> simp

@[simp] theorem front_startBlock {b : Nat} {s : State} : front (startBlock b s) = front s := by
  unfold startBlock
  split <;> simp

@[simp] theorem front_planeNext {b : Nat} {s : State} : front (planeNext b s) = front s := by
  unfold planeNext
  split <;> simp

@[simp] theorem front_bumpDisc {why : CreditKerf} {b : Nat} {s : State} : front (bumpDisc why b s) = front s := by
  unfold bumpDisc
  split <;> simp

@[simp] theorem front_kerfBlock {why : CreditKerf} {b : Nat} {s : State} : front (kerfBlock why b s) = front s := by
  unfold kerfBlock
  split <;> simp

@[simp] theorem front_kerfSeed {why : CreditKerf} {b : Nat} {s : State} : front (kerfSeed why b s) = front s := by
  unfold kerfSeed
  split <;> simp

@[simp] theorem front_kerfInProgress {why : CreditKerf} {b : Nat} {s : State} : front (kerfInProgress why b s) = front s := by
  unfold kerfInProgress
  split <;> simp

@[simp] theorem front_failBlock {b : Nat} {s : State} :
    front (failBlock b s) = front s := by
  unfold failBlock
  (repeat' split) <;> (try simp) <;> (try rw [front_foldl]) <;> (try intro u x) <;> (repeat' split) <;> simp

@[simp] theorem front_planeResume {b : Nat} {s : State} : front (planeResume b s) = front s := by
  unfold planeResume
  split <;> simp

@[simp] theorem front_discardBlock {why : CreditKerf} {b : Nat} {s : State} : front (discardBlock why b s) = front s := by
  simp [discardBlock]

@[simp] theorem front_haltPlane {why : CreditKerf} {b : Nat} {s : State} : front (haltPlane why b s) = front s := by
  unfold haltPlane
  split <;> simp

@[simp] theorem front_planeOnBoard {b : Nat} {s : State} : front (planeOnBoard b s) = front s := by
  unfold planeOnBoard
  (repeat' split) <;> simp

@[simp] theorem front_setSum {i : Nat} {s : State} : front (setSum i s) = front s := by
  simp [setSum]

/-! ### Machine/Sources.lean -/

@[simp] theorem front_keyCheck {s : State} : front (keyCheck s) = front s := by
  simp [keyCheck]

@[simp] theorem front_hltSnapAsk {s : State} : front (hltSnapAsk s) = front s := by
  simp [hltSnapAsk]

/-! ### Machine/Lanes.lean -/

@[simp] theorem front_endIfDone {id : Nat} {s : State} : front (endIfDone id s) = front s := by
  unfold endIfDone
  split <;> simp

@[simp] theorem front_testUnitDone {id : Nat} {unit : Nat} {ok : Bool} {s : State} : front (testUnitDone id unit ok s) = front s := by
  simp [testUnitDone]

@[simp] theorem front_reseedJobs {n : Nat} {sat : Bool} {s : State} : front (reseedJobs n sat s) = front s := by
  unfold reseedJobs
  (repeat' split) <;> (try simp) <;> (try rw [front_foldl]) <;> (try intro u x) <;> (repeat' split) <;> simp

@[simp] theorem front_mixCheck {id : Nat} {s : State} : front (mixCheck id s) = front s := by
  unfold mixCheck
  split <;> simp

@[simp] theorem front_mixLeave {n : Nat} {s : State} : front (mixLeave n s) = front s := by
  simp [mixLeave]

@[simp] theorem front_mixFeed {n : Nat} {u : Nat} {v : State} : front (mixFeed n u v) = front v := by
  fun_induction mixFeed n u v <;> simp_all

@[simp] theorem front_pieceAbsorbed {n : Nat} {s : State} : front (pieceAbsorbed n s) = front s := by
  unfold pieceAbsorbed
  (repeat' split) <;> simp

@[simp] theorem front_rebindQueue {q : Nat} {s : State} : front (rebindQueue q s) = front s := by
  unfold rebindQueue
  (repeat' split) <;> simp

@[simp] theorem front_rebindAll {n : Nat} {s : State} :
    front (rebindAll n s) = front s := by
  simp [rebindAll]

@[simp] theorem front_placeOrphans {s : State} : front (placeOrphans s) = front s := by
  unfold placeOrphans
  (repeat' split) <;> (try simp) <;> (try rw [front_foldl]) <;> (try intro u x) <;> (repeat' split) <;> simp

@[simp] theorem front_placeRefresh {s : State} : front (placeRefresh s) = front s := by
  unfold placeRefresh
  (repeat' split) <;> simp

@[simp] theorem front_refreshDone {n : Nat} {s : State} :
    front (refreshDone n s) = front s := by
  unfold refreshDone
  (repeat' split) <;> (try simp) <;> (try rw [front_foldl]) <;> (try intro u x) <;> (repeat' split) <;> simp

@[simp] theorem front_laneLeave {n : Nat} {st : LaneState} {s : State} : front (laneLeave n st s) = front s := by
  unfold laneLeave
  split <;> simp

@[simp] theorem front_laneKat {n : Nat} {s : State} : front (laneKat n s) = front s := by
  simp [laneKat]

@[simp] theorem front_laneBoundary {n : Nat} {s : State} : front (laneBoundary n s) = front s := by
  unfold laneBoundary
  split <;> simp

@[simp] theorem front_laneStart {n : Nat} {s : State} : front (laneStart n s) = front s := by
  simp [laneStart]

@[simp] theorem front_lanKatSettle {s : State} : front (lanKatSettle s) = front s := by
  unfold lanKatSettle
  split <;> simp

@[simp] theorem front_lanKatsGone {n : Nat} {l : List KatWho} {s : State} : front (lanKatsGone n l s) = front s := by
  unfold lanKatsGone
  (repeat' split) <;> (try simp) <;> (try rw [front_foldl]) <;> (try intro u x) <;> (repeat' split) <;> simp

@[simp] theorem front_laneFault {n : Nat} {cause : Nat} {s : State} : front (laneFault n cause s) = front s := by
  unfold laneFault
  split <;> simp

@[simp] theorem front_laneDemand {n : Nat} {s : State} : front (laneDemand n s) = front s := by
  unfold laneDemand
  split <;> simp

@[simp] theorem front_limitsChanged {s : State} : front (limitsChanged s) = front s := by
  simp [limitsChanged]

@[simp] theorem front_laneSeeded {n : Nat} {k : Seed} {s : State} : front (laneSeeded n k s) = front s := by
  unfold laneSeeded
  split <;> simp

@[simp] theorem front_handover {s : State} : front (handover s) = front s := by
  unfold handover
  (repeat' split) <;> simp

@[simp] theorem front_seedReady {b : Nat} {s : State} : front (seedReady b s) = front s := by
  unfold seedReady
  (repeat' split) <;> simp

@[simp] theorem front_seedAged {b : Nat} {s : State} : front (seedAged b s) = front s := by
  unfold seedAged
  split <;> simp

@[simp] theorem front_planeKat {b : Nat} {who : KatWho} {s : State} : front (planeKat b who s) = front s := by
  simp [planeKat]

@[simp] theorem front_plnRun {mask : Nat} {who : KatWho} {s : State} : front (plnRun mask who s) = front s := by
  simp [plnRun]

@[simp] theorem front_plnRunNext {l : List Nat} {s : State} : front (plnRunNext l s) = front s := by
  induction l generalizing s with
  | nil => simp [plnRunNext]
  | cons id ids ih =>
    unfold plnRunNext
    (repeat' split) <;> simp [ih]

@[simp] theorem front_plnTest {id : Nat} {mask : Nat} {s : State} : front (plnTest id mask s) = front s := by
  simp [plnTest]

@[simp] theorem front_planeKatReport {b : Nat} {who : KatWho} {s : State} : front (planeKatReport b who s) = front s := by
  unfold planeKatReport
  cases who <;> simp [KatWho.commanded]

@[simp] theorem front_planeKatFailed {b : Nat} {who : KatWho} {s : State} : front (planeKatFailed b who s) = front s := by
  unfold planeKatFailed
  split <;> simp

@[simp] theorem front_planeKatDone {b : Nat} {compOk : Bool} {hashOk : Bool} {s : State} :
    front (planeKatDone b compOk hashOk s) = front s := by
  unfold planeKatDone
  (repeat' split) <;> simp

@[simp] theorem front_plnKatCmd {mask : Nat} {s : State} : front (plnKatCmd mask s) = front s := by
  simp [plnKatCmd]

@[simp] theorem front_askLaneKat {n : Nat} {who : KatWho} {s : State} : front (askLaneKat n who s) = front s := by
  simp [askLaneKat]

@[simp] theorem front_lanRun {s : State} : front (lanRun s) = front s := by
  simp [lanRun]

@[simp] theorem front_laneKatReport {n : Nat} {who : KatWho} {s : State} : front (laneKatReport n who s) = front s := by
  unfold laneKatReport
  cases who <;> simp

@[simp] theorem front_laneKatFailed {n : Nat} {s : State} : front (laneKatFailed n s) = front s := by
  simp [laneKatFailed]

@[simp] theorem front_laneKatDone {n : Nat} {ok : Bool} {s : State} : front (laneKatDone n ok s) = front s := by
  unfold laneKatDone
  (repeat' split) <;> simp

@[simp] theorem front_lanErr {bit : Nat} {s : State} : front (lanErr bit s) = front s := by
  simp [lanErr]

@[simp] theorem front_lanRefuse {bit : Nat} {s : State} : front (lanRefuse bit s) = front s := by
  simp [lanRefuse]

@[simp] theorem front_lanCmd {mask : Nat} {reseed : Bool} {kat : Bool} {s : State} : front (lanCmd mask reseed kat s) = front s := by
  simp [lanCmd]

@[simp] theorem front_lanEnWrite {v : W32} {s : State} : front (lanEnWrite v s) = front s := by
  unfold lanEnWrite
  (repeat' split) <;> (try simp) <;> (try rw [front_foldl]) <;> (try intro u x) <;> (repeat' split) <;> simp

@[simp] theorem front_prUnbind {q : Nat} {s : State} :
    front (prUnbind q s) = front s := by
  unfold prUnbind
  (repeat' split) <;> (try simp) <;> (try rw [front_foldl]) <;> (try intro u x) <;> (repeat' split) <;> simp

@[simp] theorem front_lanQbindWrite {q : Nat} {v : W32} {s : State} : front (lanQbindWrite q v s) = front s := by
  simp [lanQbindWrite]

@[simp] theorem front_laneTimeCap {n : Nat} {s : State} : front (laneTimeCap n s) = front s := by
  unfold laneTimeCap
  split <;> simp

@[simp] theorem front_settleLanes {s : State} :
    front (settleLanes s) = front s := by
  unfold settleLanes
  (repeat' split) <;> (try simp) <;> (try rw [front_foldl]) <;> (try intro u x) <;> (repeat' split) <;> simp

@[simp] theorem front_eachBoard {f : Nat → State → State} {s : State} (hf : ∀ u0 u1, front (f u0 u1) = front u1) :
    front (eachBoard f s) = front s := by
  simp [eachBoard, hf]

@[simp] theorem front_dropMarked {b : Nat} {s : State} : front (dropMarked b s) = front s := by
  simp [dropMarked]

@[simp] theorem front_afterDrop {b : Nat} {s : State} : front (afterDrop b s) = front s := by
  unfold afterDrop
  split <;> simp

@[simp] theorem front_forceUnmarked {s : State} : front (forceUnmarked s) = front s := by
  simp [forceUnmarked]

/-! ### Machine/Give.lean -/

@[simp] theorem front_beaconFlushed {id : Nat} {s : State} : front (beaconFlushed id s) = front s := by
  unfold beaconFlushed
  split <;> simp

@[simp] theorem front_jobAsk {id : Nat} {s : State} : front (jobAsk id s) = front s := by
  simp only [jobAsk]
  (repeat' split) <;> simp

@[simp] theorem front_finishCheck {id : Nat} {s : State} : front (finishCheck id s) = front s := by
  unfold finishCheck
  split <;> simp

@[simp] theorem front_issueResult {id : Nat} {bytes : List Byte} {status : BitVec 8} {s : State} :
    front (issueResult id bytes status s) = front s := by
  simp [issueResult]

@[simp] theorem front_permDone {id : Nat} {s : State} : front (permDone id s) = front s := by
  unfold permDone
  split <;> simp

@[simp] theorem front_permStart {id : Nat} {s : State} : front (permStart id s) = front s := by
  unfold permStart
  split <;> simp

@[simp] theorem front_permNext {u : Nat} {v : State} : front (permNext u v) = front v := by
  fun_induction permNext u v <;> simp_all

@[simp] theorem front_acceptInt {id : Nat} {v : Nat} {tag : Tag} {s : State} : front (acceptInt id v tag s) = front s := by
  unfold acceptInt
  split <;> simp

@[simp] theorem front_acceptSwap {id : Nat} {c : Nat} {s : State} : front (acceptSwap id c s) = front s := by
  simp [acceptSwap]

@[simp] theorem front_wordsDone {id : Nat} {s : State} : front (wordsDone id s) = front s := by
  unfold wordsDone
  split <;> simp

@[simp] theorem front_resultGo {id : Nat} {s : State} : front (resultGo id s) = front s := by
  unfold resultGo
  split <;> simp

@[simp] theorem front_distEnd {id : Nat} {s : State} : front (distEnd id s) = front s := by
  unfold distEnd
  split <;> simp

@[simp] theorem front_distTest {id : Nat} {s : State} : front (distTest id s) = front s := by
  unfold distTest
  (repeat' split) <;> simp

@[simp] theorem front_mstErr {bit : Nat} {s : State} : front (mstErr bit s) = front s := by
  simp [mstErr]

@[simp] theorem front_readFailed {id : Nat} {s : State} : front (readFailed id s) = front s := by
  unfold readFailed
  split <;> simp

@[simp] theorem front_issueRead {id : Nat} {s : State} : front (issueRead id s) = front s := by
  unfold issueRead
  (repeat' split) <;> simp

@[simp] theorem front_readKeep {id : Nat} {r : SrcRead} {s : State} : front (readKeep id r s) = front s := by
  unfold readKeep
  split <;> simp

@[simp] theorem front_readBegin {id : Nat} {what : ReadFor} {addr : Nat} {total : Nat} {s : State} :
    front (readBegin id what addr total s) = front s := by
  unfold readBegin
  (repeat' split) <;> simp

@[simp] theorem front_batchGo {id : Nat} {s : State} : front (batchGo id s) = front s := by
  unfold batchGo
  split <;> simp

@[simp] theorem front_fetchRun {id : Nat} {u : Nat} {v : State} : front (fetchRun id u v) = front v := by
  fun_induction fetchRun id u v <;> simp_all

@[simp] theorem front_hashNext {u : Nat} {v : State} : front (hashNext u v) = front v := by
  fun_induction hashNext u v <;> simp_all

@[simp] theorem front_takeCoefs {id : Nat} {ws : List AWord} {s : State} : front (takeCoefs id ws s) = front s := by
  simp [takeCoefs]

@[simp] theorem front_jobGive {id : Nat} {ws : List AWord} {s : State} : front (jobGive id ws s) = front s := by
  simp only [jobGive]
  (repeat' split) <;> simp

@[simp] theorem front_peerGive {slot : Nat} {ws : List AWord} {s : State} : front (peerGive slot ws s) = front s := by
  unfold peerGive
  split <;> simp

@[simp] theorem front_giveWords {w : Waiter} {ws : List AWord} {s : State} : front (giveWords w ws s) = front s := by
  unfold giveWords
  split <;> simp

/-! ### Machine/Jobs.lean -/

@[simp] theorem front_addJob {j : Job} {s : State} : front (addJob j s) = front s := by
  simp [addJob]

@[simp] theorem front_progRecord {req : ReqId} {path : Path} {words : Nat} {s : State} :
    front (progRecord req path words s) = front s := by
  simp [progRecord]

@[simp] theorem front_rejectJob {j : Job} {status : BitVec 8} {s : State} : front (rejectJob j status s) = front s := by
  simp [rejectJob]

@[simp] theorem front_benchKat {n : Nat} {who : KatWho} {s : State} : front (benchKat n who s) = front s := by
  simp [benchKat]

@[simp] theorem front_bneRun {s : State} : front (bneRun s) = front s := by
  simp [bneRun]

@[simp] theorem front_bneKatSettle {s : State} : front (bneKatSettle s) = front s := by
  unfold bneKatSettle
  split <;> simp

@[simp] theorem front_hashKat {who : KatWho} {s : State} : front (hashKat who s) = front s := by
  simp [hashKat]

@[simp] theorem front_testStart {id : Nat} {j : Job} {s : State} : front (testStart id j s) = front s := by
  simp [testStart]

@[simp] theorem front_mixStart {id : Nat} {j : Job} {s : State} : front (mixStart id j s) = front s := by
  simp [mixStart]

@[simp] theorem front_reseedStart {id : Nat} {j : Job} {s : State} : front (reseedStart id j s) = front s := by
  simp [reseedStart]

@[simp] theorem front_benchWait {id : Nat} {s : State} : front (benchWait id s) = front s := by
  unfold benchWait
  split <;> simp

@[simp] theorem front_verifyStart {id : Nat} {j : Job} {s : State} : front (verifyStart id j s) = front s := by
  simp [verifyStart]

@[simp] theorem front_tallyStart {id : Nat} {s : State} : front (tallyStart id s) = front s := by
  simp [tallyStart]

@[simp] theorem front_voidVerdict {v : Nat} {k : Job} {s : State} :
    front (voidVerdict v k s) = front s := by
  unfold voidVerdict
  (repeat' split) <;> (try simp) <;> (try rw [front_foldl]) <;> (try intro u x) <;> (repeat' split) <;> simp

@[simp] theorem front_leaveLine {v : Nat} {s : State} :
    front (leaveLine v s) = front s := by
  unfold leaveLine
  (repeat' split) <;> (try simp) <;> (try rw [front_foldl]) <;> (try intro u x) <;> (repeat' split) <;> simp

@[simp] theorem front_abortTarget {v : Nat} {s : State} : front (abortTarget v s) = front s := by
  unfold abortTarget
  split <;> simp

@[simp] theorem front_abortStart {id : Nat} {j : Job} {s : State} : front (abortStart id j s) = front s := by
  simp only [abortStart]
  (repeat' split) <;> simp

@[simp] theorem front_syncParser {s : State} : front (syncParser s) = front s := by
  simp [syncParser]

@[simp] theorem front_discardRun {r : ReqId} {s : State} : front (discardRun r s) = front s := by
  unfold discardRun
  (repeat' split) <;> simp

@[simp] theorem front_parsePeg {r : ReqId} {h : Word} {s : State} : front (parsePeg r h s) = front s := by
  simp [parsePeg]

@[simp] theorem front_dropAt {r : ReqId} {s : State} : front (dropAt r s) = front s := by
  unfold dropAt
  split <;> simp

@[simp] theorem front_appendWords {a : Acc} {ws : List Word} {s : State} : front (appendWords a ws s) = front s := by
  simp only [appendWords]
  (repeat' split) <;> simp

@[simp] theorem front_submit {a : Acc} {w : Nat} {bytes : List Byte} {s : State} : front (submit a w bytes s).2 = front s := by
  simp only [submit]
  (repeat' split) <;> simp

@[simp] theorem front_countLaunch {late : Bool} {rej : Bool} {s : State} : front (countLaunch late rej s) = front s := by
  simp [countLaunch]

@[simp] theorem front_rejectLaunch {id : Nat} {s : State} : front (rejectLaunch id s) = front s := by
  unfold rejectLaunch
  split <;> simp

@[simp] theorem front_beaconAsk {id : Nat} {s : State} : front (beaconAsk id s) = front s := by
  unfold beaconAsk
  split <;> simp

@[simp] theorem front_beaconLaunch {id : Nat} {s : State} : front (beaconLaunch id s) = front s := by
  unfold beaconLaunch
  (repeat' split) <;> simp

@[simp] theorem front_tagSelWrite {v : W32} {s : State} : front (tagSelWrite v s) = front s := by
  simp [tagSelWrite]

@[simp] theorem front_engineLost {s : State} : front (engineLost s) = front s := by
  simp [engineLost]

/-! ### Machine/Stack.lean -/

@[simp] theorem front_stkRefuse {bit : Nat} {s : State} : front (stkRefuse bit s) = front s := by
  simp [stkRefuse]

@[simp] theorem front_peerSkipped {s : State} : front (peerSkipped s) = front s := by
  simp [peerSkipped]

@[simp] theorem front_flushWaiter {q : Nat} {w : Waiter} {s : State} : front (flushWaiter q w s) = front s := by
  simp only [flushWaiter]
  (repeat' split) <;> simp

@[simp] theorem front_flushWaiters {q : Nat} {s : State} : front (flushWaiters q s) = front s := by
  unfold flushWaiters
  split <;> simp

@[simp] theorem front_dropSegments {q : Nat} {why : WordKerf} {s : State} :
    front (dropSegments q why s) = front s := by
  unfold dropSegments
  (repeat' split) <;> (try simp) <;> (try rw [front_foldl]) <;> (try intro u x) <;> (repeat' split) <;> simp

@[simp] theorem front_queueFlush {q : Nat} {s : State} : front (queueFlush q s) = front s := by
  unfold queueFlush
  split <;> simp

@[simp] theorem front_queueVoid {q : Nat} {s : State} : front (queueVoid q s) = front s := by
  unfold queueVoid
  split <;> simp

@[simp] theorem front_voidCheck {qs : List Nat} {s : State} : front (voidCheck qs s) = front s := by
  simp [voidCheck]

@[simp] theorem front_retireRegion {r : Nat} {s : State} : front (retireRegion r s) = front s := by
  simp only [retireRegion]
  (repeat' split) <;> simp

@[simp] theorem front_countCe {a : Nat} {s : State} : front (countCe a s) = front s := by
  simp [countCe]

@[simp] theorem front_handleUe {a : Nat} {s : State} : front (handleUe a s) = front s := by
  simp [handleUe]

@[simp] theorem front_patrolRead {a : Nat} {e : EccResult} {s : State} : front (patrolRead a e s) = front s := by
  unfold patrolRead
  (repeat' split) <;> simp

@[simp] theorem front_passVoid {q : Nat} {u : Nat} {v : State} :
    front (passVoid q u v) = front v := by
  fun_induction passVoid q u v <;> simp_all

@[simp] theorem front_passVoids {s : State} :
    front (passVoids s) = front s := by
  unfold passVoids
  (repeat' split) <;> (try simp) <;> (try rw [front_foldl]) <;> (try intro u x) <;> (repeat' split) <;> simp

@[simp] theorem front_deliveryReady {q : Nat} {s : State} : front (deliveryReady q s) = front s := by
  simp [deliveryReady]

@[simp] theorem front_writeSegment {q : Nat} {slots : List Nat} {w : Nat} {ws : List Word} {tag : Tag} {s : State} :
    front (writeSegment q slots w ws tag s) = front s := by
  unfold writeSegment
  split <;> simp

@[simp] theorem front_segmentOffer {n : Nat} {s : State} : front (segmentOffer n s) = front s := by
  unfold segmentOffer
  (repeat' split) <;> simp

@[simp] theorem front_laneGenerate {n : Nat} {k : Nat} {l : Lane} {s : State} : front (laneGenerate n k l s).2 = front s := by
  simp [laneGenerate]

@[simp] theorem front_cutLane {n : Nat} {left : Nat} {s : State} : front (cutLane n left s) = front s := by
  simp [cutLane]

@[simp] theorem front_refreshUsed {s : State} :
    front (refreshUsed s) = front s := by
  unfold refreshUsed
  (repeat' split) <;> (try simp) <;> (try rw [front_foldl]) <;> (try intro u x) <;> (repeat' split) <;> simp

@[simp] theorem front_laneServe {n : Nat} {l : Lane} {p : PrReq} {cut : Option Nat} {s : State} :
    front (laneServe n l p cut s) = front s := by
  unfold laneServe
  (repeat' split) <;> simp

@[simp] theorem front_laneProduce {n : Nat} {l : Lane} {cut : Option Nat} {s : State} : front (laneProduce n l cut s) = front s := by
  unfold laneProduce
  (repeat' split) <;> simp

@[simp] theorem front_laneSegment {n : Nat} {cut : Option Nat} {s : State} : front (laneSegment n cut s) = front s := by
  unfold laneSegment
  (repeat' split) <;> simp

@[simp] theorem front_mixAbsorb {n : Nat} {s : State} : front (mixAbsorb n s) = front s := by
  unfold mixAbsorb
  (repeat' split) <;> simp

@[simp] theorem front_ageScrub {q : Nat} {s : State} : front (ageScrub q s) = front s := by
  unfold ageScrub
  split <;> simp

@[simp] theorem front_readWords {q : Nat} {key : Nat} {u : Nat} {v : GrantEcc} {w : State} :
    front (readWords q key u v w) = front w := by
  fun_induction readWords q key u v w <;> simp_all +zetaDelta

@[simp] theorem front_grantAllot {q : Nat} {ecc : GrantEcc} {s : State} : front (grantAllot q ecc s) = front s := by
  simp only [grantAllot]
  (repeat' split) <;> simp

@[simp] theorem front_takeSlot {a : Acc} {key : Nat} {s : State} : front (takeSlot a key s) = front s := by
  unfold takeSlot
  split <;> simp

@[simp] theorem front_readWait {a : Acc} {q : Nat} {len : Nat} {what : WaitFor} {cmp : Bool} {s : State} :
    front (readWait a q len what cmp s) = front s := by
  unfold readWait
  split <;> simp

@[simp] theorem front_stallingRead {a : Acc} {q : Nat} {len : Nat} {what : WaitFor} {hold : Bool} {cmp : Bool} {s : State} :
    front (stallingRead a q len what hold cmp s) = front s := by
  unfold stallingRead
  (repeat' split) <;> (try simp) <;> (try rw [front_foldl]) <;> (try intro u x) <;> (repeat' split) <;> simp

@[simp] theorem front_deliveryRead {a : Acc} {q : Nat} {len : Nat} {hold : Bool} {cmp : Bool} {s : State} :
    front (deliveryRead a q len hold cmp s) = front s := by
  simp [deliveryRead]

@[simp] theorem front_cmpRefresh {s : State} : front (cmpRefresh s) = front s := by
  simp [cmpRefresh]

@[simp] theorem front_stallWaiter {q : Nat} {w : Waiter} {s : State} : front (stallWaiter q w s) = front s := by
  simp only [stallWaiter]
  (repeat' split) <;> simp

@[simp] theorem front_stallExpire {w : WaitId} {s : State} : front (stallExpire w s) = front s := by
  unfold stallExpire
  (repeat' split) <;> simp

@[simp] theorem front_dropKinds {p : PortId} {ks : List TxKind} {s : State} : front (dropKinds p ks s) = front s := by
  simp [dropKinds]

@[simp] theorem front_endWrite {id : Nat} {no : Nat} {st : WState} {s : State} : front (endWrite id no st s) = front s := by
  simp [endWrite]

@[simp] theorem front_endBeacon {id : Nat} {st : WState} {s : State} : front (endBeacon id st s) = front s := by
  unfold endBeacon
  split <;> simp

@[simp] theorem front_forceJob {k : TxKind} {s : State} : front (forceJob k s) = front s := by
  unfold forceJob
  split <;> simp

@[simp] theorem front_markForced {q : Nat} {s : State} : front (markForced q s) = front s := by
  unfold markForced
  split <;> simp

@[simp] theorem front_resultDrop {p : PortId} {txn : BitVec 16} {s : State} : front (resultDrop p txn s) = front s := by
  unfold resultDrop
  (repeat' split) <;> simp

@[simp] theorem front_queueOn {q : Nat} {s : State} : front (queueOn q s) = front s := by
  unfold queueOn
  split <;> simp

@[simp] theorem front_queueOffWrite {q : Nat} {flush : Bool} {s : State} : front (queueOffWrite q flush s) = front s := by
  unfold queueOffWrite
  split <;> simp

@[simp] theorem front_dqCtrlWrite {q : Nat} {v : W32} {s : State} : front (dqCtrlWrite q v s) = front s := by
  simp [dqCtrlWrite]

@[simp] theorem front_dqConfigWrite {q : Nat} {size : Bool} {v : W32} {s : State} : front (dqConfigWrite q size v s) = front s := by
  unfold dqConfigWrite
  split <;> simp

@[simp] theorem front_dqWmWrite {q : Nat} {v : W32} {s : State} : front (dqWmWrite q v s) = front s := by
  simp [dqWmWrite]

@[simp] theorem front_stkTagSel {v : W32} {s : State} : front (stkTagSel v s) = front s := by
  simp [stkTagSel]

@[simp] theorem front_clearDone {s : State} : front (clearDone s) = front s := by
  simp [clearDone]

/-! ### Machine/Bench.lean -/

@[simp] theorem front_updBench {n : Nat} {f : Bench → Bench} {s : State} : front (updBench n f s) = front s := by
  simp [updBench]

@[simp] theorem front_bneRefuse {n : Nat} {bit : Nat} {s : State} : front (bneRefuse n bit s) = front s := by
  simp [bneRefuse]

@[simp] theorem front_syncBench {s : State} : front (syncBench s) = front s := by
  simp [syncBench]

@[simp] theorem front_benchJobStart {s : State} : front (benchJobStart s) = front s := by
  simp only [benchJobStart]
  (repeat' split) <;> simp

@[simp] theorem front_denyOrphans {s : State} : front (denyOrphans s) = front s := by
  simp [denyOrphans]

@[simp] theorem front_starveWaiters {s : State} : front (starveWaiters s) = front s := by
  simp [starveWaiters]

@[simp] theorem front_benchSettle {s : State} : front (benchSettle s) = front s := by
  simp [benchSettle]

@[simp] theorem front_idleTouch {s : State} : front (idleTouch s) = front s := by
  simp [idleTouch]

@[simp] theorem front_benchClaim {r : ReqId} {n : Nat} {s : State} : front (benchClaim r n s) = front s := by
  simp [benchClaim]

@[simp] theorem front_endOwner {n : Nat} {s : State} : front (endOwner n s) = front s := by
  simp [endOwner]

@[simp] theorem front_benchRelease {r : ReqId} {n : Nat} {s : State} : front (benchRelease r n s) = front s := by
  unfold benchRelease
  split <;> simp

@[simp] theorem front_benchIdleTimeout {n : Nat} {s : State} : front (benchIdleTimeout n s) = front s := by
  unfold benchIdleTimeout
  (repeat' split) <;> simp

@[simp] theorem front_benchWindow {r : ReqId} {n : Nat} {off : Nat} {op : WindowOp} {s : State} :
    front (benchWindow r n off op s).2.2 = front s := by
  simp only [benchWindow]
  (repeat' split) <;> simp

@[simp] theorem front_benchEnd {n : Nat} {s : State} : front (benchEnd n s) = front s := by
  unfold benchEnd
  (repeat' split) <;> simp

@[simp] theorem front_verdictEnd {n : Nat} {id : Nat} {status : BitVec 8} {count : Nat} {confirmed : Bool} {s : State} :
    front (verdictEnd n id status count confirmed s) = front s := by
  simp [verdictEnd]

@[simp] theorem front_mismatch {n : Nat} {id : Nat} {s : State} : front (mismatch n id s) = front s := by
  unfold mismatch
  split <;> simp

@[simp] theorem front_verifyVerdict {n : Nat} {id : Nat} {j : Job} {agree : Bool} {s : State} :
    front (verifyVerdict n id j agree s) = front s := by
  simp [verifyVerdict]

@[simp] theorem front_batchEnd {n : Nat} {id : Nat} {j : Job} {ok : List Nat} {s : State} : front (batchEnd n id j ok s) = front s := by
  simp [batchEnd]

@[simp] theorem front_batchVerdict {n : Nat} {id : Nat} {j : Job} {agree : Bool} {s : State} :
    front (batchVerdict n id j agree s) = front s := by
  simp [batchVerdict]

@[simp] theorem front_benchVerdict {n : Nat} {agree : Bool} {s : State} : front (benchVerdict n agree s) = front s := by
  unfold benchVerdict
  (repeat' split) <;> simp

@[simp] theorem front_dropBenchKats {n : Nat} {s : State} : front (dropBenchKats n s) = front s := by
  unfold dropBenchKats
  (repeat' split) <;> (try simp) <;> (try rw [front_foldl]) <;> (try intro u x) <;> (repeat' split) <;> simp

@[simp] theorem front_retireBench {n : Nat} {cause : Nat} {s : State} : front (retireBench n cause s) = front s := by
  simp [retireBench]

@[simp] theorem front_benchClearDone {n : Nat} {s : State} : front (benchClearDone n s) = front s := by
  unfold benchClearDone
  split <;> simp

@[simp] theorem front_ucodeUncorrectable {s : State} : front (ucodeUncorrectable s) = front s := by
  unfold ucodeUncorrectable
  (repeat' split) <;> (try simp) <;> (try rw [front_foldl]) <;> (try intro u x) <;> (repeat' split) <;> simp

@[simp] theorem front_ucodeStoreError {unc : Bool} {s : State} : front (ucodeStoreError unc s) = front s := by
  simp [ucodeStoreError]

@[simp] theorem front_bneKatCmd {v : W32} {s : State} : front (bneKatCmd v s) = front s := by
  simp [bneKatCmd]

@[simp] theorem front_bneKatReport {unit : Nat} {who : KatWho} {ok : Bool} {s : State} : front (bneKatReport unit who ok s) = front s := by
  unfold bneKatReport
  cases who <;> simp

@[simp] theorem front_benchKatDone {n : Nat} {ok : Bool} {s : State} : front (benchKatDone n ok s) = front s := by
  unfold benchKatDone
  (repeat' split) <;> simp

@[simp] theorem front_hashKatDone {ok : Bool} {s : State} : front (hashKatDone ok s) = front s := by
  unfold hashKatDone
  (repeat' split) <;> simp

@[simp] theorem front_syncHash {s : State} : front (syncHash s) = front s := by
  simp [syncHash]

@[simp] theorem front_digestDone {id : Nat} {r : SrcRead} {d : List Byte} {s : State} : front (digestDone id r d s) = front s := by
  unfold digestDone
  split <;> simp

@[simp] theorem front_hashTurnDone {s : State} : front (hashTurnDone s) = front s := by
  simp only [hashTurnDone]
  (repeat' split) <;> simp

/-! ### Machine/RingLink.lean -/

@[simp] theorem front_onPort {p : PortId} {f : Port → Port} {s : State} : front (onPort p f s) = front s := by
  simp [onPort]

@[simp] theorem front_giveCredit {p : PortId} {pool : Nat} {s : State} : front (giveCredit p pool s) = front s := by
  simp [giveCredit]

@[simp] theorem front_rxFrame {p : PortId} {f : Frame} {s : State} : front (rxFrame p f s) = front s := by
  simp [rxFrame]

@[simp] theorem front_rxAccess {p : PortId} {hold : Bool} {mark : Bool} {s : State} :
    front (rxAccess p hold mark s) = front s := by
  simp [rxAccess]

@[simp] theorem front_noteSent {p : PortId} {t : TxFrame} {s : State} : front (noteSent p t s) = front s := by
  simp [noteSent]

@[simp] theorem front_noteBcast {p : PortId} {t : TxFrame} {s : State} : front (noteBcast p t s) = front s := by
  simp [noteBcast]

@[simp] theorem front_freeTransit {t : TxFrame} {s : State} : front (freeTransit t s) = front s := by
  unfold freeTransit
  split <;> simp

@[simp] theorem front_sendAt {p : PortId} {i : Nat} {s : State} : front (sendAt p i s) = front s := by
  simp only [sendAt]
  (repeat' split) <;> simp

@[simp] theorem front_pumpPort {p : PortId} {u : Nat} {v : State} : front (pumpPort p u v) = front v := by
  fun_induction pumpPort p u v <;> simp_all

@[simp] theorem front_creditWait {p : PortId} {s : State} : front (creditWait p s) = front s := by
  simp [creditWait]

@[simp] theorem front_pump {s : State} : front (pump s) = front s := by
  simp [pump]

@[simp] theorem front_sendIdent {p : PortId} {s : State} : front (sendIdent p s) = front s := by
  simp [sendIdent]

@[simp] theorem front_sendIdents {s : State} : front (sendIdents s) = front s := by
  simp [sendIdents]

@[simp] theorem front_linkSend {p : PortId} {s : State} : front (linkSend p s) = front s := by
  simp [linkSend]

@[simp] theorem front_replay {p : PortId} {s : State} : front (replay p s) = front s := by
  simp [replay]

@[simp] theorem front_freeHeld {key : Nat} {s : State} : front (freeHeld key s) = front s := by
  simp [freeHeld]

@[simp] theorem front_markJob {id : Nat} {marked : Nat} {s : State} : front (markJob id marked s) = front s := by
  simp [markJob]

@[simp] theorem front_frameAcked {t : TxFrame} {s : State} : front (frameAcked t s) = front s := by
  unfold frameAcked
  (repeat' split) <;> simp

@[simp] theorem front_linkRx {p : PortId} {w : Word} {s : State} : front (linkRx p w s) = front s := by
  simp [linkRx]

@[simp] theorem front_frameCrcError {p : PortId} {bad : Bool} {s : State} : front (frameCrcError p bad s) = front s := by
  simp [frameCrcError]

@[simp] theorem front_replayTimer {p : PortId} {s : State} : front (replayTimer p s) = front s := by
  simp [replayTimer]

@[simp] theorem front_forward {p : PortId} {pool : Nat} {f : Frame} {s : State} : front (forward p pool f s) = front s := by
  simp [forward]

@[simp] theorem front_forwardBcast {p : PortId} {f : Frame} {resid : Nat} {s : State} : front (forwardBcast p f resid s) = front s := by
  simp [forwardBcast]

@[simp] theorem front_rxBad {p : PortId} {f : Frame} {s : State} : front (rxBad p f s) = front s := by
  simp [rxBad]

@[simp] theorem front_ringRxBad {p : PortId} {f : Frame} {s : State} : front (ringRxBad p f s) = front s := by
  simp [ringRxBad]

@[simp] theorem front_transitFrame {p : PortId} {f : Frame} {resid : Nat} {s : State} : front (transitFrame p f resid s) = front s := by
  simp [transitFrame]

/-! ### Machine/Failover.lean -/

@[simp] theorem front_takeBack {id : Nat} {s : State} : front (takeBack id s) = front s := by
  unfold takeBack
  split <;> simp

@[simp] theorem front_rebuild {id : Nat} {s : State} : front (rebuild id s) = front s := by
  simp [rebuild]

@[simp] theorem front_reserve {id : Nat} {nos : List Nat} {s : State} : front (reserve id nos s) = front s := by
  unfold reserve
  split <;> simp

@[simp] theorem front_reroute {p : PortId} {s : State} : front (reroute p s) = front s := by
  simp [reroute]

@[simp] theorem front_requeueStores {ps : List PortId} {s : State} : front (requeueStores ps s) = front s := by
  simp [requeueStores]

@[simp] theorem front_lostReply {t : TxFrame} {s : State} : front (lostReply t s) = front s := by
  unfold lostReply
  split <;> simp

@[simp] theorem front_lostBeacon {k : TxKind} {s : State} : front (lostBeacon k s) = front s := by
  unfold lostBeacon
  split <;> simp

@[simp] theorem front_breakFrame {p : PortId} {s : State} : front (breakFrame p s) = front s := by
  simp [breakFrame]

@[simp] theorem front_sendBreak {p : PortId} {s : State} : front (sendBreak p s) = front s := by
  simp [sendBreak]

@[simp] theorem front_failoverNote {from_ : PortId ⊕ BitVec 12} {cause : Nat} {n : Nat} {s : State} :
    front (failoverNote from_ cause n s) = front s := by
  simp [failoverNote]

@[simp] theorem front_declareLost {ps : List PortId} {s : State} :
    front (declareLost ps s) = front s := by
  unfold declareLost
  (repeat' split) <;> (try simp) <;> (try rw [front_foldl]) <;> (try intro u x) <;> (repeat' split) <;> simp

@[simp] theorem front_failover {ps : List PortId} {from_ : PortId ⊕ BitVec 12} {cause : Nat} {s : State} :
    front (failover ps from_ cause s) = front s := by
  cases from_ <;> simp [failover]

@[simp] theorem front_failoverJoin {p : PortId} {s : State} :
    front (failoverJoin p s) = front s := by
  unfold failoverJoin
  (repeat' split) <;> (try simp) <;> (try rw [front_foldl]) <;> (try intro u x) <;> (repeat' split) <;> simp

@[simp] theorem front_enterService {p : PortId} {s : State} : front (enterService p s) = front s := by
  simp [enterService]

@[simp] theorem front_portTrain {p : PortId} {s : State} : front (portTrain p s) = front s := by
  simp [portTrain]

@[simp] theorem front_failPort {p : PortId} {cause : Nat} {s : State} : front (failPort p cause s) = front s := by
  simp [failPort]

@[simp] theorem front_identRx {p : PortId} {w : Word} {s : State} : front (identRx p w s) = front s := by
  simp [identRx]

@[simp] theorem front_lossOfLock {p : PortId} {s : State} : front (lossOfLock p s) = front s := by
  simp [lossOfLock]

@[simp] theorem front_highBer {p : PortId} {s : State} : front (highBer p s) = front s := by
  simp [highBer]

@[simp] theorem front_retransLimit {p : PortId} {s : State} : front (retransLimit p s) = front s := by
  simp [retransLimit]

@[simp] theorem front_creditTimeout {p : PortId} {s : State} : front (creditTimeout p s) = front s := by
  simp [creditTimeout]

@[simp] theorem front_restoreTimer {p : PortId} {s : State} : front (restoreTimer p s) = front s := by
  simp [restoreTimer]

@[simp] theorem front_restoreCmd {bits : Nat} {s : State} : front (restoreCmd bits s) = front s := by
  simp [restoreCmd]

@[simp] theorem front_ckRingAbsent {s : State} : front (ckRingAbsent s) = front s := by
  simp [ckRingAbsent]

@[simp] theorem front_breakRx {p : PortId} {f : Frame} {s : State} : front (breakRx p f s) = front s := by
  simp [breakRx]

@[simp] theorem front_beaconRx {p : PortId} {f : Frame} {s : State} : front (beaconRx p f s) = front s := by
  simp [beaconRx]

@[simp] theorem front_dropOutst {o : Outst} {s : State} : front (dropOutst o s) = front s := by
  simp [dropOutst]

@[simp] theorem front_wrAckRx {p : PortId} {f : Frame} {s : State} : front (wrAckRx p f s) = front s := by
  unfold wrAckRx
  (repeat' split) <;> simp

@[simp] theorem front_readArrives {id : Nat} {data : List Byte} {s : State} : front (readArrives id data s) = front s := by
  unfold readArrives
  (repeat' split) <;> simp

@[simp] theorem front_rdRspRx {p : PortId} {f : Frame} {s : State} : front (rdRspRx p f s) = front s := by
  unfold rdRspRx
  (repeat' split) <;> simp

@[simp] theorem front_enumRx {p : PortId} {f : Frame} {s : State} : front (enumRx p f s) = front s := by
  simp [enumRx]

/-! ### Machine/Hier.lean -/

@[simp] theorem front_sendPlain {t : TxFrame} {s : State} : front (sendPlain t s) = front s := by
  simp [sendPlain]

@[simp] theorem front_updWorker {k : Nat} {f : Worker → Worker} {s : State} : front (updWorker k f s) = front s := by
  simp [updWorker]

@[simp] theorem front_fabricAlarm {o : BitVec 12} {cause : BitVec 8} {idx : BitVec 8} {s : State} :
    front (fabricAlarm o cause idx s) = front s := by
  simp [fabricAlarm]

@[simp] theorem front_raiseFabric {o : BitVec 12} {cause : BitVec 8} {idx : BitVec 8} {s : State} :
    front (raiseFabric o cause idx s) = front s := by
  simp [raiseFabric]

@[simp] theorem front_alarmTx {s : State} : front (alarmTx s) = front s := by
  simp [alarmTx]

@[simp] theorem front_announceTx {s : State} : front (announceTx s) = front s := by
  simp [announceTx]

@[simp] theorem front_hierIn {p : PortId} {f : Frame} {resid : Nat} {s : State} : front (hierIn p f resid s) = front s := by
  simp [hierIn]

@[simp] theorem front_takeManager {src : BitVec 12} {s : State} : front (takeManager src s) = front s := by
  simp [takeManager]

@[simp] theorem front_announceRx {p : PortId} {f : Frame} {s : State} : front (announceRx p f s) = front s := by
  unfold announceRx
  (repeat' split) <;> simp

@[simp] theorem front_standbyTimeout {s : State} : front (standbyTimeout s) = front s := by
  simp [standbyTimeout]

@[simp] theorem front_mgrForeign {f : Frame} {s : State} : front (mgrForeign f s) = front s := by
  simp [mgrForeign]

@[simp] theorem front_fromManager {f : Frame} {g : State → State} {s : State} (hg : ∀ u0, front (g u0) = front u0) :
    front (fromManager f g s) = front s := by
  simp [fromManager, hg]

@[simp] theorem front_helloTx {s : State} : front (helloTx s) = front s := by
  simp [helloTx]

@[simp] theorem front_helloRx {p : PortId} {f : Frame} {s : State} : front (helloRx p f s) = front s := by
  unfold helloRx
  (repeat' split) <;> simp

@[simp] theorem front_slotExpire {k : Nat} {s : State} : front (slotExpire k s) = front s := by
  unfold slotExpire
  split <;> simp

@[simp] theorem front_peerTx {k : Nat} {s : State} : front (peerTx k s) = front s := by
  unfold peerTx
  split <;> simp

@[simp] theorem front_peerStore {f : Frame} {s : State} : front (peerStore f s) = front s := by
  simp [peerStore]

@[simp] theorem front_peerRx {p : PortId} {f : Frame} {s : State} : front (peerRx p f s) = front s := by
  simp [peerRx]

@[simp] theorem front_gatherTx {k : Nat} {s : State} : front (gatherTx k s) = front s := by
  unfold gatherTx
  split <;> simp

@[simp] theorem front_gatherReply {seq : Nat} {s : State} : front (gatherReply seq s) = front s := by
  simp [gatherReply]

@[simp] theorem front_gatherRx {p : PortId} {f : Frame} {s : State} : front (gatherRx p f s) = front s := by
  simp [gatherRx]

@[simp] theorem front_reportRx {p : PortId} {f : Frame} {health : Bool} {s : State} : front (reportRx p f health s) = front s := by
  unfold reportRx
  (repeat' split) <;> simp

@[simp] theorem front_gatherStale {k : Nat} {s : State} : front (gatherStale k s) = front s := by
  unfold gatherStale
  split <;> simp

@[simp] theorem front_alarmRx {p : PortId} {f : Frame} {s : State} : front (alarmRx p f s) = front s := by
  simp [alarmRx]

@[simp] theorem front_recordFabric {f : Frame} {s : State} : front (recordFabric f s) = front s := by
  simp [recordFabric]

@[simp] theorem front_fabricAlarmRx {p : PortId} {f : Frame} {s : State} : front (fabricAlarmRx p f s) = front s := by
  simp [fabricAlarmRx]

/-! ### Machine/Tim.lean -/

@[simp] theorem front_countUp {s : State} : front (countUp s) = front s := by
  unfold countUp
  exact front_mk

@[simp] theorem front_resched {s : State} : front (resched s) = front s := by
  simp [resched]

@[simp] theorem front_timeStep {src : Nat} {new : BitVec 80} {corr : ℤ} {s : State} : front (timeStep src new corr s) = front s := by
  simp [timeStep]

@[simp] theorem front_enterTrack {s : State} : front (enterTrack s) = front s := by
  simp [enterTrack]

@[simp] theorem front_sampleApply {src : Nat} {own : Bool} {e : Int} {s : State} :
    front (sampleApply src own e s) = front s := by
  unfold sampleApply
  extract_lets t src1 s1 f
  have h : front s1 = front s := by
    simp only [s1, src1]
    split <;> simp
  clear_value f
  split
  · simp [h]
  · exact front_mk.trans h

@[simp] theorem front_meetHere {s : State} :
    front (meetHere s) = front s := by
  unfold meetHere
  (repeat' split) <;> (try simp) <;> (try rw [front_foldl]) <;> (try intro u x) <;> (repeat' split) <;> simp

@[simp] theorem front_timeSample {src : Nat} {own : Bool} {e : ℤ} {s : State} : front (timeSample src own e s) = front s := by
  simp [timeSample]

@[simp] theorem front_timeSet {wrap : BitVec 16} {ns : BitVec 32} {s : State} : front (timeSet wrap ns s) = front s := by
  simp [timeSet]

@[simp] theorem front_timeAdj {v : W32} {s : State} : front (timeAdj v s) = front s := by
  simp [timeAdj]

@[simp] theorem front_applyHeld {s : State} : front (applyHeld s) = front s := by
  unfold applyHeld
  (repeat' split) <;> simp

@[simp] theorem front_timCmd {v : W32} {s : State} : front (timCmd v s) = front s := by
  simp [timCmd]

@[simp] theorem front_timeHoldover {s : State} : front (timeHoldover s) = front s := by
  simp [timeHoldover]

@[simp] theorem front_syncTake {p : PortId} {f : Frame} {s : State} : front (syncTake p f s) = front s := by
  simp [syncTake]

@[simp] theorem front_syncRx {p : PortId} {f : Frame} {s : State} : front (syncRx p f s) = front s := by
  simp [syncRx]

@[simp] theorem front_syncTx {s : State} : front (syncTx s) = front s := by
  simp [syncTx]

@[simp] theorem front_syncInIgnored {s : State} : front (syncInIgnored s) = front s := by
  simp [syncInIgnored]

@[simp] theorem front_syncInEdge {s : State} : front (syncInEdge s) = front s := by
  simp [syncInEdge]

@[simp] theorem front_ckTimeLost {s : State} : front (ckTimeLost s) = front s := by
  simp [ckTimeLost]

@[simp] theorem front_refclkLost {s : State} :
    front (refclkLost s) = front s := by
  unfold refclkLost
  (repeat' split) <;> (try simp) <;> (try rw [front_foldl]) <;> (try intro u x) <;> (repeat' split) <;> simp

@[simp] theorem front_ckTimeRestored {s : State} : front (ckTimeRestored s) = front s := by
  simp [ckTimeRestored]

@[simp] theorem front_timeTick {s : State} : front (timeTick s) = front s := by
  simp [timeTick]

@[simp] theorem front_syncOutPulse {s : State} : front (syncOutPulse s) = front s := by
  unfold syncOutPulse
  split <;> simp

@[simp] theorem front_syncOutEnd {s : State} : front (syncOutEnd s) = front s := by
  simp [syncOutEnd]

@[simp] theorem front_syncOutStart {v : W32} {s : State} : front (syncOutStart v s) = front s := by
  simp [syncOutStart]

@[simp] theorem front_timCtrlWrite {v : W32} {s : State} : front (timCtrlWrite v s) = front s := by
  simp [timCtrlWrite]

/-! ### Machine/Lsp.lean -/

@[simp] theorem front_answer {a : Acc} {write : Bool} {status : Nat} {data : List Byte} {un : Bool} {s : State} :
    front (answer a write status data un s) = front s := by
  unfold answer
  split <;> simp

@[simp] theorem front_slvErr {bit : Nat} {s : State} : front (slvErr bit s) = front s := by
  simp [slvErr]

@[simp] theorem front_engineSwitch {s : State} : front (engineSwitch s) = front s := by
  simp [engineSwitch]

@[simp] theorem front_lspFill {s : State} : front (lspFill s) = front s := by
  unfold lspFill
  split <;> simp

@[simp] theorem front_respShift {k : Nat} {s : State} : front (respShift k s) = front s := by
  unfold respShift
  split <;> simp

@[simp] theorem front_engFormat {w : W32} {s : State} : front (engFormat w s) = front s := by
  simp [engFormat]

@[simp] theorem front_engTake {words : List (List Bool)} {s : State} : front (engTake words s) = front s := by
  unfold engTake
  split <;> simp

@[simp] theorem front_engSlots {ready : Bool} {words : List (List Bool)} {s : State} : front (engSlots ready words s).2 = front s := by
  simp [engSlots]

@[simp] theorem front_rawSlot {b : List Bool} {s : State} : front (rawSlot b s).2 = front s := by
  simp [rawSlot]

@[simp] theorem front_rawSlots {u : List (List Bool)} {v : State} : front (rawSlots u v).2 = front v := by
  fun_induction rawSlots u v <;> simp_all +zetaDelta

@[simp] theorem front_shortWord {words : List (List Bool)} {s : State} : front (shortWord words s) = front s := by
  unfold shortWord
  split <;> simp

@[simp] theorem front_lspTransfer {mosi : List Bool} {s : State} : front (lspTransfer mosi s) = front s := by
  simp only [lspTransfer]
  (repeat' split) <;> simp

@[simp] theorem front_lspPeriods {bits : List Bool} {u : List (Nat × List Bool)} {v : State} :
    front (lspPeriods bits u v) = front v := by
  fun_induction lspPeriods bits u v <;> simp_all

@[simp] theorem front_updXip {w : Nat} {f : XipCfg → XipCfg} {s : State} : front (updXip w f s) = front s := by
  simp [updXip]

@[simp] theorem front_xipStart {s : State} : front (xipStart s) = front s := by
  unfold xipStart
  split <;> simp

@[simp] theorem front_dselSync {s : State} : front (dselSync s) = front s := by
  simp [dselSync]

@[simp] theorem front_xipReply {o : XipOp} {status : Nat} {data : List Byte} {s : State} :
    front (xipReply o status data s) = front s := by
  unfold xipReply
  split <;> simp

@[simp] theorem front_xipNext {s : State} : front (xipNext s) = front s := by
  simp [xipNext]

@[simp] theorem front_xipComplete {o : XipOp} {data : List Byte} {s : State} : front (xipComplete o data s) = front s := by
  unfold xipComplete
  split <;> simp

@[simp] theorem front_xipDone {data : List Byte} {s : State} : front (xipDone data s) = front s := by
  unfold xipDone
  (repeat' split) <;> simp

@[simp] theorem front_writeOn {o : XipOp} {rest : List XipOp} {s : State} : front (writeOn o rest s) = front s := by
  simp [writeOn]

@[simp] theorem front_flashPoll {sr : Byte} {s : State} : front (flashPoll sr s) = front s := by
  unfold flashPoll
  split <;> simp

@[simp] theorem front_pollTimeout {s : State} : front (pollTimeout s) = front s := by
  unfold pollTimeout
  split <;> simp

@[simp] theorem front_xipQueue {o : XipOp} {s : State} : front (xipQueue o s) = front s := by
  simp [xipQueue]

@[simp] theorem front_xipAccess {a : Acc} {w : Nat} {write : Bool} {off : Nat} {len : Nat} {data : List Byte} {s : State} :
    front (xipAccess a w write off len data s) = front s := by
  simp [xipAccess]

@[simp] theorem front_rawCommand {v : W32} {s : State} : front (rawCommand v s) = front s := by
  simp [rawCommand]

@[simp] theorem front_xipEndWaiting {p : XipOp → Bool} {status : Nat} {f : State → State} {s : State} (hf : ∀ u0, front (f u0) = front u0) :
    front (xipEndWaiting p status f s) = front s := by
  simp [xipEndWaiting, hf]

@[simp] theorem front_roleSwitch {s : State} : front (roleSwitch s) = front s := by
  simp [roleSwitch]

@[simp] theorem front_flashLock {l0 : Bool} {l1 : Bool} {s : State} : front (flashLock l0 l1 s) = front s := by
  simp [flashLock]

@[simp] theorem front_xipHalt {s : State} : front (xipHalt s) = front s := by
  simp [xipHalt]

/-! ### Machine/RegRead.lean -/

@[simp] theorem front_mbxEnd {s : State} : front (mbxEnd s) = front s := by
  simp [mbxEnd]

@[simp] theorem front_familyReadEffect {off : Nat} {s : State} : front (familyReadEffect off s) = front s := by
  unfold familyReadEffect
  split <;> simp

/-! ### Machine/Boot.lean -/

@[simp] theorem front_vinRise {selL : Bool} {selC : Bool} {s : State} : front (vinRise selL selC s) = front s := by
  unfold vinRise
  split <;> simp

@[simp] theorem front_tamperPort {p : PortId} {s : State} : front (tamperPort p s) = front s := by
  unfold tamperPort
  (repeat' split) <;> (try simp) <;> (try rw [front_foldl]) <;> (try intro u x) <;> (repeat' split) <;> simp

@[simp] theorem front_imageBus {l : List Byte} {s : State} : front (imageBus l s) = front s := by
  simp [imageBus]

@[simp] theorem front_bootEnter {l : List Byte} {agree : Bool} {s : State} : front (bootEnter l agree s) = front s := by
  simp [bootEnter]

@[simp] theorem front_bootStop {stage : Nat} {cause : Nat} {s : State} : front (bootStop stage cause s) = front s := by
  simp [bootStop]

@[simp] theorem front_tryImage {base : Nat} {l : List Byte} {agree : Bool} {s : State} : front (tryImage base l agree s).2 = front s := by
  simp [tryImage]

@[simp] theorem front_romBoot {x : BootFlash} {s : State} : front (romBoot x s) = front s := by
  simp [romBoot]

@[simp] theorem front_bootClose {s : State} : front (bootClose s) = front s := by
  simp [bootClose]

@[simp] theorem front_slowSelect {v : W32} {s : State} : front (slowSelect v s) = front s := by
  simp [slowSelect]

@[simp] theorem front_slowclkLost {s : State} : front (slowclkLost s) = front s := by
  simp [slowclkLost]

/-! ### Machine/RegWrite.lean -/

@[simp] theorem front_lockViol {r : ReqId} {off : Nat} {s : State} : front (lockViol r off s) = front s := by
  simp [lockViol]

@[simp] theorem front_bootOnly {r : ReqId} {off : Nat} {f : State → State} {s : State} (hf : ∀ u0, front (f u0) = front u0) :
    front (bootOnly r off f s) = front s := by
  simp [bootOnly, hf]

@[simp] theorem front_guardNote {r : ReqId} {off : Nat} {s : State} : front (guardNote r off s) = front s := by
  simp [guardNote]

@[simp] theorem front_guardBroken {r : ReqId} {off : Nat} {s : State} : front (guardBroken r off s) = front s := by
  simp [guardBroken]

@[simp] theorem front_disarm {r : ReqId} {s : State} : front (disarm r s) = front s := by
  simp [disarm]

@[simp] theorem front_breakArm {r : ReqId} {s : State} : front (breakArm r s) = front s := by
  unfold breakArm
  split <;> simp

@[simp] theorem front_breakOthers {r : ReqId} {off : Nat} {s : State} : front (breakOthers r off s) = front s := by
  simp [breakOthers]

@[simp] theorem front_retryPair {v : W32} {s : State} : front (retryPair v s) = front s := by
  simp [retryPair]

@[simp] theorem front_timCmdPair {v : W32} {s : State} : front (timCmdPair v s) = front s := by
  simp [timCmdPair]

@[simp] theorem front_mstCmdPair {v : W32} {s : State} : front (mstCmdPair v s) = front s := by
  simp [mstCmdPair]

@[simp] theorem front_flashLockPair {v : W32} {s : State} : front (flashLockPair v s) = front s := by
  simp [flashLockPair]

@[simp] theorem front_guardArm {r : ReqId} {g : Nat} {v : W32} {s : State} : front (guardArm r g v s) = front s := by
  simp [guardArm]

@[simp] theorem front_guardTimeout {r : ReqId} {s : State} : front (guardTimeout r s) = front s := by
  unfold guardTimeout
  split <;> simp

@[simp] theorem front_sysWrite {off : Nat} {v : W32} {s : State} : front (sysWrite off v s) = front s := by
  unfold sysWrite
  split <;> simp

@[simp] theorem front_plnWrite {off : Nat} {v : W32} {s : State} : front (plnWrite off v s) = front s := by
  unfold plnWrite
  (repeat' split) <;> first | (simp; done) | (rw [front_onlyIf]; intro u; simp)

@[simp] theorem front_lanWrite {off : Nat} {v : W32} {s : State} : front (lanWrite off v s) = front s := by
  unfold lanWrite
  (repeat' split) <;> simp

@[simp] theorem front_queueWrite {q : Nat} {k : Nat} {v : W32} {s : State} : front (queueWrite q k v s) = front s := by
  unfold queueWrite
  split <;> simp

@[simp] theorem front_stkWrite {off : Nat} {v : W32} {s : State} : front (stkWrite off v s) = front s := by
  unfold stkWrite
  (repeat' split) <;> simp

@[simp] theorem front_jobWrite {off : Nat} {v : W32} {s : State} : front (jobWrite off v s) = front s := by
  unfold jobWrite
  (repeat' split) <;> simp

@[simp] theorem front_bneWrite {r : ReqId} {off : Nat} {v : W32} {s : State} : front (bneWrite r off v s) = front s := by
  unfold bneWrite
  (repeat' split) <;> simp

@[simp] theorem front_retryWrite {v : W32} {s : State} : front (retryWrite v s) = front s := by
  simp [retryWrite]

@[simp] theorem front_mgrCtrlWrite {v : W32} {s : State} : front (mgrCtrlWrite v s) = front s := by
  simp [mgrCtrlWrite]

@[simp] theorem front_ringWrite {off : Nat} {v : W32} {s : State} : front (ringWrite off v s) = front s := by
  unfold ringWrite
  (repeat' split) <;> simp

@[simp] theorem front_syncTxWrite {v : W32} {s : State} : front (syncTxWrite v s) = front s := by
  simp [syncTxWrite]

@[simp] theorem front_timWrite {off : Nat} {v : W32} {s : State} : front (timWrite off v s) = front s := by
  unfold timWrite
  split <;> simp

@[simp] theorem front_txDataWrite {v : W32} {s : State} : front (txDataWrite v s) = front s := by
  simp [txDataWrite]

@[simp] theorem front_xipWriteReg {w : Nat} {k : Nat} {v : W32} {s : State} : front (xipWriteReg w k v s) = front s := by
  unfold xipWriteReg
  split <;> simp

@[simp] theorem front_lspWrite {off : Nat} {v : W32} {s : State} : front (lspWrite off v s) = front s := by
  unfold lspWrite
  (repeat' split) <;> simp

@[simp] theorem front_evtWrite {off : Nat} {v : W32} {s : State} : front (evtWrite off v s) = front s := by
  unfold evtWrite
  (repeat' split) <;> simp

/-! ### Machine/Bus.lean -/

@[simp] theorem front_mbxFail {err : Nat} {s : State} : front (mbxFail err s) = front s := by
  simp [mbxFail]

@[simp] theorem front_mbxRead {r : ReqId} {item : Nat} {s : State} : front (mbxRead r item s) = front s := by
  simp [mbxRead]

@[simp] theorem front_mbxApply {r : ReqId} {item : Nat} {s : State} : front (mbxApply r item s) = front s := by
  simp [mbxApply]

@[simp] theorem front_mbxSelect {r : ReqId} {v : W32} {s : State} : front (mbxSelect r v s) = front s := by
  simp [mbxSelect]

@[simp] theorem front_mbxTimeout {s : State} : front (mbxTimeout s) = front s := by
  simp [mbxTimeout]

@[simp] theorem front_mbxTouch {r : ReqId} {off : Nat} {s : State} : front (mbxTouch r off s) = front s := by
  simp [mbxTouch]

@[simp] theorem front_mbxWrite {r : ReqId} {off : Nat} {v : W32} {s : State} : front (mbxWrite r off v s) = front s := by
  unfold mbxWrite
  (repeat' split) <;> simp

@[simp] theorem front_takeRequest {p : PortId} {hold : Bool} {mark : Bool} {s : State} :
    front (takeRequest p hold mark s) = front s := by
  simp [takeRequest]

@[simp] theorem front_dropHold {p : PortId} {hold : Bool} {s : State} : front (dropHold p hold s) = front s := by
  simp [dropHold]

@[simp] theorem front_arrive {a : Acc} {hold : Bool} {write : Bool} {f : Acc → State → State} {s : State} (hf : ∀ u0 u1, front (f u0 u1) = front u1) :
    front (arrive a hold write f s) = front s := by
  unfold arrive
  split <;> simp [hf]

@[simp] theorem front_windowRead {a : Acc} {q : Nat} {len : Nat} {hold : Bool} {s : State} :
    front (windowRead a q len hold s) = front s := by
  simp [windowRead]

@[simp] theorem front_windowWrite {s : State} : front (windowWrite s).2 = front s := by
  unfold windowWrite
  split <;> simp

@[simp] theorem front_benchAccess {r : ReqId} {n : Nat} {off : Nat} {op : WindowOp} {s : State} :
    front (benchAccess r n off op s).2.2 = front s := by
  unfold benchAccess
  split <;> simp

@[simp] theorem front_unmapped {a : Acc} {off : Nat} {write : Bool} {s : State} : front (unmapped a off write s) = front s := by
  simp [unmapped]

@[simp] theorem front_engXip {w : Nat} {write : Bool} {off : Nat} {n : Nat} {data : List Byte} {s : State} :
    front (engXip w write off n data s) = front s := by
  simp [engXip]

@[simp] theorem front_engAck {rstat : Nat} {n : Nat} {s : State} : front (engAck rstat n s) = front s := by
  simp [engAck]

/-! ### Machine/Tick.lean -/

@[simp] theorem front_freezeQueues {s : State} : front (freezeQueues s) = front s := by
  simp [freezeQueues]

@[simp] theorem front_haltJobs {s : State} : front (haltJobs s) = front s := by
  simp [haltJobs]

@[simp] theorem front_haltParser {s : State} : front (haltParser s) = front s := by
  simp [haltParser]

@[simp] theorem front_haltWaits {q : Nat} {s : State} : front (haltWaits q s) = front s := by
  unfold haltWaits
  (repeat' split) <;> (try simp) <;> (try rw [front_foldl]) <;> (try intro u x) <;> (repeat' split) <;> simp

@[simp] theorem front_haltPort {p : PortId} {s : State} : front (haltPort p s) = front s := by
  simp [haltPort]

@[simp] theorem front_haltEngine {s : State} : front (haltEngine s) = front s := by
  unfold haltEngine
  split <;> simp

@[simp] theorem front_haltQueue {q : Nat} {s : State} : front (haltQueue q s) = front s := by
  unfold haltQueue
  split <;> simp

@[simp] theorem front_haltLanes {s : State} : front (haltLanes s) = front s := by
  simp [haltLanes]

@[simp] theorem front_haltPlanes {s : State} : front (haltPlanes s) = front s := by
  simp [haltPlanes]

@[simp] theorem front_haltBenches {s : State} : front (haltBenches s) = front s := by
  simp [haltBenches]

@[simp] theorem front_alarmSettle {s : State} : front (alarmSettle s) = front s := by
  simp [alarmSettle]

@[simp] theorem front_settleJobs {s : State} : front (settleJobs s) = front s := by
  simp [settleJobs]

@[simp] theorem front_notePath {s : State} : front (notePath s) = front s := by
  simp [notePath]

@[simp] theorem front_settleRing {s : State} : front (settleRing s) = front s := by
  simp [settleRing]

@[simp] theorem front_finishUp {s : State} : front (finishUp s) = front s := by
  simp [finishUp]

@[simp] theorem front_act {f : State → State} {s : State} (hf : ∀ u0, front (f u0) = front u0) : front (act f s) = front s := by
  simp [act, hf]

@[simp] theorem front_clockOn {s : State} :
    front (clockOn s) = front s := by
  unfold clockOn
  (repeat' split) <;> (try simp) <;> (try rw [front_foldl]) <;> (try intro u x) <;> (repeat' split) <;> simp

@[simp] theorem front_tick {s : State} : front (tick s) = front s := by
  simp [tick]

/-! ### Machine/Rows.lean -/

@[simp] theorem front_oddAccess {a : Acc} {write : Bool} {off : Nat} {len : Nat} {s : State} :
    front (oddAccess a write off len s) = front s := by
  unfold oddAccess
  (repeat' split) <;> (try simp) <;> (try rw [front_foldl]) <;> (try intro u x) <;> (repeat' split) <;> simp

@[simp] theorem front_deliveryWrite {a : Acc} {q : Nat} {s : State} : front (deliveryWrite a q s) = front s := by
  simp [deliveryWrite]

@[simp] theorem front_submitDone {a : Acc} {w : Nat} {bytes : List Byte} {s : State} : front (submitDone a w bytes s) = front s := by
  simp [submitDone]

@[simp] theorem front_submitRow {a : Acc} {w : Nat} {bytes : List Byte} {s : State} : front (submitRow a w bytes s) = front s := by
  unfold submitRow
  split <;> simp

@[simp] theorem front_benchRow {a : Acc} {n : Nat} {off : Nat} {op : WindowOp} {s : State} : front (benchRow a n off op s) = front s := by
  simp [benchRow]

@[simp] theorem front_xipRow {a : Acc} {w : Nat} {write : Bool} {off : Nat} {len : Nat} {data : List Byte} {s : State} :
    front (xipRow a w write off len data s) = front s := by
  simp [xipRow]

@[simp] theorem front_laneTimeout {n : Nat} {s : State} : front (laneTimeout n s) = front s := by
  unfold laneTimeout
  split <;> simp

@[simp] theorem front_talSnapTake {s : State} : front (talSnapTake s) = front s := by
  simp [talSnapTake]

@[simp] theorem front_benchTestDone {u : BenchUnit} {ok : Bool} {s : State} : front (benchTestDone u ok s) = front s := by
  unfold benchTestDone
  split <;> simp

@[simp] theorem front_engNop {s : State} : front (engNop s) = front s := by
  simp [engNop]

end Sys2Proof.Machine
end

