-- ==== Sys2Proof/Laws/Exec.lean ====
section
/-! SUPPORT. What exec answers for each command, true by rfl: its own effect and what follows in the step. -/

namespace Sys2Proof.Machine

theorem exec_vinRise {selL selC : Bool} {s : State} : exec (.vinRise selL selC) s = .next (vinRise selL selC s) := rfl

theorem exec_internalResetRelease {x : ResetPins} {s : State} : exec (.internalResetRelease x) s = .next (releaseStep x s) := rfl

theorem exec_resetAssert {s : State} : exec (.resetAssert) s = .next (resetAssert s) := rfl

theorem exec_brownOut {s : State} : exec (.brownOut) s = .next (brownOut s) := rfl

theorem exec_jtagResetHold {i : JtagHold} {s : State} : exec (.jtagResetHold i) s = .next (jtagInstr i s) := rfl

theorem exec_romBoot {x : BootFlash} {s : State} : exec (.romBoot x) s = .next (act (romBoot x) s) := rfl

theorem exec_bootDone {a : Acc} {s : State} : exec (.bootDone a) s = .next (act (pairRow a 0x0008 1) s) := rfl

theorem exec_tamper {ns : Nat} {s : State} : exec (.tamper ns) s = .next (act (tamperPulse ns) s) := rfl

theorem exec_calRestore {a : Acc} {groups : BitVec 4} {lock pin : Bool} {s : State} :
    exec (.calRestore a groups lock pin) s = .next (act (pairRow a 0x2000 (calWord groups lock pin)) s) := rfl

theorem exec_calLock {a : Acc} {groups : BitVec 4} {pin : Bool} {s : State} :
    exec (.calLock a groups pin) s = .next (act (pairRow a 0x2000 (calWord groups true pin)) s) := rfl

theorem exec_calRestorePin {a : Acc} {groups : BitVec 4} {lock : Bool} {s : State} :
    exec (.calRestorePin a groups lock) s = .next (act (pairRow a 0x2000 (calWord groups lock true)) s) := rfl

theorem exec_calOverrideWrite {a : Acc} {r : CalReg} {v : W32} {s : State} :
    exec (.calOverrideWrite a r v) s = .next (act (calRow a r v) s) := rfl

theorem exec_silHltRespWrite {a : Acc} {v : W32} {s : State} :
    exec (.silHltRespWrite a v) s = .next (act (writeAccess a 0x1004 [v]) s) := rfl

theorem exec_compatEnter {a : Acc} {pin : Bool} {s : State} :
    exec (.compatEnter a pin) s = .next (act (pairRow a 0x0018 (compatWord true pin)) s) := rfl

theorem exec_compatLeave {a : Acc} {pin : Bool} {s : State} :
    exec (.compatLeave a pin) s = .next (act (pairRow a 0x0018 (compatWord false pin)) s) := rfl

theorem exec_compatPin {a : Acc} {en : Bool} {s : State} :
    exec (.compatPin a en) s = .next (act (pairRow a 0x0018 (compatWord en true)) s) := rfl

theorem exec_slowClockSelect {a : Acc} {v : W32} {s : State} :
    exec (.slowClockSelect a v) s = .next (act (writeAccess a 0x0020 [v]) s) := rfl

theorem exec_slowclkLost {s : State} : exec (.slowclkLost) s = .next (act (slowclkLost) s) := rfl

theorem exec_paceWindowEnd {x : PaceMeasure} {s : State} : exec (.paceWindowEnd x) s = .next (act (paceEnd x) s) := rfl

theorem exec_race {n : Nat} {bit : Bool} {s : State} : exec (.race n bit) s = .next (act (raceBit n bit) s) := rfl

theorem exec_witnessSample {b : Nat} {bit : Bool} {s : State} :
    exec (.witnessSample b bit) s = .next (act (sample (0x40 + b) bit) s) := rfl

theorem exec_grnEnWrite {a : Acc} {b : Nat} {v : W32} {s : State} :
    exec (.grnEnWrite a b v) s = .next (act (rowWrite a (b < 8) (0x4010 + 4 * b) v) s) := rfl

theorem exec_grnRestart {a : Acc} {src : BitVec 7} {s : State} :
    exec (.grnRestart a src) s = .next (act (writeAccess a 0x4030 [src.setWidth 32 ||| 0x100]) s) := rfl

theorem exec_grnRetire {a : Acc} {board : Bool} {idx : BitVec 7} {s : State} :
    exec (.grnRetire a board idx) s = .next (act (pairRow a 0x4034 (packR [(8, b2n board), (0, idx.toNat)])) s) := rfl

theorem exec_captureStart {a : Acc} {src : BitVec 7} {pin : Bool} {s : State} :
    exec (.captureStart a src pin) s = .next (act (pairRow a 0x4040 (packR [(9, b2n pin), (8, 1), (0, src.toNat)])) s) := rfl

theorem exec_capturePin {a : Acc} {src : BitVec 7} {start : Bool} {s : State} :
    exec (.capturePin a src start) s = .next (act (pairRow a 0x4040 (packR [(9, 1), (8, b2n start), (0, src.toNat)])) s) := rfl

theorem exec_grnRawDataRead {a : Acc} {s : State} : exec (.grnRawDataRead a) s = .next (act (readAccess a 0x4050 1) s) := rfl

theorem exec_hltSnap {a : Acc} {s : State} : exec (.hltSnap a) s = .next (act (writeAccess a 0x5004 [1]) s) := rfl

theorem exec_hltSnapDone {s : State} : exec (.hltSnapDone) s = .next (act (hltSnapTake) s) := rfl

theorem exec_hltRetryPin {a : Acc} {ms : BitVec 16} {s : State} :
    exec (.hltRetryPin a ms) s = .next (act (pairRow a 0x5008 (ms.setWidth 32 ||| 0x80000000)) s) := rfl

theorem exec_seedReady {b : Nat} {s : State} : exec (.seedReady b) s = .next (act (seedReady b) s) := rfl

theorem exec_seedHandover {s : State} : exec (.seedHandover) s = .next (act (handover) s) := rfl

theorem exec_heldSeedAged {b : Nat} {s : State} : exec (.heldSeedAged b) s = .next (act (seedAged b) s) := rfl

theorem exec_planeKatDone {b : Nat} {compOk hashOk : Bool} {s : State} :
    exec (.planeKatDone b compOk hashOk) s = .next (act (planeKatDone b compOk hashOk) s) := rfl

theorem exec_plnKatCmd {a : Acc} {mask : BitVec 8} {s : State} :
    exec (.plnKatCmd a mask) s = .next (act (writeAccess a 0x6080 [mask.setWidth 32 ||| 0x100]) s) := rfl

theorem exec_talSnap {a : Acc} {s : State} : exec (.talSnap a) s = .next (act (writeAccess a 0x6800 [1]) s) := rfl

theorem exec_talSnapDone {s : State} : exec (.talSnapDone) s = .next (act (talSnapTake) s) := rfl

theorem exec_laneSegment {n : Nat} {cut : Option Nat} {s : State} : exec (.laneSegment n cut) s = .next (act (laneSegment n cut) s) := rfl

theorem exec_laneKatDone {n : Nat} {ok : Bool} {s : State} : exec (.laneKatDone n ok) s = .next (act (laneKatDone n ok) s) := rfl

theorem exec_laneTimeCap {n : Nat} {s : State} : exec (.laneTimeCap n) s = .next (act (laneTimeCap n) s) := rfl

theorem exec_laneHandshakeTimeout {n : Nat} {s : State} : exec (.laneHandshakeTimeout n) s = .next (act (laneTimeout n) s) := rfl

theorem exec_lanEnWrite {a : Acc} {v : W32} {s : State} : exec (.lanEnWrite a v) s = .next (act (writeAccess a 0x7010 [v]) s) := rfl

theorem exec_lanReseedCmd {a : Acc} {mask : BitVec 16} {s : State} :
    exec (.lanReseedCmd a mask) s = .next (act (writeAccess a 0x7014 [mask.setWidth 32 ||| 0x10000]) s) := rfl

theorem exec_lanKatCmd {a : Acc} {mask : BitVec 16} {s : State} :
    exec (.lanKatCmd a mask) s = .next (act (writeAccess a 0x7014 [mask.setWidth 32 ||| 0x20000]) s) := rfl

theorem exec_lanQbindWrite {a : Acc} {q : Nat} {v : W32} {s : State} :
    exec (.lanQbindWrite a q v) s = .next (act (rowWrite a (q < 16) (0x7040 + 4 * q) v) s) := rfl

theorem exec_mixPieceAbsorb {n : Nat} {s : State} : exec (.mixPieceAbsorb n) s = .next (act (mixAbsorb n) s) := rfl

theorem exec_segmentOffer {n : Nat} {s : State} : exec (.segmentOffer n) s = .next (act (segmentOffer n) s) := rfl

theorem exec_patrolRead {addr : Nat} {e : EccResult} {s : State} : exec (.patrolRead addr e) s = .next (act (patrolRead addr e) s) := rfl

theorem exec_ageScrub {q : Nat} {s : State} : exec (.ageScrub q) s = .next (act (ageScrub q) s) := rfl

theorem exec_queueEnable {a : Acc} {q : Nat} {v : W32} {s : State} :
    exec (.queueEnable a q v) s = .next (act (rowWrite a (q < 16) (0x8000 + 64 * q) (v ||| 1)) s) := rfl

theorem exec_queueDisable {a : Acc} {q : Nat} {v : W32} {s : State} :
    exec (.queueDisable a q v) s = .next (act (rowWrite a (q < 16) (0x8000 + 64 * q) (v &&& 0xFFFFFFFE)) s) := rfl

theorem exec_queueFlush {a : Acc} {q : Nat} {v : W32} {s : State} :
    exec (.queueFlush a q v) s = .next (act (rowWrite a (q < 16) (0x8000 + 64 * q) (v ||| 0x80)) s) := rfl

theorem exec_queueConfigWrite {a : Acc} {q : Nat} {size : Bool} {v : W32} {s : State} :
    exec (.queueConfigWrite a q size v) s = .next (act (rowWrite a (q < 16) (0x8000 + 64 * q + (if size then 8 else 4)) v) s) := rfl

theorem exec_dqMinRead {a : Acc} {q : Nat} {s : State} :
    exec (.dqMinRead a q) s = .next (act (rowRead a (q < 16) (0x8000 + 64 * q + 0x18)) s) := rfl

theorem exec_dqWptrRead {a : Acc} {q : Nat} {s : State} :
    exec (.dqWptrRead a q) s = .next (act (rowRead a (q < 16) (0x8000 + 64 * q + 0x1C)) s) := rfl

theorem exec_stkTagSelWrite {a : Acc} {v : W32} {s : State} :
    exec (.stkTagSelWrite a v) s = .next (act (writeAccess a 0x8440 [v]) s) := rfl

theorem exec_deliveryRead {a : Acc} {q len : Nat} {hold : Bool} {s : State} :
    exec (.deliveryRead a q len hold) s = .next (act (windowRead a q len hold) s) := rfl

theorem exec_deliveryWindowWrite {a : Acc} {q : Nat} {s : State} :
    exec (.deliveryWindowWrite a q) s = .next (act (deliveryWrite a q) s) := rfl

theorem exec_grantAllot {q : Nat} {e : GrantEcc} {s : State} : exec (.grantAllot q e) s = .next (act (grantAllot q e) s) := rfl

theorem exec_stallLimitExpire {w : WaitId} {s : State} : exec (.stallLimitExpire w) s = .next (act (stallExpire w) s) := rfl

theorem exec_markForced {q : Nat} {s : State} : exec (.markForced q) s = .next (act (markForced q) s) := rfl

theorem exec_resultWriteDrop {p : PortId} {txn : BitVec 16} {s : State} :
    exec (.resultWriteDrop p txn) s = .next (act (resultDrop p txn) s) := rfl

theorem exec_distCandidate {j : Nat} {s : State} : exec (.distCandidate j) s = .next (act (distTest j) s) := rfl

theorem exec_arrayClearDone {s : State} : exec (.arrayClearDone) s = .next (act (clearDone) s) := rfl

theorem exec_submissionWrite {a : Acc} {w : Nat} {bytes : List Byte} {s : State} :
    exec (.submissionWrite a w bytes) s = .next (act (submitRow a w bytes) s) := rfl

theorem exec_draw {s : State} : exec (.draw) s = .next (act (parseOp 0x01) s) := rfl

theorem exec_drawn {s : State} : exec (.drawn) s = .next (act (parseOp 0x02) s) := rfl

theorem exec_drawp {s : State} : exec (.drawp) s = .next (act (parseOp 0x03) s) := rfl

theorem exec_mix {s : State} : exec (.mix) s = .next (act (parseOp 0x08) s) := rfl

theorem exec_reseed {s : State} : exec (.reseed) s = .next (act (parseOp 0x09) s) := rfl

theorem exec_peg {s : State} : exec (.peg) s = .next (act (parseOp 0x10) s) := rfl

theorem exec_atInstr {s : State} : exec (.atInstr) s = .next (act (parseOp 0x11) s) := rfl

theorem exec_beacon {s : State} : exec (.beacon) s = .next (act (parseOp 0x12) s) := rfl

theorem exec_verify {s : State} : exec (.verify) s = .next (act (parseOp 0x20) s) := rfl

theorem exec_batch {s : State} : exec (.batch) s = .next (act (parseOp 0x21) s) := rfl

theorem exec_digest {s : State} : exec (.digest) s = .next (act (parseOp 0x22) s) := rfl

theorem exec_tally {s : State} : exec (.tally) s = .next (act (parseOp 0x30) s) := rfl

theorem exec_test {s : State} : exec (.test) s = .next (act (parseOp 0x31) s) := rfl

theorem exec_note {s : State} : exec (.note) s = .next (act (parseOp 0x32) s) := rfl

theorem exec_abort {s : State} : exec (.abort) s = .next (act (parseOp 0x38) s) := rfl

theorem exec_restore {s : State} : exec (.restore) s = .next (act (parseOp 0x3E) s) := rfl

theorem exec_endMark {s : State} : exec (.endMark) s = .next (act (parseOp 0x3F) s) := rfl

theorem exec_unknownOpcode {s : State} : exec (.unknownOpcode) s = .next (act (parseIf badHead) s) := rfl

theorem exec_atLaunch {j : Nat} {s : State} : exec (.atLaunch j) s = .next (act (atLaunch j) s) := rfl

theorem exec_beaconGrantRequest {j : Nat} {s : State} : exec (.beaconGrantRequest j) s = .next (act (beaconAsk j) s) := rfl

theorem exec_beaconLaunch {j : Nat} {s : State} : exec (.beaconLaunch j) s = .next (act (beaconLaunch j) s) := rfl

theorem exec_fenceRelease {req : ReqId} {s : State} : exec (.fenceRelease req) s = .next (act (fenceRelease req) s) := rfl

theorem exec_eventQueueStore {s : State} : exec (.eventQueueStore) s = .next (act (storeWaiting) s) := rfl

theorem exec_jobTagSelWrite {a : Acc} {v : W32} {s : State} :
    exec (.jobTagSelWrite a v) s = .next (act (writeAccess a 0x9048 [v]) s) := rfl

theorem exec_jobPeakRead {a : Acc} {s : State} : exec (.jobPeakRead a) s = .next (act (readAccess a 0x9008 1) s) := rfl

theorem exec_benchClaim {a : Acc} {n : Nat} {s : State} :
    exec (.benchClaim a n) s = .next (act (rowWrite a (n < 4) (0xA004 + 16 * n) 0x80000000) s) := rfl

theorem exec_benchRelease {a : Acc} {n : Nat} {s : State} :
    exec (.benchRelease a n) s = .next (act (rowWrite a (n < 4) (0xA004 + 16 * n) 0x40000000) s) := rfl

theorem exec_benchIdleTimeout {n : Nat} {s : State} : exec (.benchIdleTimeout n) s = .next (act (benchIdleTimeout n) s) := rfl

theorem exec_benchJobStart {s : State} : exec (.benchJobStart) s = .next (act (benchJobStart) s) := rfl

theorem exec_benchVerdict {n : Nat} {agree : Bool} {s : State} :
    exec (.benchVerdict n agree) s = .next (act (benchVerdict n agree) s) := rfl

theorem exec_benchClearDone {n : Nat} {s : State} : exec (.benchClearDone n) s = .next (act (benchClearDone n) s) := rfl

theorem exec_benchKatCmd {a : Acc} {v : W32} {s : State} :
    exec (.benchKatCmd a v) s = .next (act (writeAccess a 0xA104 [v ||| 0x100]) s) := rfl

theorem exec_benchKatDone {u : BenchUnit} {ok : Bool} {s : State} :
    exec (.benchKatDone u ok) s = .next (act (benchTestDone u ok) s) := rfl

theorem exec_ucodeStoreError {unc : Bool} {s : State} : exec (.ucodeStoreError unc) s = .next (act (ucodeStoreError unc) s) := rfl

theorem exec_benchWindowAccess {a : Acc} {n off : Nat} {op : WindowOp} {s : State} :
    exec (.benchWindowAccess a n off op) s = .next (act (benchRow a n off op) s) := rfl

theorem exec_hashTurnDone {s : State} : exec (.hashTurnDone) s = .next (act (hashTurnDone) s) := rfl

theorem exec_portTrain {p : PortId} {s : State} : exec (.portTrain p) s = .next (act (portTrain p) s) := rfl

theorem exec_identRx {p : PortId} {w : Word} {s : State} : exec (.identRx p w) s = .next (act (identRx p w) s) := rfl

theorem exec_linkRx {p : PortId} {w : Word} {s : State} : exec (.linkRx p w) s = .next (act (linkRx p w) s) := rfl

theorem exec_frameCrcError {p : PortId} {badBlock : Bool} {s : State} :
    exec (.frameCrcError p badBlock) s = .next (act (frameCrcError p badBlock) s) := rfl

theorem exec_replayTimer {p : PortId} {s : State} : exec (.replayTimer p) s = .next (act (replayTimer p) s) := rfl

theorem exec_portRestoreTimer {p : PortId} {s : State} : exec (.portRestoreTimer p) s = .next (act (restoreTimer p) s) := rfl

theorem exec_portRestoreCmd {a : Acc} {v : W32} {s : State} :
    exec (.portRestoreCmd a v) s = .next (act (writeAccess a 0xB010 [v]) s) := rfl

theorem exec_lossOfLock {p : PortId} {s : State} : exec (.lossOfLock p) s = .next (act (lossOfLock p) s) := rfl

theorem exec_highBer {p : PortId} {s : State} : exec (.highBer p) s = .next (act (highBer p) s) := rfl

theorem exec_retransmissionLimit {p : PortId} {s : State} : exec (.retransmissionLimit p) s = .next (act (retransLimit p) s) := rfl

theorem exec_creditTimeout {p : PortId} {s : State} : exec (.creditTimeout p) s = .next (act (creditTimeout p) s) := rfl

theorem exec_breakRx {p : PortId} {f : Frame} {s : State} : exec (.breakRx p f) s = .next (act (breakRx p f) s) := rfl

theorem exec_ringRxBad {p : PortId} {f : Frame} {s : State} : exec (.ringRxBad p f) s = .next (act (ringRxBad p f) s) := rfl

theorem exec_transitFrame {p : PortId} {f : Frame} {resid : BitVec 40} {s : State} :
    exec (.transitFrame p f resid) s = .next (act (transitFrame p f resid.toNat) s) := rfl

theorem exec_wrAckRx {p : PortId} {f : Frame} {s : State} : exec (.wrAckRx p f) s = .next (act (wrAckRx p f) s) := rfl

theorem exec_rdRspRx {p : PortId} {f : Frame} {s : State} : exec (.rdRspRx p f) s = .next (act (rdRspRx p f) s) := rfl

theorem exec_unmappedAccess {a : Acc} {addr : Nat} {wr : Bool} {s : State} :
    exec (.unmappedAccess a addr wr) s = .next (act (unmapped a addr wr) s) := rfl

theorem exec_enumFrame {p : PortId} {f : Frame} {s : State} : exec (.enumFrame p f) s = .next (act (enumRx p f) s) := rfl

theorem exec_beaconRx {p : PortId} {f : Frame} {s : State} : exec (.beaconRx p f) s = .next (act (beaconRx p f) s) := rfl

theorem exec_announceTx {s : State} : exec (.announceTx) s = .next (act (announceTx) s) := rfl

theorem exec_announceRx {p : PortId} {f : Frame} {s : State} : exec (.announceRx p f) s = .next (act (announceRx p f) s) := rfl

theorem exec_mgrStandbyTimeout {s : State} : exec (.mgrStandbyTimeout) s = .next (act (standbyTimeout) s) := rfl

theorem exec_helloTx {s : State} : exec (.helloTx) s = .next (act (helloTx) s) := rfl

theorem exec_helloRx {p : PortId} {f : Frame} {s : State} : exec (.helloRx p f) s = .next (act (helloRx p f) s) := rfl

theorem exec_workerSlotExpire {k : Nat} {s : State} : exec (.workerSlotExpire k) s = .next (act (slotExpire k) s) := rfl

theorem exec_peerTx {k : Nat} {s : State} : exec (.peerTx k) s = .next (act (peerTx k) s) := rfl

theorem exec_peerRx {p : PortId} {f : Frame} {s : State} : exec (.peerRx p f) s = .next (act (peerRx p f) s) := rfl

theorem exec_gatherTx {k : Nat} {s : State} : exec (.gatherTx k) s = .next (act (gatherTx k) s) := rfl

theorem exec_gatherRx {p : PortId} {f : Frame} {s : State} : exec (.gatherRx p f) s = .next (act (gatherRx p f) s) := rfl

theorem exec_reportTallyRx {p : PortId} {f : Frame} {s : State} : exec (.reportTallyRx p f) s = .next (act (reportRx p f false) s) := rfl

theorem exec_reportHealthRx {p : PortId} {f : Frame} {s : State} : exec (.reportHealthRx p f) s = .next (act (reportRx p f true) s) := rfl

theorem exec_gatherStale {k : Nat} {s : State} : exec (.gatherStale k) s = .next (act (gatherStale k) s) := rfl

theorem exec_alarmRx {p : PortId} {f : Frame} {s : State} : exec (.alarmRx p f) s = .next (act (alarmRx p f) s) := rfl

theorem exec_fabricAlarmRx {p : PortId} {f : Frame} {s : State} : exec (.fabricAlarmRx p f) s = .next (act (fabricAlarmRx p f) s) := rfl

theorem exec_syncTx {s : State} : exec (.syncTx) s = .next (act (syncTx) s) := rfl

theorem exec_syncRx {p : PortId} {f : Frame} {s : State} : exec (.syncRx p f) s = .next (act (syncRx p f) s) := rfl

theorem exec_ckTimeLost {s : State} : exec (.ckTimeLost) s = .next (act (ckTimeLost) s) := rfl

theorem exec_ckTimeRestored {s : State} : exec (.ckTimeRestored) s = .next (act (ckTimeRestored) s) := rfl

theorem exec_timeSet {a : Acc} {adj pin : Bool} {s : State} :
    exec (.timeSet a adj pin) s = .next (act (pairRow a 0xC054 (timWord true adj pin)) s) := rfl

theorem exec_timeAdj {a : Acc} {pin : Bool} {s : State} :
    exec (.timeAdj a pin) s = .next (act (pairRow a 0xC054 (timWord false true pin)) s) := rfl

theorem exec_timCmdPin {a : Acc} {set adj : Bool} {s : State} :
    exec (.timCmdPin a set adj) s = .next (act (pairRow a 0xC054 (timWord set adj true)) s) := rfl

theorem exec_syncInEdge {s : State} : exec (.syncInEdge) s = .next (act (syncInEdge) s) := rfl

theorem exec_timeHoldover {s : State} : exec (.timeHoldover) s = .next (act (timeHoldover) s) := rfl

theorem exec_syncOutPulse {s : State} : exec (.syncOutPulse) s = .next (act (syncOutPulse) s) := rfl

theorem exec_syncOutPulseEnd {s : State} : exec (.syncOutPulseEnd) s = .next (act (syncOutEnd) s) := rfl

theorem exec_syncoutStartWrite {a : Acc} {v : W32} {s : State} :
    exec (.syncoutStartWrite a v) s = .next (act (writeAccess a 0xC034 [v]) s) := rfl

theorem exec_roleSwitch {a : Acc} {v : W32} {s : State} : exec (.roleSwitch a v) s = .next (act (writeAccess a 0xD000 [v]) s) := rfl

theorem exec_lspTransfer {mosi : LowPeriods} {s : State} :
    exec (.lspTransfer mosi) s = .next (act (lspPeriods mosi.bits mosi.more) s) := rfl

theorem exec_engineRead {s : State} : exec (.engineRead) s = .next (act (engRead) s) := rfl

theorem exec_engineWrite {s : State} : exec (.engineWrite) s = .next (act (engWrite) s) := rfl

theorem exec_engineNop {s : State} : exec (.engineNop) s = .next (act (engNop) s) := rfl

theorem exec_lspRxDataRead {a : Acc} {s : State} : exec (.lspRxDataRead a) s = .next (act (readAccess a 0xD018 1) s) := rfl

theorem exec_lspTxDataWrite {a : Acc} {v : W32} {s : State} :
    exec (.lspTxDataWrite a v) s = .next (act (writeAccess a 0xD01C [v]) s) := rfl

theorem exec_engineSwitch {s : State} : exec (.engineSwitch) s = .next (act (engineSwitch) s) := rfl

theorem exec_xipRead {a : Acc} {w off len : Nat} {s : State} :
    exec (.xipRead a w off len) s = .next (act (xipRow a w false off len []) s) := rfl

theorem exec_xipWrite {a : Acc} {w off : Nat} {bytes : List Byte} {s : State} :
    exec (.xipWrite a w off bytes) s = .next (act (xipRow a w true off bytes.length bytes) s) := rfl

theorem exec_flashPoll {sr : Byte} {s : State} : exec (.flashPoll sr) s = .next (act (flashPoll sr) s) := rfl

theorem exec_pollTimeout {s : State} : exec (.pollTimeout) s = .next (act (pollTimeout) s) := rfl

theorem exec_rawCommand {a : Acc} {v : W32} {s : State} :
    exec (.rawCommand a v) s = .next (act (pairRow a 0xD088 (v ||| 0x80000000)) s) := rfl

theorem exec_xipTransactionDone {data : List Byte} {s : State} : exec (.xipTransactionDone data) s = .next (act (xipDone data) s) := rfl

theorem exec_flashLock {a : Acc} {l0 l1 pin : Bool} {s : State} :
    exec (.flashLock a l0 l1 pin) s = .next (act (pairRow a 0xD098 (lockWord l0 l1 pin)) s) := rfl

theorem exec_flashLockPin {a : Acc} {l0 l1 : Bool} {s : State} :
    exec (.flashLockPin a l0 l1) s = .next (act (pairRow a 0xD098 (lockWord l0 l1 true)) s) := rfl

theorem exec_registerWrite {a : Acc} {off : Nat} {ws : RegBytes} {s : State} :
    exec (.registerWrite a off ws) s = .next (act (writeRow a off ws.words ws.rest) s) := rfl

theorem exec_guardArm {a : Acc} {off : Nat} {v : W32} {s : State} : exec (.guardArm a off v) s = .next (act (armRow a off v) s) := rfl

theorem exec_guardComplement {a : Acc} {off : Nat} {w : W32} {s : State} :
    exec (.guardComplement a off w) s = .next (act (compRow a off w) s) := rfl

theorem exec_guardTimeout {req : ReqId} {s : State} : exec (.guardTimeout req) s = .next (act (guardTimeout req) s) := rfl

theorem exec_mbxClaim {a : Acc} {item : BitVec 16} {s : State} : exec (.mbxClaim a item) s = .next (act (mbxRow a 2 item.toNat) s) := rfl

theorem exec_mbxRelease {a : Acc} {s : State} : exec (.mbxRelease a) s = .next (act (mbxRow a 3 0) s) := rfl

theorem exec_mbxData7Read {a : Acc} {s : State} : exec (.mbxData7Read a) s = .next (act (readAccess a 0x302C 1) s) := rfl

theorem exec_mbxHoldTimeout {s : State} : exec (.mbxHoldTimeout) s = .next (act (mbxTimeout) s) := rfl

theorem exec_mbxUidRead {a : Acc} {s : State} : exec (.mbxUidRead a) s = .next (act (mbxRow a 0 0x0000) s) := rfl

theorem exec_mbxClassTableRead {a : Acc} {pg : BitVec 5} {s : State} :
    exec (.mbxClassTableRead a pg) s = .next (act (mbxRow a 0 (0x0100 + pg.toNat)) s) := rfl

theorem exec_mbxClassTableWrite {a : Acc} {pg : BitVec 5} {s : State} :
    exec (.mbxClassTableWrite a pg) s = .next (act (mbxRow a 1 (0x0100 + pg.toNat)) s) := rfl

theorem exec_mbxOtpInfoRead {a : Acc} {s : State} : exec (.mbxOtpInfoRead a) s = .next (act (mbxRow a 0 0x0200) s) := rfl

theorem exec_mbxKeyDigestRead {a : Acc} {hi : Bool} {s : State} :
    exec (.mbxKeyDigestRead a hi) s = .next (act (mbxRow a 0 (0x0201 + b2n hi)) s) := rfl

theorem exec_mbxTallyPageRead {a : Acc} {pg : BitVec 3} {s : State} :
    exec (.mbxTallyPageRead a pg) s = .next (act (mbxRow a 0 (0x0600 + pg.toNat)) s) := rfl

theorem exec_mbxUcodeDigestRead {a : Acc} {s : State} : exec (.mbxUcodeDigestRead a) s = .next (act (mbxRow a 0 0x0A00) s) := rfl

theorem exec_mbxGatherTallyRead {a : Acc} {pg : BitVec 3} {s : State} :
    exec (.mbxGatherTallyRead a pg) s = .next (act (mbxRow a 0 (0x0B00 + pg.toNat)) s) := rfl

theorem exec_mbxGatherHealthRead {a : Acc} {s : State} : exec (.mbxGatherHealthRead a) s = .next (act (mbxRow a 0 0x0B08) s) := rfl

theorem exec_mbxTimeCapture {a : Acc} {s : State} : exec (.mbxTimeCapture a) s = .next (act (mbxRow a 0 0x0C00) s) := rfl

theorem exec_mbxSyncInStamp {a : Acc} {s : State} : exec (.mbxSyncInStamp a) s = .next (act (mbxRow a 0 0x0C01) s) := rfl

theorem exec_mbxEventRemove {a : Acc} {s : State} : exec (.mbxEventRemove a) s = .next (act (mbxRow a 0 0x0E00) s) := rfl

theorem exec_mbxEventPeek {a : Acc} {s : State} : exec (.mbxEventPeek a) s = .next (act (mbxRow a 0 0x0E01) s) := rfl

theorem exec_cmpDataRead {a : Acc} {s : State} : exec (.cmpDataRead a) s = .next (act (cmpData a 0xF000 1) s) := rfl

theorem exec_cmpCellEnWrite {a : Acc} {v : W32} {s : State} :
    exec (.cmpCellEnWrite a v) s = .next (act (writeAccess a 0xF008 [v]) s) := rfl

theorem exec_cmpRefresh {a : Acc} {s : State} : exec (.cmpRefresh a) s = .next (act (writeAccess a 0xF024 [1]) s) := rfl

theorem exec_cmpFailCntRead {a : Acc} {s : State} : exec (.cmpFailCntRead a) s = .next (act (readAccess a 0xF01C 1) s) := rfl

theorem exec_clearingRead {a : Acc} {off : Nat} {n : RegLength} {s : State} :
    exec (.clearingRead a off n) s = .next (act (regRow a off n.words n.rest) s) := rfl

theorem exec_ckRingAbsent {s : State} : exec (.ckRingAbsent) s = .next (act (refclkLost) s) := rfl

theorem exec_jobEngineLost {s : State} : exec (.jobEngineLost) s = .next (act (engineLost) s) := rfl

end Sys2Proof.Machine
end

