-- ==== Sys2Proof/Laws/State.lean ====
section
/-! SUPPORT. Which parts of the state a named operation leaves alone: one lemma for each operation and each part, so that no later proof
unfolds a record update. -/

namespace Sys2Proof.Machine

/-! `bumpOrd` changes clk only. -/

@[simp] theorem bumpOrd_pwr {s : State} : (bumpOrd s).pwr = s.pwr := rfl
@[simp] theorem bumpOrd_sys {s : State} : (bumpOrd s).sys = s.sys := rfl
@[simp] theorem bumpOrd_sil {s : State} : (bumpOrd s).sil = s.sil := rfl
@[simp] theorem bumpOrd_cal {s : State} : (bumpOrd s).cal = s.cal := rfl
@[simp] theorem bumpOrd_mbx {s : State} : (bumpOrd s).mbx = s.mbx := rfl
@[simp] theorem bumpOrd_core {s : State} : (bumpOrd s).core = s.core := rfl
@[simp] theorem bumpOrd_grn {s : State} : (bumpOrd s).grn = s.grn := rfl
@[simp] theorem bumpOrd_hlt {s : State} : (bumpOrd s).hlt = s.hlt := rfl
@[simp] theorem bumpOrd_pln {s : State} : (bumpOrd s).pln = s.pln := rfl
@[simp] theorem bumpOrd_tal {s : State} : (bumpOrd s).tal = s.tal := rfl
@[simp] theorem bumpOrd_lan {s : State} : (bumpOrd s).lan = s.lan := rfl
@[simp] theorem bumpOrd_stk {s : State} : (bumpOrd s).stk = s.stk := rfl
@[simp] theorem bumpOrd_job {s : State} : (bumpOrd s).job = s.job := rfl
@[simp] theorem bumpOrd_evt {s : State} : (bumpOrd s).evt = s.evt := rfl
@[simp] theorem bumpOrd_bne {s : State} : (bumpOrd s).bne = s.bne := rfl
@[simp] theorem bumpOrd_ring {s : State} : (bumpOrd s).ring = s.ring := rfl
@[simp] theorem bumpOrd_tim {s : State} : (bumpOrd s).tim = s.tim := rfl
@[simp] theorem bumpOrd_lsp {s : State} : (bumpOrd s).lsp = s.lsp := rfl
@[simp] theorem bumpOrd_pending {s : State} : (bumpOrd s).pending = s.pending := rfl

/-! `bumpFree` changes clk only. -/

@[simp] theorem bumpFree_pwr {s : State} : (bumpFree s).pwr = s.pwr := rfl
@[simp] theorem bumpFree_sys {s : State} : (bumpFree s).sys = s.sys := rfl
@[simp] theorem bumpFree_sil {s : State} : (bumpFree s).sil = s.sil := rfl
@[simp] theorem bumpFree_cal {s : State} : (bumpFree s).cal = s.cal := rfl
@[simp] theorem bumpFree_mbx {s : State} : (bumpFree s).mbx = s.mbx := rfl
@[simp] theorem bumpFree_core {s : State} : (bumpFree s).core = s.core := rfl
@[simp] theorem bumpFree_grn {s : State} : (bumpFree s).grn = s.grn := rfl
@[simp] theorem bumpFree_hlt {s : State} : (bumpFree s).hlt = s.hlt := rfl
@[simp] theorem bumpFree_pln {s : State} : (bumpFree s).pln = s.pln := rfl
@[simp] theorem bumpFree_tal {s : State} : (bumpFree s).tal = s.tal := rfl
@[simp] theorem bumpFree_lan {s : State} : (bumpFree s).lan = s.lan := rfl
@[simp] theorem bumpFree_stk {s : State} : (bumpFree s).stk = s.stk := rfl
@[simp] theorem bumpFree_job {s : State} : (bumpFree s).job = s.job := rfl
@[simp] theorem bumpFree_evt {s : State} : (bumpFree s).evt = s.evt := rfl
@[simp] theorem bumpFree_bne {s : State} : (bumpFree s).bne = s.bne := rfl
@[simp] theorem bumpFree_ring {s : State} : (bumpFree s).ring = s.ring := rfl
@[simp] theorem bumpFree_tim {s : State} : (bumpFree s).tim = s.tim := rfl
@[simp] theorem bumpFree_lsp {s : State} : (bumpFree s).lsp = s.lsp := rfl
@[simp] theorem bumpFree_pending {s : State} : (bumpFree s).pending = s.pending := rfl

/-! `updBooks` changes tal only. -/

@[simp] theorem updBooks_pwr {f : Books → Books} {s : State} : (updBooks f s).pwr = s.pwr := rfl
@[simp] theorem updBooks_clk {f : Books → Books} {s : State} : (updBooks f s).clk = s.clk := rfl
@[simp] theorem updBooks_sys {f : Books → Books} {s : State} : (updBooks f s).sys = s.sys := rfl
@[simp] theorem updBooks_sil {f : Books → Books} {s : State} : (updBooks f s).sil = s.sil := rfl
@[simp] theorem updBooks_cal {f : Books → Books} {s : State} : (updBooks f s).cal = s.cal := rfl
@[simp] theorem updBooks_mbx {f : Books → Books} {s : State} : (updBooks f s).mbx = s.mbx := rfl
@[simp] theorem updBooks_core {f : Books → Books} {s : State} : (updBooks f s).core = s.core := rfl
@[simp] theorem updBooks_grn {f : Books → Books} {s : State} : (updBooks f s).grn = s.grn := rfl
@[simp] theorem updBooks_hlt {f : Books → Books} {s : State} : (updBooks f s).hlt = s.hlt := rfl
@[simp] theorem updBooks_pln {f : Books → Books} {s : State} : (updBooks f s).pln = s.pln := rfl
@[simp] theorem updBooks_lan {f : Books → Books} {s : State} : (updBooks f s).lan = s.lan := rfl
@[simp] theorem updBooks_stk {f : Books → Books} {s : State} : (updBooks f s).stk = s.stk := rfl
@[simp] theorem updBooks_job {f : Books → Books} {s : State} : (updBooks f s).job = s.job := rfl
@[simp] theorem updBooks_evt {f : Books → Books} {s : State} : (updBooks f s).evt = s.evt := rfl
@[simp] theorem updBooks_bne {f : Books → Books} {s : State} : (updBooks f s).bne = s.bne := rfl
@[simp] theorem updBooks_ring {f : Books → Books} {s : State} : (updBooks f s).ring = s.ring := rfl
@[simp] theorem updBooks_tim {f : Books → Books} {s : State} : (updBooks f s).tim = s.tim := rfl
@[simp] theorem updBooks_lsp {f : Books → Books} {s : State} : (updBooks f s).lsp = s.lsp := rfl
@[simp] theorem updBooks_pending {f : Books → Books} {s : State} : (updBooks f s).pending = s.pending := rfl

/-! `postEvent` changes evt and ring only. -/

@[simp] theorem postEvent_pwr {c i d : Nat} {x : Word} {s : State} : (postEvent c i d x s).pwr = s.pwr := rfl
@[simp] theorem postEvent_clk {c i d : Nat} {x : Word} {s : State} : (postEvent c i d x s).clk = s.clk := rfl
@[simp] theorem postEvent_sys {c i d : Nat} {x : Word} {s : State} : (postEvent c i d x s).sys = s.sys := rfl
@[simp] theorem postEvent_sil {c i d : Nat} {x : Word} {s : State} : (postEvent c i d x s).sil = s.sil := rfl
@[simp] theorem postEvent_cal {c i d : Nat} {x : Word} {s : State} : (postEvent c i d x s).cal = s.cal := rfl
@[simp] theorem postEvent_mbx {c i d : Nat} {x : Word} {s : State} : (postEvent c i d x s).mbx = s.mbx := rfl
@[simp] theorem postEvent_core {c i d : Nat} {x : Word} {s : State} : (postEvent c i d x s).core = s.core := rfl
@[simp] theorem postEvent_grn {c i d : Nat} {x : Word} {s : State} : (postEvent c i d x s).grn = s.grn := rfl
@[simp] theorem postEvent_hlt {c i d : Nat} {x : Word} {s : State} : (postEvent c i d x s).hlt = s.hlt := rfl
@[simp] theorem postEvent_pln {c i d : Nat} {x : Word} {s : State} : (postEvent c i d x s).pln = s.pln := rfl
@[simp] theorem postEvent_tal {c i d : Nat} {x : Word} {s : State} : (postEvent c i d x s).tal = s.tal := rfl
@[simp] theorem postEvent_lan {c i d : Nat} {x : Word} {s : State} : (postEvent c i d x s).lan = s.lan := rfl
@[simp] theorem postEvent_stk {c i d : Nat} {x : Word} {s : State} : (postEvent c i d x s).stk = s.stk := rfl
@[simp] theorem postEvent_job {c i d : Nat} {x : Word} {s : State} : (postEvent c i d x s).job = s.job := rfl
@[simp] theorem postEvent_bne {c i d : Nat} {x : Word} {s : State} : (postEvent c i d x s).bne = s.bne := rfl
@[simp] theorem postEvent_tim {c i d : Nat} {x : Word} {s : State} : (postEvent c i d x s).tim = s.tim := rfl
@[simp] theorem postEvent_lsp {c i d : Nat} {x : Word} {s : State} : (postEvent c i d x s).lsp = s.lsp := rfl
@[simp] theorem postEvent_pending {c i d : Nat} {x : Word} {s : State} : (postEvent c i d x s).pending = s.pending := rfl

/-! `post` changes evt and ring only. -/

@[simp] theorem post_pwr {c i d : Nat} {s : State} : (post c i d s).pwr = s.pwr := rfl
@[simp] theorem post_clk {c i d : Nat} {s : State} : (post c i d s).clk = s.clk := rfl
@[simp] theorem post_sys {c i d : Nat} {s : State} : (post c i d s).sys = s.sys := rfl
@[simp] theorem post_sil {c i d : Nat} {s : State} : (post c i d s).sil = s.sil := rfl
@[simp] theorem post_cal {c i d : Nat} {s : State} : (post c i d s).cal = s.cal := rfl
@[simp] theorem post_mbx {c i d : Nat} {s : State} : (post c i d s).mbx = s.mbx := rfl
@[simp] theorem post_core {c i d : Nat} {s : State} : (post c i d s).core = s.core := rfl
@[simp] theorem post_grn {c i d : Nat} {s : State} : (post c i d s).grn = s.grn := rfl
@[simp] theorem post_hlt {c i d : Nat} {s : State} : (post c i d s).hlt = s.hlt := rfl
@[simp] theorem post_pln {c i d : Nat} {s : State} : (post c i d s).pln = s.pln := rfl
@[simp] theorem post_tal {c i d : Nat} {s : State} : (post c i d s).tal = s.tal := rfl
@[simp] theorem post_lan {c i d : Nat} {s : State} : (post c i d s).lan = s.lan := rfl
@[simp] theorem post_stk {c i d : Nat} {s : State} : (post c i d s).stk = s.stk := rfl
@[simp] theorem post_job {c i d : Nat} {s : State} : (post c i d s).job = s.job := rfl
@[simp] theorem post_bne {c i d : Nat} {s : State} : (post c i d s).bne = s.bne := rfl
@[simp] theorem post_tim {c i d : Nat} {s : State} : (post c i d s).tim = s.tim := rfl
@[simp] theorem post_lsp {c i d : Nat} {s : State} : (post c i d s).lsp = s.lsp := rfl
@[simp] theorem post_pending {c i d : Nat} {s : State} : (post c i d s).pending = s.pending := rfl

/-! `updQ` changes stk only. -/

@[simp] theorem updQ_pwr {q : Nat} {f : DQueue → DQueue} {s : State} : (updQ q f s).pwr = s.pwr := rfl
@[simp] theorem updQ_clk {q : Nat} {f : DQueue → DQueue} {s : State} : (updQ q f s).clk = s.clk := rfl
@[simp] theorem updQ_sys {q : Nat} {f : DQueue → DQueue} {s : State} : (updQ q f s).sys = s.sys := rfl
@[simp] theorem updQ_sil {q : Nat} {f : DQueue → DQueue} {s : State} : (updQ q f s).sil = s.sil := rfl
@[simp] theorem updQ_cal {q : Nat} {f : DQueue → DQueue} {s : State} : (updQ q f s).cal = s.cal := rfl
@[simp] theorem updQ_mbx {q : Nat} {f : DQueue → DQueue} {s : State} : (updQ q f s).mbx = s.mbx := rfl
@[simp] theorem updQ_core {q : Nat} {f : DQueue → DQueue} {s : State} : (updQ q f s).core = s.core := rfl
@[simp] theorem updQ_grn {q : Nat} {f : DQueue → DQueue} {s : State} : (updQ q f s).grn = s.grn := rfl
@[simp] theorem updQ_hlt {q : Nat} {f : DQueue → DQueue} {s : State} : (updQ q f s).hlt = s.hlt := rfl
@[simp] theorem updQ_pln {q : Nat} {f : DQueue → DQueue} {s : State} : (updQ q f s).pln = s.pln := rfl
@[simp] theorem updQ_tal {q : Nat} {f : DQueue → DQueue} {s : State} : (updQ q f s).tal = s.tal := rfl
@[simp] theorem updQ_lan {q : Nat} {f : DQueue → DQueue} {s : State} : (updQ q f s).lan = s.lan := rfl
@[simp] theorem updQ_job {q : Nat} {f : DQueue → DQueue} {s : State} : (updQ q f s).job = s.job := rfl
@[simp] theorem updQ_evt {q : Nat} {f : DQueue → DQueue} {s : State} : (updQ q f s).evt = s.evt := rfl
@[simp] theorem updQ_bne {q : Nat} {f : DQueue → DQueue} {s : State} : (updQ q f s).bne = s.bne := rfl
@[simp] theorem updQ_ring {q : Nat} {f : DQueue → DQueue} {s : State} : (updQ q f s).ring = s.ring := rfl
@[simp] theorem updQ_tim {q : Nat} {f : DQueue → DQueue} {s : State} : (updQ q f s).tim = s.tim := rfl
@[simp] theorem updQ_lsp {q : Nat} {f : DQueue → DQueue} {s : State} : (updQ q f s).lsp = s.lsp := rfl
@[simp] theorem updQ_pending {q : Nat} {f : DQueue → DQueue} {s : State} : (updQ q f s).pending = s.pending := rfl

/-! `updLane` changes lan only. -/

@[simp] theorem updLane_pwr {n : Nat} {f : Lane → Lane} {s : State} : (updLane n f s).pwr = s.pwr := rfl
@[simp] theorem updLane_clk {n : Nat} {f : Lane → Lane} {s : State} : (updLane n f s).clk = s.clk := rfl
@[simp] theorem updLane_sys {n : Nat} {f : Lane → Lane} {s : State} : (updLane n f s).sys = s.sys := rfl
@[simp] theorem updLane_sil {n : Nat} {f : Lane → Lane} {s : State} : (updLane n f s).sil = s.sil := rfl
@[simp] theorem updLane_cal {n : Nat} {f : Lane → Lane} {s : State} : (updLane n f s).cal = s.cal := rfl
@[simp] theorem updLane_mbx {n : Nat} {f : Lane → Lane} {s : State} : (updLane n f s).mbx = s.mbx := rfl
@[simp] theorem updLane_core {n : Nat} {f : Lane → Lane} {s : State} : (updLane n f s).core = s.core := rfl
@[simp] theorem updLane_grn {n : Nat} {f : Lane → Lane} {s : State} : (updLane n f s).grn = s.grn := rfl
@[simp] theorem updLane_hlt {n : Nat} {f : Lane → Lane} {s : State} : (updLane n f s).hlt = s.hlt := rfl
@[simp] theorem updLane_pln {n : Nat} {f : Lane → Lane} {s : State} : (updLane n f s).pln = s.pln := rfl
@[simp] theorem updLane_tal {n : Nat} {f : Lane → Lane} {s : State} : (updLane n f s).tal = s.tal := rfl
@[simp] theorem updLane_stk {n : Nat} {f : Lane → Lane} {s : State} : (updLane n f s).stk = s.stk := rfl
@[simp] theorem updLane_job {n : Nat} {f : Lane → Lane} {s : State} : (updLane n f s).job = s.job := rfl
@[simp] theorem updLane_evt {n : Nat} {f : Lane → Lane} {s : State} : (updLane n f s).evt = s.evt := rfl
@[simp] theorem updLane_bne {n : Nat} {f : Lane → Lane} {s : State} : (updLane n f s).bne = s.bne := rfl
@[simp] theorem updLane_ring {n : Nat} {f : Lane → Lane} {s : State} : (updLane n f s).ring = s.ring := rfl
@[simp] theorem updLane_tim {n : Nat} {f : Lane → Lane} {s : State} : (updLane n f s).tim = s.tim := rfl
@[simp] theorem updLane_lsp {n : Nat} {f : Lane → Lane} {s : State} : (updLane n f s).lsp = s.lsp := rfl
@[simp] theorem updLane_pending {n : Nat} {f : Lane → Lane} {s : State} : (updLane n f s).pending = s.pending := rfl

/-! `updJob` changes job only. -/

@[simp] theorem updJob_pwr {id : Nat} {f : Job → Job} {s : State} : (updJob id f s).pwr = s.pwr := rfl
@[simp] theorem updJob_clk {id : Nat} {f : Job → Job} {s : State} : (updJob id f s).clk = s.clk := rfl
@[simp] theorem updJob_sys {id : Nat} {f : Job → Job} {s : State} : (updJob id f s).sys = s.sys := rfl
@[simp] theorem updJob_sil {id : Nat} {f : Job → Job} {s : State} : (updJob id f s).sil = s.sil := rfl
@[simp] theorem updJob_cal {id : Nat} {f : Job → Job} {s : State} : (updJob id f s).cal = s.cal := rfl
@[simp] theorem updJob_mbx {id : Nat} {f : Job → Job} {s : State} : (updJob id f s).mbx = s.mbx := rfl
@[simp] theorem updJob_core {id : Nat} {f : Job → Job} {s : State} : (updJob id f s).core = s.core := rfl
@[simp] theorem updJob_grn {id : Nat} {f : Job → Job} {s : State} : (updJob id f s).grn = s.grn := rfl
@[simp] theorem updJob_hlt {id : Nat} {f : Job → Job} {s : State} : (updJob id f s).hlt = s.hlt := rfl
@[simp] theorem updJob_pln {id : Nat} {f : Job → Job} {s : State} : (updJob id f s).pln = s.pln := rfl
@[simp] theorem updJob_tal {id : Nat} {f : Job → Job} {s : State} : (updJob id f s).tal = s.tal := rfl
@[simp] theorem updJob_lan {id : Nat} {f : Job → Job} {s : State} : (updJob id f s).lan = s.lan := rfl
@[simp] theorem updJob_stk {id : Nat} {f : Job → Job} {s : State} : (updJob id f s).stk = s.stk := rfl
@[simp] theorem updJob_evt {id : Nat} {f : Job → Job} {s : State} : (updJob id f s).evt = s.evt := rfl
@[simp] theorem updJob_bne {id : Nat} {f : Job → Job} {s : State} : (updJob id f s).bne = s.bne := rfl
@[simp] theorem updJob_ring {id : Nat} {f : Job → Job} {s : State} : (updJob id f s).ring = s.ring := rfl
@[simp] theorem updJob_tim {id : Nat} {f : Job → Job} {s : State} : (updJob id f s).tim = s.tim := rfl
@[simp] theorem updJob_lsp {id : Nat} {f : Job → Job} {s : State} : (updJob id f s).lsp = s.lsp := rfl
@[simp] theorem updJob_pending {id : Nat} {f : Job → Job} {s : State} : (updJob id f s).pending = s.pending := rfl

/-! `dropJob` changes job only. -/

@[simp] theorem dropJob_pwr {id : Nat} {s : State} : (dropJob id s).pwr = s.pwr := rfl
@[simp] theorem dropJob_clk {id : Nat} {s : State} : (dropJob id s).clk = s.clk := rfl
@[simp] theorem dropJob_sys {id : Nat} {s : State} : (dropJob id s).sys = s.sys := rfl
@[simp] theorem dropJob_sil {id : Nat} {s : State} : (dropJob id s).sil = s.sil := rfl
@[simp] theorem dropJob_cal {id : Nat} {s : State} : (dropJob id s).cal = s.cal := rfl
@[simp] theorem dropJob_mbx {id : Nat} {s : State} : (dropJob id s).mbx = s.mbx := rfl
@[simp] theorem dropJob_core {id : Nat} {s : State} : (dropJob id s).core = s.core := rfl
@[simp] theorem dropJob_grn {id : Nat} {s : State} : (dropJob id s).grn = s.grn := rfl
@[simp] theorem dropJob_hlt {id : Nat} {s : State} : (dropJob id s).hlt = s.hlt := rfl
@[simp] theorem dropJob_pln {id : Nat} {s : State} : (dropJob id s).pln = s.pln := rfl
@[simp] theorem dropJob_tal {id : Nat} {s : State} : (dropJob id s).tal = s.tal := rfl
@[simp] theorem dropJob_lan {id : Nat} {s : State} : (dropJob id s).lan = s.lan := rfl
@[simp] theorem dropJob_stk {id : Nat} {s : State} : (dropJob id s).stk = s.stk := rfl
@[simp] theorem dropJob_evt {id : Nat} {s : State} : (dropJob id s).evt = s.evt := rfl
@[simp] theorem dropJob_bne {id : Nat} {s : State} : (dropJob id s).bne = s.bne := rfl
@[simp] theorem dropJob_ring {id : Nat} {s : State} : (dropJob id s).ring = s.ring := rfl
@[simp] theorem dropJob_tim {id : Nat} {s : State} : (dropJob id s).tim = s.tim := rfl
@[simp] theorem dropJob_lsp {id : Nat} {s : State} : (dropJob id s).lsp = s.lsp := rfl
@[simp] theorem dropJob_pending {id : Nat} {s : State} : (dropJob id s).pending = s.pending := rfl

/-! `updStream` changes job only. -/

@[simp] theorem updStream_pwr {r : ReqId} {f : Stream → Stream} {s : State} : (updStream r f s).pwr = s.pwr := rfl
@[simp] theorem updStream_clk {r : ReqId} {f : Stream → Stream} {s : State} : (updStream r f s).clk = s.clk := rfl
@[simp] theorem updStream_sys {r : ReqId} {f : Stream → Stream} {s : State} : (updStream r f s).sys = s.sys := rfl
@[simp] theorem updStream_sil {r : ReqId} {f : Stream → Stream} {s : State} : (updStream r f s).sil = s.sil := rfl
@[simp] theorem updStream_cal {r : ReqId} {f : Stream → Stream} {s : State} : (updStream r f s).cal = s.cal := rfl
@[simp] theorem updStream_mbx {r : ReqId} {f : Stream → Stream} {s : State} : (updStream r f s).mbx = s.mbx := rfl
@[simp] theorem updStream_core {r : ReqId} {f : Stream → Stream} {s : State} : (updStream r f s).core = s.core := rfl
@[simp] theorem updStream_grn {r : ReqId} {f : Stream → Stream} {s : State} : (updStream r f s).grn = s.grn := rfl
@[simp] theorem updStream_hlt {r : ReqId} {f : Stream → Stream} {s : State} : (updStream r f s).hlt = s.hlt := rfl
@[simp] theorem updStream_pln {r : ReqId} {f : Stream → Stream} {s : State} : (updStream r f s).pln = s.pln := rfl
@[simp] theorem updStream_tal {r : ReqId} {f : Stream → Stream} {s : State} : (updStream r f s).tal = s.tal := rfl
@[simp] theorem updStream_lan {r : ReqId} {f : Stream → Stream} {s : State} : (updStream r f s).lan = s.lan := rfl
@[simp] theorem updStream_stk {r : ReqId} {f : Stream → Stream} {s : State} : (updStream r f s).stk = s.stk := rfl
@[simp] theorem updStream_evt {r : ReqId} {f : Stream → Stream} {s : State} : (updStream r f s).evt = s.evt := rfl
@[simp] theorem updStream_bne {r : ReqId} {f : Stream → Stream} {s : State} : (updStream r f s).bne = s.bne := rfl
@[simp] theorem updStream_ring {r : ReqId} {f : Stream → Stream} {s : State} : (updStream r f s).ring = s.ring := rfl
@[simp] theorem updStream_tim {r : ReqId} {f : Stream → Stream} {s : State} : (updStream r f s).tim = s.tim := rfl
@[simp] theorem updStream_lsp {r : ReqId} {f : Stream → Stream} {s : State} : (updStream r f s).lsp = s.lsp := rfl
@[simp] theorem updStream_pending {r : ReqId} {f : Stream → Stream} {s : State} : (updStream r f s).pending = s.pending := rfl

/-! `updGrn` changes grn only. -/

@[simp] theorem updGrn_pwr {f : Grn → Grn} {s : State} : (updGrn f s).pwr = s.pwr := rfl
@[simp] theorem updGrn_clk {f : Grn → Grn} {s : State} : (updGrn f s).clk = s.clk := rfl
@[simp] theorem updGrn_sys {f : Grn → Grn} {s : State} : (updGrn f s).sys = s.sys := rfl
@[simp] theorem updGrn_sil {f : Grn → Grn} {s : State} : (updGrn f s).sil = s.sil := rfl
@[simp] theorem updGrn_cal {f : Grn → Grn} {s : State} : (updGrn f s).cal = s.cal := rfl
@[simp] theorem updGrn_mbx {f : Grn → Grn} {s : State} : (updGrn f s).mbx = s.mbx := rfl
@[simp] theorem updGrn_core {f : Grn → Grn} {s : State} : (updGrn f s).core = s.core := rfl
@[simp] theorem updGrn_hlt {f : Grn → Grn} {s : State} : (updGrn f s).hlt = s.hlt := rfl
@[simp] theorem updGrn_pln {f : Grn → Grn} {s : State} : (updGrn f s).pln = s.pln := rfl
@[simp] theorem updGrn_tal {f : Grn → Grn} {s : State} : (updGrn f s).tal = s.tal := rfl
@[simp] theorem updGrn_lan {f : Grn → Grn} {s : State} : (updGrn f s).lan = s.lan := rfl
@[simp] theorem updGrn_stk {f : Grn → Grn} {s : State} : (updGrn f s).stk = s.stk := rfl
@[simp] theorem updGrn_job {f : Grn → Grn} {s : State} : (updGrn f s).job = s.job := rfl
@[simp] theorem updGrn_evt {f : Grn → Grn} {s : State} : (updGrn f s).evt = s.evt := rfl
@[simp] theorem updGrn_bne {f : Grn → Grn} {s : State} : (updGrn f s).bne = s.bne := rfl
@[simp] theorem updGrn_ring {f : Grn → Grn} {s : State} : (updGrn f s).ring = s.ring := rfl
@[simp] theorem updGrn_tim {f : Grn → Grn} {s : State} : (updGrn f s).tim = s.tim := rfl
@[simp] theorem updGrn_lsp {f : Grn → Grn} {s : State} : (updGrn f s).lsp = s.lsp := rfl
@[simp] theorem updGrn_pending {f : Grn → Grn} {s : State} : (updGrn f s).pending = s.pending := rfl

/-! `updPlane` changes pln only. -/

@[simp] theorem updPlane_pwr {b : Nat} {f : Plane → Plane} {s : State} : (updPlane b f s).pwr = s.pwr := rfl
@[simp] theorem updPlane_clk {b : Nat} {f : Plane → Plane} {s : State} : (updPlane b f s).clk = s.clk := rfl
@[simp] theorem updPlane_sys {b : Nat} {f : Plane → Plane} {s : State} : (updPlane b f s).sys = s.sys := rfl
@[simp] theorem updPlane_sil {b : Nat} {f : Plane → Plane} {s : State} : (updPlane b f s).sil = s.sil := rfl
@[simp] theorem updPlane_cal {b : Nat} {f : Plane → Plane} {s : State} : (updPlane b f s).cal = s.cal := rfl
@[simp] theorem updPlane_mbx {b : Nat} {f : Plane → Plane} {s : State} : (updPlane b f s).mbx = s.mbx := rfl
@[simp] theorem updPlane_core {b : Nat} {f : Plane → Plane} {s : State} : (updPlane b f s).core = s.core := rfl
@[simp] theorem updPlane_grn {b : Nat} {f : Plane → Plane} {s : State} : (updPlane b f s).grn = s.grn := rfl
@[simp] theorem updPlane_hlt {b : Nat} {f : Plane → Plane} {s : State} : (updPlane b f s).hlt = s.hlt := rfl
@[simp] theorem updPlane_tal {b : Nat} {f : Plane → Plane} {s : State} : (updPlane b f s).tal = s.tal := rfl
@[simp] theorem updPlane_lan {b : Nat} {f : Plane → Plane} {s : State} : (updPlane b f s).lan = s.lan := rfl
@[simp] theorem updPlane_stk {b : Nat} {f : Plane → Plane} {s : State} : (updPlane b f s).stk = s.stk := rfl
@[simp] theorem updPlane_job {b : Nat} {f : Plane → Plane} {s : State} : (updPlane b f s).job = s.job := rfl
@[simp] theorem updPlane_evt {b : Nat} {f : Plane → Plane} {s : State} : (updPlane b f s).evt = s.evt := rfl
@[simp] theorem updPlane_bne {b : Nat} {f : Plane → Plane} {s : State} : (updPlane b f s).bne = s.bne := rfl
@[simp] theorem updPlane_ring {b : Nat} {f : Plane → Plane} {s : State} : (updPlane b f s).ring = s.ring := rfl
@[simp] theorem updPlane_tim {b : Nat} {f : Plane → Plane} {s : State} : (updPlane b f s).tim = s.tim := rfl
@[simp] theorem updPlane_lsp {b : Nat} {f : Plane → Plane} {s : State} : (updPlane b f s).lsp = s.lsp := rfl
@[simp] theorem updPlane_pending {b : Nat} {f : Plane → Plane} {s : State} : (updPlane b f s).pending = s.pending := rfl

/-! `updBench` changes bne only. -/

@[simp] theorem updBench_pwr {n : Nat} {f : Bench → Bench} {s : State} : (updBench n f s).pwr = s.pwr := rfl
@[simp] theorem updBench_clk {n : Nat} {f : Bench → Bench} {s : State} : (updBench n f s).clk = s.clk := rfl
@[simp] theorem updBench_sys {n : Nat} {f : Bench → Bench} {s : State} : (updBench n f s).sys = s.sys := rfl
@[simp] theorem updBench_sil {n : Nat} {f : Bench → Bench} {s : State} : (updBench n f s).sil = s.sil := rfl
@[simp] theorem updBench_cal {n : Nat} {f : Bench → Bench} {s : State} : (updBench n f s).cal = s.cal := rfl
@[simp] theorem updBench_mbx {n : Nat} {f : Bench → Bench} {s : State} : (updBench n f s).mbx = s.mbx := rfl
@[simp] theorem updBench_core {n : Nat} {f : Bench → Bench} {s : State} : (updBench n f s).core = s.core := rfl
@[simp] theorem updBench_grn {n : Nat} {f : Bench → Bench} {s : State} : (updBench n f s).grn = s.grn := rfl
@[simp] theorem updBench_hlt {n : Nat} {f : Bench → Bench} {s : State} : (updBench n f s).hlt = s.hlt := rfl
@[simp] theorem updBench_pln {n : Nat} {f : Bench → Bench} {s : State} : (updBench n f s).pln = s.pln := rfl
@[simp] theorem updBench_tal {n : Nat} {f : Bench → Bench} {s : State} : (updBench n f s).tal = s.tal := rfl
@[simp] theorem updBench_lan {n : Nat} {f : Bench → Bench} {s : State} : (updBench n f s).lan = s.lan := rfl
@[simp] theorem updBench_stk {n : Nat} {f : Bench → Bench} {s : State} : (updBench n f s).stk = s.stk := rfl
@[simp] theorem updBench_job {n : Nat} {f : Bench → Bench} {s : State} : (updBench n f s).job = s.job := rfl
@[simp] theorem updBench_evt {n : Nat} {f : Bench → Bench} {s : State} : (updBench n f s).evt = s.evt := rfl
@[simp] theorem updBench_ring {n : Nat} {f : Bench → Bench} {s : State} : (updBench n f s).ring = s.ring := rfl
@[simp] theorem updBench_tim {n : Nat} {f : Bench → Bench} {s : State} : (updBench n f s).tim = s.tim := rfl
@[simp] theorem updBench_lsp {n : Nat} {f : Bench → Bench} {s : State} : (updBench n f s).lsp = s.lsp := rfl
@[simp] theorem updBench_pending {n : Nat} {f : Bench → Bench} {s : State} : (updBench n f s).pending = s.pending := rfl

/-! `updWorker` changes ring only. -/

@[simp] theorem updWorker_pwr {k : Nat} {f : Worker → Worker} {s : State} : (updWorker k f s).pwr = s.pwr := rfl
@[simp] theorem updWorker_clk {k : Nat} {f : Worker → Worker} {s : State} : (updWorker k f s).clk = s.clk := rfl
@[simp] theorem updWorker_sys {k : Nat} {f : Worker → Worker} {s : State} : (updWorker k f s).sys = s.sys := rfl
@[simp] theorem updWorker_sil {k : Nat} {f : Worker → Worker} {s : State} : (updWorker k f s).sil = s.sil := rfl
@[simp] theorem updWorker_cal {k : Nat} {f : Worker → Worker} {s : State} : (updWorker k f s).cal = s.cal := rfl
@[simp] theorem updWorker_mbx {k : Nat} {f : Worker → Worker} {s : State} : (updWorker k f s).mbx = s.mbx := rfl
@[simp] theorem updWorker_core {k : Nat} {f : Worker → Worker} {s : State} : (updWorker k f s).core = s.core := rfl
@[simp] theorem updWorker_grn {k : Nat} {f : Worker → Worker} {s : State} : (updWorker k f s).grn = s.grn := rfl
@[simp] theorem updWorker_hlt {k : Nat} {f : Worker → Worker} {s : State} : (updWorker k f s).hlt = s.hlt := rfl
@[simp] theorem updWorker_pln {k : Nat} {f : Worker → Worker} {s : State} : (updWorker k f s).pln = s.pln := rfl
@[simp] theorem updWorker_tal {k : Nat} {f : Worker → Worker} {s : State} : (updWorker k f s).tal = s.tal := rfl
@[simp] theorem updWorker_lan {k : Nat} {f : Worker → Worker} {s : State} : (updWorker k f s).lan = s.lan := rfl
@[simp] theorem updWorker_stk {k : Nat} {f : Worker → Worker} {s : State} : (updWorker k f s).stk = s.stk := rfl
@[simp] theorem updWorker_job {k : Nat} {f : Worker → Worker} {s : State} : (updWorker k f s).job = s.job := rfl
@[simp] theorem updWorker_evt {k : Nat} {f : Worker → Worker} {s : State} : (updWorker k f s).evt = s.evt := rfl
@[simp] theorem updWorker_bne {k : Nat} {f : Worker → Worker} {s : State} : (updWorker k f s).bne = s.bne := rfl
@[simp] theorem updWorker_tim {k : Nat} {f : Worker → Worker} {s : State} : (updWorker k f s).tim = s.tim := rfl
@[simp] theorem updWorker_lsp {k : Nat} {f : Worker → Worker} {s : State} : (updWorker k f s).lsp = s.lsp := rfl
@[simp] theorem updWorker_pending {k : Nat} {f : Worker → Worker} {s : State} : (updWorker k f s).pending = s.pending := rfl

/-! `updXip` changes lsp only. -/

@[simp] theorem updXip_pwr {w : Nat} {f : XipCfg → XipCfg} {s : State} : (updXip w f s).pwr = s.pwr := rfl
@[simp] theorem updXip_clk {w : Nat} {f : XipCfg → XipCfg} {s : State} : (updXip w f s).clk = s.clk := rfl
@[simp] theorem updXip_sys {w : Nat} {f : XipCfg → XipCfg} {s : State} : (updXip w f s).sys = s.sys := rfl
@[simp] theorem updXip_sil {w : Nat} {f : XipCfg → XipCfg} {s : State} : (updXip w f s).sil = s.sil := rfl
@[simp] theorem updXip_cal {w : Nat} {f : XipCfg → XipCfg} {s : State} : (updXip w f s).cal = s.cal := rfl
@[simp] theorem updXip_mbx {w : Nat} {f : XipCfg → XipCfg} {s : State} : (updXip w f s).mbx = s.mbx := rfl
@[simp] theorem updXip_core {w : Nat} {f : XipCfg → XipCfg} {s : State} : (updXip w f s).core = s.core := rfl
@[simp] theorem updXip_grn {w : Nat} {f : XipCfg → XipCfg} {s : State} : (updXip w f s).grn = s.grn := rfl
@[simp] theorem updXip_hlt {w : Nat} {f : XipCfg → XipCfg} {s : State} : (updXip w f s).hlt = s.hlt := rfl
@[simp] theorem updXip_pln {w : Nat} {f : XipCfg → XipCfg} {s : State} : (updXip w f s).pln = s.pln := rfl
@[simp] theorem updXip_tal {w : Nat} {f : XipCfg → XipCfg} {s : State} : (updXip w f s).tal = s.tal := rfl
@[simp] theorem updXip_lan {w : Nat} {f : XipCfg → XipCfg} {s : State} : (updXip w f s).lan = s.lan := rfl
@[simp] theorem updXip_stk {w : Nat} {f : XipCfg → XipCfg} {s : State} : (updXip w f s).stk = s.stk := rfl
@[simp] theorem updXip_job {w : Nat} {f : XipCfg → XipCfg} {s : State} : (updXip w f s).job = s.job := rfl
@[simp] theorem updXip_evt {w : Nat} {f : XipCfg → XipCfg} {s : State} : (updXip w f s).evt = s.evt := rfl
@[simp] theorem updXip_bne {w : Nat} {f : XipCfg → XipCfg} {s : State} : (updXip w f s).bne = s.bne := rfl
@[simp] theorem updXip_ring {w : Nat} {f : XipCfg → XipCfg} {s : State} : (updXip w f s).ring = s.ring := rfl
@[simp] theorem updXip_tim {w : Nat} {f : XipCfg → XipCfg} {s : State} : (updXip w f s).tim = s.tim := rfl
@[simp] theorem updXip_pending {w : Nat} {f : XipCfg → XipCfg} {s : State} : (updXip w f s).pending = s.pending := rfl

/-! `onPort` changes ring only. -/

@[simp] theorem onPort_pwr {p : PortId} {f : Port → Port} {s : State} : (onPort p f s).pwr = s.pwr := rfl
@[simp] theorem onPort_clk {p : PortId} {f : Port → Port} {s : State} : (onPort p f s).clk = s.clk := rfl
@[simp] theorem onPort_sys {p : PortId} {f : Port → Port} {s : State} : (onPort p f s).sys = s.sys := rfl
@[simp] theorem onPort_sil {p : PortId} {f : Port → Port} {s : State} : (onPort p f s).sil = s.sil := rfl
@[simp] theorem onPort_cal {p : PortId} {f : Port → Port} {s : State} : (onPort p f s).cal = s.cal := rfl
@[simp] theorem onPort_mbx {p : PortId} {f : Port → Port} {s : State} : (onPort p f s).mbx = s.mbx := rfl
@[simp] theorem onPort_core {p : PortId} {f : Port → Port} {s : State} : (onPort p f s).core = s.core := rfl
@[simp] theorem onPort_grn {p : PortId} {f : Port → Port} {s : State} : (onPort p f s).grn = s.grn := rfl
@[simp] theorem onPort_hlt {p : PortId} {f : Port → Port} {s : State} : (onPort p f s).hlt = s.hlt := rfl
@[simp] theorem onPort_pln {p : PortId} {f : Port → Port} {s : State} : (onPort p f s).pln = s.pln := rfl
@[simp] theorem onPort_tal {p : PortId} {f : Port → Port} {s : State} : (onPort p f s).tal = s.tal := rfl
@[simp] theorem onPort_lan {p : PortId} {f : Port → Port} {s : State} : (onPort p f s).lan = s.lan := rfl
@[simp] theorem onPort_stk {p : PortId} {f : Port → Port} {s : State} : (onPort p f s).stk = s.stk := rfl
@[simp] theorem onPort_job {p : PortId} {f : Port → Port} {s : State} : (onPort p f s).job = s.job := rfl
@[simp] theorem onPort_evt {p : PortId} {f : Port → Port} {s : State} : (onPort p f s).evt = s.evt := rfl
@[simp] theorem onPort_bne {p : PortId} {f : Port → Port} {s : State} : (onPort p f s).bne = s.bne := rfl
@[simp] theorem onPort_tim {p : PortId} {f : Port → Port} {s : State} : (onPort p f s).tim = s.tim := rfl
@[simp] theorem onPort_lsp {p : PortId} {f : Port → Port} {s : State} : (onPort p f s).lsp = s.lsp := rfl
@[simp] theorem onPort_pending {p : PortId} {f : Port → Port} {s : State} : (onPort p f s).pending = s.pending := rfl

/-! `giveCredit` changes ring only. -/

@[simp] theorem giveCredit_pwr {p : PortId} {k : Nat} {s : State} : (giveCredit p k s).pwr = s.pwr := rfl
@[simp] theorem giveCredit_clk {p : PortId} {k : Nat} {s : State} : (giveCredit p k s).clk = s.clk := rfl
@[simp] theorem giveCredit_sys {p : PortId} {k : Nat} {s : State} : (giveCredit p k s).sys = s.sys := rfl
@[simp] theorem giveCredit_sil {p : PortId} {k : Nat} {s : State} : (giveCredit p k s).sil = s.sil := rfl
@[simp] theorem giveCredit_cal {p : PortId} {k : Nat} {s : State} : (giveCredit p k s).cal = s.cal := rfl
@[simp] theorem giveCredit_mbx {p : PortId} {k : Nat} {s : State} : (giveCredit p k s).mbx = s.mbx := rfl
@[simp] theorem giveCredit_core {p : PortId} {k : Nat} {s : State} : (giveCredit p k s).core = s.core := rfl
@[simp] theorem giveCredit_grn {p : PortId} {k : Nat} {s : State} : (giveCredit p k s).grn = s.grn := rfl
@[simp] theorem giveCredit_hlt {p : PortId} {k : Nat} {s : State} : (giveCredit p k s).hlt = s.hlt := rfl
@[simp] theorem giveCredit_pln {p : PortId} {k : Nat} {s : State} : (giveCredit p k s).pln = s.pln := rfl
@[simp] theorem giveCredit_tal {p : PortId} {k : Nat} {s : State} : (giveCredit p k s).tal = s.tal := rfl
@[simp] theorem giveCredit_lan {p : PortId} {k : Nat} {s : State} : (giveCredit p k s).lan = s.lan := rfl
@[simp] theorem giveCredit_stk {p : PortId} {k : Nat} {s : State} : (giveCredit p k s).stk = s.stk := rfl
@[simp] theorem giveCredit_job {p : PortId} {k : Nat} {s : State} : (giveCredit p k s).job = s.job := rfl
@[simp] theorem giveCredit_evt {p : PortId} {k : Nat} {s : State} : (giveCredit p k s).evt = s.evt := rfl
@[simp] theorem giveCredit_bne {p : PortId} {k : Nat} {s : State} : (giveCredit p k s).bne = s.bne := rfl
@[simp] theorem giveCredit_tim {p : PortId} {k : Nat} {s : State} : (giveCredit p k s).tim = s.tim := rfl
@[simp] theorem giveCredit_lsp {p : PortId} {k : Nat} {s : State} : (giveCredit p k s).lsp = s.lsp := rfl
@[simp] theorem giveCredit_pending {p : PortId} {k : Nat} {s : State} : (giveCredit p k s).pending = s.pending := rfl

/-! `rxFrame` changes ring only. -/

@[simp] theorem rxFrame_pwr {p : PortId} {f : Frame} {s : State} : (rxFrame p f s).pwr = s.pwr := by
  simp [rxFrame, giveCredit, apply_ite State.pwr]

@[simp] theorem rxFrame_clk {p : PortId} {f : Frame} {s : State} : (rxFrame p f s).clk = s.clk := by
  simp [rxFrame, giveCredit, apply_ite State.clk]

@[simp] theorem rxFrame_sys {p : PortId} {f : Frame} {s : State} : (rxFrame p f s).sys = s.sys := by
  simp [rxFrame, giveCredit, apply_ite State.sys]

@[simp] theorem rxFrame_sil {p : PortId} {f : Frame} {s : State} : (rxFrame p f s).sil = s.sil := by
  simp [rxFrame, giveCredit, apply_ite State.sil]

@[simp] theorem rxFrame_cal {p : PortId} {f : Frame} {s : State} : (rxFrame p f s).cal = s.cal := by
  simp [rxFrame, giveCredit, apply_ite State.cal]

@[simp] theorem rxFrame_mbx {p : PortId} {f : Frame} {s : State} : (rxFrame p f s).mbx = s.mbx := by
  simp [rxFrame, giveCredit, apply_ite State.mbx]

@[simp] theorem rxFrame_core {p : PortId} {f : Frame} {s : State} : (rxFrame p f s).core = s.core := by
  simp [rxFrame, giveCredit, apply_ite State.core]

@[simp] theorem rxFrame_grn {p : PortId} {f : Frame} {s : State} : (rxFrame p f s).grn = s.grn := by
  simp [rxFrame, giveCredit, apply_ite State.grn]

@[simp] theorem rxFrame_hlt {p : PortId} {f : Frame} {s : State} : (rxFrame p f s).hlt = s.hlt := by
  simp [rxFrame, giveCredit, apply_ite State.hlt]

@[simp] theorem rxFrame_pln {p : PortId} {f : Frame} {s : State} : (rxFrame p f s).pln = s.pln := by
  simp [rxFrame, giveCredit, apply_ite State.pln]

@[simp] theorem rxFrame_tal {p : PortId} {f : Frame} {s : State} : (rxFrame p f s).tal = s.tal := by
  simp [rxFrame, giveCredit, apply_ite State.tal]

@[simp] theorem rxFrame_lan {p : PortId} {f : Frame} {s : State} : (rxFrame p f s).lan = s.lan := by
  simp [rxFrame, giveCredit, apply_ite State.lan]

@[simp] theorem rxFrame_stk {p : PortId} {f : Frame} {s : State} : (rxFrame p f s).stk = s.stk := by
  simp [rxFrame, giveCredit, apply_ite State.stk]

@[simp] theorem rxFrame_job {p : PortId} {f : Frame} {s : State} : (rxFrame p f s).job = s.job := by
  simp [rxFrame, giveCredit, apply_ite State.job]

@[simp] theorem rxFrame_evt {p : PortId} {f : Frame} {s : State} : (rxFrame p f s).evt = s.evt := by
  simp [rxFrame, giveCredit, apply_ite State.evt]

@[simp] theorem rxFrame_bne {p : PortId} {f : Frame} {s : State} : (rxFrame p f s).bne = s.bne := by
  simp [rxFrame, giveCredit, apply_ite State.bne]

@[simp] theorem rxFrame_tim {p : PortId} {f : Frame} {s : State} : (rxFrame p f s).tim = s.tim := by
  simp [rxFrame, giveCredit, apply_ite State.tim]

@[simp] theorem rxFrame_lsp {p : PortId} {f : Frame} {s : State} : (rxFrame p f s).lsp = s.lsp := by
  simp [rxFrame, giveCredit, apply_ite State.lsp]

@[simp] theorem rxFrame_pending {p : PortId} {f : Frame} {s : State} : (rxFrame p f s).pending = s.pending := by
  simp [rxFrame, giveCredit, apply_ite State.pending]

/-! `rxAccess` changes ring only. -/

@[simp] theorem rxAccess_pwr {p : PortId} {h m : Bool} {s : State} : (rxAccess p h m s).pwr = s.pwr := by
  simp [rxAccess, giveCredit, apply_ite State.pwr]

@[simp] theorem rxAccess_clk {p : PortId} {h m : Bool} {s : State} : (rxAccess p h m s).clk = s.clk := by
  simp [rxAccess, giveCredit, apply_ite State.clk]

@[simp] theorem rxAccess_sys {p : PortId} {h m : Bool} {s : State} : (rxAccess p h m s).sys = s.sys := by
  simp [rxAccess, giveCredit, apply_ite State.sys]

@[simp] theorem rxAccess_sil {p : PortId} {h m : Bool} {s : State} : (rxAccess p h m s).sil = s.sil := by
  simp [rxAccess, giveCredit, apply_ite State.sil]

@[simp] theorem rxAccess_cal {p : PortId} {h m : Bool} {s : State} : (rxAccess p h m s).cal = s.cal := by
  simp [rxAccess, giveCredit, apply_ite State.cal]

@[simp] theorem rxAccess_mbx {p : PortId} {h m : Bool} {s : State} : (rxAccess p h m s).mbx = s.mbx := by
  simp [rxAccess, giveCredit, apply_ite State.mbx]

@[simp] theorem rxAccess_core {p : PortId} {h m : Bool} {s : State} : (rxAccess p h m s).core = s.core := by
  simp [rxAccess, giveCredit, apply_ite State.core]

@[simp] theorem rxAccess_grn {p : PortId} {h m : Bool} {s : State} : (rxAccess p h m s).grn = s.grn := by
  simp [rxAccess, giveCredit, apply_ite State.grn]

@[simp] theorem rxAccess_hlt {p : PortId} {h m : Bool} {s : State} : (rxAccess p h m s).hlt = s.hlt := by
  simp [rxAccess, giveCredit, apply_ite State.hlt]

@[simp] theorem rxAccess_pln {p : PortId} {h m : Bool} {s : State} : (rxAccess p h m s).pln = s.pln := by
  simp [rxAccess, giveCredit, apply_ite State.pln]

@[simp] theorem rxAccess_tal {p : PortId} {h m : Bool} {s : State} : (rxAccess p h m s).tal = s.tal := by
  simp [rxAccess, giveCredit, apply_ite State.tal]

@[simp] theorem rxAccess_lan {p : PortId} {h m : Bool} {s : State} : (rxAccess p h m s).lan = s.lan := by
  simp [rxAccess, giveCredit, apply_ite State.lan]

@[simp] theorem rxAccess_stk {p : PortId} {h m : Bool} {s : State} : (rxAccess p h m s).stk = s.stk := by
  simp [rxAccess, giveCredit, apply_ite State.stk]

@[simp] theorem rxAccess_job {p : PortId} {h m : Bool} {s : State} : (rxAccess p h m s).job = s.job := by
  simp [rxAccess, giveCredit, apply_ite State.job]

@[simp] theorem rxAccess_evt {p : PortId} {h m : Bool} {s : State} : (rxAccess p h m s).evt = s.evt := by
  simp [rxAccess, giveCredit, apply_ite State.evt]

@[simp] theorem rxAccess_bne {p : PortId} {h m : Bool} {s : State} : (rxAccess p h m s).bne = s.bne := by
  simp [rxAccess, giveCredit, apply_ite State.bne]

@[simp] theorem rxAccess_tim {p : PortId} {h m : Bool} {s : State} : (rxAccess p h m s).tim = s.tim := by
  simp [rxAccess, giveCredit, apply_ite State.tim]

@[simp] theorem rxAccess_lsp {p : PortId} {h m : Bool} {s : State} : (rxAccess p h m s).lsp = s.lsp := by
  simp [rxAccess, giveCredit, apply_ite State.lsp]

@[simp] theorem rxAccess_pending {p : PortId} {h m : Bool} {s : State} : (rxAccess p h m s).pending = s.pending := by
  simp [rxAccess, giveCredit, apply_ite State.pending]

/-! `takeRequest` changes ring only. -/

@[simp] theorem takeRequest_pwr {p : PortId} {h m : Bool} {s : State} : (takeRequest p h m s).pwr = s.pwr := by
  simp [takeRequest, rxAccess, giveCredit, apply_ite State.pwr]

@[simp] theorem takeRequest_clk {p : PortId} {h m : Bool} {s : State} : (takeRequest p h m s).clk = s.clk := by
  simp [takeRequest, rxAccess, giveCredit, apply_ite State.clk]

@[simp] theorem takeRequest_sys {p : PortId} {h m : Bool} {s : State} : (takeRequest p h m s).sys = s.sys := by
  simp [takeRequest, rxAccess, giveCredit, apply_ite State.sys]

@[simp] theorem takeRequest_sil {p : PortId} {h m : Bool} {s : State} : (takeRequest p h m s).sil = s.sil := by
  simp [takeRequest, rxAccess, giveCredit, apply_ite State.sil]

@[simp] theorem takeRequest_cal {p : PortId} {h m : Bool} {s : State} : (takeRequest p h m s).cal = s.cal := by
  simp [takeRequest, rxAccess, giveCredit, apply_ite State.cal]

@[simp] theorem takeRequest_mbx {p : PortId} {h m : Bool} {s : State} : (takeRequest p h m s).mbx = s.mbx := by
  simp [takeRequest, rxAccess, giveCredit, apply_ite State.mbx]

@[simp] theorem takeRequest_core {p : PortId} {h m : Bool} {s : State} : (takeRequest p h m s).core = s.core := by
  simp [takeRequest, rxAccess, giveCredit, apply_ite State.core]

@[simp] theorem takeRequest_grn {p : PortId} {h m : Bool} {s : State} : (takeRequest p h m s).grn = s.grn := by
  simp [takeRequest, rxAccess, giveCredit, apply_ite State.grn]

@[simp] theorem takeRequest_hlt {p : PortId} {h m : Bool} {s : State} : (takeRequest p h m s).hlt = s.hlt := by
  simp [takeRequest, rxAccess, giveCredit, apply_ite State.hlt]

@[simp] theorem takeRequest_pln {p : PortId} {h m : Bool} {s : State} : (takeRequest p h m s).pln = s.pln := by
  simp [takeRequest, rxAccess, giveCredit, apply_ite State.pln]

@[simp] theorem takeRequest_tal {p : PortId} {h m : Bool} {s : State} : (takeRequest p h m s).tal = s.tal := by
  simp [takeRequest, rxAccess, giveCredit, apply_ite State.tal]

@[simp] theorem takeRequest_lan {p : PortId} {h m : Bool} {s : State} : (takeRequest p h m s).lan = s.lan := by
  simp [takeRequest, rxAccess, giveCredit, apply_ite State.lan]

@[simp] theorem takeRequest_stk {p : PortId} {h m : Bool} {s : State} : (takeRequest p h m s).stk = s.stk := by
  simp [takeRequest, rxAccess, giveCredit, apply_ite State.stk]

@[simp] theorem takeRequest_job {p : PortId} {h m : Bool} {s : State} : (takeRequest p h m s).job = s.job := by
  simp [takeRequest, rxAccess, giveCredit, apply_ite State.job]

@[simp] theorem takeRequest_evt {p : PortId} {h m : Bool} {s : State} : (takeRequest p h m s).evt = s.evt := by
  simp [takeRequest, rxAccess, giveCredit, apply_ite State.evt]

@[simp] theorem takeRequest_bne {p : PortId} {h m : Bool} {s : State} : (takeRequest p h m s).bne = s.bne := by
  simp [takeRequest, rxAccess, giveCredit, apply_ite State.bne]

@[simp] theorem takeRequest_tim {p : PortId} {h m : Bool} {s : State} : (takeRequest p h m s).tim = s.tim := by
  simp [takeRequest, rxAccess, giveCredit, apply_ite State.tim]

@[simp] theorem takeRequest_lsp {p : PortId} {h m : Bool} {s : State} : (takeRequest p h m s).lsp = s.lsp := by
  simp [takeRequest, rxAccess, giveCredit, apply_ite State.lsp]

@[simp] theorem takeRequest_pending {p : PortId} {h m : Bool} {s : State} : (takeRequest p h m s).pending = s.pending := by
  simp [takeRequest, rxAccess, giveCredit, apply_ite State.pending]

/-! `entered` changes ring only. -/

@[simp] theorem entered_pwr {a : Acc} {h : Bool} {s : State} : (entered a h s).pwr = s.pwr := by
  unfold entered
  split <;> simp

@[simp] theorem entered_clk {a : Acc} {h : Bool} {s : State} : (entered a h s).clk = s.clk := by
  unfold entered
  split <;> simp

@[simp] theorem entered_sys {a : Acc} {h : Bool} {s : State} : (entered a h s).sys = s.sys := by
  unfold entered
  split <;> simp

@[simp] theorem entered_sil {a : Acc} {h : Bool} {s : State} : (entered a h s).sil = s.sil := by
  unfold entered
  split <;> simp

@[simp] theorem entered_cal {a : Acc} {h : Bool} {s : State} : (entered a h s).cal = s.cal := by
  unfold entered
  split <;> simp

@[simp] theorem entered_mbx {a : Acc} {h : Bool} {s : State} : (entered a h s).mbx = s.mbx := by
  unfold entered
  split <;> simp

@[simp] theorem entered_core {a : Acc} {h : Bool} {s : State} : (entered a h s).core = s.core := by
  unfold entered
  split <;> simp

@[simp] theorem entered_grn {a : Acc} {h : Bool} {s : State} : (entered a h s).grn = s.grn := by
  unfold entered
  split <;> simp

@[simp] theorem entered_hlt {a : Acc} {h : Bool} {s : State} : (entered a h s).hlt = s.hlt := by
  unfold entered
  split <;> simp

@[simp] theorem entered_pln {a : Acc} {h : Bool} {s : State} : (entered a h s).pln = s.pln := by
  unfold entered
  split <;> simp

@[simp] theorem entered_tal {a : Acc} {h : Bool} {s : State} : (entered a h s).tal = s.tal := by
  unfold entered
  split <;> simp

@[simp] theorem entered_lan {a : Acc} {h : Bool} {s : State} : (entered a h s).lan = s.lan := by
  unfold entered
  split <;> simp

@[simp] theorem entered_stk {a : Acc} {h : Bool} {s : State} : (entered a h s).stk = s.stk := by
  unfold entered
  split <;> simp

@[simp] theorem entered_job {a : Acc} {h : Bool} {s : State} : (entered a h s).job = s.job := by
  unfold entered
  split <;> simp

@[simp] theorem entered_evt {a : Acc} {h : Bool} {s : State} : (entered a h s).evt = s.evt := by
  unfold entered
  split <;> simp

@[simp] theorem entered_bne {a : Acc} {h : Bool} {s : State} : (entered a h s).bne = s.bne := by
  unfold entered
  split <;> simp

@[simp] theorem entered_tim {a : Acc} {h : Bool} {s : State} : (entered a h s).tim = s.tim := by
  unfold entered
  split <;> simp

@[simp] theorem entered_lsp {a : Acc} {h : Bool} {s : State} : (entered a h s).lsp = s.lsp := by
  unfold entered
  split <;> simp

@[simp] theorem entered_pending {a : Acc} {h : Bool} {s : State} : (entered a h s).pending = s.pending := by
  unfold entered
  split <;> simp

/-! `sendPlain` changes ring only. -/

@[simp] theorem sendPlain_pwr {t : TxFrame} {s : State} : (sendPlain t s).pwr = s.pwr := rfl
@[simp] theorem sendPlain_clk {t : TxFrame} {s : State} : (sendPlain t s).clk = s.clk := rfl
@[simp] theorem sendPlain_sys {t : TxFrame} {s : State} : (sendPlain t s).sys = s.sys := rfl
@[simp] theorem sendPlain_sil {t : TxFrame} {s : State} : (sendPlain t s).sil = s.sil := rfl
@[simp] theorem sendPlain_cal {t : TxFrame} {s : State} : (sendPlain t s).cal = s.cal := rfl
@[simp] theorem sendPlain_mbx {t : TxFrame} {s : State} : (sendPlain t s).mbx = s.mbx := rfl
@[simp] theorem sendPlain_core {t : TxFrame} {s : State} : (sendPlain t s).core = s.core := rfl
@[simp] theorem sendPlain_grn {t : TxFrame} {s : State} : (sendPlain t s).grn = s.grn := rfl
@[simp] theorem sendPlain_hlt {t : TxFrame} {s : State} : (sendPlain t s).hlt = s.hlt := rfl
@[simp] theorem sendPlain_pln {t : TxFrame} {s : State} : (sendPlain t s).pln = s.pln := rfl
@[simp] theorem sendPlain_tal {t : TxFrame} {s : State} : (sendPlain t s).tal = s.tal := rfl
@[simp] theorem sendPlain_lan {t : TxFrame} {s : State} : (sendPlain t s).lan = s.lan := rfl
@[simp] theorem sendPlain_stk {t : TxFrame} {s : State} : (sendPlain t s).stk = s.stk := rfl
@[simp] theorem sendPlain_job {t : TxFrame} {s : State} : (sendPlain t s).job = s.job := rfl
@[simp] theorem sendPlain_evt {t : TxFrame} {s : State} : (sendPlain t s).evt = s.evt := rfl
@[simp] theorem sendPlain_bne {t : TxFrame} {s : State} : (sendPlain t s).bne = s.bne := rfl
@[simp] theorem sendPlain_tim {t : TxFrame} {s : State} : (sendPlain t s).tim = s.tim := rfl
@[simp] theorem sendPlain_lsp {t : TxFrame} {s : State} : (sendPlain t s).lsp = s.lsp := rfl
@[simp] theorem sendPlain_pending {t : TxFrame} {s : State} : (sendPlain t s).pending = s.pending := rfl

/-! `sendReply` changes ring only. -/

@[simp] theorem sendReply_pwr {p : PortId} {t : TxFrame} {s : State} : (sendReply p t s).pwr = s.pwr := rfl
@[simp] theorem sendReply_clk {p : PortId} {t : TxFrame} {s : State} : (sendReply p t s).clk = s.clk := rfl
@[simp] theorem sendReply_sys {p : PortId} {t : TxFrame} {s : State} : (sendReply p t s).sys = s.sys := rfl
@[simp] theorem sendReply_sil {p : PortId} {t : TxFrame} {s : State} : (sendReply p t s).sil = s.sil := rfl
@[simp] theorem sendReply_cal {p : PortId} {t : TxFrame} {s : State} : (sendReply p t s).cal = s.cal := rfl
@[simp] theorem sendReply_mbx {p : PortId} {t : TxFrame} {s : State} : (sendReply p t s).mbx = s.mbx := rfl
@[simp] theorem sendReply_core {p : PortId} {t : TxFrame} {s : State} : (sendReply p t s).core = s.core := rfl
@[simp] theorem sendReply_grn {p : PortId} {t : TxFrame} {s : State} : (sendReply p t s).grn = s.grn := rfl
@[simp] theorem sendReply_hlt {p : PortId} {t : TxFrame} {s : State} : (sendReply p t s).hlt = s.hlt := rfl
@[simp] theorem sendReply_pln {p : PortId} {t : TxFrame} {s : State} : (sendReply p t s).pln = s.pln := rfl
@[simp] theorem sendReply_tal {p : PortId} {t : TxFrame} {s : State} : (sendReply p t s).tal = s.tal := rfl
@[simp] theorem sendReply_lan {p : PortId} {t : TxFrame} {s : State} : (sendReply p t s).lan = s.lan := rfl
@[simp] theorem sendReply_stk {p : PortId} {t : TxFrame} {s : State} : (sendReply p t s).stk = s.stk := rfl
@[simp] theorem sendReply_job {p : PortId} {t : TxFrame} {s : State} : (sendReply p t s).job = s.job := rfl
@[simp] theorem sendReply_evt {p : PortId} {t : TxFrame} {s : State} : (sendReply p t s).evt = s.evt := rfl
@[simp] theorem sendReply_bne {p : PortId} {t : TxFrame} {s : State} : (sendReply p t s).bne = s.bne := rfl
@[simp] theorem sendReply_tim {p : PortId} {t : TxFrame} {s : State} : (sendReply p t s).tim = s.tim := rfl
@[simp] theorem sendReply_lsp {p : PortId} {t : TxFrame} {s : State} : (sendReply p t s).lsp = s.lsp := rfl
@[simp] theorem sendReply_pending {p : PortId} {t : TxFrame} {s : State} : (sendReply p t s).pending = s.pending := rfl

/-! `coreAnswer` changes core only. -/

@[simp] theorem coreAnswer_pwr {st : Nat} {d : List Byte} {u : Bool} {s : State} : (coreAnswer st d u s).pwr = s.pwr := rfl
@[simp] theorem coreAnswer_clk {st : Nat} {d : List Byte} {u : Bool} {s : State} : (coreAnswer st d u s).clk = s.clk := rfl
@[simp] theorem coreAnswer_sys {st : Nat} {d : List Byte} {u : Bool} {s : State} : (coreAnswer st d u s).sys = s.sys := rfl
@[simp] theorem coreAnswer_sil {st : Nat} {d : List Byte} {u : Bool} {s : State} : (coreAnswer st d u s).sil = s.sil := rfl
@[simp] theorem coreAnswer_cal {st : Nat} {d : List Byte} {u : Bool} {s : State} : (coreAnswer st d u s).cal = s.cal := rfl
@[simp] theorem coreAnswer_mbx {st : Nat} {d : List Byte} {u : Bool} {s : State} : (coreAnswer st d u s).mbx = s.mbx := rfl
@[simp] theorem coreAnswer_grn {st : Nat} {d : List Byte} {u : Bool} {s : State} : (coreAnswer st d u s).grn = s.grn := rfl
@[simp] theorem coreAnswer_hlt {st : Nat} {d : List Byte} {u : Bool} {s : State} : (coreAnswer st d u s).hlt = s.hlt := rfl
@[simp] theorem coreAnswer_pln {st : Nat} {d : List Byte} {u : Bool} {s : State} : (coreAnswer st d u s).pln = s.pln := rfl
@[simp] theorem coreAnswer_tal {st : Nat} {d : List Byte} {u : Bool} {s : State} : (coreAnswer st d u s).tal = s.tal := rfl
@[simp] theorem coreAnswer_lan {st : Nat} {d : List Byte} {u : Bool} {s : State} : (coreAnswer st d u s).lan = s.lan := rfl
@[simp] theorem coreAnswer_stk {st : Nat} {d : List Byte} {u : Bool} {s : State} : (coreAnswer st d u s).stk = s.stk := rfl
@[simp] theorem coreAnswer_job {st : Nat} {d : List Byte} {u : Bool} {s : State} : (coreAnswer st d u s).job = s.job := rfl
@[simp] theorem coreAnswer_evt {st : Nat} {d : List Byte} {u : Bool} {s : State} : (coreAnswer st d u s).evt = s.evt := rfl
@[simp] theorem coreAnswer_bne {st : Nat} {d : List Byte} {u : Bool} {s : State} : (coreAnswer st d u s).bne = s.bne := rfl
@[simp] theorem coreAnswer_ring {st : Nat} {d : List Byte} {u : Bool} {s : State} : (coreAnswer st d u s).ring = s.ring := rfl
@[simp] theorem coreAnswer_tim {st : Nat} {d : List Byte} {u : Bool} {s : State} : (coreAnswer st d u s).tim = s.tim := rfl
@[simp] theorem coreAnswer_lsp {st : Nat} {d : List Byte} {u : Bool} {s : State} : (coreAnswer st d u s).lsp = s.lsp := rfl
@[simp] theorem coreAnswer_pending {st : Nat} {d : List Byte} {u : Bool} {s : State} : (coreAnswer st d u s).pending = s.pending := rfl

/-! `answer` changes ring and core only. -/

@[simp] theorem answer_pwr {a : Acc} {w : Bool} {st : Nat} {d : List Byte} {u : Bool} {s : State} : (answer a w st d u s).pwr = s.pwr := by
  unfold answer
  split <;> simp [apply_ite State.pwr]

@[simp] theorem answer_clk {a : Acc} {w : Bool} {st : Nat} {d : List Byte} {u : Bool} {s : State} : (answer a w st d u s).clk = s.clk := by
  unfold answer
  split <;> simp [apply_ite State.clk]

@[simp] theorem answer_sys {a : Acc} {w : Bool} {st : Nat} {d : List Byte} {u : Bool} {s : State} : (answer a w st d u s).sys = s.sys := by
  unfold answer
  split <;> simp [apply_ite State.sys]

@[simp] theorem answer_sil {a : Acc} {w : Bool} {st : Nat} {d : List Byte} {u : Bool} {s : State} : (answer a w st d u s).sil = s.sil := by
  unfold answer
  split <;> simp [apply_ite State.sil]

@[simp] theorem answer_cal {a : Acc} {w : Bool} {st : Nat} {d : List Byte} {u : Bool} {s : State} : (answer a w st d u s).cal = s.cal := by
  unfold answer
  split <;> simp [apply_ite State.cal]

@[simp] theorem answer_mbx {a : Acc} {w : Bool} {st : Nat} {d : List Byte} {u : Bool} {s : State} : (answer a w st d u s).mbx = s.mbx := by
  unfold answer
  split <;> simp [apply_ite State.mbx]

@[simp] theorem answer_grn {a : Acc} {w : Bool} {st : Nat} {d : List Byte} {u : Bool} {s : State} : (answer a w st d u s).grn = s.grn := by
  unfold answer
  split <;> simp [apply_ite State.grn]

@[simp] theorem answer_hlt {a : Acc} {w : Bool} {st : Nat} {d : List Byte} {u : Bool} {s : State} : (answer a w st d u s).hlt = s.hlt := by
  unfold answer
  split <;> simp [apply_ite State.hlt]

@[simp] theorem answer_pln {a : Acc} {w : Bool} {st : Nat} {d : List Byte} {u : Bool} {s : State} : (answer a w st d u s).pln = s.pln := by
  unfold answer
  split <;> simp [apply_ite State.pln]

@[simp] theorem answer_tal {a : Acc} {w : Bool} {st : Nat} {d : List Byte} {u : Bool} {s : State} : (answer a w st d u s).tal = s.tal := by
  unfold answer
  split <;> simp [apply_ite State.tal]

@[simp] theorem answer_lan {a : Acc} {w : Bool} {st : Nat} {d : List Byte} {u : Bool} {s : State} : (answer a w st d u s).lan = s.lan := by
  unfold answer
  split <;> simp [apply_ite State.lan]

@[simp] theorem answer_stk {a : Acc} {w : Bool} {st : Nat} {d : List Byte} {u : Bool} {s : State} : (answer a w st d u s).stk = s.stk := by
  unfold answer
  split <;> simp [apply_ite State.stk]

@[simp] theorem answer_job {a : Acc} {w : Bool} {st : Nat} {d : List Byte} {u : Bool} {s : State} : (answer a w st d u s).job = s.job := by
  unfold answer
  split <;> simp [apply_ite State.job]

@[simp] theorem answer_evt {a : Acc} {w : Bool} {st : Nat} {d : List Byte} {u : Bool} {s : State} : (answer a w st d u s).evt = s.evt := by
  unfold answer
  split <;> simp [apply_ite State.evt]

@[simp] theorem answer_bne {a : Acc} {w : Bool} {st : Nat} {d : List Byte} {u : Bool} {s : State} : (answer a w st d u s).bne = s.bne := by
  unfold answer
  split <;> simp [apply_ite State.bne]

@[simp] theorem answer_tim {a : Acc} {w : Bool} {st : Nat} {d : List Byte} {u : Bool} {s : State} : (answer a w st d u s).tim = s.tim := by
  unfold answer
  split <;> simp [apply_ite State.tim]

@[simp] theorem answer_lsp {a : Acc} {w : Bool} {st : Nat} {d : List Byte} {u : Bool} {s : State} : (answer a w st d u s).lsp = s.lsp := by
  unfold answer
  split <;> simp [apply_ite State.lsp]

@[simp] theorem answer_pending {a : Acc} {w : Bool} {st : Nat} {d : List Byte} {u : Bool} {s : State} : (answer a w st d u s).pending = s.pending := by
  unfold answer
  split <;> simp [apply_ite State.pending]

/-! `guardNote` changes sys only. -/

@[simp] theorem guardNote_pwr {r : ReqId} {o : Nat} {s : State} : (guardNote r o s).pwr = s.pwr := rfl
@[simp] theorem guardNote_clk {r : ReqId} {o : Nat} {s : State} : (guardNote r o s).clk = s.clk := rfl
@[simp] theorem guardNote_sil {r : ReqId} {o : Nat} {s : State} : (guardNote r o s).sil = s.sil := rfl
@[simp] theorem guardNote_cal {r : ReqId} {o : Nat} {s : State} : (guardNote r o s).cal = s.cal := rfl
@[simp] theorem guardNote_mbx {r : ReqId} {o : Nat} {s : State} : (guardNote r o s).mbx = s.mbx := rfl
@[simp] theorem guardNote_core {r : ReqId} {o : Nat} {s : State} : (guardNote r o s).core = s.core := rfl
@[simp] theorem guardNote_grn {r : ReqId} {o : Nat} {s : State} : (guardNote r o s).grn = s.grn := rfl
@[simp] theorem guardNote_hlt {r : ReqId} {o : Nat} {s : State} : (guardNote r o s).hlt = s.hlt := rfl
@[simp] theorem guardNote_pln {r : ReqId} {o : Nat} {s : State} : (guardNote r o s).pln = s.pln := rfl
@[simp] theorem guardNote_tal {r : ReqId} {o : Nat} {s : State} : (guardNote r o s).tal = s.tal := rfl
@[simp] theorem guardNote_lan {r : ReqId} {o : Nat} {s : State} : (guardNote r o s).lan = s.lan := rfl
@[simp] theorem guardNote_stk {r : ReqId} {o : Nat} {s : State} : (guardNote r o s).stk = s.stk := rfl
@[simp] theorem guardNote_job {r : ReqId} {o : Nat} {s : State} : (guardNote r o s).job = s.job := rfl
@[simp] theorem guardNote_evt {r : ReqId} {o : Nat} {s : State} : (guardNote r o s).evt = s.evt := rfl
@[simp] theorem guardNote_bne {r : ReqId} {o : Nat} {s : State} : (guardNote r o s).bne = s.bne := rfl
@[simp] theorem guardNote_ring {r : ReqId} {o : Nat} {s : State} : (guardNote r o s).ring = s.ring := rfl
@[simp] theorem guardNote_tim {r : ReqId} {o : Nat} {s : State} : (guardNote r o s).tim = s.tim := rfl
@[simp] theorem guardNote_lsp {r : ReqId} {o : Nat} {s : State} : (guardNote r o s).lsp = s.lsp := rfl
@[simp] theorem guardNote_pending {r : ReqId} {o : Nat} {s : State} : (guardNote r o s).pending = s.pending := rfl

/-! `guardBroken` changes sys only. -/

@[simp] theorem guardBroken_pwr {r : ReqId} {o : Nat} {s : State} : (guardBroken r o s).pwr = s.pwr := rfl
@[simp] theorem guardBroken_clk {r : ReqId} {o : Nat} {s : State} : (guardBroken r o s).clk = s.clk := rfl
@[simp] theorem guardBroken_sil {r : ReqId} {o : Nat} {s : State} : (guardBroken r o s).sil = s.sil := rfl
@[simp] theorem guardBroken_cal {r : ReqId} {o : Nat} {s : State} : (guardBroken r o s).cal = s.cal := rfl
@[simp] theorem guardBroken_mbx {r : ReqId} {o : Nat} {s : State} : (guardBroken r o s).mbx = s.mbx := rfl
@[simp] theorem guardBroken_core {r : ReqId} {o : Nat} {s : State} : (guardBroken r o s).core = s.core := rfl
@[simp] theorem guardBroken_grn {r : ReqId} {o : Nat} {s : State} : (guardBroken r o s).grn = s.grn := rfl
@[simp] theorem guardBroken_hlt {r : ReqId} {o : Nat} {s : State} : (guardBroken r o s).hlt = s.hlt := rfl
@[simp] theorem guardBroken_pln {r : ReqId} {o : Nat} {s : State} : (guardBroken r o s).pln = s.pln := rfl
@[simp] theorem guardBroken_tal {r : ReqId} {o : Nat} {s : State} : (guardBroken r o s).tal = s.tal := rfl
@[simp] theorem guardBroken_lan {r : ReqId} {o : Nat} {s : State} : (guardBroken r o s).lan = s.lan := rfl
@[simp] theorem guardBroken_stk {r : ReqId} {o : Nat} {s : State} : (guardBroken r o s).stk = s.stk := rfl
@[simp] theorem guardBroken_job {r : ReqId} {o : Nat} {s : State} : (guardBroken r o s).job = s.job := rfl
@[simp] theorem guardBroken_evt {r : ReqId} {o : Nat} {s : State} : (guardBroken r o s).evt = s.evt := rfl
@[simp] theorem guardBroken_bne {r : ReqId} {o : Nat} {s : State} : (guardBroken r o s).bne = s.bne := rfl
@[simp] theorem guardBroken_ring {r : ReqId} {o : Nat} {s : State} : (guardBroken r o s).ring = s.ring := rfl
@[simp] theorem guardBroken_tim {r : ReqId} {o : Nat} {s : State} : (guardBroken r o s).tim = s.tim := rfl
@[simp] theorem guardBroken_lsp {r : ReqId} {o : Nat} {s : State} : (guardBroken r o s).lsp = s.lsp := rfl
@[simp] theorem guardBroken_pending {r : ReqId} {o : Nat} {s : State} : (guardBroken r o s).pending = s.pending := rfl

/-! `disarm` changes sys only. -/

@[simp] theorem disarm_pwr {r : ReqId} {s : State} : (disarm r s).pwr = s.pwr := rfl
@[simp] theorem disarm_clk {r : ReqId} {s : State} : (disarm r s).clk = s.clk := rfl
@[simp] theorem disarm_sil {r : ReqId} {s : State} : (disarm r s).sil = s.sil := rfl
@[simp] theorem disarm_cal {r : ReqId} {s : State} : (disarm r s).cal = s.cal := rfl
@[simp] theorem disarm_mbx {r : ReqId} {s : State} : (disarm r s).mbx = s.mbx := rfl
@[simp] theorem disarm_core {r : ReqId} {s : State} : (disarm r s).core = s.core := rfl
@[simp] theorem disarm_grn {r : ReqId} {s : State} : (disarm r s).grn = s.grn := rfl
@[simp] theorem disarm_hlt {r : ReqId} {s : State} : (disarm r s).hlt = s.hlt := rfl
@[simp] theorem disarm_pln {r : ReqId} {s : State} : (disarm r s).pln = s.pln := rfl
@[simp] theorem disarm_tal {r : ReqId} {s : State} : (disarm r s).tal = s.tal := rfl
@[simp] theorem disarm_lan {r : ReqId} {s : State} : (disarm r s).lan = s.lan := rfl
@[simp] theorem disarm_stk {r : ReqId} {s : State} : (disarm r s).stk = s.stk := rfl
@[simp] theorem disarm_job {r : ReqId} {s : State} : (disarm r s).job = s.job := rfl
@[simp] theorem disarm_evt {r : ReqId} {s : State} : (disarm r s).evt = s.evt := rfl
@[simp] theorem disarm_bne {r : ReqId} {s : State} : (disarm r s).bne = s.bne := rfl
@[simp] theorem disarm_ring {r : ReqId} {s : State} : (disarm r s).ring = s.ring := rfl
@[simp] theorem disarm_tim {r : ReqId} {s : State} : (disarm r s).tim = s.tim := rfl
@[simp] theorem disarm_lsp {r : ReqId} {s : State} : (disarm r s).lsp = s.lsp := rfl
@[simp] theorem disarm_pending {r : ReqId} {s : State} : (disarm r s).pending = s.pending := rfl

/-! `breakArm` changes sys only. -/

@[simp] theorem breakArm_pwr {r : ReqId} {s : State} : (breakArm r s).pwr = s.pwr := by
  unfold breakArm
  split <;> rfl

@[simp] theorem breakArm_clk {r : ReqId} {s : State} : (breakArm r s).clk = s.clk := by
  unfold breakArm
  split <;> rfl

@[simp] theorem breakArm_sil {r : ReqId} {s : State} : (breakArm r s).sil = s.sil := by
  unfold breakArm
  split <;> rfl

@[simp] theorem breakArm_cal {r : ReqId} {s : State} : (breakArm r s).cal = s.cal := by
  unfold breakArm
  split <;> rfl

@[simp] theorem breakArm_mbx {r : ReqId} {s : State} : (breakArm r s).mbx = s.mbx := by
  unfold breakArm
  split <;> rfl

@[simp] theorem breakArm_core {r : ReqId} {s : State} : (breakArm r s).core = s.core := by
  unfold breakArm
  split <;> rfl

@[simp] theorem breakArm_grn {r : ReqId} {s : State} : (breakArm r s).grn = s.grn := by
  unfold breakArm
  split <;> rfl

@[simp] theorem breakArm_hlt {r : ReqId} {s : State} : (breakArm r s).hlt = s.hlt := by
  unfold breakArm
  split <;> rfl

@[simp] theorem breakArm_pln {r : ReqId} {s : State} : (breakArm r s).pln = s.pln := by
  unfold breakArm
  split <;> rfl

@[simp] theorem breakArm_tal {r : ReqId} {s : State} : (breakArm r s).tal = s.tal := by
  unfold breakArm
  split <;> rfl

@[simp] theorem breakArm_lan {r : ReqId} {s : State} : (breakArm r s).lan = s.lan := by
  unfold breakArm
  split <;> rfl

@[simp] theorem breakArm_stk {r : ReqId} {s : State} : (breakArm r s).stk = s.stk := by
  unfold breakArm
  split <;> rfl

@[simp] theorem breakArm_job {r : ReqId} {s : State} : (breakArm r s).job = s.job := by
  unfold breakArm
  split <;> rfl

@[simp] theorem breakArm_evt {r : ReqId} {s : State} : (breakArm r s).evt = s.evt := by
  unfold breakArm
  split <;> rfl

@[simp] theorem breakArm_bne {r : ReqId} {s : State} : (breakArm r s).bne = s.bne := by
  unfold breakArm
  split <;> rfl

@[simp] theorem breakArm_ring {r : ReqId} {s : State} : (breakArm r s).ring = s.ring := by
  unfold breakArm
  split <;> rfl

@[simp] theorem breakArm_tim {r : ReqId} {s : State} : (breakArm r s).tim = s.tim := by
  unfold breakArm
  split <;> rfl

@[simp] theorem breakArm_lsp {r : ReqId} {s : State} : (breakArm r s).lsp = s.lsp := by
  unfold breakArm
  split <;> rfl

@[simp] theorem breakArm_pending {r : ReqId} {s : State} : (breakArm r s).pending = s.pending := by
  unfold breakArm
  split <;> rfl

/-! `breakOthers` changes sys only. -/

@[simp] theorem breakOthers_pwr {r : ReqId} {o : Nat} {s : State} : (breakOthers r o s).pwr = s.pwr := by
  unfold breakOthers
  generalize s.sys.armed.filter _ = l
  induction l generalizing s with
  | nil => rfl
  | cons e l ih => exact ih.trans (by simp)

@[simp] theorem breakOthers_clk {r : ReqId} {o : Nat} {s : State} : (breakOthers r o s).clk = s.clk := by
  unfold breakOthers
  generalize s.sys.armed.filter _ = l
  induction l generalizing s with
  | nil => rfl
  | cons e l ih => exact ih.trans (by simp)

@[simp] theorem breakOthers_sil {r : ReqId} {o : Nat} {s : State} : (breakOthers r o s).sil = s.sil := by
  unfold breakOthers
  generalize s.sys.armed.filter _ = l
  induction l generalizing s with
  | nil => rfl
  | cons e l ih => exact ih.trans (by simp)

@[simp] theorem breakOthers_cal {r : ReqId} {o : Nat} {s : State} : (breakOthers r o s).cal = s.cal := by
  unfold breakOthers
  generalize s.sys.armed.filter _ = l
  induction l generalizing s with
  | nil => rfl
  | cons e l ih => exact ih.trans (by simp)

@[simp] theorem breakOthers_mbx {r : ReqId} {o : Nat} {s : State} : (breakOthers r o s).mbx = s.mbx := by
  unfold breakOthers
  generalize s.sys.armed.filter _ = l
  induction l generalizing s with
  | nil => rfl
  | cons e l ih => exact ih.trans (by simp)

@[simp] theorem breakOthers_core {r : ReqId} {o : Nat} {s : State} : (breakOthers r o s).core = s.core := by
  unfold breakOthers
  generalize s.sys.armed.filter _ = l
  induction l generalizing s with
  | nil => rfl
  | cons e l ih => exact ih.trans (by simp)

@[simp] theorem breakOthers_grn {r : ReqId} {o : Nat} {s : State} : (breakOthers r o s).grn = s.grn := by
  unfold breakOthers
  generalize s.sys.armed.filter _ = l
  induction l generalizing s with
  | nil => rfl
  | cons e l ih => exact ih.trans (by simp)

@[simp] theorem breakOthers_hlt {r : ReqId} {o : Nat} {s : State} : (breakOthers r o s).hlt = s.hlt := by
  unfold breakOthers
  generalize s.sys.armed.filter _ = l
  induction l generalizing s with
  | nil => rfl
  | cons e l ih => exact ih.trans (by simp)

@[simp] theorem breakOthers_pln {r : ReqId} {o : Nat} {s : State} : (breakOthers r o s).pln = s.pln := by
  unfold breakOthers
  generalize s.sys.armed.filter _ = l
  induction l generalizing s with
  | nil => rfl
  | cons e l ih => exact ih.trans (by simp)

@[simp] theorem breakOthers_tal {r : ReqId} {o : Nat} {s : State} : (breakOthers r o s).tal = s.tal := by
  unfold breakOthers
  generalize s.sys.armed.filter _ = l
  induction l generalizing s with
  | nil => rfl
  | cons e l ih => exact ih.trans (by simp)

@[simp] theorem breakOthers_lan {r : ReqId} {o : Nat} {s : State} : (breakOthers r o s).lan = s.lan := by
  unfold breakOthers
  generalize s.sys.armed.filter _ = l
  induction l generalizing s with
  | nil => rfl
  | cons e l ih => exact ih.trans (by simp)

@[simp] theorem breakOthers_stk {r : ReqId} {o : Nat} {s : State} : (breakOthers r o s).stk = s.stk := by
  unfold breakOthers
  generalize s.sys.armed.filter _ = l
  induction l generalizing s with
  | nil => rfl
  | cons e l ih => exact ih.trans (by simp)

@[simp] theorem breakOthers_job {r : ReqId} {o : Nat} {s : State} : (breakOthers r o s).job = s.job := by
  unfold breakOthers
  generalize s.sys.armed.filter _ = l
  induction l generalizing s with
  | nil => rfl
  | cons e l ih => exact ih.trans (by simp)

@[simp] theorem breakOthers_evt {r : ReqId} {o : Nat} {s : State} : (breakOthers r o s).evt = s.evt := by
  unfold breakOthers
  generalize s.sys.armed.filter _ = l
  induction l generalizing s with
  | nil => rfl
  | cons e l ih => exact ih.trans (by simp)

@[simp] theorem breakOthers_bne {r : ReqId} {o : Nat} {s : State} : (breakOthers r o s).bne = s.bne := by
  unfold breakOthers
  generalize s.sys.armed.filter _ = l
  induction l generalizing s with
  | nil => rfl
  | cons e l ih => exact ih.trans (by simp)

@[simp] theorem breakOthers_ring {r : ReqId} {o : Nat} {s : State} : (breakOthers r o s).ring = s.ring := by
  unfold breakOthers
  generalize s.sys.armed.filter _ = l
  induction l generalizing s with
  | nil => rfl
  | cons e l ih => exact ih.trans (by simp)

@[simp] theorem breakOthers_tim {r : ReqId} {o : Nat} {s : State} : (breakOthers r o s).tim = s.tim := by
  unfold breakOthers
  generalize s.sys.armed.filter _ = l
  induction l generalizing s with
  | nil => rfl
  | cons e l ih => exact ih.trans (by simp)

@[simp] theorem breakOthers_lsp {r : ReqId} {o : Nat} {s : State} : (breakOthers r o s).lsp = s.lsp := by
  unfold breakOthers
  generalize s.sys.armed.filter _ = l
  induction l generalizing s with
  | nil => rfl
  | cons e l ih => exact ih.trans (by simp)

@[simp] theorem breakOthers_pending {r : ReqId} {o : Nat} {s : State} : (breakOthers r o s).pending = s.pending := by
  unfold breakOthers
  generalize s.sys.armed.filter _ = l
  induction l generalizing s with
  | nil => rfl
  | cons e l ih => exact ih.trans (by simp)

/-! `lockViol` changes sys, evt, ring only. -/

@[simp] theorem lockViol_pwr {r : ReqId} {o : Nat} {s : State} : (lockViol r o s).pwr = s.pwr := by
  simp [lockViol, apply_ite State.pwr]

@[simp] theorem lockViol_clk {r : ReqId} {o : Nat} {s : State} : (lockViol r o s).clk = s.clk := by
  simp [lockViol, apply_ite State.clk]

@[simp] theorem lockViol_sil {r : ReqId} {o : Nat} {s : State} : (lockViol r o s).sil = s.sil := by
  simp [lockViol, apply_ite State.sil]

@[simp] theorem lockViol_cal {r : ReqId} {o : Nat} {s : State} : (lockViol r o s).cal = s.cal := by
  simp [lockViol, apply_ite State.cal]

@[simp] theorem lockViol_mbx {r : ReqId} {o : Nat} {s : State} : (lockViol r o s).mbx = s.mbx := by
  simp [lockViol, apply_ite State.mbx]

@[simp] theorem lockViol_core {r : ReqId} {o : Nat} {s : State} : (lockViol r o s).core = s.core := by
  simp [lockViol, apply_ite State.core]

@[simp] theorem lockViol_grn {r : ReqId} {o : Nat} {s : State} : (lockViol r o s).grn = s.grn := by
  simp [lockViol, apply_ite State.grn]

@[simp] theorem lockViol_hlt {r : ReqId} {o : Nat} {s : State} : (lockViol r o s).hlt = s.hlt := by
  simp [lockViol, apply_ite State.hlt]

@[simp] theorem lockViol_pln {r : ReqId} {o : Nat} {s : State} : (lockViol r o s).pln = s.pln := by
  simp [lockViol, apply_ite State.pln]

@[simp] theorem lockViol_tal {r : ReqId} {o : Nat} {s : State} : (lockViol r o s).tal = s.tal := by
  simp [lockViol, apply_ite State.tal]

@[simp] theorem lockViol_lan {r : ReqId} {o : Nat} {s : State} : (lockViol r o s).lan = s.lan := by
  simp [lockViol, apply_ite State.lan]

@[simp] theorem lockViol_stk {r : ReqId} {o : Nat} {s : State} : (lockViol r o s).stk = s.stk := by
  simp [lockViol, apply_ite State.stk]

@[simp] theorem lockViol_job {r : ReqId} {o : Nat} {s : State} : (lockViol r o s).job = s.job := by
  simp [lockViol, apply_ite State.job]

@[simp] theorem lockViol_bne {r : ReqId} {o : Nat} {s : State} : (lockViol r o s).bne = s.bne := by
  simp [lockViol, apply_ite State.bne]

@[simp] theorem lockViol_tim {r : ReqId} {o : Nat} {s : State} : (lockViol r o s).tim = s.tim := by
  simp [lockViol, apply_ite State.tim]

@[simp] theorem lockViol_lsp {r : ReqId} {o : Nat} {s : State} : (lockViol r o s).lsp = s.lsp := by
  simp [lockViol, apply_ite State.lsp]

@[simp] theorem lockViol_pending {r : ReqId} {o : Nat} {s : State} : (lockViol r o s).pending = s.pending := by
  simp [lockViol, apply_ite State.pending]

/-! `raiseFatal` changes hlt, evt, ring only. -/

@[simp] theorem raiseFatal_pwr {c i : Nat} {s : State} : (raiseFatal c i s).pwr = s.pwr := by
  simp [raiseFatal, apply_ite State.pwr]

@[simp] theorem raiseFatal_clk {c i : Nat} {s : State} : (raiseFatal c i s).clk = s.clk := by
  simp [raiseFatal, apply_ite State.clk]

@[simp] theorem raiseFatal_sys {c i : Nat} {s : State} : (raiseFatal c i s).sys = s.sys := by
  simp [raiseFatal, apply_ite State.sys]

@[simp] theorem raiseFatal_sil {c i : Nat} {s : State} : (raiseFatal c i s).sil = s.sil := by
  simp [raiseFatal, apply_ite State.sil]

@[simp] theorem raiseFatal_cal {c i : Nat} {s : State} : (raiseFatal c i s).cal = s.cal := by
  simp [raiseFatal, apply_ite State.cal]

@[simp] theorem raiseFatal_mbx {c i : Nat} {s : State} : (raiseFatal c i s).mbx = s.mbx := by
  simp [raiseFatal, apply_ite State.mbx]

@[simp] theorem raiseFatal_core {c i : Nat} {s : State} : (raiseFatal c i s).core = s.core := by
  simp [raiseFatal, apply_ite State.core]

@[simp] theorem raiseFatal_grn {c i : Nat} {s : State} : (raiseFatal c i s).grn = s.grn := by
  simp [raiseFatal, apply_ite State.grn]

@[simp] theorem raiseFatal_pln {c i : Nat} {s : State} : (raiseFatal c i s).pln = s.pln := by
  simp [raiseFatal, apply_ite State.pln]

@[simp] theorem raiseFatal_tal {c i : Nat} {s : State} : (raiseFatal c i s).tal = s.tal := by
  simp [raiseFatal, apply_ite State.tal]

@[simp] theorem raiseFatal_lan {c i : Nat} {s : State} : (raiseFatal c i s).lan = s.lan := by
  simp [raiseFatal, apply_ite State.lan]

@[simp] theorem raiseFatal_stk {c i : Nat} {s : State} : (raiseFatal c i s).stk = s.stk := by
  simp [raiseFatal, apply_ite State.stk]

@[simp] theorem raiseFatal_job {c i : Nat} {s : State} : (raiseFatal c i s).job = s.job := by
  simp [raiseFatal, apply_ite State.job]

@[simp] theorem raiseFatal_bne {c i : Nat} {s : State} : (raiseFatal c i s).bne = s.bne := by
  simp [raiseFatal, apply_ite State.bne]

@[simp] theorem raiseFatal_tim {c i : Nat} {s : State} : (raiseFatal c i s).tim = s.tim := by
  simp [raiseFatal, apply_ite State.tim]

@[simp] theorem raiseFatal_lsp {c i : Nat} {s : State} : (raiseFatal c i s).lsp = s.lsp := by
  simp [raiseFatal, apply_ite State.lsp]

@[simp] theorem raiseFatal_pending {c i : Nat} {s : State} : (raiseFatal c i s).pending = s.pending := by
  simp [raiseFatal, apply_ite State.pending]

/-! `takeSnapshot` changes tal, hlt, evt, ring only. -/

@[simp] theorem takeSnapshot_pwr {s : State} : (takeSnapshot s).pwr = s.pwr := by
  simp [takeSnapshot, apply_ite State.pwr]

@[simp] theorem takeSnapshot_clk {s : State} : (takeSnapshot s).clk = s.clk := by
  simp [takeSnapshot, apply_ite State.clk]

@[simp] theorem takeSnapshot_sys {s : State} : (takeSnapshot s).sys = s.sys := by
  simp [takeSnapshot, apply_ite State.sys]

@[simp] theorem takeSnapshot_sil {s : State} : (takeSnapshot s).sil = s.sil := by
  simp [takeSnapshot, apply_ite State.sil]

@[simp] theorem takeSnapshot_cal {s : State} : (takeSnapshot s).cal = s.cal := by
  simp [takeSnapshot, apply_ite State.cal]

@[simp] theorem takeSnapshot_mbx {s : State} : (takeSnapshot s).mbx = s.mbx := by
  simp [takeSnapshot, apply_ite State.mbx]

@[simp] theorem takeSnapshot_core {s : State} : (takeSnapshot s).core = s.core := by
  simp [takeSnapshot, apply_ite State.core]

@[simp] theorem takeSnapshot_grn {s : State} : (takeSnapshot s).grn = s.grn := by
  simp [takeSnapshot, apply_ite State.grn]

@[simp] theorem takeSnapshot_pln {s : State} : (takeSnapshot s).pln = s.pln := by
  simp [takeSnapshot, apply_ite State.pln]

@[simp] theorem takeSnapshot_lan {s : State} : (takeSnapshot s).lan = s.lan := by
  simp [takeSnapshot, apply_ite State.lan]

@[simp] theorem takeSnapshot_stk {s : State} : (takeSnapshot s).stk = s.stk := by
  simp [takeSnapshot, apply_ite State.stk]

@[simp] theorem takeSnapshot_job {s : State} : (takeSnapshot s).job = s.job := by
  simp [takeSnapshot, apply_ite State.job]

@[simp] theorem takeSnapshot_bne {s : State} : (takeSnapshot s).bne = s.bne := by
  simp [takeSnapshot, apply_ite State.bne]

@[simp] theorem takeSnapshot_tim {s : State} : (takeSnapshot s).tim = s.tim := by
  simp [takeSnapshot, apply_ite State.tim]

@[simp] theorem takeSnapshot_lsp {s : State} : (takeSnapshot s).lsp = s.lsp := by
  simp [takeSnapshot, apply_ite State.lsp]

@[simp] theorem takeSnapshot_pending {s : State} : (takeSnapshot s).pending = s.pending := by
  simp [takeSnapshot, apply_ite State.pending]

end Sys2Proof.Machine
end

