-- ==== Sys2Proof/Laws/Access.lean ====
section
/-! SUPPORT. How an access that enters is performed and answered, and how a guarded pair completes: one lemma for each kind of access, which
later proofs cite in place of the definitions. -/

namespace Sys2Proof.Machine

/-- Where no alarm is to be settled, the end of a step leaves the calm part alone. -/
theorem calm_finishUp {s : State} (h : s.hlt.alarm = false) : calm (finishUp s) = calm s := by
  have h1 : alarmSettle s = s := by simp [alarmSettle, h]
  simp [finishUp, h1]

/-- The requester is normalised, the path is not. -/
@[simp] theorem norm_path {s : State} {a : Acc} : (norm s a).path = a.path := by
  unfold norm
  split <;> simp_all

/-- An access that enters is performed, in the state in which its request has been taken; a held read needs a slot of its path. -/
theorem arrive_of_enters_held {a : Acc} {hold w : Bool} {f : Acc → State → State} {s : State} (h : enters a s = true)
    (hs : hold = true → slotFree s (norm s a) = true) : arrive a hold w f s = f (norm s a) (entered a hold s) := by
  unfold enters at h
  unfold arrive entered
  cases hp : pathPort a.path with
  | some p =>
    simp only [hp, Bool.and_eq_true, decide_eq_true_eq] at h
    cases hold <;> simp_all
  | none =>
    simp only [hp, Bool.and_eq_true] at h
    by_cases hc : a.path = .core <;> simp_all

/-- An access that is no held read needs no slot. -/
theorem arrive_of_enters {a : Acc} {w : Bool} {f : Acc → State → State} {s : State} (h : enters a s = true) :
    arrive a false w f s = f (norm s a) (entered a false s) := arrive_of_enters_held h (fun hf => by simp at hf)

/-- Nothing enters a node that does not run. -/
theorem running_of_enters {a : Acc} {s : State} (h : enters a s = true) : running s = true := by
  simp [enters] at h; exact h.1

/-- Before SYS_BOOT_DONE only the control core enters. -/
theorem bootDone_of_enters {a : Acc} {s : State} (h : enters a s = true) : s.sys.bootDone = true ∨ a.path = .core := by
  unfold enters at h
  cases hp : a.path <;> simp_all [pathPort]

/-! ### Permissions -/

/-- Permissions rest on the sill registers. -/
theorem permits_congr {s t : State} (h : t.sil = s.sil) {r : ReqId} {p : Perm} : permits t r p = permits s r p := by
  simp [permits, permBit, classOf, h]

/-- Queue ownership rests on the sill registers. -/
theorem mayConfigure_congr {s t : State} (h : t.sil = s.sil) {r : ReqId} {q : Nat} : mayConfigure t r q = mayConfigure s r q := by
  simp [mayConfigure, silQueue, h]

/-- Write permissions rest on the sill registers. -/
theorem mayWriteReg_congr {s t : State} (h : t.sil = s.sil) {r : ReqId} {off : Nat} : mayWriteReg t r off = mayWriteReg s r off := by
  have h1 : mayConfigure t r = mayConfigure s r := funext fun q => mayConfigure_congr h
  have h2 : permits t r .read = permits s r .read := permits_congr h
  have h3 : permitsWr t r (off / 0x1000) = permitsWr s r (off / 0x1000) := by simp [permitsWr, permBit, classOf, h]
  simp [mayWriteReg, h1, h2, h3]

/-- What ends a register access rests on the sill registers. -/
theorem regEnds_congr {s t : State} (h : t.sil = s.sil) {r : ReqId} {w : Bool} {off n : Nat} :
    regEnds t r w off n = regEnds s r w off n := by
  have h1 : mayWriteReg t r = mayWriteReg s r := funext fun o => mayWriteReg_congr h
  simp [regEnds, h1, permits_congr h]

/-! ### Single accesses -/

/-- A read of registers that enters is made in the state in which its request has been taken, and answered. -/
theorem readAccess_of_enters {a : Acc} {off n : Nat} {s : State} (h : enters a s = true) :
    readAccess a off n s =
      (let x := regRead (norm s a).req off n (entered a false s)
       answer (norm s a) false x.1 (w32ToBytes x.2.1) false x.2.2) := by
  unfold readAccess
  have hb := bootDone_of_enters h
  split
  · have hne : a.path ≠ .core := by
      intro hc
      simp_all [pathPort]
    have : s.sys.bootDone = true := hb.resolve_right hne
    simp [this, arrive_of_enters h]
  · rw [arrive_of_enters h]

/-- A write of one register that its requester may make is performed and answered with OK. -/
theorem writeAccess_of_mayWrite {a : Acc} {off : Nat} {v : W32} {s : State} (h : mayWrite a off s = true) (ho : off < 0x10000)
    (h4 : off % 4 = 0) :
    writeAccess a off [v] s = answer (norm s a) true 0 [] false (writeOne (who a s) off v (entered a false s)) := by
  simp only [mayWrite, Bool.and_eq_true] at h
  unfold writeAccess
  rw [arrive_of_enters h.1.1]
  have he : regEnds (entered a false s) (norm s a).req true off 1 = none := by
    rw [regEnds_congr (s := s) (by simp)]
    have : ¬ 65536 < off + 4 := by omega
    simp [regEnds, this, h4, List.range_succ]
    exact h.1.2
  simp [regWrite, he, writeMany]
  rfl

/-- A read of one register that its requester may make is performed and answered with OK. -/
theorem readAccess_of_mayFetch {a : Acc} {off : Nat} {s : State} (h : mayFetch a s = true) (ho : off < 0x10000) (h4 : off % 4 = 0) :
    readAccess a off 1 s =
      answer (norm s a) false 0 (w32ToBytes [(readOne (who a s) off (entered a false s)).1]) false
        (readOne (who a s) off (entered a false s)).2 := by
  simp only [mayFetch, Bool.and_eq_true] at h
  rw [readAccess_of_enters h.1.1]
  have he : regEnds (entered a false s) (norm s a).req false off 1 = none := by
    rw [regEnds_congr (s := s) (by simp)]
    have : ¬ 65536 < off + 4 := by omega
    simp [regEnds, this, h4]
    exact h.1.2
  simp [regRead, he, readMany, readOne]
  rfl

/-- Outside the MBX block a read shows the register as it stands. -/
theorem readOne_val {r : ReqId} {off : Nat} {s : State} (h : off / 0x1000 ≠ 3) : (readOne r off s).1 = regVal s r off := by
  simp [readOne, mbxTouch, h]

/-! ### Guarded pairs -/

/-- SYS apart from the armed values and the latest guard event: what dropping an armed value leaves alone. -/
def sysRest (x : Sys) : Sys := { x with armed := [], gBroken := false, gMismatch := false, gNoSlot := false, gReq := 0, gOff := 0 }

/-- The state with another SYS that differs in the armed values and the latest guard event alone. -/
def SysOnly (s t : State) : Prop := ∃ y, t = { s with sys := y } ∧ sysRest y = sysRest s.sys

/-- A state differs from itself in nothing. -/
theorem SysOnly.refl (s : State) : SysOnly s s := ⟨s.sys, rfl, rfl⟩

/-- Two such differences make one. -/
theorem SysOnly.trans {s t u : State} (h : SysOnly s t) (g : SysOnly t u) : SysOnly s u := by
  obtain ⟨y, rfl, hy⟩ := h
  obtain ⟨z, rfl, hz⟩ := g
  exact ⟨z, rfl, hz.trans hy⟩

/-- Dropping an armed value changes the armed values and the latest guard event alone. -/
theorem breakArm_sysOnly (r : ReqId) (s : State) : SysOnly s (breakArm r s) := by
  unfold breakArm
  split
  · exact ⟨_, rfl, rfl⟩
  · exact .refl s

/-- Dropping the arms of others changes the armed values and the latest guard event alone. -/
theorem breakOthers_sysOnly (r : ReqId) (g : Nat) (s : State) : SysOnly s (breakOthers r g s) := by
  unfold breakOthers
  generalize (s.sys.armed.filter (fun a => decide (a.off = g) && decide (a.req ≠ r))) = l
  induction l generalizing s with
  | nil => exact .refl s
  | cons x xs ih => exact (breakArm_sysOnly x.req s).trans (ih _)

/-- Dropping another requester's arm leaves this one armed. -/
theorem armedOf_breakArm_ne {q r : ReqId} {s : State} (h : q ≠ r) : armedOf (breakArm q s) r = armedOf s r := by
  unfold breakArm
  split
  · simp only [armedOf, guardBroken, guardNote, disarm]
    induction s.sys.armed with
    | nil => rfl
    | cons x xs ih =>
      by_cases hx : x.req = q
      · have : x.req ≠ r := hx ▸ h
        simp_all
      · by_cases hr : x.req = r <;> simp_all
  · rfl

/-- A dropped arm is gone. -/
theorem armedOf_breakArm_self {r : ReqId} {s : State} : armedOf (breakArm r s) r = none := by
  unfold breakArm
  split
  · simp [armedOf, guardBroken, guardNote, disarm]
  · assumption

/-- Dropping the arms of others leaves this requester's own. -/
theorem armedOf_breakOthers {r : ReqId} {g : Nat} {s : State} : armedOf (breakOthers r g s) r = armedOf s r := by
  unfold breakOthers
  have : ∀ x ∈ s.sys.armed.filter (fun a => decide (a.off = g) && decide (a.req ≠ r)), x.req ≠ r := by
    intro x hx
    simp at hx
    exact hx.2.2
  generalize s.sys.armed.filter (fun a => decide (a.off = g) && decide (a.req ≠ r)) = l at this
  induction l generalizing s with
  | nil => rfl
  | cons x xs ih =>
    rw [List.foldl_cons, ih (fun y hy => this y (List.mem_cons_of_mem _ hy)),
      armedOf_breakArm_ne (this x (List.mem_cons_self ..))]

/-- Dropping an arm arms nothing. -/
theorem armed_length_breakArm {r : ReqId} {s : State} : (breakArm r s).sys.armed.length ≤ s.sys.armed.length := by
  unfold breakArm
  split
  · exact List.length_filter_le _ _
  · exact le_refl _

/-- Dropping the arms of others arms nothing. -/
theorem armed_length_breakOthers {r : ReqId} {g : Nat} {s : State} : (breakOthers r g s).sys.armed.length ≤ s.sys.armed.length := by
  unfold breakOthers
  generalize (s.sys.armed.filter (fun a => decide (a.off = g) && decide (a.req ≠ r))) = l
  induction l generalizing s with
  | nil => exact le_refl _
  | cons x xs ih => exact (ih (s := breakArm x.req s)).trans armed_length_breakArm

/-- Dropping what has expired changes the armed values and the latest guard event alone. -/
theorem guardExpire_sysOnly (s : State) : SysOnly s (guardExpire s) := by
  have hl : ∀ (l : List Armed) (u : State), SysOnly u (l.foldl (fun t a => guardBroken a.req a.off t) u) := by
    intro l
    induction l with
    | nil => exact SysOnly.refl
    | cons x xs ih => exact fun u => SysOnly.trans ⟨_, rfl, rfl⟩ (ih _)
  exact SysOnly.trans ⟨_, rfl, rfl⟩ (hl _ _)

/-- What has not expired stays armed. -/
theorem guardExpire_armed (s : State) : (guardExpire s).sys.armed = s.sys.armed.filter (armLives s) := by
  have hl : ∀ (l : List Armed) (u : State), (l.foldl (fun t a => guardBroken a.req a.off t) u).sys.armed = u.sys.armed := by
    intro l
    induction l with
    | nil => exact fun _ => rfl
    | cons x xs ih => exact fun u => ih _
  exact hl _ _

/-- A requester's armed value once the expired ones are dropped. -/
theorem armedOf_guardExpire (s : State) (r : ReqId) : armedOf (guardExpire s) r = armedNow s r := by
  unfold armedOf armedNow
  rw [guardExpire_armed]

/-- Where nothing has expired nothing is dropped. -/
theorem guardExpire_of_live {s : State} (h : ∀ x ∈ s.sys.armed, armLives s x = true) : guardExpire s = s := by
  have h1 : s.sys.armed.filter (armLives s) = s.sys.armed := List.filter_eq_self.mpr h
  have h2 : s.sys.armed.filter (fun a => !armLives s a) = [] := by simpa using h
  simp [guardExpire, h1, h2]

/-- Dropping an arm arms nothing new. -/
theorem mem_armed_breakArm {r : ReqId} {s : State} {x : Armed} (h : x ∈ (breakArm r s).sys.armed) : x ∈ s.sys.armed := by
  unfold breakArm at h
  split at h
  · exact List.mem_of_mem_filter h
  · exact h

/-- Dropping the arms of others arms nothing new. -/
theorem mem_armed_breakOthers {r : ReqId} {g : Nat} {s : State} {x : Armed} (h : x ∈ (breakOthers r g s).sys.armed) :
    x ∈ s.sys.armed := by
  unfold breakOthers at h
  generalize (s.sys.armed.filter (fun a => decide (a.off = g) && decide (a.req ≠ r))) = l at h
  induction l generalizing s with
  | nil => exact h
  | cons y ys ih => exact mem_armed_breakArm (ih h)

/-- After a value is armed nothing has expired, where nothing had before. -/
theorem guardArm_live {r : ReqId} {g : Nat} {v : W32} {s : State} (h : ∀ x ∈ s.sys.armed, armLives s x = true) :
    guardExpire (guardArm r g v s) = guardArm r g v s := by
  have hc : (breakOthers r g (breakArm r s)).clk = s.clk := by simp
  apply guardExpire_of_live
  intro x hx
  have hx' : x ∈ s.sys.armed ∨ x.slow = s.clk.slow := by
    unfold guardArm at hx
    simp only at hx
    split at hx
    · exact .inl (mem_armed_breakArm (mem_armed_breakOthers hx))
    · rcases List.mem_append.mp hx with h1 | h1
      · exact .inl (mem_armed_breakArm (mem_armed_breakOthers h1))
      · exact .inr (by rw [List.mem_singleton.mp h1]; exact congrArg Clk.slow hc)
  have hk : (guardArm r g v s).clk = s.clk := by
    unfold guardArm
    simp only
    split <;> simp
  rcases hx' with h1 | h1
  · have := h x h1
    simpa [armLives, hk] using this
  · simp [armLives, hk, h1]

/-- Pinning rests on no armed value. -/
theorem isPinned_sysOnly {s t : State} {g : Nat} (h : SysOnly s t) : isPinned t g = isPinned s g := by
  obtain ⟨y, rfl, hy⟩ := h
  have h1 : y.bootDone = s.sys.bootDone := congrArg (·.bootDone) hy
  have h2 : y.compatPin = s.sys.compatPin := congrArg (·.compatPin) hy
  unfold isPinned
  split <;> simp [h1, h2]

/-- A complement that matches completes the pair, in a state that differs in the armed values and the latest guard event alone. -/
theorem guardComp_of_armed {r : ReqId} {g : Nat} {s : State} {x : Armed} (h : armedOf s r = some x) (hg : x.off = g) :
    ∃ t, SysOnly s t ∧ guardComp r g (~~~x.val) s = guardComplete r g x.val t := by
  refine ⟨disarm r (breakOthers r g s), (breakOthers_sysOnly r g s).trans ⟨_, rfl, rfl⟩, ?_⟩
  simp [guardComp, armedOf_breakOthers, h, hg]

/-- A value written where nothing is armed by the requester and there is room is armed. -/
theorem guardArm_of_room {r : ReqId} {g : Nat} {v : W32} {s : State} (h : s.sys.armed.length < 16) :
    SysOnly s (guardArm r g v s) ∧ ∃ x, armedOf (guardArm r g v s) r = some x ∧ x.off = g ∧ x.val = v := by
  have hl : (breakOthers r g (breakArm r s)).sys.armed.length < 16 :=
    lt_of_le_of_lt (armed_length_breakOthers.trans armed_length_breakArm) h
  have hn : armedOf (breakOthers r g (breakArm r s)) r = none := by rw [armedOf_breakOthers, armedOf_breakArm_self]
  have hs := (breakArm_sysOnly r s).trans (breakOthers_sysOnly r g (breakArm r s))
  have hl' : ¬ 16 ≤ (breakOthers r g (breakArm r s)).sys.armed.length := by omega
  simp only [guardArm, if_neg hl']
  refine ⟨hs.trans ⟨_, rfl, rfl⟩, ⟨r, g, v, (breakOthers r g (breakArm r s)).clk.slow⟩, ?_, rfl, rfl⟩
  simp only [armedOf] at hn ⊢
  rw [List.find?_append, hn]
  simp

/-- A write to either address of a guarded register is a guard write. -/
theorem writeOne_guard {r : ReqId} {g off : Nat} {v : W32} {s : State} (h : guardBase off = some g) :
    writeOne r off v s = guardWrite r g off v s := by
  simp [writeOne, h]

/-- The guarded registers: both addresses lead to the register, are aligned, lie in the window and need the same permission. -/
theorem guardBase_of_mem {g : Nat} (h : g ∈ guardAddrs) :
    guardBase g = some g ∧ guardBase (g + 4) = some g ∧ g + 8 ≤ 0x10000 ∧ g % 4 = 0 ∧
      ∀ (s : State) (r : ReqId), mayWriteReg s r (g + 4) = mayWriteReg s r g := by
  have hd : ∀ g ∈ guardAddrs, guardBase g = some g ∧ guardBase (g + 4) = some g ∧ g + 8 ≤ 0x10000 ∧ g % 4 = 0 ∧
      (g + 4) / 0x1000 = g / 0x1000 ∧ ownedQueue g = none ∧ ownedQueue (g + 4) = none := by decide
  obtain ⟨h1, h2, h3, h4, h5, h6, h7⟩ := hd g h
  refine ⟨h1, h2, h3, h4, fun s r => ?_⟩
  simp [mayWriteReg, h5, h6, h7]

/-- A pair that completes is answered with OK, and its register takes the value in a state that differs from the one in which the access
entered in the armed values and the latest guard event alone. -/
theorem pairRow_of_completes {a : Acc} {g : Nat} {v : W32} {s : State} (h : completes a g v s = true) (hg : g ∈ guardAddrs) :
    ∃ t, SysOnly (entered a false s) t ∧ pairRow a g v s = answer (norm s a) true 0 [] false (guardComplete (who a s) g v t) := by
  obtain ⟨h1, h2, h3, h4, h5⟩ := guardBase_of_mem hg
  simp only [completes, Bool.and_eq_true, Bool.not_eq_true'] at h
  obtain ⟨⟨hw, hp⟩, ha⟩ := h
  have hpe : isPinned (entered a false s) g = false := by
    rw [← hp]
    unfold isPinned
    split <;> simp
  have hpx : isPinned (guardExpire (entered a false s)) g = false := by rw [isPinned_sysOnly (guardExpire_sysOnly _), hpe]
  have hlv : armLives (entered a false s) = armLives s := by
    funext x
    simp [armLives]
  have har : armedOf (guardExpire (entered a false s)) (who a s) = armedNow s (who a s) := by
    rw [armedOf_guardExpire]
    simp [armedNow, hlv]
  have hal : (guardExpire (entered a false s)).sys.armed = s.sys.armed.filter (armLives s) := by
    rw [guardExpire_armed, hlv]
    simp
  have hwr : (norm s a).req = who a s := rfl
  cases hx : armedNow s (who a s) with
  | some x =>
    rw [hx] at ha
    simp only [Bool.and_eq_true, decide_eq_true_eq] at ha
    obtain ⟨rfl, rfl⟩ := ha
    have hw4 : mayWrite a (x.off + 4) s = true := by
      simp only [mayWrite, Bool.and_eq_true] at hw ⊢
      rw [h5]; exact hw
    obtain ⟨t, ht, he⟩ := guardComp_of_armed (har.trans hx) rfl
    refine ⟨t, (guardExpire_sysOnly _).trans ht, ?_⟩
    simp only [pairRow, hwr, hx, and_self, if_true]
    rw [writeAccess_of_mayWrite hw4 (by omega) (by omega), writeOne_guard h2]
    have : x.off + 4 ≠ x.off := by omega
    simp [guardWrite, hpx, he]
  | none =>
    rw [hx] at ha
    simp only [decide_eq_true_eq] at ha
    obtain ⟨hs, x, hx1, rfl, rfl⟩ := guardArm_of_room (r := who a s) (g := g) (v := v) (s := guardExpire (entered a false s))
      (by rw [hal]; exact ha)
    obtain ⟨t, ht, he⟩ := guardComp_of_armed hx1 rfl
    refine ⟨t, (guardExpire_sysOnly _).trans (hs.trans ht), ?_⟩
    have hen : enters a s = true := by simp only [mayWrite, Bool.and_eq_true] at hw; exact hw.1.1
    have hm : mayWriteReg s (who a s) x.off = true := by simp only [mayWrite, Bool.and_eq_true] at hw; exact hw.1.2
    have hre : regEnds (entered a false s) (who a s) true x.off 2 = none := by
      rw [regEnds_congr (s := s) (by simp)]
      have h6 : ¬ 65536 < x.off + 8 := by omega
      simp [regEnds, h6, h4, List.range_succ, h5, hm]
    have hpe' : isPinned (guardArm (who a s) x.off x.val (guardExpire (entered a false s))) x.off = false := by
      rw [isPinned_sysOnly hs, hpx]
    have hkc : (guardExpire (entered a false s)).clk = (entered a false s).clk := by
      obtain ⟨y, hy, -⟩ := guardExpire_sysOnly (entered a false s)
      rw [hy]
    have hlv' : ∀ y ∈ (guardExpire (entered a false s)).sys.armed, armLives (guardExpire (entered a false s)) y = true := by
      intro y hy
      rw [guardExpire_armed] at hy
      have := (List.mem_filter.mp hy).2
      simpa [armLives, hkc] using this
    have hgl := guardArm_live (r := who a s) (g := x.off) (v := x.val) hlv'
    have hne : x.off + 4 ≠ x.off := by omega
    simp only [pairRow, hwr, hx]
    unfold writeAccess
    rw [arrive_of_enters hen]
    simp [regWrite, hre, writeMany, writeOne_guard h1, writeOne_guard h2, hwr, guardWrite, hpx, hgl, hpe', he]

end Sys2Proof.Machine
end

