-- ==== Sys2Proof/Laws/Mem.lean ====
section
/-! SUPPORT. The memories: every write keeps the canonical form, above any bound that it respects, and below every listed address
nothing was written. -/

namespace Sys2Proof.Machine

/-- A memory above a bound lies above every lower one. -/
theorem memWfFrom_mono {lo hi : Nat} {m : Mem} (h : memWfFrom hi m = true) (hl : lo ≤ hi) : memWfFrom lo m = true := by
  cases m with
  | nil => rfl
  | cons x xs =>
    simp only [memWfFrom, Bool.and_eq_true, decide_eq_true_eq] at h ⊢
    exact ⟨⟨hl.trans h.1.1, h.1.2⟩, h.2⟩

/-- Below every listed address a memory reads as nothing was written. -/
theorem memGet_below {lo a : Nat} {m : Mem} (h : memWfFrom lo m = true) (ha : a < lo) : memGet m a = memDefault := by
  induction m generalizing lo with
  | nil => rfl
  | cons x xs ih =>
    simp only [memWfFrom, Bool.and_eq_true, decide_eq_true_eq] at h
    have hne : x.1 ≠ a := by omega
    simp only [memGet, if_neg hne]
    exact ih h.2 (by omega)

/-- A write keeps the canonical form above any bound that it respects. -/
theorem memWfFrom_memSet {lo a : Nat} {b : Byte} {m : Mem} (h : memWfFrom lo m = true) (ha : lo ≤ a) :
    memWfFrom lo (memSet m a b) = true := by
  induction m generalizing lo with
  | nil =>
    simp only [memSet]
    split <;> simp_all [memWfFrom]
  | cons x xs ih =>
    simp only [memWfFrom, Bool.and_eq_true, decide_eq_true_eq] at h
    obtain ⟨⟨h1, h2⟩, h3⟩ := h
    simp only [memSet]
    split
    · split
      · simp [memWfFrom, h1, h2, h3]
      · rename_i hlt hb
        have : memWfFrom (a + 1) (x :: xs) = true := by simp [memWfFrom, h2, h3]; omega
        simp_all [memWfFrom]
    · split
      · split
        · exact memWfFrom_mono h3 (by omega)
        · rename_i _ he hb
          subst he
          simp [memWfFrom, ha, hb, h3]
      · simp only [memWfFrom, Bool.and_eq_true, decide_eq_true_eq]
        exact ⟨⟨h1, h2⟩, ih h3 (by omega)⟩

/-- A write of several bytes keeps the canonical form. -/
theorem memWf_memWrite {m : Mem} {a : Nat} {l : List Byte} (h : memWf m = true) : memWf (memWrite m a l) = true := by
  induction l generalizing m a with
  | nil => exact h
  | cons b bs ih => exact ih (memWfFrom_memSet h (Nat.zero_le _))

/-- The memories of the state after reset have their canonical form. -/
theorem memsOk_reset : memsOk State.reset = true := by decide

end Sys2Proof.Machine
end

