-- ==== Sys2Proof/Machine/Wire.lean ====
section
/-! DEFINITION. What a ring port puts on its lanes: frame words (R241, Table 10-2), the blocks of a frame with its CRC (R240), block
coding, the scrambler and the lanes (R239). The commands of chapter 10 carry frames as a port has decoded them; a frame that does not
decode is what frameCrcError stands for. -/

namespace Sys2Proof.Machine

/-! ### Frame words -/

/-- Header word H0 (Table 10-2). -/
def headWord0 (f : Frame) : Word :=
  BitVec.ofNat 64 (f.type.toNat <<< 58 + f.vc.toNat <<< 56 + f.src.toNat <<< 44 + f.dst.toNat <<< 32 + f.hops.toNat <<< 20 +
    b2n f.hold <<< 19 + b2n f.unchecked <<< 18 + b2n f.resent <<< 17 + b2n f.late <<< 16 + f.txn.toNat)

/-- Header word H1 (Table 10-2). -/
def headWord1 (f : Frame) : Word := BitVec.ofNat 64 (f.status.toNat <<< 60 + f.len.toNat <<< 48 + f.addr.toNat)

/-- The words of a frame: the header, and the payload with its last word padded with zero bytes (R241). -/
def frameWire (f : Frame) : List Word :=
  [headWord0 f, headWord1 f, f.h2] ++ bytesToWords (padTo (8 * ((f.payload.length + 7) / 8)) f.payload)

/-- The frame that words spell; an RD_REQ has no payload, whatever LEN asks (R241). None when they are no frame: too few words, or payload
words other than LEN says. -/
def frameOfWire : List Word → Option Frame
  | h0 :: h1 :: h2 :: ws =>
    let len := fldW h1 48 9
    let n := if fldW h0 58 6 = 0x01 then 0 else len
    if ws.length = (n + 7) / 8 ∧ len ≤ 256 then
      some {
        type := h0.extractLsb' 58 6, vc := h0.extractLsb' 56 2, src := h0.extractLsb' 44 12, dst := h0.extractLsb' 32 12
        hops := h0.extractLsb' 20 12, hold := h0.getLsbD 19, unchecked := h0.getLsbD 18, resent := h0.getLsbD 17
        late := h0.getLsbD 16, txn := h0.extractLsb' 0 16, status := h1.extractLsb' 60 4, len := h1.extractLsb' 48 9
        addr := h1.extractLsb' 0 48, h2 := h2, payload := (wordsToBytes ws).take n }
    else none
  | _ => none

/-! ### Blocks -/

/-- A 64B/66B block before scrambling: whether it is a control block, and its eight octets, the first in the low bits. -/
structure LineBlock where
  control : Bool
  body : Word
  deriving DecidableEq, Repr, Inhabited

/-- One bit of the reflected CRC with the polynomial 0x04C1_1DB7 (R240). -/
def crcBit (c : W32) : W32 := if c.getLsbD 0 then (c >>> 1) ^^^ 0xEDB88320 else c >>> 1

/-- One octet of the CRC. -/
def crcByte (c : W32) (b : Byte) : W32 := (List.range 8).foldl (fun x _ => crcBit x) (c ^^^ b.setWidth 32)

/-- The CRC-32 of IEEE 802.3 over octets: initial value all ones, result complemented (R240). -/
def crc32 (l : List Byte) : W32 := ~~~(l.foldl crcByte 0xFFFFFFFF)

/-- The start block (R240). -/
def startLine : LineBlock := ⟨true, 0x78⟩

/-- The terminate block: the CRC of the frame words, then LSEQ (R240). -/
def endLine (crc : W32) (lseq : BitVec 12) : LineBlock :=
  ⟨true, BitVec.ofNat 64 (0xFF + crc.toNat <<< 8 + lseq.toNat <<< 40)⟩

/-- The blocks of a frame (R240). -/
def frameBlocks (lseq : BitVec 12) (f : Frame) : List LineBlock :=
  let ws := frameWire f
  [startLine] ++ ws.map (fun w => ⟨false, w⟩) ++ [endLine (crc32 (wordsToBytes ws)) lseq]

/-- The frame and its link sequence number that blocks carry; none with a bad CRC or an invalid block: the receiver discards it (R240,
R252). -/
def receiveBlocks (l : List LineBlock) : Option (Frame × BitVec 12) :=
  match l.head?, l.getLast? with
  | some a, some z =>
    let mid := l.tail.dropLast
    let ws := mid.map (·.body)
    let lseq : BitVec 12 := z.body.extractLsb' 40 12
    if a = startLine ∧ 2 ≤ l.length ∧ mid.all (fun b => !b.control) ∧ z = endLine (crc32 (wordsToBytes ws)) lseq then
      (frameOfWire ws).map (fun f => (f, lseq))
    else none
  | _, _ => none

/-- The blocks of IDENT or LINK: a start block, one word and a terminate block, without LSEQ (R251). -/
def linkBlocks (w : Word) : List LineBlock := [startLine, ⟨false, w⟩, endLine (crc32 (wordsToBytes [w])) 0]

/-- The blocks of the frames that a port keeps for retransmission, in the order in which it sent them (R252). -/
def storeBlocks (s : State) (p : PortId) : List (List LineBlock) := (portAt s p).store.map (fun t => frameBlocks t.lseq t.f)

/-! ### Lanes -/

/-- The ALIGN block, on both lanes in one block period every 16,384 periods (Table 10-1): type 0x4B, O code 0x5. -/
def alignBlock : LineBlock := ⟨true, BitVec.ofNat 64 (0x4B + 0x5 <<< 32)⟩

/-- Block periods from one ALIGN block to the next (Table 10-1). -/
def alignPeriod : Nat := 16384

/-- Block k of the port's stream goes on this lane (Table 10-1). -/
def laneOfBlock (k : Nat) : Nat := k % 2

/-- The synchronization header of a block, in the order of sending: 01 for data, 10 for control (Clause 49). -/
def syncHeader (b : LineBlock) : List Bool := if b.control then [true, false] else [false, true]

/-- The self-synchronizing scrambler 1 + x^39 + x^58 (R239): bit 0 of the register is the latest bit sent. -/
def scramble : BitVec 58 → List Bool → List Bool
  | _, [] => []
  | r, d :: ds =>
    let b := d ^^ r.getLsbD 38 ^^ r.getLsbD 57
    b :: scramble (r.shiftConcat b) ds

/-- The descrambler: it forms the same register from the bits received. -/
def descramble : BitVec 58 → List Bool → List Bool
  | _, [] => []
  | r, b :: bs => (b ^^ r.getLsbD 38 ^^ r.getLsbD 57) :: descramble (r.shiftConcat b) bs

end Sys2Proof.Machine
end

