-- ==== Sys2Proof/Laws/Wire.lean ====
section
/-! SUPPORT. The descrambler undoes the scrambler, and the blocks that carry no frame are refused. -/

namespace Sys2Proof.Machine

/-- A descrambler whose register agrees with the scrambler's gives back the bits that were scrambled (R239). -/
theorem descramble_scramble (r : BitVec 58) (l : List Bool) : descramble r (scramble r l) = l := by
  induction l generalizing r with
  | nil => rfl
  | cons d ds ih =>
    simp only [scramble, descramble, ih, List.cons.injEq, and_true]
    cases d <;> cases r.getLsbD 38 <;> cases r.getLsbD 57 <;> rfl

/-- Scrambling changes no length. -/
@[simp] theorem scramble_length (r : BitVec 58) (l : List Bool) : (scramble r l).length = l.length := by
  induction l generalizing r with
  | nil => rfl
  | cons d ds ih => simp [scramble, ih]

/-- A frame has a start block, a block for each of its words and a terminate block (R240). -/
theorem frameBlocks_length (lseq : BitVec 12) (f : Frame) : (frameBlocks lseq f).length = (frameWire f).length + 2 := by
  simp [frameBlocks]

/-- What a port takes from blocks has a good CRC and the link sequence number of its terminate block (R240, R252). -/
theorem receiveBlocks_some {l : List LineBlock} {f : Frame} {n : BitVec 12} (h : receiveBlocks l = some (f, n)) :
    frameOfWire (l.tail.dropLast.map (·.body)) = some f ∧
      l.getLast? = some (endLine (crc32 (wordsToBytes (l.tail.dropLast.map (·.body)))) n) := by
  unfold receiveBlocks at h
  split at h
  · rename_i a z ha hz
    simp only at h
    split at h
    · rename_i hc
      obtain ⟨g, hg, he⟩ := Option.map_eq_some_iff.mp h
      obtain ⟨rfl, rfl⟩ := Prod.mk.inj he
      exact ⟨hg, hz.trans (congrArg some hc.2.2.2)⟩
    · exact absurd h (by simp)
  · exact absurd h (by simp)

end Sys2Proof.Machine
end

