-- ==== Sys2Proof/Machine/Pins.lean ====
section
/-! DEFINITION. What the node drives on its pins: a reading of the state (R289, R302, R309, R357 to R359, Tables 12-1 and 15-3). No command
reads it; the board does. -/

namespace Sys2Proof.Machine

/-- What a pin shows: a level, high impedance (a pull or the board sets the level), an open-drain output released, a SerDes pair at
electrical idle, or an output that carries data or a clock. -/
inductive Drive where
  | low | high | highZ | released | idle | moving
  deriving DecidableEq, Repr, Inhabited

/-- The outputs of Table 15-3. LSP_MISO and LSP_SEL_1 are outputs in one role only (Table 12-1). -/
inductive Pin where
  | ringTx (p : PortId)
  | syncOut | faultN | ready | tdo
  | lspSck | lspMosi | lspMiso | lspSel0 | lspSel1
  | lspDsel (k : Fin 4)
  | lspIrqN
  deriving DecidableEq, Repr, Inhabited

/-- The level of a bit. -/
def levelOf (b : Bool) : Drive := if b then .high else .low

/-- An open-drain output that is active low. -/
def openDrain (active : Bool) : Drive := if active then .low else .released

/-- The use of the flash bus whose select cycle is on the line: one that has begun and does not wait between two polls (R303 to R306). -/
def onBus (s : State) : Option XipOp :=
  match s.lsp.ops with
  | o :: _ => if o.started && !o.polling then some o else none
  | [] => none

/-- The SPI mode at which LSP_SCK idles: that of the latest transaction, and of window 0 before the first one (R302) (DESIGN CHOICE,
notes/assumptions/126). -/
def idleMode (s : State) : BitVec 2 := ((s.lsp.bus.getLast?).map (·.mode)).getD s.lsp.w0.mode

/-- The clock of a mode idles high in modes 2 and 3. -/
def modeIdle (m : BitVec 2) : Drive := levelOf (m.getLsbD 1)

/-- The port has given up the lines of the master: it is a slave, and the transaction in progress at the switch has ended (R290). -/
def isSlave (s : State) : Bool := s.lsp.role && !s.lsp.slavePend

/-- The reset state of a pin (Tables 12-1 and 15-3) (DESIGN CHOICE, notes/assumptions/126). -/
def resetDrive : Pin → Drive
  | .ringTx _ => .idle
  | .syncOut | .ready | .lspSck | .lspMosi | .lspDsel _ => .low
  | .lspSel0 | .lspSel1 => .high
  | .tdo | .lspMiso => .highZ
  | .faultN | .lspIrqN => .released

/-- A select of the flash bus: low during a select cycle of its window (Table 12-1). -/
def selDrive (s : State) (w : Nat) : Drive := if (onBus s).map (·.win) = some w then .low else .high

/-- A pin of the running node. Between two steps LSP_SEL_1 of a slave is high, so LSP_MISO is at high impedance (Table 12-1). TDO is driven
during scans alone, which no command makes (DESIGN CHOICE, notes/assumptions/126). -/
def runDrive (s : State) : Pin → Drive
  | .ringTx p => if (portAt s p).st = .down then .idle else .moving
  | .syncOut => levelOf (s.tim.outActive != s.tim.syncPol)
  | .faultN => openDrain (halted s)
  | .ready => levelOf s.pwr.ready
  | .tdo => .highZ
  | .lspSck => if isSlave s then .highZ else if (onBus s).isSome then .moving else modeIdle (idleMode s)
  | .lspMosi => if isSlave s then .highZ else .moving
  | .lspMiso => .highZ
  | .lspSel0 => if isSlave s then .high else selDrive s 0
  | .lspSel1 => if isSlave s then .highZ else selDrive s 1
  | .lspDsel k => levelOf (s.lsp.bankOut.getLsbD k)
  | .lspIrqN => openDrain (irqOn s)

/-- The pin lies in an I/O bank, whose rail must regulate (Table 15-3). -/
def inBank : Pin → Bool
  | .ringTx _ => false
  | _ => true

/-- What a pin shows. `rails` says whether the bank rails are in regulation, which the board sees and no command tells: before that every
output of the banks is at high impedance (R357). HIGHZ of the test port does the same (R359) (DESIGN CHOICE, notes/assumptions/126). -/
def pinDrive (rails : Bool) (s : State) (p : Pin) : Drive :=
  match s.pwr.phase with
  | .off => if inBank p then .highZ else .idle
  | .inReset => if inBank p && (!rails || decide (s.pwr.jtag = .highz)) then .highZ else resetDrive p
  | .running => runDrive s p

/-- The pull resistors are connected once the bank rails regulate (R357) (DESIGN CHOICE, notes/assumptions/126). -/
def pullsOn (rails : Bool) (s : State) : Bool := decide (s.pwr.phase ≠ .off) && (rails || running s)

/-- The IDCODE of the part: version, part number, manufacturer (R359) (PRESUMED, notes/assumptions/122). -/
def idCode (s : State) : W32 :=
  packR [(28, 1), (12, if s.pwr.is832 then 0x0832 else 0x0864), (1, Config.jtagMaker.toNat), (0, 1)]

/-- What the current test instruction puts between TDI and TDO at capture, where the spec gives it: the IDCODE, or the single 0 of BYPASS
(R359) (PRESUMED, notes/assumptions/122). -/
def testCapture (s : State) : Option (List Bool) :=
  match s.pwr.jtag with
  | .idcode => some (bitsOf true 32 (idCode s).toNat)
  | .bypass => some [false]
  | _ => none

end Sys2Proof.Machine
end

