-- ==== Sys2Proof/Tests/Slice0.lean ====
section
/-! SUPPORT. The model's own tests: ill-formed commands refused, for every statement with premises a state and operands that meet
them, and one-step tests whose expected results come from the spec's rules, tables and worked examples, or from the standard they name. -/

set_option Elab.async false

open Sys2Proof Sys2Proof.Machine

namespace Sys2Proof.Tests

/-! ### Ill-formed commands are refused -/

/-- The control core's access path (Table 7-1). -/
def core : Acc := ⟨.core, 0xFFF, 0, false⟩

/-- A frame without payload. -/
def frame0 : Frame := ⟨0, 0, 2, 1, 0xFFF, false, false, false, false, 7, 0, 0, 0, 0, []⟩

theorem test_wf_core_id : (Acc.wf ⟨.core, 0xFFE, 0, false⟩, Acc.wf core, Acc.wf ⟨.portA, 5, 0, false⟩) = (false, true, true) := by decide
theorem test_wf_frame_length : (Frame.wf ⟨0, 0, 2, 1, 0xFFF, false, false, false, false, 7, 0, 1, 0, 0, []⟩, frame0.wf) = (false, true) := by decide
theorem test_wf_frame_256 :
    Frame.wf ⟨0, 0, 2, 1, 0xFFF, false, false, false, false, 7, 0, 257, 0, 0, List.replicate 257 0⟩ = false := by decide +kernel
theorem test_wf_cal : (CalReg.wf (.cell 64), CalReg.wf (.cell 63), CalReg.wf (.wit 8), CalReg.wf (.wit 7)) = (false, true, false, true) := by decide
theorem test_wf_wait : (WaitId.wf (.queue 16 0), WaitId.wf (.queue 15 0)) = (false, true) := by decide
theorem test_wf_bench_unit : (BenchUnit.wf (.bench 4), BenchUnit.wf (.bench 3), BenchUnit.wf .hash) = (false, true, true) := by decide

/-- One ill-formed command for each check of Instr.wf: an index, an offset, an address or an access out of its range. -/
def illFormed : List Instr :=
  [.bootDone ⟨.core, 1, 0, false⟩, .race 64 true, .witnessSample 8 true, .grnEnWrite core 8 0, .seedReady 8, .heldSeedAged 8,
   .planeKatDone 8 true true, .laneSegment 16 none, .lanQbindWrite core 16 0, .mixPieceAbsorb 16, .patrolRead 1048576 .ok, .ageScrub 16,
   .queueEnable core 16 0, .dqMinRead core 16, .deliveryRead core 16 8 true, .grantAllot 16 [], .stallLimitExpire (.queue 16 0),
   .markForced 16, .submissionWrite core 4 []] ++
  [.benchClaim core 4, .benchIdleTimeout 4, .benchVerdict 4 true, .benchKatDone (.bench 4) true, .benchWindowAccess core 0 0x10000 (.read 4),
   .unmappedAccess core 0x2000 false, .unmappedAccess core 0x200000 true, .workerSlotExpire 63, .gatherTx 63, .gatherStale 63,
   .xipRead core 2 0 4, .xipWrite core 0 0x1000000 [], .registerWrite core 0x10000 ⟨[], []⟩, .registerWrite core 0 ⟨[], [0, 0, 0, 0]⟩, .guardArm core 0x000C 0, .guardComplement core 0x0008 0,
   .clearingRead core 0x10000 ⟨1, 0⟩, .clearingRead core 0 ⟨1, 4⟩, .calOverrideWrite core (.cell 64) 0, .transitFrame .a ⟨0, 0, 2, 1, 0xFFF, false, false, false, false, 7, 0, 8, 0, 0, []⟩ 0]

theorem test_wf_instr : illFormed.all (fun c => !c.wf) = true := by decide
theorem test_wf_instr_boundary :
    [Instr.race 63 true, .grnEnWrite core 7 0, .patrolRead 1048575 .ok, .grantAllot 15 [], .submissionWrite core 3 [], .benchClaim core 3,
     .unmappedAccess core 0x10000 true, .unmappedAccess core 0x23FFFF false, .workerSlotExpire 62, .guardArm core 0xD098 0,
     .guardComplement core 0xD09C 0, .registerWrite core 0xFFFF ⟨[], [0, 0, 0]⟩, .clearingRead core 0xFFFF ⟨1, 3⟩].all Instr.wf = true := by decide
/-- No table word spells a command, and none enters the queue. -/
theorem test_table_words : decodeTableWord 8 0 = none ∧ (State.reset.withFetchWord 8 0).pending = [] := ⟨rfl, rfl⟩
/-! ### States -/

/-- After reset. -/
def s0 : State := State.reset
/-- With a queue of commands. -/
def waitingFor (l : List Instr) (s : State) : State := { s with pending := l }
/-- The boot phase is over: SYS_BOOT_DONE, STAGE 5, and the node has its ID 1 and its window. -/
def up : State :=
  { s0 with
    sys := { s0.sys with bootDone := true }, sil := { s0.sil with stage := 5 }
    ring := { s0.ring with enumDone := true, nodeId := 1, win := 1, pa := { s0.ring.pa with st := .service }, manager := 5 } }
/-- Held in internal reset. -/
def held : State := { s0 with pwr := { s0.pwr with phase := .inReset } }
/-- Without power. -/
def dark : State := { s0 with pwr := { s0.pwr with phase := .off } }
/-- With power settings changed. -/
def pwrOf (f : Pwr → Pwr) (s : State) : State := { s with pwr := f s.pwr }
/-- With SYS changed. -/
def sysOf (f : Sys → Sys) (s : State) : State := { s with sys := f s.sys }
/-- With the fatal alarm. -/
def fatal (s : State) : State := { s with hlt := { s.hlt with fatal := true } }

/-- A value of the state that a command answers. -/
def after {α : Type} (c : Instr) (s : State) (f : State → α) : Option α :=
  match exec c s with
  | .next t => some (f t)
  | _ => none

/-- The step on a queue with one command. -/
def stepOf {α : Type} (c : Instr) (s : State) (f : State → α) : Option α :=
  match step (waitingFor [c] s) with
  | .next t => some (f t)
  | _ => none

/-! ### Witnesses: states and operands that meet the premises of the statements -/

theorem witness_StepIdleIsOneTick :
    (held.pending = [] ∧ running held = false) ∧ (s0.pending = [] ∧ upAnd s0 = true ∧ s0.clk.ckTime = true) ∧
    ({ s0 with clk := { s0.clk with ckTime := false } } : State).clk.ckTime = false ∧ s0.tim.skipTicks = 0 ∧ s0.tim.held = none ∧
    ({ s0 with tim := { s0.tim with skipTicks := 3 } } : State).tim.skipTicks ≠ 0 :=
  ⟨⟨rfl, rfl⟩, ⟨rfl, rfl, rfl⟩, rfl, rfl, rfl, by decide⟩

theorem witness_ExecKeepsQueue : ∃ t, exec .engineNop s0 = .next t := ⟨_, rfl⟩

theorem witness_StepKeepsLimits : Limits s0 ∧ ∃ t, step (waitingFor [.engineNop] s0) = .next t := ⟨rfl, _, rfl⟩

theorem witness_StepKeepsTallyBalanced : Balanced s0 ∧ ∃ t, step s0 = .next t := ⟨⟨rfl, rfl, rfl, rfl⟩, _, rfl⟩

theorem witness_StepKeepsMemoriesCanonical : memsOk s0 = true ∧ ∃ t, step s0 = .next t := ⟨rfl, _, rfl⟩

/-- Reset with one accepted NOTE in flight. -/
def oneNote : State :=
  { s0 with job := { s0.job with jobs := [{ newJob s0 5 0x3200001000000001 [] .portA with id := 0, accepted := true, phase := .held }] } }

theorem witness_StepSettlesAlarm :
    settled oneNote = true ∧ streamsUnique oneNote = true ∧ oneNote.hlt.fatal = false ∧
    (jobOf oneNote 0).map (fun j => (j.accepted, j.stop)) = some (true, none) ∧ (planeOf oneNote 7).map (·.st) ≠ some .halt ∧
    stepOf .jobEngineLost oneNote (fun t => (t.hlt.fatal, decide (7 < nBoards t), (jobOf t 0).isSome)) = some (true, true, true) := by decide +kernel

theorem witness_UnitsKeepSettings :
    (keepsSettings .seedHandover = true ∧ keepsFront .seedHandover = true) ∧ ∃ t, exec .seedHandover s0 = .next t := ⟨⟨rfl, rfl⟩, _, rfl⟩

theorem witness_SillFixedAfterBoot :
    up.sys.bootDone = true ∧ isPowerRow (.silHltRespWrite core 3) = false ∧ ∃ t, exec (.silHltRespWrite core 3) up = .next t := ⟨rfl, rfl, _, rfl⟩

theorem witness_MemoryReadAfterWrite :
    memWf [(3, 1)] = true ∧ ((2 : Nat) < 3 ∨ 3 + [(1 : Byte)].length ≤ 2) ∧ ((4 : Nat) < 3 ∨ 3 + [(1 : Byte)].length ≤ 4) := by decide

theorem witness_PowerAndReset :
    dark.pwr.phase = .off ∧ s0.pwr.phase ≠ .off ∧ held.pwr.phase ≠ .off ∧ running s0 = true ∧ running held = false ∧
    (JtagHold.extest = .extest ∨ JtagHold.extest = .clamp ∨ JtagHold.extest = .highz) ∧
    ¬ (JtagHold.idcode = .extest ∨ JtagHold.idcode = .clamp ∨ JtagHold.idcode = .highz) ∧ isPowerRow .engineNop = false := by decide +kernel

theorem witness_InternalResetRelease :
    (held.pwr.phase = .inReset ∧ held.pwr.jtagHold = false ∧ ResetPins.quiet.testEn = false) ∧
    ({ ResetPins.quiet with testEn := true } : ResetPins).testEn = true ∧ ResetPins.quiet.tamperN = true ∧
    ({ ResetPins.quiet with tamperN := false } : ResetPins).tamperN = false ∧ (s0.pwr.phase ≠ .inReset ∨ s0.pwr.jtagHold = true) ∧
    (let s := pwrOf (fun x => { x with jtagHold := true }) held; s.pwr.phase ≠ .inReset ∨ s.pwr.jtagHold = true) := by decide +kernel

theorem witness_BootPhase :
    (upAnd s0 = true ∧ s0.sys.tamper = false ∧ s0.sil.stage = 0 ∧ s0.core.entry = none ∧ s0.sys.bootDone = false) ∧
    (pwrOf (fun x => { x with otpUe := true }) s0).pwr.otpUe = true ∧
    (s0.pwr.otpUe = false ∧ ¬ 2 ≤ s0.pwr.bootSel.toNat ∧ 2 ≤ (pwrOf (fun x => { x with bootSel := 2 }) s0).pwr.bootSel.toNat) ∧
    imageCause 0 [] false ≠ 0 ∧ completes core 0x0008 1 s0 = true ∧ who core s0 = coreId := by decide +kernel

theorem witness_TamperHold :
    upAnd s0 = true ∧ s0.sys.tamper = false ∧ s0.hlt.fatal = false ∧ (200 : Nat) ≤ 200 ∧ ((50 : Nat) ≤ 199 ∧ (199 : Nat) < 200) ∧
    ((50 : Nat) ≤ 50 ∧ (50 : Nat) < 200) ∧ (49 : Nat) < 50 := by decide +kernel

theorem witness_CalRestorePair :
    completes core 0x2000 (calWord 0 true true) s0 = true ∧ completes core 0x2000 (calWord 15 false false) s0 = true := by decide +kernel

theorem witness_OverrideAndResponseWrites :
    mayWrite core 0x2010 s0 = true ∧ mayWrite core 0x2010 { s0 with cal := { s0.cal with lock := true } } = true ∧ s0.cal.lock = false ∧
    63 < nCells s0 ∧ 7 < nBoards s0 ∧ mayWrite core 0x1004 s0 = true ∧ mayWrite core 0x1004 up = true ∧ s0.sys.bootDone = false ∧
    up.sys.bootDone = true := by decide +kernel

theorem witness_CompatibilityAndClocks :
    completes core 0x0018 (compatWord true true) s0 = true ∧ completes core 0x0018 (compatWord false false) s0 = true ∧
    s0.sil.compatOk = false ∧ ({ s0 with sil := { s0.sil with compatOk := true } } : State).sil.compatOk = true ∧
    mayWrite core 0x0020 s0 = true ∧ upAnd s0 = true := by decide +kernel
/-- A source in a state. -/
def src (t : SrcState) : Source := { Source.atReset with st := t }
/-- With the first cell's source replaced. -/
def cell0 (x : Source) (s : State) : State := { s with grn := { s.grn with cells := upd s.grn.cells 0 (fun _ => x) } }
/-- With plane b replaced. -/
def planeAt (b : Nat) (p : Plane) (s : State) : State := { s with pln := { s.pln with planes := upd s.pln.planes b (fun _ => p) } }
/-- With lane n replaced. -/
def laneAt (n : Nat) (l : Lane) (s : State) : State := { s with lan := { s.lan with lanes := upd s.lan.lanes n (fun _ => l) } }
/-- With queue q replaced. -/
def queueAt (q : Nat) (d : DQueue) (s : State) : State := { s with stk := { s.stk with queues := upd s.stk.queues q (fun _ => d) } }
/-- At a count of CK_TIME periods and CK_SLOW edges. -/
def atTime (ticks slow : Nat) (s : State) : State := { s with clk := { s.clk with ticks := ticks, slow := slow } }

/-- A seed held since time 0, with 512 bits of credit. -/
def seed0 : Seed := ⟨7, 131072, false, 0, 0, 0⟩
/-- A lane in a state, at a segment boundary, without requests. -/
def lane (t : LaneState) : Lane := { Lane.atReset with st := t, kats := [], gen := 1 }
/-- A block that is being conditioned. -/
def block (doomed : Bool) : Block := ⟨1024, 0, [], [], 131072, false, 0, doomed⟩
/-- A plane that conditions a block. -/
def condPlane (doomed : Bool) : Plane := { Plane.atReset with st := .cond, blk := some (block doomed), kats := [] }
/-- A plane that holds a seed. -/
def holdPlane : Plane := { Plane.atReset with st := .hold, seed := some seed0, kats := [] }

theorem witness_SampleTaken :
    upAnd s0 = true ∧ (srcOf s0.grn 0x3F).map (fun x => x.st.races) = some true ∧ (srcOf s0.grn 0x47).map (fun x => x.st.races) = some true ∧
    (srcOf (cell0 (src .off) s0).grn 0).map (fun x => x.st.races) = some false ∧ (0x3F : Nat) < 0x40 ∧ (0x40 : Nat) ≤ 0x47 := by decide +kernel

theorem witness_EnableWrite :
    7 < nBoards s0 ∧ mayWrite core (0x4010 + 4 * 7) s0 = true ∧ boardSt s0.grn 7 ≠ .retired ∧
    countP id (List.zipWith (fun p x => countsAfter (bitAt (0x07 : W32) p) x) (List.range 8) (boardCells s0.grn 7)) < 4 ∧
    ¬ countP id (List.zipWith (fun p x => countsAfter (bitAt (0x0F : W32) p) x) (List.range 8) (boardCells s0.grn 7)) < 4 := by decide +kernel

theorem witness_RestartSource :
    mayWrite core 0x4030 s0 = true ∧ (srcOf s0.grn 0x3F).map (·.st) = some .seasoning ∧ srcOf s0.grn 0x48 = none ∧
    mayWrite core 0x4030 (cell0 (src .stopped) s0) = true ∧ (srcOf (cell0 (src .stopped) s0).grn 0).map (·.st) = some .stopped := by decide +kernel

theorem witness_RetirementAndHealthCommands :
    completes core 0x4034 (packR [(8, b2n true), (0, 7)]) s0 = true ∧ retireOk true 7 s0 = true ∧
    completes core 0x4034 (packR [(8, b2n false), (0, 0x3F)]) s0 = true ∧ retireOk false 0x3F s0 = true ∧ retireOk false 0x48 s0 = false ∧
    mayWrite core 0x5004 s0 = true ∧
    (upAnd { s0 with hlt := { s0.hlt with snapPend := 1 } } = true ∧ ({ s0 with hlt := { s0.hlt with snapPend := 1 } } : State).hlt.snapPend ≠ 0) ∧
    completes core 0x5008 ((BitVec.ofNat 16 60001).setWidth 32 ||| 0x80000000) s0 = true := by decide +kernel

theorem witness_RawCapture :
    completes core 0x4040 (packR [(9, b2n true), (8, 1), (0, 0x3F)]) s0 = true ∧ captureOk 0x3F s0 = true ∧ captureOk 0x7F s0 = false ∧
    completes core 0x4040 (packR [(9, 1), (8, b2n false), (0, 0)]) s0 = true ∧ mayFetch core s0 = true := by decide +kernel

theorem witness_SeedReady :
    (let s := planeAt 7 (condPlane true) s0
     upAnd s = true ∧ (planeOf s 7).map (fun p => (p.st, p.blk)) = some (.cond, some (block true)) ∧ (block true).doomed = true) ∧
    (let s := planeAt 7 (condPlane false) s0
     (planeOf s 7).map (fun p => (p.st, p.blk)) = some (.cond, some (block false)) ∧ (block false).doomed = false ∧
     ∀ l ∈ s.lan.lanes, l.asked = none) := by decide +kernel

theorem witness_SeedHandover :
    let l := { lane .start with asked := some 0 }
    let s := laneAt 3 l (planeAt 1 holdPlane s0)
    upAnd s = true ∧ nextServed s = some 3 ∧ laneOf s 3 = some l ∧ seedFor s l = some 1 ∧ (planeOf s 1).bind (·.seed) = some seed0 ∧
    l.st = .start := by decide +kernel

theorem witness_HeldSeedsAndPlaneTests :
    (let s := atTime 0 4000 (planeAt 1 holdPlane s0)
     upAnd s = true ∧ planeOf s 1 = some holdPlane ∧ holdPlane.seed = some seed0 ∧ msToSlow s.pln.holdMax.toNat ≤ s.clk.slow - seed0.heldSlow) ∧
    (planeOf s0 7).map (fun p => (p.st, p.kats)) = some (.kat, [.reset]) ∧ mayWrite core 0x6080 s0 = true ∧ s0.pln.katBusy = false ∧ s0.pln.runq = [] ∧
    (0xFF : BitVec 8) ≠ 0 ∧ ¬ 2 ^ nBoards s0 ≤ (0xFF : BitVec 8).toNat ∧ 7 < nBoards s0 ∧ (0xFF : BitVec 8).getLsbD 7 = true := by decide +kernel

theorem witness_TallySnapshot :
    booksOk s0 s0.tal.books = true ∧ booksOk s0 { s0.tal.books with creditIn := 1 } = false ∧ s0.hlt.fatal = false ∧
    mayWrite core 0x6800 s0 = true ∧
    (upAnd { s0 with tal := { s0.tal with snapPend := 1 } } = true ∧ ({ s0 with tal := { s0.tal with snapPend := 1 } } : State).tal.snapPend ≠ 0) := by
  decide +kernel

/-- A segment of one lane for queue 0: 64 words. -/
def segment0 : Segment := ⟨List.replicate 64 5, ⟨0, 1, false, 0⟩, 0⟩

theorem witness_LaneMakesSegment :
    (let s := laneAt 15 (lane .run) s0
     upAnd s = true ∧ laneOf s 15 = some (lane .run) ∧ (lane .run).st = .run ∧ (lane .run).seg = none ∧ (lane .run).pr = [] ∧
     (offerTo s 15 0 64).isSome = true) ∧
    (let s := queueAt 15 { DQueue.atReset false 15 with st := .off } (laneAt 15 (lane .stretch) s0)
     upAnd s = true ∧ laneOf s 15 = some (lane .stretch) ∧ (lane .stretch).st = .stretch ∧ offerTo s 15 0 64 = none) := by decide +kernel

theorem witness_LaneTestsAndTimeouts :
    (laneOf s0 15).map (fun l => (l.st, l.kats)) = some (.kat, [.reset]) ∧ s0.lan.en.getLsbD 15 = true ∧ upAnd s0 = true ∧
    (let s := atTime 0 4000 (laneAt 15 (lane .run) s0)
     laneOf s 15 = some (lane .run) ∧ msToSlow s.lan.timeMs.toNat ≤ s.clk.slow - (lane .run).seedSlow) ∧
    backPressured s0 15 (lane .run) = false ∧
    backPressured { s0 with stk := { s0.stk with queues := [] } } 15 (lane .stretch) = true ∧ (lane .wait).st = .wait ∧
    (laneOf (laneAt 15 (lane .start) s0) 15).map (·.st) = some .start ∧
    s0.clk.slow - (lane .run).seedSlow < msToSlow s0.lan.timeMs.toNat ∧ (lane .run).st.inService = true ∧
    ((lane .off).st.inService = false ∧ (lane .off).st ≠ .kat) := by decide +kernel

theorem witness_LaneControl :
    (let s := laneAt 1 (lane .off) (laneAt 0 (lane .run) s0)
     mayWrite core 0x7010 s = true ∧ (List.range (nLanes s)).any (fun n => inService s n && (BitVec.ofNat 16 3).getLsbD n) = true ∧
     1 < nLanes s ∧ laneOf s 1 = some (lane .off) ∧ (lane .off).st = .off ∧ (BitVec.ofNat 16 3).getLsbD 1 = true ∧
     mayWrite core (0x7040 + 4 * 15) s = true ∧ (maskList (nLanes s) 1).any (inService s) = true) ∧
    (let s := laneAt 1 { lane .run with seg := some segment0 } (laneAt 0 (lane .wait) (laneAt 2 (lane .run) s0))
     mayWrite core 0x7014 s = true ∧ (BitVec.ofNat 16 4).getLsbD 0 = false ∧ (lane .wait).st.inService = true ∧ (lane .wait).seg = none ∧
     (lane .wait).kats = [] ∧ lanMaskBad s 3 = false ∧ noneLeft s 3 = false ∧ lanMaskBad s 0 = true ∧ (3 : BitVec 16).getLsbD 1 = true ∧
     (laneOf s 1).map (·.seg) = some (some segment0) ∧ (laneOf s 0).map (·.offPend) = some false) := by decide +kernel

theorem witness_MixAndSegmentOffer :
    (let l := { lane .wait with pieces := [⟨9, 0⟩] }
     let s := laneAt 0 l s0
     upAnd s = true ∧ laneOf s 0 = some l ∧ l.st = .wait ∧ l.seg = none ∧ l.pieces = [⟨9, 0⟩]) ∧
    (let l := { lane .run with seg := some segment0 }
     let s := laneAt 0 l s0
     upAnd s = true ∧ laneOf s 0 = some l ∧ l.seg = some segment0 ∧ (offerTo s 0 l.nextQ segment0.words.length).isSome = true ∧
     offerTo (queueAt 0 { DQueue.atReset false 0 with st := .off } s) 0 l.nextQ segment0.words.length = none) := by decide +kernel
/-- With these jobs in the engine. -/
def withJobs (js : List Job) (s : State) : State := { s with job := { s.job with jobs := js } }
/-- With these streams in the engine. -/
def withStreams (xs : List Stream) (s : State) : State := { s with job := { s.job with streams := xs } }
/-- An accepted job of requester 5 with a head word and operands, numbered 0. -/
def jobOp (h : Word) (ops : List Word) (p : JPhase) : Job :=
  { newJob s0 5 h ops .portA with id := 0, accepted := true, phase := p }
/-- A queue with one resident word, made at time 0. -/
def oneWord (q : Nat) : DQueue := { DQueue.atReset false q with wptr := 1, ents := [⟨0, ⟨0, 1, false, 0⟩, .res⟩] }
/-- A job that waits for one word of queue 0. -/
def waiter (what : WaitFor) : Waiter := ⟨3, 5, 1, what, 0, 0, 0, 0, false, false, false, []⟩
/-- DRAW of one word from queue 0, tag 1, to offset 0 of node 3. -/
def drawHead : Word := 0x0100001000000001
/-- DRAWN of one integer from queue 0, tag 1. -/
def drawnHead : Word := 0x0200001000000001

theorem witness_PatrolAgeAndDistribution :
    upAnd s0 = true ∧ halted s0 = false ∧ (∃ d ∈ s0.stk.queues, occupies d = true ∧ d.base.toNat * 512 ≤ 1048575 ∧ 1048575 < d.base.toNat * 512 + depth d) ∧
    regionVoid s0 (regionAt 1048575) = false ∧ physRegion s0 (regionAt 1048575) < s0.stk.regions.length ∧ halted (fatal s0) = true ∧
    (∀ d ∈ (queueAt 15 { DQueue.atReset false 15 with st := .off } s0).stk.queues,
      occupies d = true → 1048575 < d.base.toNat * 512 ∨ d.base.toNat * 512 + depth d ≤ 1048575) ∧
    (let s := atTime 0 400000 (queueAt 15 (oneWord 15) s0)
     (queueOf s 15).map (fun d => d.ents.any (fun e => decide (e.st = .res) && tooOld s e.tag.t)) = some true) ∧
    (queueOf s0 15).map (fun d => d.ents.any (fun e => decide (e.st = .res) && tooOld s0 e.tag.t)) = some false ∧
    (let j := { jobOp drawnHead [9, 0] .running with grants := [[⟨4, ⟨0, 1, false, 0⟩, none⟩]] }
     jobOf (withJobs [j] s0) 0 = some j ∧ j.op = 0x02 ∧ (4 : Nat) ≤ fldW (jobWord j 0) 0 32 ∧ j.grants = [[⟨4, ⟨0, 1, false, 0⟩, none⟩]]) := by
  decide +kernel

theorem witness_QueueControl :
    queueOf s0 15 = some (DQueue.atReset false 15) ∧ mayWrite core (0x8000 + 64 * 15) s0 = true ∧ (DQueue.atReset false 15).st = .on ∧
    onCapacity s0 (some 15) = true ∧
    (let d := { DQueue.atReset false 15 with st := .off }
     let s := queueAt 15 d s0
     queueOf s 15 = some d ∧ d.st = .off ∧ enableOk s 15 d = true ∧ ¬ capacity s d < 512 ∧ enableOk s 15 { d with base := 0 } = false) ∧
    (let d := { oneWord 15 with st := .draining }
     queueOf (queueAt 15 d s0) 15 = some d ∧ d.st = .draining ∧ bitAt (0 : W32) 7 = false) := by decide +kernel

theorem witness_QueueConfiguration :
    (let d := { DQueue.atReset false 15 with st := .off }
     let s := queueAt 15 d s0
     queueOf s 15 = some d ∧ mayWrite core (0x8000 + 64 * 15 + 8) s = true ∧ mayWrite core (0x8000 + 64 * 15 + 4) s = true ∧ d.st = .off ∧
     ¬ 11 < (11 : W32).toNat % 16 ∧ 11 < (12 : W32).toNat % 16) ∧
    (queueOf s0 0).map (·.st) = some .on ∧ mayWrite core 0x8440 s0 = true ∧ mayFetch core s0 = true := by decide +kernel

theorem witness_QueueMinimumRead :
    (∀ d ∈ s0.stk.queues, d.min ≤ level d) ∧ (∃ t, step s0 = .next t) ∧ queueOf s0 15 = some (DQueue.atReset false 15) ∧
    (∃ t, exec (.ageScrub 15) s0 = .next t) ∧ mayFetch core s0 = true :=
  ⟨by decide +kernel, ⟨_, rfl⟩, by decide +kernel, ⟨_, rfl⟩, by decide +kernel⟩

/-- A ring read by node 5 over port A. -/
def ringA : Acc := ⟨.portA, 5, 0x1234, false⟩

theorem witness_DeliveryWindow :
    (enters core s0 = true ∧ settled s0 = true ∧ slotFree s0 (norm s0 core) = true ∧ readEnds s0 (norm s0 core) 15 3 = some (3, true) ∧
     readEnds s0 (norm s0 core) 15 256 = none ∧ (queueOf s0 15).isSome = true) ∧
    (enters ringA up = true ∧ settled up = true ∧ pathPort ringA.path ≠ none ∧ pathPort ringA.path = some .a ∧ up.sys.bootDone = true) ∧
    halted (fatal s0) = true ∧ enters core (fatal s0) = true := by decide +kernel

theorem witness_GrantAllotted :
    (upAnd (fatal s0) = true ∧ halted (fatal s0) = true) ∧
    (let d := { DQueue.atReset false 15 with waits := [waiter (.job 0)] }
     let s := queueAt 15 d s0
     let t := syncQ 15 (ageScrub 15 s)
     upAnd s = true ∧ halted s = false ∧ (queueOf t 15).map (fun x => (nextWaiter t 15 x, unallotted x)) = some (some (waiter (.job 0)), 0)) ∧
    (let w := { waiter (.read core 8) with req := coreId }
     let s := queueAt 15 { oneWord 15 with waits := [w] } s0
     let t := syncQ 15 (ageScrub 15 s)
     (queueOf t 15).map (fun x => (nextWaiter t 15 x, unallotted x, decide (x.st = .on))) = some (some w, 1, true) ∧
     (waitOf (readWords 15 w.key 2 [] t) 15 w.key).map (fun v => (v.held.length, v.need, decide (v.what = w.what))) = some (1, 1, true) ∧
     w.need = 1 ∧ w.held = []) := by decide +kernel

/-- A frame in a port's store for a held read, whose word stands at the mark of queue 0. -/
def heldTx (lseq : BitVec 12) : TxFrame := ⟨frame0, .held 3, [(0, 0)], 1, 0, 1, true, lseq, 0, 0, 0⟩
/-- An outstanding data write of job 0 to node 3. -/
def write0 : Outst := ⟨7, 3, .a, .data 0 0, [], 1, 0, 1, 0⟩

theorem witness_WaitsThatEnd :
    (let s := atTime 125000 40 (queueAt 0 { DQueue.atReset false 0 with waits := [waiter (.job 0)] } (withJobs [jobOp drawHead [0] .waiting] s0))
     upAnd s = true ∧ (queueOf s 0).map (fun d => d.waits.find? (fun x => decide (x.key = 3))) = some (some (waiter (.job 0))) ∧
     stallOver s 0 0 = true ∧ jobOf s 0 = some (jobOp drawHead [0] .waiting) ∧ (jobOp drawHead [0] .waiting).stop = none) ∧
    stallOver s0 0 0 = false ∧
    (let j := { jobOp 0x0900001000000001 [] .waiting with mask := 1 }
     let s := atTime 125000 40 (withJobs [j] s0)
     jobOf s 0 = some j ∧ j.op = 0x09 ∧ j.stop = none ∧ j.phase = .waiting ∧ stallOver s j.waitTick j.waitSlow = true) ∧
    (let j := { jobOp 0x1200001000000000 [0x100000000, 1] .running with grants := [[⟨4, ⟨0, 1, false, 0⟩, none⟩]] }
     let s := atTime 125000 40 (withJobs [j] s0)
     jobOf s 0 = some j ∧ j.accepted = true ∧ j.stop = none ∧ lacksPath s j = true ∧ stallOver s (max s.ring.noPath j.waitTick) j.waitSlow = true) ∧
    (let s := { atTime 125000 33 (queueAt 0 { oneWord 0 with ents := [⟨0, ⟨0, 1, false, 0⟩, .fly⟩] } s0) with
        ring := { s0.ring with pa := { s0.ring.pa with store := [heldTx 0] } } }
     upAnd s = true ∧ markFrame s 0 = some (.a, 0) ∧ overdue s 0 = true ∧ overdue (atTime 124999 33 s) 0 = false ∧ markFrame s 1 = none) ∧
    (let j := jobOp drawnHead [9, 0] .running
     let s := { atTime 125000 33 (withJobs [j] s0) with ring := { s0.ring with outst := [write0] } }
     s.ring.outst.find? (fun o => decide (o.port = .a) && decide (o.txn = 7)) = some write0 ∧ jobOf s 0 = some j ∧ j.op = 0x02 ∧
     overdue s write0.sent = true ∧ j.stop = none ∧ overdue s0 write0.sent = false) := by decide +kernel

theorem witness_SubmissionWrite :
    enters core s0 = true ∧ settled s0 = true ∧ (submitCauses s0 (norm s0 core) 3 (wordsToBytes [0x3F00000000000000])).filter (·.1) = [] ∧
    (streamOf s0 coreId).bind (·.discard) = none ∧ (submitCauses s0 (norm s0 core) 2 [1]).filter (·.1) = [(true, 3), (true, 0)] := by decide +kernel

/-- A stream of requester 5 with these words, none read yet. -/
def streamOfWords (ws : List Word) : Stream := ⟨5, ws.map (fun w => ⟨w, 0, .portA⟩), none, .portA, none, .portA, []⟩
/-- The words come from the front of the stream that the parser reads next. -/
def parses (ws : List Word) (n : Nat) (s : State) : Bool :=
  let x := streamOfWords ws
  let t := withStreams [x] s
  upAnd t && !halted t && !t.job.stopped && streamsUnique t && decide (rrHead (syncParser t).job.rr = some 5) &&
    decide (streamOf t 5 = some x) && decide ((nextWords x).length = n)

/-- One instruction of each job opcode with tag 1, as the words that the parser takes. -/
def instrWords : List (List Word × Nat) :=
  [([0x0100001000000001, 0xC000000], 2), ([0x0200001000000001, 5, 0xC000000], 3), ([0x0300001000000002, 0xC000000], 2),
   ([0x0800001000010001, 7], 2), ([0x0900001000000001], 1), ([0x1200001000000000, 0x100000000, 1], 3),
   ([0x2000001010010000, 0, 0, 0, 0], 5), ([0x2100001000000001, 0, 0], 3), ([0x2200001000010000, 0, 8, 0], 4), ([0x3000001000000000, 0], 2),
   ([0x3100001000000001], 1), ([0x3200001000000001], 1), ([0x3800001000000002], 1), ([0x3E00001000000000, 0xC1FFFFEFFFFFFFFF], 2)]

theorem witness_JobInstructionParsed : instrWords.all (fun p => parses p.1 p.2 up) = true := by decide +kernel

theorem witness_ControlInstructionParsed :
    parses [0x1001000000000000] 1 up = true ∧ controlBad 0x1001000000000000 = false ∧ parses [0x1100000000000005] 1 up = true ∧
    controlBad 0x1100000000000005 = false ∧ parses [0x3F00000000000000] 1 up = true ∧ controlBad 0x3F00000000000000 = false ∧
    parses [0x7700000000000000, 0x3F00000000000000] 1 up = true ∧ badHead 0x7700000000000000 = true ∧ knownOp 0x7700000000000000 = false ∧
    badHead 0x1104000000000000 = true ∧
    (let x := { streamOfWords [0x3F00000000000000] with atHead := some 9 }
     let t := withStreams [x] up
     upAnd t = true ∧ halted t = false ∧ t.job.stopped = false ∧ streamsUnique t = true ∧ rrHead (syncParser t).job.rr = some 5 ∧
     streamOf t 5 = some x ∧ (nextWords x).map (·.w) = [0x3F00000000000000]) := by decide +kernel

/-- Fabric time at a count of ns, CK_TIME running; the tick before stood 8 ns earlier. -/
def atNs (n : Nat) (s : State) : State :=
  { s with tim := { s.tim with clkOk := true, cnt := BitVec.ofNat 80 (n * 2 ^ 32), prev := BitVec.ofNat 80 ((n - 8) * 2 ^ 32) } }

theorem witness_LaunchesAndFences :
    (let j := { jobOp drawHead [0xC000000] .held with target := some 100 }
     upAnd (withJobs [j] (atNs 100 up)) = true ∧ halted (withJobs [j] (atNs 100 up)) = false ∧ jobOf (withJobs [j] (atNs 100 up)) 0 = some j ∧
     j.target = some 100 ∧ j.phase = .held ∧ reached (atNs 100 up) 100 = true ∧ startHeld (withJobs [j] (atNs 100 up)) j.req 0 = false ∧
     j.stop = none ∧ onTime (atNs 100 up) 100 = true ∧ onTime (atNs 500 up) 100 = false ∧ inLateWindow (atNs 500 up) 100 = true ∧
     inLateWindow (atNs 1000101 up) 100 = false ∧ reached (atNs 1000101 up) 100 = true ∧ j.op = 0x01 ∧
     (queueOf (withJobs [j] (atNs 100 up)) (jobSq j)).map (fun d => (d.st, d.waits)) = some (.on, []) ∧
     0 < jobNeed (withJobs [j] (atNs 100 up)) j ∧ (jobOp 0x3200001000000001 [] .held).op = 0x32) ∧
    (streamOf (withStreams [{ streamOfWords [] with fences := [⟨.all, 0⟩] }] up) 5).isSome = true ∧
    (let j := { jobOp 0x1200001000000000 [0x100000000, 1] .running with t0 := 100 }
     let s := withJobs [j] (atNs 100 up)
     jobOf s 0 = some j ∧ beaconRuns s j = true ∧ j.verdict = none ∧ j.asked < fldW (jobWord j 0) 32 8 ∧
     reached s (beaconDue j j.asked - 200000) = true ∧ (queueOf s (jobSq j)).map (fun d => (d.st, d.waits)) = some (.on, []) ∧
     shortGrant j = 0 ∧ j.launched + j.grants.length ≤ j.asked ∧ 0 < fldW (jobWord j 1) 0 6) ∧
    (let j := { jobOp 0x1200001000000000 [0x100000000, 1] .running with t0 := 100, grants := [[⟨4, ⟨0, 1, false, 0⟩, none⟩]] }
     let s := withJobs [j] (atNs 100 up)
     jobOf s 0 = some j ∧ beaconRuns s j = true ∧ s.tim.clkOk = true ∧ reached s (beaconDue j j.launched) = true ∧ portUp s = true ∧
     fldW (jobWord j 1) 0 6 ≤ 1) := by decide +kernel

theorem witness_RecordsAndJobRegisters :
    (let j := { jobOp drawHead [0] .record with path := .core, stop := some stOk }
     let s := withJobs [j] s0
     upAnd s = true ∧ s.job.jobs.find? (fun j => waitsRoom j && recordDue s j) = some j ∧ recordRoom s = true) ∧
    (let j := { jobOp drawHead [0] .record with path := .core, stop := some stOk }
     let s := { withJobs [j] s0 with evt := { s0.evt with queue := List.replicate 896 ⟨0, 0, 0, 0⟩ } }
     s.job.jobs.find? (fun j => waitsRoom j && recordDue s j) = some j ∧ recordRoom s = false) ∧
    mayWrite core 0x9048 s0 = true ∧ mayFetch core s0 = true := by decide +kernel
/-- With bench n replaced. -/
def benchAt (n : Nat) (b : Bench) (s : State) : State := { s with bne := { s.bne with benches := upd s.bne.benches n (fun _ => b) } }
/-- A bench in a state. -/
def bench (t : BenchState) : Bench := { Bench.atReset with st := t, kats := [] }
/-- A VERIFY of an ECDSA signature with the message digest given, on bench 3, every part read. -/
def verifyJob : Job :=
  { jobOp 0x2020001010010000 [0, 0, 0, 0] .running with
    bench := some 3, keyBytes := [4], sigBytes := [1], digest := some (List.replicate 32 0) }

theorem witness_BenchOwnership :
    (let s := benchAt 2 (bench .idle) (benchAt 3 (bench .idle) s0)
     3 < nBenches s ∧ benchOf s 3 = some (bench .idle) ∧ mayWrite core (0xA004 + 16 * 3) s = true ∧ claimOk s (who core s) 3 = true ∧
     upAnd s = true ∧ (bench .idle).owner = none) ∧
    (let b := { bench .idle with owner := some coreId }
     let s := atTime 0 4000 (benchAt 3 b s0)
     benchOf s 3 = some b ∧ b.owner = some (who core s) ∧ b.job.isSome = false ∧ b.owner ≠ none ∧ s.bne.idleMs ≠ 0 ∧ b.st = .idle ∧
     msToSlow s.bne.idleMs.toNat ≤ s.clk.slow - b.idleSlow ∧ (∀ j ∈ benchWaiters s, b.owner ≠ some j.req) ∧
     enters core s = true ∧ settled s = true ∧ (0xFFFC : Nat) < 0x10000) := by decide +kernel

theorem witness_BenchJobs :
    (let j := { jobOp 0x2100001000000001 [0, 0] .waiting with id := 4 }
     let s := benchAt 3 (bench .idle) (withJobs [j] s0)
     upAnd s = true ∧ halted s = false ∧ benchPick (syncBench s) = some (j, 3)) ∧
    (let b := { bench .busy with job := some 0 }
     let s := benchAt 3 b (withJobs [verifyJob] s0)
     benchOf s 3 = some b ∧ b.st = .busy ∧ b.job = some verifyJob.id ∧ jobOf s verifyJob.id = some verifyJob ∧ verifyJob.op = 0x20 ∧
     verifyJob.stop = none ∧ verifyJob.read = none ∧ nextRead verifyJob = none) ∧
    (benchOf (benchAt 3 (bench .zero) s0) 3).map (·.st) = some .zero ∧ (benchOf s0 3).map (·.st) = some .load ∧
    (let r : SrcRead := ⟨.digest, 0, 8, [1, 2, 3, 4, 5, 6, 7, 8], 0, false⟩
     let j := { jobOp 0x2200001000010000 [0, 8, 0] .running with hashing := true, read := some r }
     let s := withJobs [j] s0
     halted s = false ∧ rrHead (syncHash s).bne.hashRr = some 5 ∧
     argMin (·.got) ((syncHash s).job.jobs.filter (fun j => hashReady j && decide (j.req = 5))) = some j ∧ j.read = some r) := by decide +kernel

theorem witness_BenchTestsAndMicrocode :
    mayWrite core 0xA104 s0 = true ∧ s0.bne.katBusy = false ∧
    (let s := benchAt 0 (bench .idle) s0
     s.bne.katBusy = false ∧ (benchOf s 0).map (·.st) = some .idle ∧ maskList 4 1 = [0]) ∧
    (let b := { bench .kat with kats := [.reset] }
     let s := benchAt 3 b s0
     upAnd s = true ∧ benchOf s 3 = some b ∧ b.st = .kat ∧ b.kats = [.reset]) ∧
    s0.bne.hashKats = [.reset] ∧ ({ s0 with bne := { s0.bne with loaded := true } } : State).bne.loaded = true ∧
    (let s := benchAt 3 (bench .busy) s0; 3 < nBenches s ∧ benchOf s 3 = some (bench .busy) ∧ (bench .busy).st ≠ .load ∧
      (bench .busy).st ≠ .halt) := by decide +kernel

/-- With a port changed. -/
def portWith (p : PortId) (f : Port → Port) (s : State) : State := { s with ring := updPort s.ring p f }

theorem witness_RingPortStates :
    upAnd s0 = true ∧ (portAt s0 .b).st = .down ∧ (portAt (portWith .b (fun x => { x with st := .train }) s0) .b).st = .train ∧
    fldW 0xF800500000000000 58 6 = 0x3E ∧ fldW 0xFC00000000000000 58 6 ≠ 0x3E ∧
    (let s := atTime 12500000 0 (portWith .a (fun x => { x with st := .ready }) up)
     s.sys.bootDone = true ∧ s.ring.autoRestore = true ∧ (portAt s .a).st = .ready ∧
     s.ring.restoreMs.toNat * 125000 ≤ s.clk.ticks - (portAt s .a).readyTick) ∧
    mayWrite core 0xB010 up = true := by decide +kernel

theorem witness_PortFailuresAndLinkFrames :
    (let s := portWith .a (fun x => { x with store := [{ heldTx 4 with replays := 8 }] }) up
     upAnd s = true ∧ (portAt s .a).st = .service ∧ (∃ t ∈ (portAt s .a).store, s.ring.retryMax.toNat ≤ t.replays)) ∧
    (let s := { up with ring := { up.ring with foTick := some 0, foLast := 0x20000000 } }
     (portAt s .a).st = .service ∧ (portAt s .b).st = .down ∧ s.ring.foTick = some s.clk.ticks ∧ s.ring.foLast.getLsbD 30 = false ∧
     fld s.ring.foLast 29 1 = portIdx .b ∧ up.ring.foTick ≠ some up.clk.ticks) ∧
    (let s := atTime 62500 0 (portWith .a (fun x => { x with st := .ready, store := [heldTx 4], txq := [plainTx .plain frame0] }) up)
     upAnd s = true ∧ (portAt s .a).st = .ready ∧ (∀ t ∈ (portAt s .a).store, t.replays < s.ring.retryMax.toNat) ∧
     (portAt s .a).credits.getD 2 0 = 0 ∧ (∃ t ∈ (portAt s .a).txq, poolOf (portAt s .a).partner t.f = 2) ∧
     usTicks (10 * s.ring.creditTo.toNat) ≤ s.clk.ticks - (portAt s .a).creditTick.getD 2 s.clk.ticks ∧
     (portAt s .a).st ≠ .down ∧ (portAt s .a).store ≠ [] ∧ usTicks s.ring.replayUs.toNat ≤ s.clk.ticks - (portAt s .a).ackTick) ∧
    fldW 0xFC00004000000000 58 6 = 0x3F ∧ fldW 0xFE00004000000000 57 1 = 1 ∧ ackedBy (BitVec.ofNat 12 (fldW 0xFC00004000000000 36 12)) 4 = true ∧
    ackedBy (BitVec.ofNat 12 (fldW 0xFC00004000000000 36 12)) 5 = false := by decide +kernel

/-- A frame of a type and virtual channel from node 5 to the node 1. -/
def frameOfType (ty : BitVec 6) (vc : BitVec 2) (dst hops : BitVec 12) (h2 : Word) : Frame :=
  ⟨ty, vc, 5, dst, hops, false, false, false, false, 7, 0, 0, 0, h2, []⟩

theorem witness_ForwardedFrames :
    upAnd up = true ∧ (portAt up .a).st ≠ .down ∧
    (let f := frameOfType 0x01 0 9 0xFFF 0
     forMe up f = false ∧ isBcast f = false ∧ enumHere f = false ∧ f.hops ≠ 1 ∧ isBad up f = false) ∧
    isBad up (frameOfType 0x01 0 9 1 0) = true ∧ isBad up (frameOfType 0x3F 0 1 2 0) = true ∧
    (let f := frameOfType 0x06 2 0xFFF 2 0
     f.dst = 0xFFF ∧ f.type = 0x06 ∧ f.vc = 2 ∧ (!(up.ring.enumDone && decide (f.src = up.ring.nodeId))) = true ∧ f.hops ≠ 1 ∧
     (frameOfType 0x06 2 0xFFF 1 0).hops = 1) ∧
    (let f := frameOfType 0x09 2 0xFFF 9 0
     f.dst = 0xFFF ∧ f.type = 0x09 ∧ f.vc = 2) := by decide +kernel

theorem witness_ResponsesAndEnumeration :
    (let s := { withJobs [jobOp drawHead [0xC000000] .running] up with
        ring := { up.ring with outst := [{ write0 with dst := 5 }, { write0 with txn := 8, dst := 5, kind := .read 0 }] } }
     let f := frameOfType 0x04 1 1 9 0
     let g := { frameOfType 0x02 1 1 9 0 with txn := 8, status := 2 }
     upAnd s = true ∧ (portAt s .a).st ≠ .down ∧ forMe s f = true ∧ f.type = 0x04 ∧ f.vc = 1 ∧ outstFor s f = some { write0 with dst := 5 } ∧
     forMe s g = true ∧ g.type = 0x02 ∧ g.vc = 1 ∧ (outstFor s g).map (·.kind) = some (.read 0) ∧ (jobOf s 0).map (·.stop) = some none ∧
     g.status ≠ 0 ∧ outstFor up f = none ∧ outstFor up g = none ∧ forMe up f = true ∧ forMe up g = true) ∧
    (let f := { frameOfType 0x0A 0 0xFFF 1 2 with addr := 0x8000000 }
     f.type = 0x0A ∧ f.hops = 1 ∧ f.vc = 0 ∧ f.addr.toNat % 0x4000000 = 0 ∧ f.h2.setWidth 12 ≠ (0xFFF : BitVec 12)) ∧
    (portAt { s0 with ring := { s0.ring with pa := { s0.ring.pa with st := .ready } } } .a).st ≠ .down ∧
    enters core s0 = true ∧ settled s0 = true ∧ isReserved 0x10000 = true ∧ isReserved 0x3000000 = true ∧ isReserved 0xFFFF = false ∧
    isSubmission 0x200000 = true ∧ isSubmission 0x23FFFF = true ∧ isReserved 0x240000 = true ∧ isReserved 0x200000 = false := by decide +kernel

/-- A manager: node 1, ACTIVE, with worker 5 in slot 62 of its table, last heard of at time 0. -/
def manager : State :=
  { up with ring := { up.ring with
      mode := .active, manager := 1, workers := upd up.ring.workers 62 (fun _ => some ⟨5, 0, none, none, some 0, false, none, none⟩) } }

theorem witness_ManagerAndWorkers :
    (upAnd manager = true ∧ manager.ring.mode = .active ∧ mayOriginate manager = true ∧ tickDue manager manager.ring.annTick 12500000 = true) ∧
    (up.ring.mode ≠ .active ∧ up.ring.manager ≠ 0xFFF ∧ mayOriginate up = true ∧ tickDue up up.ring.helloTick 1250000000 = true) ∧
    (let f := frameOfType 0x07 2 0xFFF 9 0x0100000000000000
     (portAt up .a).st ≠ .down ∧ f.type = 0x07 ∧ f.vc = 2 ∧ subType f = 0x01 ∧ f.dst = 0xFFF ∧ fromMe up f = false) ∧
    (let s := atTime 37500000 0 { manager with ring := { manager.ring with mode := .standby } }
     s.ring.mode = .standby ∧ 37500000 ≤ s.clk.ticks - s.ring.lowerTick) ∧
    (let f := frameOfType 0x08 2 1 9 0x8100000000000000
     (portAt manager .a).st ≠ .down ∧ isWkr manager f 0x81 = true ∧ slotOf manager 5 = some 62 ∧ slotOf manager 6 = none ∧
     manager.ring.workers.findIdx? (·.isNone) = some 0) ∧
    (workerAt manager 62).isSome = true ∧ 3750000000 ≤ (atTime 3750000000 0 manager).clk.ticks - 0 ∧ manager.clk.ticks - 0 < 3750000000 := by
  decide +kernel

theorem witness_PeersGatheringAndAlarms :
    (let s := atTime 12500000 0 (atTime 12400000 0 manager)
     upAnd s = true ∧ workerAt s 62 = some ⟨5, 0, none, none, some 0, false, none, none⟩ ∧ s.ring.mode = .active ∧ mayOriginate s = true ∧
     s.ring.peerEn = true ∧ halted s = false ∧ slotDue (atTime 12400000 0 manager) 12500000 62 none = true ∧
     (queueOf s s.ring.pq.toNat).map (·.st) = some .on ∧ s.ring.gatherMs ≠ 0 ∧
     slotDue (atTime 124000000 0 manager) (s.ring.gatherMs.toNat * 125000) 62 none = true) ∧
    (let f := frameOfType 0x07 2 1 9 0x0200000000000000
     let g := frameOfType 0x07 2 1 9 0x0300000000000000
     (portAt up .a).st ≠ .down ∧ forMe up f = true ∧ up.ring.mode ≠ .active ∧ f.src = up.ring.manager ∧ f.src ≠ 0xFFF ∧ subType f = 0x02 ∧
     up.pwr.role = false ∧ f.type = 0x07 ∧ f.vc = 2 ∧ subType g = 0x03 ∧ forMe up g = true) ∧
    (let f (k : Word) := frameOfType 0x08 2 1 9 (k <<< 56)
     isWkr manager (f 0x82) 0x82 = true ∧ isWkr manager (f 0x83) 0x83 = true ∧ isWkr manager (f 0x84) 0x84 = true ∧
     slotOf manager (f 0x82).src = some 62) ∧
    (let s := atTime 0 400000 manager
     (workerAt s 62).map (fun w => (isStale s w, w.staleTold)) = some (true, false)) ∧
    (workerAt manager 62).map (isStale manager) = some false ∧
    (let f := frameOfType 0x07 2 0xFFF 9 0x0400005000000802
     f.type = 0x07 ∧ f.vc = 2 ∧ subType f = 0x04 ∧ f.dst = 0xFFF ∧ fromMe up f = false ∧ f.src = up.ring.manager ∧ f.src ≠ 0xFFF ∧
     up.ring.faOrigins.contains (f.h2.extractLsb' 36 12) = false) := by decide +kernel

theorem witness_TimeDiscipline :
    completes core 0xC054 (timWord true true true) s0 = true ∧ completes core 0xC054 (timWord false true false) s0 = true ∧
    completes core 0xC054 (timWord false false true) s0 = true ∧ s0.tim.clkOk = false ∧ (atNs 100 s0).tim.clkOk = true ∧
    (let f := frameOfType 0x07 2 0xFFF 9 0x0500000000000000
     (portAt up .a).st ≠ .down ∧ isMgr up f 0x05 true = true ∧ fromMe up f = false ∧ up.ring.mode ≠ .active ∧ f.src = up.ring.manager ∧
     f.src ≠ 0xFFF ∧ (atNs 100 up).tim.src = 1 ∧ upAnd (atNs 100 up) = true) ∧
    (let s := { atTime 12500 0 (atNs 100 s0) with tim := { (atNs 100 s0).tim with src := 2, inLast := some 0 } }
     s.tim.src = 2 ∧ s.tim.src ≠ 1 ∧ s.tim.inLast = some 0 ∧ 12500 ≤ s.clk.ticks - 0 ∧ (atTime 12499 0 s).clk.ticks - 0 < 12500) ∧
    (manager.ring.mode = .active ∧ manager.tim.syncTxEn = true ∧ mayOriginate manager = true ∧
     tickDue manager manager.ring.syncTick (manager.tim.syncTxMs.toNat * 125000) = true) ∧
    s0.tim.metT ≠ some s0.clk.ticks ∧ ({ s0 with tim := { s0.tim with metT := some 0 } } : State).tim.metT = some s0.clk.ticks ∧
    s0.tim.held = none ∧ (0 : Int).natAbs ≤ s0.tim.slewLimit.toNat * 2 ^ 32 ∧
    (let s := { atTime 0 4000 s0 with tim := { s0.tim with disc := .track } }
     s.tim.disc = .track ∧ s.tim.holdMs.toNat * 32768 / 2000 ≤ s.clk.slow - s.tim.trackSlow) := by decide +kernel

theorem witness_ClockLossAndPulses :
    upAnd (atNs 100 s0) = true ∧ s0.clk.ckTime = true ∧ ({ s0 with clk := { s0.clk with ckTime := false } } : State).clk.ckTime = false ∧
    (let s := { atNs 100 s0 with tim := { (atNs 100 s0).tim with syncEn := true, outNext := some 100 } }
     s.tim.outNext = some 100 ∧ s.tim.syncEn = true ∧ s.tim.clkOk = true ∧ reached s 100 = true ∧ reached s 101 = false) ∧
    (let s := { atTime 125 0 s0 with tim := { s0.tim with outActive := true, outLen := 125 } }
     s.tim.outActive = true ∧ s.tim.outLen ≤ s.clk.ticks - s.tim.outStart) ∧ mayWrite core 0xC034 s0 = true := by decide +kernel

/-- The port as a slave of a local host. -/
def slave (f : Lsp → Lsp) (s : State) : State := { s with lsp := f { s.lsp with role := true } }

theorem witness_LocalSerialSlave :
    (upAnd s0 = true ∧ s0.lsp.role = false) ∧
    (let s := slave id s0
     s.lsp.role = true ∧ s.lsp.slavePend = false ∧ s.lsp.engine = true ∧ s.lsp.engEff = true ∧ s.lsp.cmd = none ∧ s.lsp.resp = none ∧
     (List.replicate 40 true).length = 40) ∧
    fld 0x20000000 29 3 = 1 ∧ fld 0xE0000000 29 3 ≠ 1 ∧ (9 : Nat) < 10 ∧ (10 : Nat) ≤ 10 ∧
    (let r : EngResp := { words := [0x20000000, 7], sent := 1, rand := [], moved := 0, unchecked := false, lead := 0 }
     let s := slave (fun x => { x with resp := some r }) s0
     s.lsp.role = true ∧ s.lsp.slavePend = false ∧ s.lsp.engine = true ∧ s.lsp.engEff = true ∧ s.lsp.resp = some r ∧ (0 : Nat) < 1 ∧
     r.sent < r.words.length) ∧
    (let s := slave (fun x => { x with engine := false, engEff := false }) s0
     s.lsp.engine = false ∧ s.lsp.engEff = false ∧ 4 ≤ s.lsp.len.toNat ∧ s.lsp.len.toNat ≤ 32 ∧ (List.replicate 40 true).length = 8 + s.lsp.len.toNat ∧
     s.lsp.rx.length < 64) ∧
    (let s := slave (fun x => { x with cmd := some ⟨0x20000000, [], false⟩ }) up
     engReady s 1 = some ⟨0x20000000, [], false⟩ ∧ s.sys.bootDone = true ∧ regEnds s s.sil.lspId false 0 1 = none ∧ readsCmp s 0 1 = false ∧
     regEnds s s.sil.lspId false 0xFFFC 2 = some 1 ∧ (0xFFFC : Nat) < 0x10000 ∧ s.sys.compatEn = false) ∧
    (let s := slave (fun x => { x with cmd := some ⟨0x40000009, [1], false⟩ }) { up with sil := { up.sil with lspId := 0xFFD, classes := List.replicate 256 0xFFFFFFFF } }
     engReady s 2 = some ⟨0x40000009, [1], false⟩ ∧ s.sys.bootDone = true ∧ regEnds s s.sil.lspId true 0x24 1 = none) ∧
    engReady s0 1 = none ∧ engReady s0 2 = none ∧
    (let s := slave (fun x => { x with engine := false }) s0
     s.lsp.engine ≠ s.lsp.engEff ∧ engPending s = false) ∧
    mayFetch core s0 = true ∧ mayWrite core 0xD01C s0 = true ∧ mayWrite core 0xD000 s0 = true ∧ mayWrite core 0xD000 up = true := by decide +kernel

/-- A write of 8 bytes to window 0, at the front of the bus. -/
def write8 : XipOp := ⟨.access core, 0, true, 0, 8, List.replicate 8 0, 0, false, 0, 0, true, 0⟩
/-- With these uses of the flash bus. -/
def busOf (l : List XipOp) (s : State) : State := { s with lsp := { s.lsp with ops := l } }

theorem witness_FlashBus :
    enters core s0 = true ∧ settled s0 = true ∧ (1 : Nat) < 2 ∧ (0xFFFFFF : Nat) < 0x1000000 ∧ 0x1000000 < 0xFFFFFF + 2 ∧
    permits s0 (who core s0) .xipRd = true ∧ halted s0 = false ∧ halted (fatal s0) = true ∧ s0.lsp.role = false ∧ xipLocked s0 1 = false ∧
    permits up (who ringA up) .xipWr = false ∧ enters ringA up = true ∧
    completes core 0xD088 ((0x00000003 : W32) ||| 0x80000000) s0 = true ∧ completes core 0xD098 (lockWord true true false) s0 = true ∧
    completes core 0xD098 (lockWord true false true) s0 = true ∧
    (let o := { write8 with write := false, data := [] }
     upAnd (busOf [o] s0) = true ∧ (busOf [o] s0).lsp.ops = [o] ∧ o.started = true ∧ o.polling = false ∧ (List.replicate 8 (1 : Byte)).length = o.len) ∧
    (let o : XipOp := ⟨.raw, 0, false, 0, 0, [], 0, false, 0, 0, true, 0x80000003⟩
     o.what = .raw ∧ o.started = true ∧ ([1, 2, 3] : List Byte).length = fld o.cmd 0 7) ∧
    (write8.what = .access core ∧ write8.write = true ∧ write8.started = true ∧ write8.polling = false) ∧
    (let o := { write8 with polling := true }
     let s := atTime 1250 0 (busOf [o] s0)
     o.polling = true ∧ pollOver s o = false ∧ usTicks (xipCfg s o.win).intervalUs.toNat ≤ s.clk.ticks - o.pollTick ∧
     (0x01 : Byte).getLsbD (xipCfg s o.win).busyBit.toNat ≠ (xipCfg s o.win).busyPol ∧
     (0x00 : Byte).getLsbD (xipCfg s o.win).busyBit.toNat = (xipCfg s o.win).busyPol ∧ o.len ≤ o.done + pieceLen (xipCfg s o.win) o ∧
     pollOver (atTime 1250000 0 s) o = true ∧ pollOver (atTime 1249999 0 s) o = false) := by decide +kernel

theorem witness_RegisterAccess :
    ([0x6088, 0x7008, 0x8400, 0x8404, 0x8430, 0xA100, 0xB01C, 0xC01C, 0xC024, 0xC02C, 0xC040, 0xD008, 0xE008, 0xC050, 0x9030, 0xE020].all
      (fun off => mayWrite core off s0)) = true ∧
    enters core s0 = true ∧ settled s0 = true ∧ regEnds s0 (who core s0) true 0xFFFC 2 = some 1 ∧ regEnds s0 (who core s0) true 0 0 = some 3 ∧
    regEnds s0 (who core s0) true 2 1 = some 3 ∧ regEnds up (who ringA up) true 0 1 = some 2 ∧
    regEnds s0 (who core s0) false 0 64 = none ∧ readsCmp s0 0 64 = false ∧ ([0] : List Byte) ≠ [] ∧ (0 : Nat) < 3 ∧
    (4 : Nat) < 64 ∧ (0 : Nat) + 4 * 4 = 0x0010 := by decide +kernel

theorem witness_GuardedPairs :
    0x5008 ∈ guardAddrs ∧ mayWrite core 0x5008 s0 = true ∧ isPinned s0 0x5008 = false ∧ countP (fun x => decide (s0.clk.slow < x.slow + 33)) s0.sys.armed < 16 ∧
    isPinned { s0 with hlt := { s0.hlt with retryPin := true } } 0x5008 = true ∧
    (let s := sysOf (fun x => { x with armed := (List.range 16).map (fun i => ⟨BitVec.ofNat 12 i, 0x9000 + i, 0, 0⟩) }) s0
     (∀ x ∈ s.sys.armed, decide (s.clk.slow < x.slow + 33) = true ∧ x.req ≠ who core s ∧ x.off ≠ 0x5008) ∧ 16 ≤ s.sys.armed.length ∧ mayWrite core 0x5008 s = true) ∧
    (let s := sysOf (fun x => { x with armed := [⟨coreId, 0x5008, 0x80000001, 0⟩] }) s0
     mayWrite core (0x5008 + 4) s = true ∧ armedOf s (who core s) = some ⟨coreId, 0x5008, 0x80000001, 0⟩ ∧ (0x7FFFFFFE : W32) = ~~~0x80000001 ∧
     (0 : W32) ≠ ~~~0x80000001 ∧ upAnd s = true ∧ decide ((atTime 0 33 s).clk.slow < 0 + 33) = false ∧
     decide ((atTime 0 32 s).clk.slow < 0 + 33) = true) ∧
    armedOf s0 (who core s0) = none ∧ mayWrite core (0x5008 + 4) s0 = true := by decide +kernel

/-- The mailbox is held by a requester since time 0. -/
def mbxOf (r : ReqId) (s : State) : State := { s with mbx := { s.mbx with holder := some r } }

theorem witness_Mailbox :
    mayWrite core 0x3000 s0 = true ∧ s0.mbx.holder.isNone = true ∧ mayWrite core 0x3000 (mbxOf coreId s0) = true ∧
    (mbxOf coreId s0).mbx.holder = some (who core s0) ∧ mayWrite core 0x3000 (mbxOf 5 s0) = true ∧ (mbxOf 5 s0).mbx.holder ≠ some (who core s0) ∧
    mayFetch core s0 = true ∧ upAnd (mbxOf 5 s0) = true ∧ (mbxOf 5 s0).mbx.holder = some 5 ∧
    (mbxOf 5 s0).mbx.slow + 33 ≤ (atTime 0 33 (mbxOf 5 s0)).clk.slow ∧ (atTime 0 32 (mbxOf 5 s0)).clk.slow < (mbxOf 5 s0).mbx.slow + 33 ∧
    s0.mbx.holder = none ∧ mbxErr up 5 false 0x0600 = 2 ∧ mbxErr s0 coreId false 0x0C00 = 0 := by decide +kernel

theorem witness_CompatibilityWindow :
    mayFetch core s0 = true ∧ s0.sys.compatEn = false ∧ mayWrite core 0xF008 s0 = true ∧ mayWrite core 0xF024 s0 = true ∧
    (let s := sysOf (fun x => { x with compatEn := true }) s0
     mayFetch core s = true ∧ s.sys.compatEn = true ∧ slotFree s (norm s core) = true ∧ readEnds s (norm s core) 0 4 = none ∧
     (queueOf s 0).isSome = true ∧ s.stk.cmpAcc = none ∧ s.stk.cmpBit = false ∧ mayWrite core 0xF008 s = true ∧
     mayWrite core 0xF024 s = true ∧ boundInService (laneAt 0 (lane .run) s) 0 ≠ []) ∧
    (let w := { waiter (.read core 4) with req := coreId }
     let t := syncQ 0 (ageScrub 0 (queueAt 0 { oneWord 0 with waits := [w] } s0))
     (queueOf t 0).map (fun x => (nextWaiter t 0 x, unallotted x, x.st)) = some (some w, 1, .on) ∧ w.held = [] ∧ w.need = 1 ∧
     (waitOf (readWords 0 w.key 2 [] t) 0 w.key).map (fun v => (v.held.length, v.need, decide (v.what = w.what))) = some (1, 1, true)) := by decide +kernel
/-! ### One step each, with the result that the spec, or the standard that it names, states -/

/-- FIPS 180-4 example, SHA-256 of abc. -/
theorem test_sha256 : sha256 [0x61, 0x62, 0x63] = bytesBE 32 0xba7816bf8f01cfea414140de5dae2223b00361a396177a9cb410ff61f20015ad := by
  decide +kernel
/-- FIPS 180-4 example, SHA-384 of abc. -/
theorem test_sha384 : sha384 [0x61, 0x62, 0x63] = bytesBE 48
    0xcb00753f45a35e8bb5a03d699ac65007272c32ab0eded1631a8b605a43ff5bed8086072ba1e7cc2358baeca134c825a7 := by decide +kernel
/-- FIPS 180-4 example, SHA-512 of abc (Table 4-4). -/
theorem test_sha512 : sha512 [0x61, 0x62, 0x63] = bytesBE 64
    0xddaf35a193617abacc417349ae20413112e6fa4e89a97ea20a9eeee64b55d39a2192992a274fc1a836ba3c23a3feebbd454d4423643ce80e2a9ac94fa54ca49f := by
  decide +kernel
/-- FIPS 197, Appendix C.3 (R119). -/
theorem test_aes256 : aes256 0x000102030405060708090a0b0c0d0e0f101112131415161718191a1b1c1d1e1f 0x00112233445566778899aabbccddeeff =
    0x8ea2b7ca516745bfeafc49904b496089 := by decide +kernel

/-- R314: a clamped setting takes the nearest limit. -/
theorem test_register_write_clamps :
    (after (.registerWrite core 0x6088 ⟨[0], []⟩) s0 (·.pln.holdMax), after (.registerWrite core 0x8404 ⟨[5], []⟩) s0 (·.stk.stallUs)) = (some 1, some 10) := by
  decide +kernel
/-- R312: the first offset of a reserved range ends with UNMAPPED, which is status 1. -/
theorem test_unmapped : after (.unmappedAccess core 0x10000 false) s0 (fun t => (t.core.status, t.core.data)) = some (1, []) := by decide +kernel
/-- R320: the value alone is armed, and its complement completes the pair. -/
theorem test_guard_arm : after (.guardArm core 0x0008 1) s0 (fun t => (t.sys.bootDone, t.sys.armed.map (·.val))) = some (false, [1]) := by decide +kernel
theorem test_guard_complement :
    after (.guardComplement core 0x000C 0xFFFFFFFE) (sysOf (fun x => { x with armed := [⟨coreId, 0x0008, 1, 0⟩] }) s0)
      (fun t => (t.sys.bootDone, t.sys.armed.length, t.sil.stage)) = some (true, 0, 5) := by decide +kernel
/-- R341: the same by the command that makes both writes. -/
theorem test_boot_done : stepOf (.bootDone core) s0 (fun t => (t.sys.bootDone, t.pwr.ready, t.pending.length)) = some (true, true, 0) := by decide +kernel
/-- R331: a strap that reads 0b10 after the release. -/
theorem test_release : after (.internalResetRelease { ResetPins.quiet with bootSel1 := true }) held (fun t => (t.pwr.bootSel, t.sys.tamper)) =
    some (2, false) := by decide +kernel
/-- R348, R349: a pulse of 200 ns enters tamper hold with fatal cause 0x07; one of 49 ns does nothing. -/
theorem test_tamper : (after (.tamper 200) s0 (fun t => (t.hlt.fatalCause, t.sil.stage)), after (.tamper 49) s0 (·.sys.tamper)) =
    (some (7, 8), some false) := by decide +kernel

/-- Worked example of chapter 13: HLT_RETRY of 2,000 ms with PIN, by one WRITE of the access engine. -/
theorem test_engine_write :
    after .engineWrite
      (slave (fun x => { x with cmd := some ⟨0x41001402, [0x800007D0, 0x7FFFF82F], false⟩ })
        { up with sil := { up.sil with lspId := 0x2A7, classes := List.replicate 256 0xFFFFFFFF } })
      (fun t => (regVal t 0x2A7 0x5008, t.hlt.retryMs)) = some (0x800007D0, 2000) := by decide +kernel
/-- The same example: the later command writes a pinned register, and SYS_LOCK_VIOL reads 0x82A7_500C. -/
theorem test_engine_write_pinned :
    after .engineWrite
      (slave (fun x => { x with cmd := some ⟨0x41001402, [0x000003E8, 0xFFFFFC17], false⟩ })
        { up with
          sil := { up.sil with lspId := 0x2A7, classes := List.replicate 256 0xFFFFFFFF }
          hlt := { up.hlt with retryPin := true, retryMs := 2000 } })
      (fun t => (regVal t 0x2A7 0x0010, t.hlt.retryMs, t.evt.queue.map (fun e => (e.w0 &&& 0xFFFFFFFF, e.w1.extractLsb' 32 16)))) =
      some (0x82A7500C, 2000, [(0x50082902, 0x02A7)]) := by decide +kernel
/-- Worked example of chapter 12: a READ of 16 words from the delivery window of queue 2 waits there for 8 words. -/
theorem test_engine_read :
    after .engineRead (slave (fun x => { x with cmd := some ⟨0x2F048000, [], false⟩ }) up)
      (fun t => (queueOf t 2).map (fun d => d.waits.map (fun w => (w.need, w.req)))) = some (some [(8, 0xFFE)]) := by decide +kernel
/-- Chapter 12: LEN 12 and 46 edges give words of 12, 12, 12 and 2 bits, and SHORT. -/
theorem test_lsp_transfer :
    after (.lspTransfer ⟨List.replicate 46 true, []⟩) (slave (fun x => { x with engine := false, engEff := false, len := 12 }) s0)
      (fun t => (t.lsp.rx.map (·.1), t.lsp.short)) = some ([12, 12, 12, 2], true) := by decide +kernel

/-- Worked program of chapter 7, a bounded-integer draw: a word whose low bits are 0x3F2 is rejected. -/
theorem test_dist_reject :
    after (.distCandidate 0)
      (withJobs [{ jobOp 0x0200020200000010 [999, 0x12348000000] .running with grants := [[⟨0x3F2, ⟨0, 1, false, 0⟩, none⟩]] }] up)
      (fun t => (t.stk.cand, t.stk.rej, t.tal.books.wkReject)) = some (1, 1, 1) := by decide +kernel
theorem test_dist_accept :
    after (.distCandidate 0)
      (withJobs [{ jobOp 0x0200020200000010 [999, 0x12348000000] .running with grants := [[⟨0x3E7, ⟨0, 1, false, 0⟩, none⟩]] }] up)
      (fun t => (t.stk.cand, t.stk.rej, t.tal.books.delivered)) = some (1, 0, 1) := by decide +kernel
/-- Worked program of chapter 7, a keying grant burst: the record of its first DRAW. -/
theorem test_record :
    recordWords { atNs 0x1D4C8A40 s0 with tal := { s0.tal with epoch := 0x2B } }
      { newJob s0 0x2A7 0x0100010000000008 [0x12345000100] .portA with
        accepted := true, stop := some stOk, first := some ⟨3, 0x00015C1E, false, 0⟩
        writes := [⟨0, 0, 64, .acked, some ⟨3, 0x00015C1E, false, 0⟩, false⟩] } =
      (0x03000040002A7010, 0x5C1E2B001D4C8A40) := by decide +kernel
/-- Worked program of chapter 7, a scheduled beacon series: the first grant is asked at 1,799,800,000 ns and not before. -/
theorem test_beacon_grant :
    let j := { jobOp 0x120003036B49D200 [0x0000000A000F4240, 0x50000000004] .waiting with t0 := 1800000000 }
    (after (.beaconGrantRequest 0) (withJobs [j] (atNs 1799800000 up)) (fun t => (jobOf t 0).map (·.asked)),
     after (.beaconGrantRequest 0) (withJobs [j] (atNs 1799799999 up)) (fun t => (jobOf t 0).map (·.asked))) = (some (some 1), some (some 0)) := by
  decide +kernel
/-- Worked example of chapter 11: launch 3, due at 3,006,000,000 and late by 1,400,000 ns, is rejected. -/
theorem test_beacon_reject :
    let j := { jobOp 0x12000313B2D05E00 [0x00000005001E8480, 0x4] .running with
      t0 := 3000000000, launched := 3, asked := 4, grants := [List.replicate 4 ⟨1, ⟨3, 1, false, 0⟩, none⟩] }
    after (.beaconLaunch 0) (withJobs [j] (atNs 3007400000 up)) (fun t => (t.tim.launchRej, (jobOf t 0).map (·.stop))) =
      some (1, some (some stLate)) := by decide +kernel
/-- Worked program of chapter 7: the DRAW with tag 0x010 is parsed and accepted. -/
theorem test_draw :
    after .draw (withStreams [streamOfWords [0x0100010000000008, 0x0000012345000100]] { up with ring := { up.ring with fbase := 0x48D0 } })
      (fun t => t.job.jobs.map (fun j => (j.tag, j.accepted, j.stop))) = some [(0x010, true, none)] := by decide +kernel
/-- Table 7-4: an END alone does nothing. -/
theorem test_end : after .endMark (withStreams [streamOfWords [0x3F00000000000000]] up) (fun t => (t.job.jobs.length, t.job.progErr)) = some (0, 0) := by
  decide +kernel

/-- R106, R105: a lane whose seed is 100 ms old waits for its next one. -/
theorem test_lane_time_cap :
    after (.laneTimeCap 0) (atTime 0 3276 (laneAt 0 (lane .run) s0)) (fun t => (laneOf t 0).map (·.st)) = some (some .wait) := by decide +kernel
/-- R80: the whole credit of the seed's block is seeded. -/
theorem test_seed_handover :
    after .seedHandover (laneAt 3 { lane .start with asked := some 0 } (planeAt 1 holdPlane s0))
      (fun t => (t.tal.books.creditSeeded, (planeOf t 1).map (·.seed))) = some (131072, some none) := by decide +kernel
/-- Table 2-3: RESTART of a LIVE cell seasons it; R41: fewer than four cells of a board are refused. -/
theorem test_restart : after (.grnRestart core 0) (cell0 (src .live) s0) (fun t => (srcOf t.grn 0).map (·.st)) = some (some .seasoning) := by
  decide +kernel
theorem test_enable_refused : after (.grnEnWrite core 0 0x07) s0 (fun t => (t.grn.en.getD 0 0, t.grn.err)) = some (0xFF, 1) := by decide +kernel
/-- R18 to R21: RATIO of a window, and the lowest one seen. -/
theorem test_pace : after (.paceWindowEnd ⟨0x0280, 0, 0, [], []⟩) s0 (fun t => (t.sys.paceRatio, t.sys.paceMin)) = some (0x0280, 0x0280) := by
  decide +kernel
/-- R131: the last queue with 512 words of capacity is not disabled. -/
theorem test_queue_disable_last :
    after (.queueDisable core 0 0)
      { s0 with stk := { s0.stk with queues := (List.range 16).map (fun q => { DQueue.atReset false q with st := if q = 0 then .on else .off }) } }
      (fun t => ((queueOf t 0).map (·.st), t.stk.err)) = some (some .on, 16) := by decide +kernel
/-- R263: ENUM gives the node its ID; R254: IDENT makes a training port READY. -/
theorem test_enum :
    after (.enumFrame .a { frameOfType 0x0A 0 0xFFF 1 2 with addr := 0x8000000 })
      { s0 with ring := { s0.ring with pa := { s0.ring.pa with st := .ready } } } (fun t => (t.ring.enumDone, t.ring.nodeId, t.ring.win)) =
      some (true, 2, 2) := by decide +kernel
theorem test_ident : after (.identRx .a 0xF800500000000000) (portWith .a (fun x => { x with st := .train }) s0) (fun t => (t.ring.pa.st, t.ring.pa.partner)) =
    some (.ready, 5) := by decide +kernel
/-- R304: a status byte with the busy bit clear ends a write of one page. -/
theorem test_flash_poll :
    after (.flashPoll 0) (atTime 1250 0 (busOf [{ write8 with polling := true }] s0)) (fun t => (t.lsp.ops.length, t.core.status)) = some (0, 0) := by
  decide +kernel
/-- R324: a claim holds the mailbox, and 32 CK_SLOW cycles of silence, over with the 33rd edge, end the holding. -/
theorem test_mbx_claim : after (.mbxClaim core 0) s0 (·.mbx.holder) = some (some coreId) := by decide +kernel
theorem test_mbx_timeout : after .mbxHoldTimeout (atTime 0 33 (mbxOf 5 s0)) (·.mbx.holder) = some none := by decide +kernel
/-- R219: a claim of an IDLE bench while another one stays shared. -/
theorem test_bench_claim :
    after (.benchClaim core 3) (benchAt 2 (bench .idle) (benchAt 3 (bench .idle) s0)) (fun t => (benchOf t 3).map (·.owner)) = some (some (some coreId)) := by
  decide +kernel
/-- R68: the job engine lost raises the alarm with cause 0x08 and INDEX 3. -/
theorem test_job_engine_lost : after .jobEngineLost s0 (fun t => (t.hlt.fatalCause, t.hlt.fatalIdx, t.job.stopped)) = some (8, 3, true) := by decide +kernel
/-- R240: CRC-32 of the nine bytes "123456789", the check value of the polynomial that the rule names. -/
theorem test_crc32 : crc32 [0x31, 0x32, 0x33, 0x34, 0x35, 0x36, 0x37, 0x38, 0x39] = 0xCBF43926 := by decide +kernel
/-- R240, R241: a frame's blocks give the frame and its link sequence number again. -/
theorem test_frame_blocks : receiveBlocks (frameBlocks 5 frame0) = some (frame0, 5) := by decide +kernel
/-- R313: an access of a length that is no multiple of 4 bytes is refused, which is status 3. -/
theorem test_odd_length : after (.registerWrite core 0x6088 ⟨[1], [0]⟩) s0 (fun t => (t.core.status, t.pln.holdMax)) = some (3, 100) := by decide +kernel
/-- R295: LSP_SEL_1 high for 40 ns ends a transfer, and for 9 ns it does not. -/
theorem test_select_high :
    (after (.lspTransfer ⟨[], [(40, [])]⟩) (slave id s0) (·.lsp.transfers), after (.lspTransfer ⟨[], [(9, [])]⟩) (slave id s0) (·.lsp.transfers)) =
      (some 2, some 1) := by decide +kernel
/-- R362: TEST_EN high keeps the node in internal reset. -/
theorem test_test_en : after (.internalResetRelease { ResetPins.quiet with testEn := true }) held running = some false := by decide +kernel
/-- Table 12-1: in reset LSP_SEL_0 is high, and LSP_MISO at high impedance. -/
theorem test_pins_in_reset : (pinDrive true held .lspSel0, pinDrive true held .lspMiso) = (.high, .highZ) := by decide +kernel

end Sys2Proof.Tests
end

/-! PROOFS. GRN_CMD.RESTART (R42): what a change of a source leaves alone, and what the write of the register does. -/

namespace Sys2Proof.Machine

/-! ### A source after its change -/

/-- The replaced entry of a list is its image. -/
theorem getElem?_upd_self {α : Type} {l : List α} {i : Nat} {f : α → α} : (upd l i f)[i]? = l[i]?.map f := by
  induction l generalizing i with
  | nil => rfl
  | cons x xs ih =>
    cases i with
    | zero => rfl
    | succ i => exact ih

/-- A changed source is the image of the one before. -/
theorem srcOf_updSrc_self {code : Nat} {f : Source → Source} {g : Grn} : srcOf (updSrc code f g) code = (srcOf g code).map f := by
  unfold srcOf updSrc
  split <;> exact getElem?_upd_self

@[simp] theorem updSrc_err {code : Nat} {f : Source → Source} {g : Grn} : (updSrc code f g).err = g.err := by
  unfold updSrc
  split <;> rfl

/-- SEASONING and LIVE are the two states that RESTART acts on (R42). -/
theorem SrcState.active_iff {x : SrcState} : x.active = true ↔ x = .seasoning ∨ x = .live := by
  cases x <;> simp [SrcState.active]

/-! ### What a board's plane does leaves the health registers alone -/

theorem foldl_hlt {α : Type} {g : State → α → State} {l : List α} {s : State} (h : ∀ u x, (g u x).hlt = u.hlt) :
    (l.foldl g s).hlt = s.hlt := by
  induction l generalizing s with
  | nil => rfl
  | cons x l ih => exact ih.trans (h s x)

@[simp] theorem closeBlock_hlt {b : Nat} {s : State} : (closeBlock b s).hlt = s.hlt := rfl

@[simp] theorem blockCheck_hlt {b : Nat} {s : State} : (blockCheck b s).hlt = s.hlt := by
  unfold blockCheck
  (repeat' split) <;> simp

@[simp] theorem takeCellBit_hlt {b pos : Nat} {bit : Bool} {s : State} : (takeCellBit b pos bit s).hlt = s.hlt := by
  simp [takeCellBit]

@[simp] theorem takeWitBit_hlt {b : Nat} {bit : Bool} {s : State} : (takeWitBit b bit s).hlt = s.hlt := by
  simp [takeWitBit]

@[simp] theorem deliverSample_hlt {b pos : Nat} {bit : Bool} {s : State} : (deliverSample b pos bit s).hlt = s.hlt := by
  unfold deliverSample
  (repeat' split) <;> simp

@[simp] theorem startBlock_hlt {b : Nat} {s : State} : (startBlock b s).hlt = s.hlt := by
  unfold startBlock
  split
  · rfl
  · exact foldl_hlt (fun _ _ => deliverSample_hlt)

@[simp] theorem planeOnBoard_hlt {b : Nat} {s : State} : (planeOnBoard b s).hlt = s.hlt := by
  unfold planeOnBoard
  (repeat' split) <;> simp

/-- A board's new state, with nothing else changed. -/
def setBoard (b : Nat) (st : BoardState) (s : State) : State :=
  updGrn (fun g => { g with boards := upd g.boards b (fun x => { x with st := st }) }) s

/-- A board that is looked at again stays as it is, or takes a new state to which its plane responds (R40, Table 2-4). -/
theorem boardRefresh_cases (left : Bool) (b : Nat) (s : State) :
    boardRefresh left b s = s ∨ ∃ st, boardRefresh left b s = planeOnBoard b (setBoard b st s) := by
  unfold boardRefresh
  dsimp only
  cases boardSt s.grn b with
  | seasoning =>
    dsimp only
    split
    · exact .inr ⟨.live, rfl⟩
    · split
      · exact .inr ⟨.held, rfl⟩
      · exact .inl rfl
  | live =>
    dsimp only
    split
    · exact .inl rfl
    · exact .inr ⟨.held, rfl⟩
  | held =>
    dsimp only
    split
    · exact .inr ⟨.live, rfl⟩
    · exact .inl rfl
  | retired => exact .inl rfl

@[simp] theorem boardRefresh_hlt {left : Bool} {b : Nat} {s : State} : (boardRefresh left b s).hlt = s.hlt := by
  obtain h | ⟨st, h⟩ := boardRefresh_cases left b s
  · rw [h]
  · rw [h, planeOnBoard_hlt]
    rfl

@[simp] theorem keyCheck_hlt {s : State} : (keyCheck s).hlt = s.hlt := by
  unfold keyCheck
  split <;> rfl

/-- A transition of a source changes no health register. -/
@[simp] theorem goSrc_hlt {code : Nat} {f : Source → Source} {s : State} : (goSrc code f s).hlt = s.hlt := by
  simp [goSrc]

/-! ### Of the GRN block a transition changes its source and the boards' states -/

@[simp] theorem planeOnBoard_grn {b : Nat} {s : State} : (planeOnBoard b s).grn = s.grn :=
  congrArg Prod.snd (front_planeOnBoard (b := b) (s := s))

@[simp] theorem keyCheck_grn {s : State} : (keyCheck s).grn = s.grn := congrArg Prod.snd (front_keyCheck (s := s))

theorem boardRefresh_grn {left : Bool} {b : Nat} {s : State} :
    ∃ l, (boardRefresh left b s).grn = { s.grn with boards := l } := by
  obtain h | ⟨st, h⟩ := boardRefresh_cases left b s
  · exact ⟨s.grn.boards, by rw [h]⟩
  · exact ⟨_, by rw [h, planeOnBoard_grn]; rfl⟩

theorem goSrc_grn {code : Nat} {f : Source → Source} {s : State} :
    ∃ l, (goSrc code f s).grn = { updSrc code f s.grn with boards := l } := by
  obtain ⟨l, hl⟩ := boardRefresh_grn (s := updGrn (updSrc code f) s)
  exact ⟨l, keyCheck_grn.trans hl⟩

/-- The source of a transition is the image of the one before. -/
theorem srcOf_goSrc_self {code : Nat} {f : Source → Source} {s : State} :
    srcOf (goSrc code f s).grn code = (srcOf s.grn code).map f := by
  obtain ⟨l, hl⟩ := goSrc_grn (code := code) (f := f) (s := s)
  rw [hl, ← srcOf_updSrc_self]
  rfl

/-- A transition sets no error bit of GRN_ERR. -/
@[simp] theorem goSrc_err {code : Nat} {f : Source → Source} {s : State} : (goSrc code f s).grn.err = s.grn.err := by
  obtain ⟨l, hl⟩ := goSrc_grn (code := code) (f := f) (s := s)
  simp [hl]

/-! ### The restart and its refusal -/

/-- A source in SEASONING or LIVE seasons. -/
theorem grnRestart_of_active {code : Nat} {s : State} {x : Source} (h : srcOf s.grn code = some x) (hx : x.st.active = true) :
    grnRestart code s = goSrc code Source.season s := by
  simp [grnRestart, h, hx]

/-- A source in another state, or an absent one, is refused with CMD_REFUSED. -/
theorem grnRestart_of_not_active {code : Nat} {s : State} (h : ∀ x, srcOf s.grn code = some x → x.st.active = false) :
    grnRestart code s = grnRefuse 1 s := by
  unfold grnRestart
  split
  · rename_i x hx
    simp [h x hx]
  · rfl

@[simp] theorem grnRefuse_grn {bit : Nat} {s : State} :
    (grnRefuse bit s).grn = { s.grn with err := s.grn.err ||| BitVec.ofNat 4 (2 ^ bit) } := rfl

/-- A refusal writes a GRN_REFUSED record, if its code is enabled. -/
theorem grnRefuse_evt {bit : Nat} {s : State} :
    (grnRefuse bit s).evt =
      if eventEnabled s.evt 0x04 then evtStore s.evt 0x04 (mkEntry s 2 0x04 0 bit 0 0) else s.evt := rfl

/-- An event entry rests on fabric time, the tally's epoch and the event sequence. -/
theorem mkEntry_congr {s t : State} (htim : t.tim = s.tim) (htal : t.tal = s.tal) (hevt : t.evt = s.evt)
    (kind code idx detail : Nat) (p0 p1 : Word) : mkEntry t kind code idx detail p0 p1 = mkEntry s kind code idx detail p0 p1 := by
  simp [mkEntry, nowNs, nowWrap, htim, htal, hevt]

/-- A source in SEASONING or LIVE seasons again, with its tests, sums and delay line afresh and its failures as they were, and neither
GRN_ERR nor the health registers change. -/
theorem grnRestart_seasons {code : Nat} {s : State} {x : Source} (h : srcOf s.grn code = some x) (hx : x.st.active = true) :
    srcOf (grnRestart code s).grn code = some x.season ∧ (grnRestart code s).grn.err = s.grn.err ∧ (grnRestart code s).hlt = s.hlt := by
  rw [grnRestart_of_active h hx]
  exact ⟨by rw [srcOf_goSrc_self, h]; rfl, goSrc_err, goSrc_hlt⟩

/-- The refusal of a restart sets CMD_REFUSED and writes a GRN_REFUSED record, if its code is enabled. -/
theorem grnRestart_refused {code : Nat} {s : State} (h : ∀ x, srcOf s.grn code = some x → x.st.active = false) :
    (grnRestart code s).grn = { s.grn with err := s.grn.err ||| 2 } ∧ (grnRestart code s).evt =
      if eventEnabled s.evt 0x04 then evtStore s.evt 0x04 (mkEntry s 2 0x04 0 1 0 0) else s.evt := by
  rw [grnRestart_of_not_active h]
  exact ⟨grnRefuse_grn, grnRefuse_evt⟩

/-! ### The write of GRN_CMD -/

/-- A write that its requester may make enters the node. -/
theorem enters_of_mayWrite {a : Acc} {off : Nat} {s : State} (h : mayWrite a off s = true) : enters a s = true := by
  simp only [mayWrite, Bool.and_eq_true] at h
  exact h.1.1


/-- The source that a command word with RESTART names. -/
theorem fld_restartWord (src : BitVec 7) : fld (src.setWidth 32 ||| 0x100) 0 7 = src.toNat := by
  have hlt : src.toNat < 128 := src.isLt
  simp [fld, Nat.or_mod_two_pow (n := 7), Nat.mod_eq_of_lt hlt, Nat.mod_eq_of_lt (hlt.trans (by decide : 128 < 4294967296))]

theorem bitAt_restartWord (src : BitVec 7) : bitAt (src.setWidth 32 ||| 0x100) 8 = true := by
  simp [bitAt]

/-- A write outside the guarded registers and the MBX block drops the requester's armed value and reaches the register (R321). -/
theorem writeOne_plain {r : ReqId} {off : Nat} {v : W32} {s : State} (hg : guardBase off = none) (hm : off / 0x1000 ≠ 3) :
    writeOne r off v s = plainWrite r off v (breakArm r s) := by
  simp [writeOne, hg, hm]

theorem plainWrite_grnCmd {r : ReqId} {v : W32} {s : State} :
    plainWrite r 0x4030 v s = onlyIf (bitAt v 8) (grnRestart (fld v 0 7)) s := rfl

/-- A write of GRN_CMD with RESTART restarts the source that its word names. -/
theorem writeOne_restartWord (r : ReqId) (src : BitVec 7) (s : State) :
    writeOne r 0x4030 (src.setWidth 32 ||| 0x100) s = grnRestart src.toNat (breakArm r s) := by
  rw [writeOne_plain (by decide) (by decide), plainWrite_grnCmd, bitAt_restartWord, fld_restartWord]
  rfl

/-- A command that runs has the effect of its own function. -/
theorem effects_of_act {c : Instr} {f : State → State} {s : State} {P : State → Prop} (hc : exec c s = .next (act f s))
    (hr : running s = true) (hP : P (f s)) : Effects c s P :=
  ⟨f s, by rw [hc, act, if_pos hr], hP⟩

/-- Settles O21: the access reaches grnRestart in a state that differs in the armed values and the ring alone, and there the source's own
state decides between the restart and the refusal. -/
theorem restartSource : Obligations.RestartSource := by
  intro s a src hw
  refine effects_of_act exec_grnRestart (running_of_enters (enters_of_mayWrite hw)) ?_
  rw [writeAccess_of_mayWrite hw (by decide) (by decide), writeOne_restartWord]
  generalize hs : breakArm (who a s) (entered a false s) = t
  have hgrn : t.grn = s.grn := by simp [← hs]
  have hhlt : t.hlt = s.hlt := by simp [← hs]
  have hevt : t.evt = s.evt := by simp [← hs]
  have hentry : ∀ k c i d p q, mkEntry t k c i d p q = mkEntry s k c i d p q :=
    mkEntry_congr (by simp [← hs]) (by simp [← hs]) hevt
  have hrefuse (h : ∀ x, srcOf s.grn src.toNat = some x → x.st.active = false) :
      (grnRestart src.toNat t).grn = { s.grn with err := s.grn.err ||| 2 } ∧ (grnRestart src.toNat t).evt =
        if eventEnabled s.evt 0x04 then evtStore s.evt 0x04 (mkEntry s 2 0x04 0 1 0 0) else s.evt := by
    rw [← hgrn, ← hevt, ← hentry]
    exact grnRestart_refused (hgrn ▸ h)
  rw [answer_grn, answer_evt, answer_hlt]
  cases h : srcOf s.grn src.toNat with
  | none => exact hrefuse (by simp [h])
  | some x =>
    dsimp only
    split
    next hx =>
      obtain ⟨hsrc, herr, hh⟩ := grnRestart_seasons (s := t) (hgrn ▸ h) (SrcState.active_iff.mpr hx)
      rw [hsrc, herr, hh, hgrn, hhlt]
      exact ⟨rfl, rfl, rfl, rfl⟩
    next hx =>
      have hna : x.st.active = false := Bool.eq_false_iff.mpr (hx ∘ SrcState.active_iff.mp)
      exact hrefuse (by simp [h, hna])

end Sys2Proof.Machine

/-! PROOFS. The tally snapshot (R91 to R94): the checks of R93 as one proposition, and the alarm that a failed one raises. -/

namespace Sys2Proof.Machine

/-- A node that is up runs. -/
theorem running_of_upAnd {s : State} (h : upAnd s = true) : running s = true := by
  simp only [upAnd, Bool.and_eq_true] at h
  exact h.1

/-! ### The checks and the alarm -/

/-- The books pass a snapshot's checks exactly when both identities, both bounds with the array's, and both sums of causes hold. -/
theorem booksOk_iff {s : State} {b : Books} :
    booksOk s b = true ↔
      b.creditIn = b.creditSeeded + b.creditKerf + b.creditPending ∧ b.gen = b.delivered + b.kerf + b.resident + b.inflight ∧
      b.creditPending.toNat ≤ boardsNotRetired s.grn * 262144 ∧ b.inflight.toNat ≤ (if s.pwr.is832 then 16660 else 16724) ∧
      b.resident.toNat ≤ nStackWords s ∧ b.creditKerf = b.ckHealth + b.ckMode + b.ckRetire + b.ckAged + b.ckHalt ∧
      b.kerf = b.wkAge + b.wkFlush + b.wkFault + b.wkFailover + b.wkReject + b.wkHalt := by
  simp only [booksOk, Bool.and_eq_true, decide_eq_true_eq, and_assoc]
  rfl

/-- The first alarm that is raised records its cause and INDEX. -/
theorem raiseFatal_hlt_of_not_fatal {c i : Nat} {s : State} (h : s.hlt.fatal = false) :
    (raiseFatal c i s).hlt =
      { s.hlt with fatal := true, fatalCause := BitVec.ofNat 8 c, fatalIdx := BitVec.ofNat 8 i, alarm := true } := by
  simp [raiseFatal, h]

/-- A snapshot of books that pass leaves the health registers alone. -/
theorem takeSnapshot_hlt_of_ok {s : State} (h : booksOk s s.tal.books = true) : (takeSnapshot s).hlt = s.hlt := by
  simp [takeSnapshot, h]

/-- A snapshot of books that fail a check raises the fatal alarm with cause 0x08 and INDEX 2. -/
theorem takeSnapshot_hlt_of_not_ok {s : State} (h : booksOk s s.tal.books = false) (hf : s.hlt.fatal = false) :
    (takeSnapshot s).hlt = { s.hlt with fatal := true, fatalCause := 8, fatalIdx := 2, alarm := true } := by
  simpa [takeSnapshot, h] using raiseFatal_hlt_of_not_fatal (s := { s with tal := { s.tal with epoch := s.tal.epoch + 1 } }) hf

/-- Of the tally a snapshot advances the epoch, whether its checks pass or not. -/
theorem takeSnapshot_tal {s : State} : (takeSnapshot s).tal = { s.tal with epoch := s.tal.epoch + 1 } := by
  unfold takeSnapshot
  split
  · rfl
  · exact raiseFatal_tal

/-! ### The command and the record -/

theorem plainWrite_talCmd {r : ReqId} {v : W32} {s : State} :
    plainWrite r 0x6800 v s = onlyIf (bitAt v 0) (fun t => { t with tal := { t.tal with snapPend := t.tal.snapPend + 1 } }) s := rfl

/-- A write of TAL_CMD with SNAP asks for one snapshot more. -/
theorem writeAccess_talSnap_tal {a : Acc} {s : State} (h : mayWrite a 0x6800 s = true) :
    (writeAccess a 0x6800 [1] s).tal = { s.tal with snapPend := s.tal.snapPend + 1 } := by
  rw [writeAccess_of_mayWrite h (by decide) (by decide), writeOne_plain (by decide) (by decide), plainWrite_talCmd,
    show bitAt (1 : W32) 0 = true by decide]
  simp [onlyIf]

/-- A snapshot that was asked for is taken, and its record stands in the buffer with the next epoch. -/
theorem talSnapTake_of_pending {s : State} (h : s.tal.snapPend ≠ 0) :
    talSnapTake s = { takeSnapshot s with tal := { s.tal with
      epoch := s.tal.epoch + 1, snapPend := s.tal.snapPend - 1, bufValid := true
      buf := snapRecord s (s.tal.epoch + 1), snapEpoch := (s.tal.epoch + 1).setWidth 32 } } := by
  simp [talSnapTake, h, takeSnapshot_tal]

/-- Settles O27: the model's check of the books is the statement's list of R93, and the command and the row each set the fields of the
tally that they name. -/
theorem tallySnapshot : Obligations.TallySnapshot := by
  intro s a b whole
  have hwhole : booksOk s b = true ↔ whole := booksOk_iff
  refine ⟨⟨fun h => takeSnapshot_hlt_of_ok (hwhole.mpr h), fun h hf => ?_⟩, fun hw => ?_, fun hu hp => ?_⟩
  · have hbad : booksOk s b = false := Bool.eq_false_iff.mpr (h ∘ hwhole.mp)
    rw [takeSnapshot_hlt_of_not_ok hbad hf]
    exact ⟨rfl, rfl, rfl⟩
  · exact effects_of_act exec_talSnap (running_of_enters (enters_of_mayWrite hw)) (writeAccess_talSnap_tal hw)
  · refine effects_of_act exec_talSnapDone (running_of_upAnd hu) ?_
    rw [talSnapTake_of_pending hp]
    exact ⟨rfl, rfl⟩

end Sys2Proof.Machine

/-! PROOFS. The handover of a seed (R80, R82, R103, R104): a view of the state that holds what the handover settles, which of the
operations that follow it leave that view alone, and the three changes that the handover makes in it. -/

namespace Sys2Proof.Machine

/-! ### What the handover settles -/

/-- The tally's account of credit and seeds that a handover books (R80). -/
structure SeedBooks where
  creditSeeded : Word
  creditKerf : Word
  seeds : Word
  seedsMarked : Word

/-- What a handover books, of all the books. -/
def seedBooks (b : Books) : SeedBooks := ⟨b.creditSeeded, b.creditKerf, b.seeds, b.seedsMarked⟩

/-- What a lane keeps of the seed it took last (R103, R104), with the condition on its next one (R66). -/
structure LaneSeed where
  gen : W32
  marked : Bool
  unmarkedOnly : Bool
  drbg : Drbg

/-- The last seed of a lane. -/
def laneSeed (l : Lane) : LaneSeed := ⟨l.gen, l.marked, l.unmarkedOnly, l.drbg⟩

/-- The account, the seeds that the planes hold, and the last seed of every lane. -/
structure Seeding where
  books : SeedBooks
  held : List (Option Seed)
  lanes : List LaneSeed

/-- The part of the state that a handover settles. -/
def seeding (s : State) : Seeding := ⟨seedBooks s.tal.books, s.pln.planes.map (·.seed), s.lan.lanes.map laneSeed⟩

theorem seeding_stk {x : Stk} {s : State} : seeding { s with stk := x } = seeding s := rfl

theorem seeding_seed {s : State} {b : Nat} : (planeOf s b).map (·.seed) = (seeding s).held[b]? := by
  simp [seeding, planeOf]

theorem seeding_lane {s : State} {n : Nat} : (laneOf s n).map laneSeed = (seeding s).lanes[n]? := by
  simp [seeding, laneOf]

/-! ### Changes of one entry, and of none -/

/-- A view of the entries takes the change of one entry as a change of what it sees of it. -/
theorem map_upd {α β : Type} {g : α → β} {f : α → α} {f' : β → β} (h : ∀ x, g (f x) = f' (g x)) (l : List α) (i : Nat) :
    (upd l i f).map g = upd (l.map g) i f' := by
  induction l generalizing i with
  | nil => rfl
  | cons x xs ih =>
    cases i with
    | zero => simp [upd, h]
    | succ i => simp [upd, ih]

theorem upd_id {α : Type} (l : List α) (i : Nat) : upd l i id = l := by
  induction l generalizing i with
  | nil => rfl
  | cons x xs ih =>
    cases i with
    | zero => rfl
    | succ i => simp [upd, ih]

theorem seeding_updLane_eq {n : Nat} {f : Lane → Lane} {g : LaneSeed → LaneSeed} {s : State}
    (h : ∀ l, laneSeed (f l) = g (laneSeed l)) :
    seeding (updLane n f s) = { seeding s with lanes := upd (seeding s).lanes n g } := by
  simp [seeding, updLane, map_upd h]

theorem seeding_updPlane_eq {b : Nat} {f : Plane → Plane} {g : Option Seed → Option Seed} {s : State}
    (h : ∀ p, (f p).seed = g p.seed) :
    seeding (updPlane b f s) = { seeding s with held := upd (seeding s).held b g } := by
  simp [seeding, updPlane, map_upd (g := Plane.seed) h]

theorem seeding_updBooks_eq {f : Books → Books} {s : State} :
    seeding (updBooks f s) = { seeding s with books := seedBooks (f s.tal.books) } := rfl

@[simp] theorem seeding_updLane {n : Nat} {f : Lane → Lane} {s : State} (h : ∀ l, laneSeed (f l) = laneSeed l) :
    seeding (updLane n f s) = seeding s := by
  rw [seeding_updLane_eq (g := id) h, upd_id]

@[simp] theorem seeding_updPlane {b : Nat} {f : Plane → Plane} {s : State} (h : ∀ p, (f p).seed = p.seed) :
    seeding (updPlane b f s) = seeding s := by
  rw [seeding_updPlane_eq (g := id) h, upd_id]

/-- A change of every lane that keeps what each has of its last seed. -/
theorem seeding_mapLanes {f : Lane → Lane} {s : State} (h : ∀ l, laneSeed (f l) = laneSeed l) :
    seeding { s with lan := { s.lan with lanes := s.lan.lanes.map f } } = seeding s := by
  simp [seeding, h]

@[simp] theorem seeding_ite {c : Prop} [Decidable c] (a b : State) :
    seeding (if c then a else b) = if c then seeding a else seeding b := apply_ite seeding c a b

@[simp] theorem seeding_onlyIf {c : Bool} {f : State → State} {s : State} (h : ∀ u, seeding (f u) = seeding u) :
    seeding (onlyIf c f s) = seeding s := by
  cases c
  · rfl
  · exact h s

@[simp] theorem seeding_foldl {α : Type} {g : State → α → State} {l : List α} {s : State}
    (h : ∀ u x, seeding (g u x) = seeding u) : seeding (l.foldl g s) = seeding s := by
  induction l generalizing s with
  | nil => rfl
  | cons x l ih => exact ih.trans (h s x)

/-! ### Operations on events, queues and words leave the view alone -/

@[simp] theorem seeding_bumpOrd {s : State} : seeding (bumpOrd s) = seeding s := rfl

@[simp] theorem seeding_post {code idx detail : Nat} {s : State} : seeding (post code idx detail s) = seeding s := rfl

@[simp] theorem seeding_updQ {q : Nat} {f : DQueue → DQueue} {s : State} : seeding (updQ q f s) = seeding s := rfl

@[simp] theorem seeding_countQKerf {q n : Nat} {s : State} : seeding (countQKerf q n s) = seeding s := rfl

@[simp] theorem seeding_arrayWrite {a : Nat} {w : Word} {s : State} : seeding (arrayWrite a w s) = seeding s := rfl

@[simp] theorem seeding_updWait {q key : Nat} {f : Waiter → Waiter} {s : State} : seeding (updWait q key f s) = seeding s := rfl

@[simp] theorem seeding_syncQ {q : Nat} {s : State} : seeding (syncQ q s) = seeding s := rfl

@[simp] theorem seeding_syncAll {s : State} : seeding (syncAll s) = seeding s := seeding_foldl fun _ _ => seeding_syncQ

@[simp] theorem seeding_watermarkEvent {q : Nat} {high : Bool} {s : State} : seeding (watermarkEvent q high s) = seeding s := by
  unfold watermarkEvent
  split <;> simp

@[simp] theorem seeding_relevel {q : Nat} {f : DQueue → DQueue} {s : State} : seeding (relevel q f s) = seeding s := by
  unfold relevel
  split <;> simp

@[simp] theorem seeding_finishSlots {refs : List (Nat × Nat)} {s : State} : seeding (finishSlots refs s) = seeding s := by
  simp [finishSlots]

/-- Words that go to kerf are booked as words, not as credit. -/
@[simp] theorem seeding_bkKerf {why : WordKerf} {stack : Bool} {n : Nat} {s : State} :
    seeding (updBooks (bkKerf why stack n) s) = seeding s := rfl

@[simp] theorem seeding_kerfFlight {why : WordKerf} {refs : List (Nat × Nat)} {n : Nat} {s : State} :
    seeding (kerfFlight why refs n s) = seeding s := by
  simp [kerfFlight]

@[simp] theorem seeding_kerfStack {why : WordKerf} {refs : List (Nat × Nat)} {s : State} :
    seeding (kerfStack why refs s) = seeding s := by
  simp [kerfStack]

@[simp] theorem seeding_kerfWords {why : WordKerf} {ws : List AWord} {s : State} : seeding (kerfWords why ws s) = seeding s := by
  simp [kerfWords]

@[simp] theorem seeding_kerfQueue {q : Nat} {why : WordKerf} {p : DQueue → QEntry → Bool} {s : State} :
    seeding (kerfQueue q why p s) = seeding s := by
  unfold kerfQueue
  split <;> simp

@[simp] theorem seeding_putBack {q : Nat} {v : AWord} {s : State} : seeding (putBack q v s) = seeding s := by
  unfold putBack
  split <;> simp

@[simp] theorem seeding_releaseAllot {q key : Nat} {s : State} : seeding (releaseAllot q key s) = seeding s := by
  unfold releaseAllot
  split <;> simp

/-! ### A lane that asks again keeps its last seed -/

@[simp] theorem seeding_raiseRequest {n : Nat} {s : State} : seeding (raiseRequest n s) = seeding s :=
  seeding_bumpOrd.trans (seeding_updLane (by intro; rfl))

@[simp] theorem seeding_laneWait {n : Nat} {s : State} : seeding (laneWait n s) = seeding s := by
  unfold laneWait
  split
  · rfl
  · split
    · exact seeding_raiseRequest.trans (seeding_updLane (by intro; rfl))
    · rfl

@[simp] theorem seeding_prDrop {key : Nat} {s : State} : seeding (prDrop key s) = seeding s := by
  refine (seeding_foldl fun u n => ?_).trans (seeding_mapLanes (by intro; rfl))
  split <;> simp

/-- The reads that a refresh served take their places on the lane; its last seed is the same. -/
@[simp] theorem seeding_refreshDone {n : Nat} {s : State} : seeding (refreshDone n s) = seeding s :=
  (seeding_updLane (by intro; rfl)).trans seeding_prDrop

/-! ### Jobs that end leave the view alone -/

@[simp] theorem seeding_updJob {id : Nat} {f : Job → Job} {s : State} : seeding (updJob id f s) = seeding s := rfl

@[simp] theorem seeding_sendRequest {type addr len : Nat} {payload : List Byte} {fbase : BitVec 22} {t : TxFrame} {s : State} :
    seeding (sendRequest type addr len payload fbase t s) = seeding s := rfl

@[simp] theorem seeding_pullUnsent {id : Nat} {beacons : Bool} {s : State} : seeding (pullUnsent id beacons s) = seeding s := rfl

@[simp] theorem seeding_dropWaits {id : Nat} {s : State} : seeding (dropWaits id s) = seeding s := by
  rw [dropWaits, seeding_prDrop, seeding_syncAll]
  exact seeding_stk.trans (seeding_foldl fun _ _ => seeding_releaseAllot)

@[simp] theorem seeding_releaseUnits {id : Nat} {s : State} : seeding (releaseUnits id s) = seeding s := by
  simp [releaseUnits, seeding, laneSeed]

@[simp] theorem seeding_issueWrite {id off : Nat} {bytes : List Byte} {ws : List AWord} {random : Bool} {tag : Option Tag}
    {s : State} : seeding (issueWrite id off bytes ws random tag s) = seeding s := by
  unfold issueWrite
  split <;> rfl

@[simp] theorem seeding_drawIssue {id fuel : Nat} {s : State} : seeding (drawIssue id fuel s) = seeding s := by
  fun_induction drawIssue id fuel s <;> simp_all

@[simp] theorem seeding_resultIssue {id fuel : Nat} {last : Bool} {s : State} :
    seeding (resultIssue id last fuel s) = seeding s := by
  fun_induction resultIssue id last fuel s <;> simp_all

@[simp] theorem seeding_kerfFrames {why : WordKerf} {l : List TxFrame} {s : State} :
    seeding (kerfFrames why l s) = seeding s := by
  refine seeding_foldl fun u f => ?_
  split <;> simp

@[simp] theorem seeding_dropUnsent {why : WordKerf} {id : Nat} {s : State} : seeding (dropUnsent why id s) = seeding s := by
  unfold dropUnsent
  split <;> simp

/-- The end of a job touches neither the account nor a seed. -/
@[simp] theorem seeding_stopJob {id : Nat} {status : BitVec 8} {why : Option WordKerf} {s : State} :
    seeding (stopJob id status why s) = seeding s := by
  unfold stopJob
  (repeat' split) <;> simp

@[simp] theorem seeding_endIfDone {id : Nat} {s : State} : seeding (endIfDone id s) = seeding s := by
  unfold endIfDone
  split <;> simp

@[simp] theorem seeding_reseedJobs {n : Nat} {sat : Bool} {s : State} : seeding (reseedJobs n sat s) = seeding s := by
  simp [reseedJobs]

/-- A lane's store takes pieces of a MIX; its last seed is the same. -/
@[simp] theorem seeding_mixFeed {n fuel : Nat} {s : State} : seeding (mixFeed n fuel s) = seeding s := by
  fun_induction mixFeed n fuel s
  case case7 ih => exact ih.trans (seeding_updLane (by intro; rfl))
  all_goals rfl

/-! ### A plane that goes on leaves the view alone -/

@[simp] theorem seeding_closeBlock {b : Nat} {s : State} : seeding (closeBlock b s) = seeding s := by
  refine seeding_bumpOrd.trans (seeding_updPlane ?_)
  intro p
  split <;> rfl

@[simp] theorem seeding_blockCheck {b : Nat} {s : State} : seeding (blockCheck b s) = seeding s := by
  unfold blockCheck
  (repeat' split) <;> simp

/-- A raw bit's credit is credited-in and pending: neither seeded nor kerf (R87). -/
@[simp] theorem seeding_bkCreditIn {c : Nat} {s : State} : seeding (updBooks (bkCreditIn c) s) = seeding s := rfl

@[simp] theorem seeding_takeCellBit {b pos : Nat} {bit : Bool} {s : State} : seeding (takeCellBit b pos bit s) = seeding s := by
  simp [takeCellBit]

@[simp] theorem seeding_takeWitBit {b : Nat} {bit : Bool} {s : State} : seeding (takeWitBit b bit s) = seeding s := by
  simp [takeWitBit]

@[simp] theorem seeding_deliverSample {b pos : Nat} {bit : Bool} {s : State} :
    seeding (deliverSample b pos bit s) = seeding s := by
  unfold deliverSample
  (repeat' split) <;> simp

@[simp] theorem seeding_startBlock {b : Nat} {s : State} : seeding (startBlock b s) = seeding s := by
  unfold startBlock
  split <;> simp

/-- What a plane does next moves no seed into it or out of it. -/
@[simp] theorem seeding_planeNext {b : Nat} {s : State} : seeding (planeNext b s) = seeding s := by
  unfold planeNext
  (repeat' split) <;> simp

/-! ### The handover -/

/-- The lane's new generation number, its mark and its generator once it has taken a seed (R101, R103, R104, R113). -/
def laneSeedTaken (s : State) (n : Nat) (k : Seed) (l : Lane) : LaneSeed where
  gen := if l.gen = 0xFFFFFFFF then 1 else l.gen + 1
  marked := k.marked
  unmarkedOnly := false
  drbg := if l.st = .start then Drbg.instantiate k.v (personalization n) else l.drbg.reseed k.v ((peerFor s l).getD 0)

/-- Of the view, a lane that takes a seed changes its own entry alone: the refresh, the requests and the jobs that follow leave it be. -/
theorem seeding_laneSeeded {n : Nat} {k : Seed} {l : Lane} {s : State} (h : laneOf s n = some l) :
    seeding (laneSeeded n k s) =
      { seeding s with lanes := upd (seeding s).lanes n (fun _ => laneSeedTaken s n k l) } := by
  simp only [laneSeeded, h, seeding_mixFeed, seeding_reseedJobs]
  rw [seeding_onlyIf fun _ => seeding_refreshDone, seeding_onlyIf fun _ => seeding_laneWait]
  refine seeding_updLane_eq fun _ => ?_
  by_cases hst : l.st = .start <;> simp [laneSeed, laneSeedTaken, hst]

/-- The plane and the tally after a lane has acknowledged the seed of plane b (R80). -/
def seedGone (b : Nat) (k : Seed) (s : State) : State :=
  updBooks (bkSeeded k.credit k.marked) (updPlane b (fun p => { p with
    seed := none, seeds := p.seeds + 1, seedsCmp := p.seedsCmp + 1 }) s)

theorem seeding_seedGone {b : Nat} {k : Seed} {s : State} :
    seeding (seedGone b k s) = { seeding s with
      books := seedBooks (bkSeeded k.credit k.marked s.tal.books), held := upd (seeding s).held b (fun _ => none) } := by
  rw [seedGone, seeding_updBooks_eq, seeding_updPlane_eq (g := fun _ => none) (by intro; rfl)]
  rfl

/-- The handover, once the crossbar has chosen a lane and a plane: the whole credit is booked, the plane's seed is gone, and the lane has
taken it; what the plane does next changes none of these. -/
theorem seeding_handover {s : State} {n b : Nat} {l : Lane} {k : Seed} (hn : nextServed s = some n) (hl : laneOf s n = some l)
    (hb : seedFor s l = some b) (hk : (planeOf s b).bind (·.seed) = some k) :
    seeding (handover s) =
      { books := seedBooks (bkSeeded k.credit k.marked s.tal.books), held := upd (seeding s).held b (fun _ => none)
        lanes := upd (seeding s).lanes n (fun _ => laneSeedTaken (seedGone b k s) n k l) } := by
  have hnext : seeding (handover s) = seeding (laneSeeded n k (seedGone b k s)) := by
    simp only [handover, hn, hl, Option.bind_some, hb, hk]
    split
    · exact seeding_planeNext
    · rfl
  have hlane : laneOf (seedGone b k s) n = some l := hl
  rw [hnext, seeding_laneSeeded hlane, seeding_seedGone]

/-- Settles O25: the view after the handover gives each part of the statement, entry by entry. -/
theorem seedHandover : Obligations.SeedHandover := by
  intro s n b l k hu hn hl hb hk
  refine effects_of_act exec_seedHandover (running_of_upAnd hu) ?_
  have h := seeding_handover hn hl hb hk
  have hbooks : seedBooks (handover s).tal.books = seedBooks (bkSeeded k.credit k.marked s.tal.books) := congrArg Seeding.books h
  have hplane : (planeOf (handover s) b).map (·.seed) = some none := by
    obtain ⟨p, hp, -⟩ := Option.bind_eq_some_iff.mp hk
    rw [seeding_seed, h, getElem?_upd_self, ← seeding_seed, hp]
    rfl
  have hlane : (laneOf (handover s) n).map laneSeed = some (laneSeedTaken (seedGone b k s) n k l) := by
    rw [seeding_lane, h, getElem?_upd_self, ← seeding_lane, hl]
    rfl
  obtain ⟨x, hx, htaken⟩ := Option.map_eq_some_iff.mp hlane
  refine ⟨congrArg SeedBooks.creditSeeded hbooks, congrArg SeedBooks.creditKerf hbooks, congrArg SeedBooks.seeds hbooks,
    congrArg SeedBooks.seedsMarked hbooks, hplane, ?_, fun hstart => ?_⟩
  · rw [hx]
    exact congrArg (fun y => some (y.gen, y.marked, y.unmarkedOnly)) htaken
  · rw [hx]
    exact congrArg some ((congrArg LaneSeed.drbg htaken).trans (if_pos hstart))

end Sys2Proof.Machine

/-! PROOFS. What the commands of power, reset and the test port can leave (R331, R356 to R362), and the two identities of the tally over
every command and tick (R89, R93). -/

namespace Sys2Proof.Machine

/-! ### Commands of power, reset and the test port -/

/-- A node whose volatile state was lost: values of reset release, apart from the straps, the pins, the model's count of free values and
the commands that wait (R331, R357, R361). -/
def freshState (is832 : Bool) (x : ResetPins) (p : Pwr) (k : Nat) (l : List Instr) : State :=
  { State.atRelease is832 x with pwr := p, clk := { (State.atRelease is832 x).clk with free := k }, pending := l }

/-- A state that keeps of the one before only the straps and the pins, the count of free values and the commands that wait. -/
def Fresh (s r : State) : Prop := ∃ is832 x p k, r = freshState is832 x p k s.pending

/-- What a command of power, reset or the test port can leave: other pins and phases alone, a node whose volatile state was lost, or one
that has just been released, with TAMPER_N high or low. -/
inductive PowerStep (s : State) : State → Prop
  | pins (p : Pwr) : PowerStep s { s with pwr := p }
  | lost {r : State} (h : Fresh s r) : PowerStep s r
  | released {r : State} (h : Fresh s r) : PowerStep s (finishUp r)
  | tampered {r : State} (h : Fresh s r) : PowerStep s (finishUp (tamperAct r))

theorem fresh_holdReset {phase : PwrPhase} {s : State} : Fresh s (holdReset phase s) := ⟨_, _, _, _, rfl⟩

theorem powerStep_vinRise {l c : Bool} {s : State} : PowerStep s (vinRise l c s) := by
  unfold vinRise
  split
  · exact .pins _
  · exact .pins s.pwr

theorem powerStep_resetAssert {s : State} : PowerStep s (resetAssert s) := by
  unfold resetAssert
  dsimp only
  split
  · exact .lost fresh_holdReset
  · exact .pins _

theorem powerStep_brownOut {s : State} : PowerStep s (brownOut s) := by
  unfold brownOut
  split
  · exact .pins s.pwr
  · exact .lost fresh_holdReset

theorem powerStep_jtagInstr {i : JtagHold} {s : State} : PowerStep s (jtagInstr i s) := by
  unfold jtagInstr
  dsimp only
  split
  · split
    · exact .lost fresh_holdReset
    · exact .pins _
  · exact .pins _

/-! ### Tamper hold -/

/-- What tamper hold zeroizes and stops, before the alarm is raised and the boards retire (R348, R349). -/
def tamperStop (s : State) : State :=
  { s with
    sys := { s.sys with tamper := true, armed := [] }
    stk := { s.stk with maskKey := 0, keyReady := false, clearing := true }
    lan := { s.lan with lanes := s.lan.lanes.map (fun l => { l with drbg := Drbg.zero }) }
    grn := { s.grn with
      cells := s.grn.cells.map (fun x => { x.leave with st := .stopped })
      wits := s.grn.wits.map (fun x => { x.leave with st := .stopped })
      cap := { s.grn.cap with buf := [], busy := false } }
    mbx := { s.mbx with data := List.replicate 8 0 }
    core := { s.core with ram := [], halted := true, waiting := false, data := [] }
    bne := { s.bne with benches := s.bne.benches.map (fun b => { b with mem := [] }) }
    sil := { s.sil with stage := if s.sys.bootDone then s.sil.stage else 8 } }

/-- The state in which tamper hold raises the alarm. -/
def tamperStopped (s : State) : State := tamperStop (tamperPort .b (tamperPort .a s))

/-- Tamper hold stops the node, raises the alarm, and halts the planes and retires the boards. -/
theorem tamperAct_eq {s : State} (h : s.sys.tamper = false) :
    tamperAct s =
      (List.range (nBoards (tamperStopped s))).foldl (fun t b => retireBoard b 1 t)
        ((List.range (nBoards (tamperStopped s))).foldl (fun t b => haltPlane .halt b t) (raiseFatal 7 0 (tamperStopped s))) := by
  simp only [tamperAct, h, Bool.false_eq_true, if_false]
  rfl

/-- A node in tamper hold stays as it is. -/
theorem tamperAct_of_tamper {s : State} (h : s.sys.tamper = true) : tamperAct s = s := by
  simp [tamperAct, h]

/-- What tamper hold makes of the settings: the mark of the hold, no armed value, the stage of the boot, and neither mailbox data nor
memory of the control core. -/
def heldSettings (x : Settings) : Settings :=
  { x with
    sys := { x.sys with tamper := true, armed := [] }
    sil := { x.sil with stage := if x.sys.bootDone then x.sil.stage else 8 }
    mbx := { x.mbx with data := List.replicate 8 0 }, ram := [] }

theorem settings_tamperStop {s : State} : settings (tamperStop s) = heldSettings (settings s) := rfl

theorem settings_tamperAct {s : State} (h : s.sys.tamper = false) : settings (tamperAct s) = heldSettings (settings s) := by
  rw [tamperAct_eq h, settings_foldl (by simp), settings_foldl (by simp), settings_raiseFatal, tamperStopped, settings_tamperStop]
  simp

/-- Tamper hold changes no pin, strap or phase. -/
theorem tamperAct_pwr {s : State} : (tamperAct s).pwr = s.pwr := by
  cases h : s.sys.tamper with
  | true => rw [tamperAct_of_tamper h]
  | false => exact congrArg Settings.pwr (settings_tamperAct h)

/-! ### Release -/

/-- The node right after a release, before TAMPER_N acts (R331, R358). -/
def releasedState (x : ResetPins) (s : State) : State :=
  freshState s.pwr.is832 x
    { (State.atRelease s.pwr.is832 x).pwr with bankL := s.pwr.bankL, bankC := s.pwr.bankC, jtag := s.pwr.jtag } s.clk.free s.pending

theorem fresh_releasedState {x : ResetPins} {s : State} : Fresh s (releasedState x s) := ⟨_, _, _, _, rfl⟩

theorem running_releasedState {x : ResetPins} {s : State} : running (releasedState x s) = true := rfl

/-- A release takes place where neither the test port nor TEST_EN holds the node (R331, R359, R362). -/
def releases (x : ResetPins) (s : State) : Prop := s.pwr.phase = .inReset ∧ s.pwr.jtagHold = false ∧ x.testEn = false

theorem resetRelease_of_releases {x : ResetPins} {s : State} (h : releases x s) :
    resetRelease x s = if x.tamperN then releasedState x s else tamperAct (releasedState x s) := by
  obtain ⟨hphase, hjtag, htest⟩ := h
  simp only [resetRelease, hphase, hjtag, htest, Bool.or_self, Bool.false_eq_true, if_false]
  rfl

/-- With TAMPER_N high the released node goes on as it is. -/
theorem releaseStep_of_tamperN {x : ResetPins} {s : State} (h : releases x s) (ht : x.tamperN = true) :
    releaseStep x s = finishUp (releasedState x s) := by
  rw [releaseStep, resetRelease_of_releases h, if_pos ht]
  simp [h.1, running_releasedState]

/-- With TAMPER_N low the released node enters tamper hold at once (R349). -/
theorem releaseStep_of_not_tamperN {x : ResetPins} {s : State} (h : releases x s) (ht : x.tamperN = false) :
    releaseStep x s = finishUp (tamperAct (releasedState x s)) := by
  have hrun : running (tamperAct (releasedState x s)) = true := by simp [running, tamperAct_pwr]; rfl
  rw [releaseStep, resetRelease_of_releases h, ht]
  simp [h.1, hrun]

/-- A release that does not take place leaves the state. -/
theorem releaseStep_of_not_releases {x : ResetPins} {s : State} (h : ¬ releases x s) : releaseStep x s = s := by
  have hstay : resetRelease x s = s := by
    unfold resetRelease
    split
    next hp =>
      cases hj : s.pwr.jtagHold <;> cases ht : x.testEn
      · exact absurd ⟨hp, hj, ht⟩ h
      all_goals rfl
    next => rfl
  have hno : (decide (s.pwr.phase = .inReset) && running s) = false := by
    cases hp : s.pwr.phase <;> simp [running, hp]
  rw [releaseStep, hstay, hno]
  rfl

theorem powerStep_releaseStep {x : ResetPins} {s : State} : PowerStep s (releaseStep x s) := by
  by_cases h : releases x s
  · cases ht : x.tamperN with
    | true => exact releaseStep_of_tamperN h ht ▸ .released fresh_releasedState
    | false => exact releaseStep_of_not_tamperN h ht ▸ .tampered fresh_releasedState
  · rw [releaseStep_of_not_releases h]
    exact .pins s.pwr

/-- A command of power, reset or the test port does one of the four things. -/
theorem powerStep_of_exec {c : Instr} {s t : State} (hc : isPowerRow c = true) (h : exec c s = .next t) : PowerStep s t := by
  cases c
  case vinRise => cases h; exact powerStep_vinRise
  case internalResetRelease => cases h; exact powerStep_releaseStep
  case resetAssert => cases h; exact powerStep_resetAssert
  case brownOut => cases h; exact powerStep_brownOut
  case jtagResetHold => cases h; exact powerStep_jtagInstr
  all_goals cases hc

/-! ### The two identities of the tally -/

theorem balanced_iff_imb {s : State} : Balanced s ↔ imb s = (0, 0, 0, 0) := by
  unfold Balanced imb imbB
  constructor
  · rintro ⟨hcredit, hwords, hckerf, hwkerf⟩
    simp only [hcredit, hwords, hckerf, hwkerf, sub_self]
  · intro h
    simp only [Prod.mk.injEq, sub_eq_zero] at h
    obtain ⟨hcredit, hwords, hckerf, hwkerf⟩ := h
    exact ⟨hcredit.symm, hwords.symm, hckerf.symm, hwkerf.symm⟩

/-- The books of a fresh node are empty. -/
theorem imb_fresh {s r : State} (h : Fresh s r) : imb r = (0, 0, 0, 0) := by
  obtain ⟨is832, x, p, k, rfl⟩ := h
  show imbB Books.zero = (0, 0, 0, 0)
  decide

/-- Each command's own effect keeps what the identities leave over, by the law of its operation, and so does what follows it. -/
theorem imb_exec {c : Instr} {s t : State} (hc : isPowerRow c = false) (h : exec c s = .next t) : imb t = imb s := by
  cases c
  case vinRise | internalResetRelease | resetAssert | brownOut | jtagResetHold => cases hc
  all_goals
    cases h
    simp

theorem balanced_powerStep {s t : State} (hs : Balanced s) (h : PowerStep s t) : Balanced t := by
  rw [balanced_iff_imb] at hs ⊢
  cases h with
  | pins p => exact hs
  | lost hr => exact imb_fresh hr
  | released hr => rw [imb_finishUp, imb_fresh hr]
  | tampered hr => rw [imb_finishUp, imb_tamperAct, imb_fresh hr]

/-- Settles O6: of every command but those of power the laws of the operations say that it keeps what the identities leave over, a tick is
such an operation too, and a node whose volatile state was lost has empty books. -/
theorem stepKeepsTallyBalanced : Obligations.StepKeepsTallyBalanced := by
  intro s t hs h
  unfold step at h
  split at h
  next =>
    cases h
    rw [balanced_iff_imb] at hs ⊢
    exact imb_tick.trans hs
  next c rest _ =>
    have hs' : Balanced { s with pending := rest } := hs
    cases hc : isPowerRow c with
    | true => exact balanced_powerStep hs' (powerStep_of_exec hc h)
    | false =>
      rw [balanced_iff_imb] at hs' ⊢
      exact (imb_exec hc h).trans hs'

end Sys2Proof.Machine

/-! PROOFS. Settings over every command and tick: those of each block stay within their limits (R314), the sill registers are fixed once
SYS_BOOT_DONE is set (R338), and the commands that wait stay as they are. One relation between the settings before and after says all
three; every operation of an access is shown to keep to it. -/

namespace Sys2Proof.Machine

/-! ### The limits of each block -/

/-- The limits of the LAN reseed settings. -/
def LanWithin (x : LanSettings) : Prop :=
  (1 ≤ x.base.toNat ∧ x.base.toNat ≤ 256) ∧ (1 ≤ x.max.toNat ∧ x.max.toNat ≤ 256) ∧ 1 ≤ x.timeMs.toNat ∧ x.timeMs.toNat ≤ 100

/-- The limits of the STK settings. -/
def StkWithin (x : StkSettings) : Prop :=
  (1 ≤ x.maxAge.toNat ∧ x.maxAge.toNat ≤ 300000) ∧ (10 ≤ x.stallUs.toNat ∧ x.stallUs.toNat ≤ 100000) ∧
    10 ≤ x.period.toNat ∧ x.period.toNat ≤ 1000

/-- The limits of the EVT settings, with the codes that are always enabled. -/
def EvtWithin (x : EvtSettings) : Prop :=
  (1 ≤ x.thresh.toNat ∧ x.thresh.toNat ≤ 1024) ∧ x.mask.getD 0 0 &&& 0x800C = 0x800C

/-- The limits of RING_RETRY, whose two fields have a limit in common. -/
def RetryWithin (n us : Nat) : Prop := (2 ≤ n ∧ n ≤ 16) ∧ (5 ≤ us ∧ us ≤ 50) ∧ n * us ≤ 500

/-- The limits of the RING settings. -/
def RingWithin (x : RingSettings) : Prop :=
  ((10 ≤ x.creditTo.toNat ∧ x.creditTo.toNat ≤ 50) ∧ 16 ≤ x.debounce.toNat ∧ x.debounce.toNat ≤ 256) ∧
    RetryWithin x.retryMax.toNat x.replayUs.toNat ∧ (10 ≤ x.restoreMs.toNat ∧ x.restoreMs.toNat ≤ 10000) ∧
    (x.gatherMs = 0 ∨ (100 ≤ x.gatherMs.toNat ∧ x.gatherMs.toNat ≤ 60000))

/-- The limits of the TIM settings. -/
structure TimWithin (x : TimSettings) : Prop where
  slew : x.slewLimit.toNat ≤ 1000000
  ppm : 10 ≤ x.maxPpm.toNat ∧ x.maxPpm.toNat ≤ 500
  hold : 20 ≤ x.holdMs.toNat ∧ x.holdMs.toNat ≤ 8191
  late : x.late.toNat ≤ 100000
  syncTx : 1 ≤ x.syncTxMs.toNat ∧ x.syncTxMs.toNat ≤ 1000
  inPeriod : 100000 ≤ x.inPeriod.toNat ∧ x.inPeriod.toNat ≤ 1000000000
  outPeriod : 10000 ≤ x.outPeriod.toNat ∧ x.outPeriod.toNat ≤ 1000000000
  outWidth : 8 ≤ x.outWidth.toNat ∧ x.outWidth.toNat ≤ 65535

/-- The limits of the LSP settings. -/
def LspWithin (x : LspSettings) : Prop :=
  (4 ≤ x.len.toNat ∧ x.len.toNat ≤ 32) ∧ xipWithin x.xip0 = true ∧ xipWithin x.xip1 = true

/-- The limits of every block's settings. -/
structure Within (x : Settings) : Prop where
  sil : silWithin x.sil = true
  hlt : 100 ≤ x.hlt.retryMs.toNat ∧ x.hlt.retryMs.toNat ≤ 60000
  pln : 1 ≤ x.holdMax.toNat ∧ x.holdMax.toNat ≤ 100
  lan : LanWithin x.lan
  stk : StkWithin x.stk
  bne : x.bne.idleMs.toNat ≤ 10000
  evt : EvtWithin x.evt
  ring : RingWithin x.ring
  tim : TimWithin x.tim
  lsp : LspWithin x.lsp

/-- The statement's list of limits, block by block. -/
theorem settingsWithin_iff {x : Settings} : settingsWithin x = true ↔ Within x := by
  simp only [settingsWithin, within, Bool.and_eq_true, Bool.or_eq_true, decide_eq_true_eq]
  constructor
  · intro h
    have htim : TimWithin x.tim := ⟨by tauto, by tauto, by tauto, by tauto, by tauto, by tauto, by tauto, by tauto⟩
    refine ⟨by tauto, by tauto, by tauto, ?_, ?_, by tauto, ?_, ?_, htim, ?_⟩ <;>
      simp only [LanWithin, StkWithin, EvtWithin, RingWithin, RetryWithin, LspWithin] <;> tauto
  · rintro ⟨hsil, hhlt, hpln, hlan, hstk, hbne, hevt, hring, ⟨hslew, hppm, hhold, hlate, htx, hin, hout, hwidth⟩, hlsp⟩
    simp only [LanWithin, StkWithin, EvtWithin, RingWithin, RetryWithin, LspWithin] at hlan hstk hevt hring hlsp
    tauto

/-! ### What every command but those of power keeps to -/

/-- How settings may change: they stay within their limits, SYS_BOOT_DONE stays set and the sill registers as they are once it is, and the
same commands wait. -/
structure Steady (x y : Settings) : Prop where
  limits : Within x → Within y
  sill : x.sys.bootDone = true → y.sys.bootDone = true ∧ y.sil = x.sil
  pending : y.pending = x.pending

/-- The settings of one state may follow those of another. -/
def Keeps (s t : State) : Prop := Steady (settings s) (settings t)

theorem Keeps.of_eq {s t : State} (h : settings t = settings s) : Keeps s t := by
  unfold Keeps
  rw [h]
  exact ⟨id, fun hb => ⟨hb, rfl⟩, rfl⟩

theorem Keeps.refl (s : State) : Keeps s s := .of_eq rfl

theorem Keeps.trans {s t u : State} (h : Keeps s t) (g : Keeps t u) : Keeps s u where
  limits := g.limits ∘ h.limits
  sill hb := ⟨(g.sill (h.sill hb).1).1, ((g.sill (h.sill hb).1).2).trans (h.sill hb).2⟩
  pending := g.pending.trans h.pending

/-- An operation that changes no setting may follow. -/
theorem Keeps.then_eq {s t u : State} (h : settings u = settings t) (g : Keeps s t) : Keeps s u := g.trans (.of_eq h)

theorem Keeps.ite {c : Prop} [Decidable c] {s t u : State} (h : c → Keeps s t) (g : ¬ c → Keeps s u) :
    Keeps s (if c then t else u) := by
  split
  next hc => exact h hc
  next hc => exact g hc

theorem Keeps.onlyIf {c : Bool} {f : State → State} {s : State} (h : ∀ u, Keeps u (f u)) : Keeps s (onlyIf c f s) := by
  cases c
  · exact .refl s
  · exact h s

theorem Keeps.foldl {α : Type} {g : State → α → State} {l : List α} {s : State} (h : ∀ u x, Keeps u (g u x)) :
    Keeps s (l.foldl g s) := by
  induction l generalizing s with
  | nil => exact .refl s
  | cons x l ih => exact (h s x).trans ih

/-- Settings that have no limits, and are no sill register, may change: SYS apart from SYS_BOOT_DONE, the mailbox and the control core's
memory. -/
theorem Keeps.of_sys {s t : State} {y : Sys} {z : Mbx} (h : settings t = { settings s with sys := y, mbx := z })
    (hb : y.bootDone = s.sys.bootDone) : Keeps s t := by
  unfold Keeps
  rw [h]
  exact ⟨fun w => { w with }, fun hs => ⟨hb.trans hs, rfl⟩, rfl⟩

/-- Settings of units may change within their limits. -/
theorem Keeps.of_within {s t : State} (hsys : t.sys = s.sys) (hsil : silSettings t.sil = silSettings s.sil) (hp : t.pending = s.pending)
    (h : Within (settings s) → Within (settings t)) : Keeps s t :=
  ⟨h, fun hb => ⟨(congrArg Sys.bootDone hsys).trans hb, hsil⟩, hp⟩

/-- While the boot phase lasts, sill registers may change within their limits. -/
theorem Keeps.of_boot {s t : State} (hb : s.sys.bootDone = false) (hp : t.pending = s.pending)
    (h : Within (settings s) → Within (settings t)) : Keeps s t :=
  ⟨h, fun hs => absurd (hb.symm.trans hs) Bool.false_ne_true, hp⟩

/-! ### Guard events and ignored writes -/

theorem keeps_lockViol {r : ReqId} {off : Nat} {s : State} : Keeps s (lockViol r off s) := by
  unfold lockViol
  dsimp only
  split
  · exact .of_sys rfl rfl
  · exact .of_sys (settings_post.trans rfl) rfl

theorem keeps_of_sysOnly {s t : State} (h : SysOnly s t) : Keeps s t := by
  obtain ⟨y, rfl, hy⟩ := h
  exact .of_sys rfl (congrArg Sys.bootDone hy :)

theorem keeps_breakArm {r : ReqId} {s : State} : Keeps s (breakArm r s) := keeps_of_sysOnly (breakArm_sysOnly r s)

theorem keeps_breakOthers {r : ReqId} {g : Nat} {s : State} : Keeps s (breakOthers r g s) := keeps_of_sysOnly (breakOthers_sysOnly r g s)

theorem keeps_guardNote {r : ReqId} {g : Nat} {s : State} : Keeps s (guardNote r g s) := .of_sys rfl rfl

theorem keeps_guardBroken {r : ReqId} {g : Nat} {s : State} : Keeps s (guardBroken r g s) := .of_sys rfl rfl

theorem keeps_disarm {r : ReqId} {s : State} : Keeps s (disarm r s) := .of_sys rfl rfl

theorem keeps_guardArm {r : ReqId} {g : Nat} {v : W32} {s : State} : Keeps s (guardArm r g v s) := by
  have hdrop : Keeps s (breakOthers r g (breakArm r s)) := keeps_breakArm.trans keeps_breakOthers
  refine hdrop.trans ?_
  unfold guardArm
  dsimp only
  split
  · exact .of_sys rfl rfl
  · exact .of_sys rfl rfl

/-! ### Clamped fields -/

theorem clampN_mem {lo hi n : Nat} (h : lo ≤ hi) : lo ≤ clampN lo hi n ∧ clampN lo hi n ≤ hi := by
  unfold clampN
  split
  · omega
  · split <;> omega

/-- A field wide enough for its upper limit holds the clamped value. -/
theorem toNat_ofNat_clampN {w lo hi n : Nat} (h : lo ≤ hi) (hw : hi < 2 ^ w) : (BitVec.ofNat w (clampN lo hi n)).toNat = clampN lo hi n := by
  rw [BitVec.toNat_ofNat, Nat.mod_eq_of_lt (lt_of_le_of_lt (clampN_mem h).2 hw)]

/-- A field that takes a clamped value lies within its limits. -/
theorem clamped_mem {w lo hi n : Nat} (h : lo ≤ hi) (hw : hi < 2 ^ w) :
    lo ≤ (BitVec.ofNat w (clampN lo hi n)).toNat ∧ (BitVec.ofNat w (clampN lo hi n)).toNat ≤ hi := by
  rw [toNat_ofNat_clampN h hw]
  exact clampN_mem h

/-- Any weights but 1 to 4 are clamped to these (SIL_CLASS_WEIGHT). -/
theorem weights_within (v : W32) :
    [0, 8, 16, 24].all (fun i => within 1 4 (fld (packR ([0, 8, 16, 24].map (fun i => (i, clampN 1 4 (fld v i 3))))) i 3)) = true := by
  have h0 := clampN_mem (n := fld v 0 3) (show 1 ≤ 4 by decide)
  have h1 := clampN_mem (n := fld v 8 3) (show 1 ≤ 4 by decide)
  have h2 := clampN_mem (n := fld v 16 3) (show 1 ≤ 4 by decide)
  have h3 := clampN_mem (n := fld v 24 3) (show 1 ≤ 4 by decide)
  simp only [packR, List.map_cons, List.map_nil, List.foldl_cons, List.foldl_nil]
  generalize clampN 1 4 (fld v 0 3) = a at *
  generalize clampN 1 4 (fld v 8 3) = b at *
  generalize clampN 1 4 (fld v 16 3) = c at *
  generalize clampN 1 4 (fld v 24 3) = d at *
  simp only [List.all_cons, List.all_nil, within, fld, BitVec.toNat_ofNat, Nat.shiftRight_eq_div_pow, Nat.shiftLeft_eq,
    Bool.and_eq_true, decide_eq_true_eq, and_true]
  omega

end Sys2Proof.Machine

/-! PROOFS. The writes of the register blocks keep their settings within limits (R314, R338). -/

namespace Sys2Proof.Machine

/-! ### Register writes -/

theorem keeps_slowSelect {v : W32} {s : State} : Keeps s (slowSelect v s) := .of_sys rfl rfl

theorem keeps_sysWrite {off : Nat} {v : W32} {s : State} : Keeps s (sysWrite off v s) := by
  unfold sysWrite
  split
  · exact keeps_slowSelect
  · exact .of_sys rfl rfl
  · exact .refl s

/-- A change of the responses, and what follows for the lanes and planes. -/
theorem keeps_modeChange {before : Bool} {s : State} : Keeps s (modeChange before s) := .of_eq settings_modeChange

theorem keeps_silApply {off : Nat} {v : W32} {s : State} (hb : s.sys.bootDone = false) : Keeps s (silApply off v s) := by
  have hsil {y : Sil} (hy : silWithin s.sil = true → silWithin y = true) : Keeps s { s with sil := y } :=
    .of_boot hb rfl fun h => { h with sil := hy h.sil }
  have hrest {y : Sil} (hw : y.weights = s.sil.weights) (hf : y.floor = s.sil.floor) (hc : y.reseedCap = s.sil.reseedCap)
      (hr : y.reqLimit = s.sil.reqLimit) (hl : y.lspId = s.sil.lspId) : Keeps s { s with sil := y } :=
    hsil fun h => by simpa only [silWithin, hw, hf, hc, hr, hl] using h
  unfold silApply
  split
  · exact (hrest (y := { s.sil with compatOk := bitAt v 8, contCount := bitAt v 1, seasCount := bitAt v 0 }) rfl rfl rfl rfl rfl).trans
      keeps_modeChange
  · refine hsil fun h => ?_
    simp only [silWithin, Bool.and_eq_true, decide_eq_true_eq] at h ⊢
    have hf : fld v 0 4 < 16 := Nat.mod_lt _ (by decide)
    have hc : 2 ≤ clampN 2 (max 2 (boardsNotRetired s.grn)) (fld v 0 4) ∧ clampN 2 (max 2 (boardsNotRetired s.grn)) (fld v 0 4) < 16 := by
      unfold clampN
      split
      · omega
      · split <;> omega
    refine ⟨⟨⟨⟨h.1.1.1.1, ?_⟩, h.1.1.2⟩, h.1.2⟩, h.2⟩
    rw [BitVec.toNat_ofNat, Nat.mod_eq_of_lt hc.2]
    exact hc.1
  · refine (hsil (y := { s.sil with reseedCap := BitVec.ofNat 9 (clampN 1 256 (fld v 0 9)) }) fun h => ?_).trans (.of_eq settings_limitsChanged)
    simp only [silWithin, within, Bool.and_eq_true, decide_eq_true_eq] at h ⊢
    exact ⟨⟨⟨h.1.1.1, clamped_mem (by decide) (by decide)⟩, h.1.2⟩, h.2⟩
  · refine hsil fun h => ?_
    simp only [silWithin, within, Bool.and_eq_true, decide_eq_true_eq] at h ⊢
    exact ⟨⟨h.1.1, clamped_mem (by decide) (by decide)⟩, h.2⟩
  · refine hsil fun h => ?_
    simp only [silWithin, Bool.and_eq_true, decide_eq_true_eq] at h ⊢
    refine ⟨h.1, ?_⟩
    split
    · decide
    next hne =>
      intro hv
      have := congrArg BitVec.toNat hv
      simp [fld] at hne this
      omega
  · refine hsil fun h => ?_
    simp only [silWithin, Bool.and_eq_true] at h ⊢
    exact ⟨⟨⟨⟨weights_within v, h.1.1.1.2⟩, h.1.1.2⟩, h.1.2⟩, h.2⟩
  · split
    · exact hrest rfl rfl rfl rfl rfl
    · exact hrest rfl rfl rfl rfl rfl
    · exact .refl s

theorem keeps_bootOnly {r : ReqId} {off : Nat} {f : State → State} {s : State} (h : s.sys.bootDone = false → Keeps s (f s)) :
    Keeps s (bootOnly r off f s) := by
  unfold bootOnly
  split
  · exact keeps_lockViol
  next hb => exact h (Bool.eq_false_iff.mpr hb)

theorem keeps_silWrite {r : ReqId} {off : Nat} {v : W32} {s : State} : Keeps s (silWrite r off v s) := by
  unfold silWrite
  exact .ite (fun _ => keeps_bootOnly keeps_silApply) fun _ => .refl s

theorem keeps_calWrite {r : ReqId} {off : Nat} {v : W32} {s : State} : Keeps s (calWrite r off v s) := by
  unfold calWrite
  split
  · exact .refl s
  · exact .ite (fun _ => keeps_lockViol) fun _ => .of_eq settings_calApply

theorem keeps_plnWrite {off : Nat} {v : W32} {s : State} : Keeps s (plnWrite off v s) := by
  unfold plnWrite
  split
  · exact .of_eq (by simp)
  · exact .of_within rfl rfl rfl fun h => { h with pln := clamped_mem (by decide) (by decide) }
  · exact .of_eq (settings_onlyIf fun _ => rfl)
  · split
    · exact .of_eq (by simp)
    · exact .of_eq (by simp)
    · exact .refl s

theorem keeps_lanWrite {off : Nat} {v : W32} {s : State} : Keeps s (lanWrite off v s) := by
  unfold lanWrite
  split
  · refine .then_eq settings_limitsChanged (.of_within rfl rfl rfl fun h => ?_)
    exact { h with lan := ⟨clamped_mem (by decide) (by decide), h.lan.2⟩ }
  · refine .then_eq settings_limitsChanged (.of_within rfl rfl rfl fun h => ?_)
    exact { h with lan := ⟨h.lan.1, clamped_mem (by decide) (by decide), h.lan.2.2⟩ }
  · exact .of_within rfl rfl rfl fun h => { h with lan := ⟨h.lan.1, h.lan.2.1, clamped_mem (by decide) (by decide)⟩ }
  · exact .of_eq settings_lanEnWrite
  · exact .of_eq settings_lanCmd
  · exact .of_within rfl rfl rfl fun h => { h with }
  · split
    · exact .of_eq settings_lanQbindWrite
    · exact .of_eq (by simp)
    · exact .refl s

theorem keeps_stkWrite {off : Nat} {v : W32} {s : State} : Keeps s (stkWrite off v s) := by
  unfold stkWrite
  split
  · exact .of_within rfl rfl rfl fun h => { h with stk := ⟨clamped_mem (by decide) (by decide), h.stk.2⟩ }
  · exact .of_within rfl rfl rfl fun h => { h with stk := ⟨h.stk.1, clamped_mem (by decide) (by decide), h.stk.2.2⟩ }
  · exact .of_eq rfl
  · exact .of_eq rfl
  · exact .of_eq rfl
  · exact .of_within rfl rfl rfl fun h => { h with stk := ⟨h.stk.1, h.stk.2.1, clamped_mem (by decide) (by decide)⟩ }
  · exact .of_eq settings_stkTagSel
  · exact .of_eq rfl
  · exact .of_eq rfl
  · split
    · exact .of_eq settings_queueWrite
    · exact .refl s

theorem keeps_bneWrite {r : ReqId} {off : Nat} {v : W32} {s : State} : Keeps s (bneWrite r off v s) := by
  unfold bneWrite
  split
  · exact .of_within rfl rfl rfl fun h => { h with bne := (clamped_mem (by decide) (by decide)).2 }
  · exact .of_eq (by simp)
  · exact .of_eq rfl
  · exact .of_eq rfl
  · split
    · exact .of_eq (by simp)
    · exact .of_eq (by simp)
    · exact .refl s

/-- The two fields of RING_RETRY stay within their limits and their product within 500. -/
theorem retryWithin_write (v : W32) :
    let us := clampN 5 50 (fld v 0 6)
    let n := clampN 2 16 (fld v 16 5)
    RetryWithin (BitVec.ofNat 5 (if 500 < n * us then 500 / us else n)).toNat (BitVec.ofNat 6 us).toNat := by
  have hus := clampN_mem (n := fld v 0 6) (show 5 ≤ 50 by decide)
  have hn := clampN_mem (n := fld v 16 5) (show 2 ≤ 16 by decide)
  dsimp only
  generalize clampN 5 50 (fld v 0 6) = us at *
  generalize clampN 2 16 (fld v 16 5) = n at *
  have huslt : us % 2 ^ 6 = us := Nat.mod_eq_of_lt (by omega)
  rw [BitVec.toNat_ofNat, BitVec.toNat_ofNat, huslt]
  split
  next hbig =>
    have hq : 500 / us ≤ 16 := by
      have : 500 / us < n := Nat.div_lt_of_lt_mul (by rwa [Nat.mul_comm])
      omega
    have hlo : 2 ≤ 500 / us := (Nat.le_div_iff_mul_le (by omega)).mpr (by omega)
    rw [Nat.mod_eq_of_lt (by omega : 500 / us < 2 ^ 5)]
    exact ⟨⟨hlo, hq⟩, hus, Nat.div_mul_le_self 500 us⟩
  next hsmall =>
    rw [Nat.mod_eq_of_lt (by omega : n < 2 ^ 5)]
    exact ⟨hn, hus, by omega⟩

theorem keeps_retryWrite {v : W32} {s : State} : Keeps s (retryWrite v s) :=
  .of_within rfl rfl rfl fun h => { h with ring := ⟨h.ring.1, retryWithin_write v, h.ring.2.2⟩ }

theorem keeps_mgrCtrlWrite {v : W32} {s : State} : Keeps s (mgrCtrlWrite v s) := by
  unfold mgrCtrlWrite
  refine .ite (fun _ => .of_within rfl rfl rfl fun h => { h with ring := ⟨h.ring.1, h.ring.2.1, h.ring.2.2.1, ?_⟩ }) fun _ => .refl s
  show BitVec.ofNat 16 _ = 0 ∨ _
  split
  · exact .inl rfl
  · exact .inr (clamped_mem (by decide) (by decide))

theorem keeps_ringWrite {off : Nat} {v : W32} {s : State} : Keeps s (ringWrite off v s) := by
  unfold ringWrite
  split
  · exact .of_within rfl rfl rfl fun h => { h with }
  · exact .then_eq settings_restoreCmd (.of_within rfl rfl rfl fun h => { h with })
  · exact .of_within rfl rfl rfl fun h =>
      { h with ring := ⟨⟨clamped_mem (by decide) (by decide), clamped_mem (by decide) (by decide)⟩, h.ring.2⟩ }
  · exact keeps_retryWrite
  · exact .of_within rfl rfl rfl fun h => { h with ring := ⟨h.ring.1, h.ring.2.1, clamped_mem (by decide) (by decide), h.ring.2.2.2⟩ }
  · exact .of_eq rfl
  · exact .of_eq rfl
  · exact .of_eq rfl
  · exact .of_eq rfl
  · exact .of_eq rfl
  · exact .of_eq rfl
  · exact keeps_mgrCtrlWrite
  · exact .of_eq rfl
  · split
    · exact .of_within rfl rfl rfl fun h => { h with }
    · exact .refl s

/-- TIM_CTRL holds no setting with limits. -/
theorem settings_timCtrlWrite {v : W32} {s : State} :
    settings (timCtrlWrite v s) = { settings s with tim := { timSettings s.tim with
      syncPol := bitAt v 9, syncEn := bitAt v 8, clkSel := bitAt v 4, src := v.setWidth 2 } } := by
  unfold timCtrlWrite
  dsimp only
  cases decide (bitAt v 4 ≠ s.tim.clkSel) <;> split <;> rfl

theorem keeps_timCtrlWrite {v : W32} {s : State} : Keeps s (timCtrlWrite v s) := by
  unfold Keeps
  rw [settings_timCtrlWrite]
  exact ⟨fun h => { h with tim := { h.tim with } }, fun hb => ⟨hb, rfl⟩, rfl⟩

theorem keeps_syncTxWrite {v : W32} {s : State} : Keeps s (syncTxWrite v s) := by
  unfold syncTxWrite
  exact .ite (fun _ => .of_within rfl rfl rfl fun h => { h with tim := { h.tim with syncTx := clamped_mem (by decide) (by decide) } })
    fun _ => .refl s

theorem keeps_timWrite {off : Nat} {v : W32} {s : State} : Keeps s (timWrite off v s) := by
  unfold timWrite
  split
  · exact keeps_timCtrlWrite
  · exact .of_within rfl rfl rfl fun h => { h with tim := { h.tim with slew := (clamped_mem (by decide) (by decide)).2 } }
  · exact .of_within rfl rfl rfl fun h =>
      { h with tim := { h.tim with ppm := clamped_mem (by decide) (by decide), hold := clamped_mem (by decide) (by decide) } }
  · exact .of_within rfl rfl rfl fun h => { h with tim := { h.tim with late := (clamped_mem (by decide) (by decide)).2 } }
  · exact keeps_syncTxWrite
  · exact .of_within rfl rfl rfl fun h => { h with tim := { h.tim with inPeriod := clamped_mem (by decide) (by decide) } }
  · exact .of_eq rfl
  · exact .of_eq settings_syncOutStart
  · exact .of_eq rfl
  · refine .then_eq settings_resched (.of_within rfl rfl rfl fun h => ?_)
    exact { h with tim := { h.tim with outPeriod := clamped_mem (by decide) (by decide) } }
  · exact .of_within rfl rfl rfl fun h => { h with tim := { h.tim with outWidth := clamped_mem (by decide) (by decide) } }
  · exact .of_eq rfl
  · exact .of_eq rfl
  · exact .of_eq rfl
  · exact .of_eq rfl
  · exact .of_eq rfl
  · exact .refl s

end Sys2Proof.Machine

/-! PROOFS. The flash windows, the mailbox and the guarded pairs, and with them every access to registers, keep to the relation of the
settings before and after. -/

namespace Sys2Proof.Machine

theorem lspWithin_updXip {w : Nat} {f : XipCfg → XipCfg} {s : State} (hf : ∀ c, xipWithin c = true → xipWithin (f c) = true)
    (h : Within (settings s)) : Within (settings (updXip w f s)) := by
  obtain ⟨hlen, h0, h1⟩ := h.lsp
  have hlsp : LspWithin (lspSettings (updXip w f s).lsp) := by
    unfold updXip
    by_cases hw : w = 0
    · rw [if_pos hw]
      exact ⟨hlen, hf s.lsp.w0 h0, h1⟩
    · rw [if_neg hw]
      exact ⟨hlen, h0, hf s.lsp.w1 h1⟩
  exact { h with lsp := hlsp }

theorem keeps_updXip {w : Nat} {f : XipCfg → XipCfg} {s : State} (hf : ∀ c, xipWithin c = true → xipWithin (f c) = true) :
    Keeps s (updXip w f s) :=
  .of_within rfl rfl rfl (lspWithin_updXip hf)

theorem keeps_xipWriteReg {w k : Nat} {v : W32} {s : State} : Keeps s (xipWriteReg w k v s) := by
  unfold xipWriteReg
  split
  · refine keeps_updXip fun c h => ?_
    simp only [xipWithin, Bool.and_eq_true, decide_eq_true_eq] at h ⊢
    refine ⟨⟨⟨?_, h.1.1.2⟩, h.1.2⟩, h.2⟩
    rw [BitVec.toNat_ofNat]
    omega
  · exact keeps_updXip fun c h => h
  · refine .ite (fun _ => .refl s) fun _ => keeps_updXip fun c h => ?_
    simp only [xipWithin, Bool.and_eq_true, decide_eq_true_eq] at h ⊢
    refine ⟨⟨⟨h.1.1.1, ?_⟩, h.1.2⟩, h.2⟩
    rw [BitVec.toNat_ofNat]
    omega
  · refine keeps_updXip fun c h => ?_
    simp only [xipWithin, within, Bool.and_eq_true, decide_eq_true_eq] at h ⊢
    exact ⟨⟨h.1.1, clamped_mem (by decide) (by decide)⟩, clamped_mem (by decide) (by decide)⟩
  · exact keeps_updXip fun c h => h
  · exact .refl s

theorem keeps_lspWrite {off : Nat} {v : W32} {s : State} : Keeps s (lspWrite off v s) := by
  unfold lspWrite
  split
  · exact .of_within rfl rfl rfl fun h => { h with }
  · exact .of_within rfl rfl rfl fun h => { h with lsp := ⟨clamped_mem (by decide) (by decide), h.lsp.2⟩ }
  · exact .of_eq settings_txDataWrite
  · exact .of_eq rfl
  · exact .ite (fun _ => .refl s) fun _ => .then_eq settings_dselSync (.of_within rfl rfl rfl fun h => { h with })
  · exact .of_eq rfl
  · split
    · exact keeps_xipWriteReg
    · exact keeps_xipWriteReg
    · exact .of_eq rfl
    · exact .refl s

theorem getD_upd {α : Type} {l : List α} {i : Nat} {f : α → α} {d : α} :
    (upd l i f).getD 0 d = if i = 0 ∧ l ≠ [] then f (l.getD 0 d) else l.getD 0 d := by
  cases l with
  | nil => simp [upd]
  | cons x xs => cases i <;> simp [upd]

/-- EVT_MASK_0 keeps the codes 0x02, 0x03 and 0x0F enabled. -/
theorem evtMask_forced {l : List W32} {i : Nat} {v : W32} (h : l.getD 0 0 &&& 0x800C = 0x800C) :
    (upd l i (fun _ => (v &&& evtDefined.getD i 0) ||| (if i = 0 then 0x0000800C else 0))).getD 0 0 &&& 0x800C = 0x800C := by
  rw [getD_upd]
  split
  next hi =>
    rw [if_pos hi.1]
    ext k hk
    simp only [BitVec.getElem_and, BitVec.getElem_or]
    cases (0x800C : W32)[k] <;> simp
  next => exact h

theorem keeps_evtWrite {off : Nat} {v : W32} {s : State} : Keeps s (evtWrite off v s) := by
  unfold evtWrite
  split
  · exact .of_within rfl rfl rfl fun h => { h with }
  · exact .of_within rfl rfl rfl fun h => { h with evt := ⟨clamped_mem (by decide) (by decide), h.evt.2⟩ }
  · exact .of_eq rfl
  · split
    · exact .of_within rfl rfl rfl fun h => { h with evt := ⟨h.evt.1, evtMask_forced h.evt.2⟩ }
    · exact .refl s

theorem keeps_roleSwitch {s : State} : Keeps s (roleSwitch s) := by
  unfold roleSwitch
  refine .ite (fun _ => .refl s) fun _ => ?_
  refine .then_eq settings_dselSync (.trans (t := xipEndWaiting (fun _ => true) 3 (mstErr 1) { s with lsp := { s.lsp with role := true } })
    (.then_eq (settings_xipEndWaiting fun _ => settings_mstErr) (.of_within rfl rfl rfl fun h => { h with })) (.of_eq rfl))

theorem keeps_flashLock {l0 l1 : Bool} {s : State} : Keeps s (flashLock l0 l1 s) := by
  unfold flashLock
  exact .then_eq (settings_xipEndWaiting fun _ => settings_mstErr) (.of_within rfl rfl rfl fun h => { h with })

/-- A write of a register that is neither guarded nor in the mailbox. -/
theorem keeps_plainWrite {r : ReqId} {off : Nat} {v : W32} {s : State} : Keeps s (plainWrite r off v s) := by
  unfold plainWrite
  split
  · exact keeps_sysWrite
  · exact keeps_silWrite
  · exact keeps_calWrite
  · exact .of_eq settings_grnWrite
  · exact .of_eq settings_hltWrite
  · exact keeps_plnWrite
  · exact keeps_lanWrite
  · exact keeps_stkWrite
  · exact .of_eq settings_jobWrite
  · exact keeps_bneWrite
  · exact keeps_ringWrite
  · exact keeps_timWrite
  · exact .ite (fun _ => keeps_bootOnly fun _ => .onlyIf fun _ => keeps_roleSwitch) fun _ => keeps_lspWrite
  · exact keeps_evtWrite
  · exact .of_eq settings_cmpWrite
  · exact .refl s

/-! ### The mailbox -/

theorem keeps_mbx {y : Mbx} {s : State} : Keeps s { s with mbx := y } := .of_sys (y := s.sys) rfl rfl

theorem keeps_mbxEnd {s : State} : Keeps s (mbxEnd s) := keeps_mbx

theorem keeps_mbxTimeout {s : State} : Keeps s (mbxTimeout s) := .ite (fun _ => keeps_mbxEnd) fun _ => .refl s

theorem keeps_mbxTouch {r : ReqId} {off : Nat} {s : State} : Keeps s (mbxTouch r off s) :=
  .ite (fun _ => .trans keeps_mbxTimeout (.ite (fun _ => keeps_mbx) fun _ => .refl _)) fun _ => .refl s

theorem keeps_mbxFail {err : Nat} {s : State} : Keeps s (mbxFail err s) := keeps_mbx

theorem keeps_mbxRead {r : ReqId} {item : Nat} {s : State} : Keeps s (mbxRead r item s) := by
  refine .ite (fun _ => keeps_mbxFail) fun _ => ?_
  refine .of_sys (y := s.sys) (z := { s.mbx with valid := true, err := 0, data := eight ((mbxItem s item).getD []) }) ?_ rfl
  split <;> rfl

/-- A page of the access class table is written in the boot phase only (R342). -/
theorem bootDone_of_mbxErr {r : ReqId} {item : Nat} {s : State} (h : mbxErr s r true item = 0) : s.sys.bootDone = false := by
  unfold mbxErr at h
  cases hb : s.sys.bootDone with
  | false => rfl
  | true =>
    simp only [hb, Bool.true_and, if_true] at h
    (repeat' split at h) <;> cases h

theorem keeps_classes {y : Mbx} {l : List W32} {s : State} (hb : s.sys.bootDone = false) :
    Keeps s { s with mbx := y, sil := { s.sil with classes := l } } :=
  .of_boot hb rfl fun h => { h with }

theorem keeps_mbxApply {r : ReqId} {item : Nat} {s : State} : Keeps s (mbxApply r item s) := by
  unfold mbxApply
  refine .ite (fun _ => .trans keeps_mbxFail (.onlyIf (f := lockViol r 0x3000) fun _ => keeps_lockViol)) fun herr => ?_
  exact keeps_classes (bootDone_of_mbxErr (not_not.mp herr))

theorem keeps_mbxSelect {r : ReqId} {v : W32} {s : State} : Keeps s (mbxSelect r v s) := by
  unfold mbxSelect
  dsimp only
  refine .ite (fun _ => .ite (fun _ => .trans keeps_mbx keeps_mbxEnd) fun _ => .refl s) fun _ => ?_
  refine .ite (fun _ => .refl s) fun _ => ?_
  refine .ite (fun _ => .trans keeps_mbx keeps_mbxRead) fun _ => ?_
  exact .ite (fun _ => .trans keeps_mbx keeps_mbxApply) fun _ => keeps_mbx

theorem keeps_mbxWrite {r : ReqId} {off : Nat} {v : W32} {s : State} : Keeps s (mbxWrite r off v s) := by
  unfold mbxWrite
  refine .ite (fun _ => keeps_mbxSelect) fun _ => ?_
  split
  · exact .ite (fun _ => keeps_mbx) fun _ => .refl s
  · exact .refl s

/-! ### Guarded pairs -/

theorem keeps_post {code idx detail : Nat} {s : State} : Keeps s (post code idx detail s) := .of_eq settings_post

/-- SYS_BOOT_DONE is set while the boot phase lasts. -/
theorem keeps_bootClose {s : State} (hb : s.sys.bootDone = false) : Keeps s (bootClose s) := by
  have hset : Keeps s { s with
      sys := { s.sys with bootDone := true }, pwr := { s.pwr with ready := true }, sil := { s.sil with stage := 5 } } :=
    .of_boot hb rfl fun h => { h with }
  refine .then_eq ?_ hset
  unfold bootClose
  dsimp only
  rw [settings_post, settings_ite, settings_enterService, ite_self, settings_ite, settings_enterService, ite_self, settings_sendIdents]

theorem keeps_compatSet {en pin : Bool} {s : State} : Keeps s (compatSet en pin s) := by
  have hsys : Keeps s { s with sys := { s.sys with compatEn := en, compatPin := pin } } := .of_sys (z := s.mbx) rfl rfl
  exact hsys.trans keeps_modeChange

theorem keeps_retryPair {v : W32} {s : State} : Keeps s (retryPair v s) :=
  .of_within rfl rfl rfl fun h => { h with hlt := clamped_mem (by decide) (by decide) }

theorem keeps_timCmdPair {v : W32} {s : State} : Keeps s (timCmdPair v s) :=
  .trans (.of_eq settings_timCmd) (.of_within rfl rfl rfl fun h => { h with tim := { h.tim with } })

theorem keeps_flashLockPair {v : W32} {s : State} : Keeps s (flashLockPair v s) :=
  .trans keeps_flashLock (.of_within rfl rfl rfl fun h => { h with })

/-- A guarded register that is not pinned takes the value of a pair. -/
theorem keeps_guardApply {r : ReqId} {g : Nat} {v : W32} {s : State} (hp : isPinned s g = false) : Keeps s (guardApply r g v s) := by
  unfold guardApply
  split
  · exact .ite (fun _ => keeps_lockViol) fun _ => by
      cases hv : bitAt v 0 with
      | false => exact .refl s
      | true => exact keeps_bootClose hp
  · exact keeps_compatSet
  · exact .of_eq settings_calRestorePair
  · exact .of_eq settings_grnRetire
  · exact .of_eq settings_capturePair
  · exact keeps_retryPair
  · exact keeps_timCmdPair
  · exact .of_eq settings_mstCmdPair
  · exact keeps_flashLockPair
  · exact .refl s

theorem keeps_guardComplete {r : ReqId} {g : Nat} {v : W32} {s : State} (hp : isPinned s g = false) : Keeps s (guardComplete r g v s) := by
  refine .ite (fun _ => ?_) fun _ => keeps_guardApply hp
  refine .then_eq settings_guardRefusal (.trans (t := { s with sys := { s.sys with gRefused := true } }) ?_ keeps_guardNote)
  exact .of_sys (z := s.mbx) rfl rfl

theorem keeps_guardComp {r : ReqId} {g : Nat} {w : W32} {s : State} (hp : isPinned s g = false) : Keeps s (guardComp r g w s) := by
  have hothers := breakOthers_sysOnly r g s
  refine (keeps_of_sysOnly hothers).trans ?_
  unfold guardComp
  dsimp only
  split
  · exact keeps_guardBroken
  · refine .ite (fun _ => keeps_breakArm.trans keeps_guardBroken) fun _ => .ite (fun _ => ?_) fun _ => ?_
    · have hdisarm : SysOnly (breakOthers r g s) (disarm r (breakOthers r g s)) := ⟨_, rfl, rfl⟩
      have hpin : isPinned (disarm r (breakOthers r g s)) g = false := by
        rw [isPinned_sysOnly (hothers.trans hdisarm), hp]
      exact (keeps_of_sysOnly hdisarm).trans (keeps_guardComplete hpin)
    · refine .trans ?_ keeps_guardNote
      exact .of_sys (z := (breakOthers r g s).mbx) rfl rfl

theorem keeps_guardWrite {r : ReqId} {g off : Nat} {v : W32} {s : State} : Keeps s (guardWrite r g off v s) := by
  refine (keeps_of_sysOnly (guardExpire_sysOnly s)).trans ?_
  refine .ite (fun _ => keeps_breakArm.trans keeps_lockViol) fun hp => ?_
  exact .ite (fun _ => keeps_guardArm) fun _ => keeps_guardComp (Bool.eq_false_iff.mpr hp)

theorem keeps_guardTimeout {r : ReqId} {s : State} : Keeps s (guardTimeout r s) := by
  unfold guardTimeout
  split
  · exact .ite (fun _ => .refl s) fun _ => keeps_breakArm
  · exact .refl s

/-! ### Accesses to registers -/

theorem keeps_regAfter {r : ReqId} {off : Nat} {s : State} : Keeps s (regAfter r off s) := by
  unfold regAfter
  split
  case h_1 | h_2 | h_3 => exact .of_sys (z := s.mbx) rfl rfl
  case h_4 => exact .onlyIf fun _ => keeps_mbxEnd
  case h_20 => exact .onlyIf fun _ => .of_eq rfl
  all_goals exact .of_eq (by simp)

theorem keeps_writeOne {r : ReqId} {off : Nat} {v : W32} {s : State} : Keeps s (writeOne r off v s) := by
  unfold writeOne
  split
  · exact keeps_guardWrite
  · exact keeps_breakArm.trans (.ite (fun _ => keeps_mbxTouch.trans keeps_mbxWrite) fun _ => keeps_plainWrite)

theorem keeps_readOne {r : ReqId} {off : Nat} {s : State} : Keeps s (readOne r off s).2 :=
  (keeps_mbxTouch.trans keeps_regAfter).trans keeps_breakArm

theorem keeps_writeMany {r : ReqId} {off : Nat} {vs : List W32} {s : State} : Keeps s (writeMany r off vs s) := by
  induction vs generalizing off s with
  | nil => exact .refl s
  | cons v vs ih => exact keeps_writeOne.trans ih

theorem keeps_readMany {r : ReqId} {off n : Nat} {s : State} : Keeps s (readMany r off n s).2 := by
  induction n generalizing off s with
  | zero => exact .refl s
  | succ n ih => exact keeps_readOne.trans ih

theorem keeps_regWrite {r : ReqId} {off : Nat} {ws : List W32} {s : State} : Keeps s (regWrite r off ws s).2 := by
  unfold regWrite
  split
  · exact .refl s
  · exact keeps_writeMany

theorem keeps_regRead {r : ReqId} {off n : Nat} {s : State} : Keeps s (regRead r off n s).2.2 := by
  unfold regRead
  split
  · exact .refl s
  · exact keeps_readMany

theorem keeps_cmpRead {a : Acc} {off n : Nat} {s : State} : Keeps s (cmpRead a off n s) := by
  refine .ite (fun _ => .then_eq settings_deliveryRead keeps_breakArm) fun _ => .ite (fun _ => .refl s) fun _ => ?_
  exact .then_eq settings_stallingRead ((keeps_readMany.trans keeps_breakArm).trans keeps_readMany)

/-- An access that arrives keeps to what its effect keeps to. -/
theorem keeps_arrive {a : Acc} {hold w : Bool} {f : Acc → State → State} {s : State} (hf : ∀ b u, Keeps u (f b u)) :
    Keeps s (arrive a hold w f s) := by
  unfold arrive
  dsimp only
  split
  · refine .ite (fun _ => .refl s) fun _ => ?_
    refine .ite (fun _ => .of_eq (by simp)) fun _ => .ite (fun _ => .of_eq (by simp)) fun _ => ?_
    exact .trans (.of_eq settings_takeRequest) (hf _ _)
  · exact .ite (fun _ => .ite (fun _ => hf _ _) fun _ => .refl s) fun _ => .ite (fun _ => hf _ _) fun _ => .refl s

theorem keeps_answer {a : Acc} {w : Bool} {st : Nat} {d : List Byte} {x : Bool} {s t : State} (h : Keeps s t) :
    Keeps s (answer a w st d x t) := .then_eq settings_answer h

theorem keeps_writeAccess {a : Acc} {off : Nat} {ws : List W32} {s : State} : Keeps s (writeAccess a off ws s) :=
  keeps_arrive fun _ _ => keeps_answer keeps_regWrite

theorem keeps_readAccess {a : Acc} {off n : Nat} {s : State} : Keeps s (readAccess a off n s) := by
  have harrive : ∀ u : State, Keeps u (arrive a false false (fun b t =>
      let x := regRead b.req off n t
      answer b false x.1 (w32ToBytes x.2.1) false x.2.2) u) :=
    fun u => keeps_arrive fun _ _ => keeps_answer keeps_regRead
  unfold readAccess
  split
  · exact .ite (fun _ => keeps_answer (.of_eq settings_takeRequest)) fun _ => harrive s
  · exact harrive s

theorem keeps_cmpData {a : Acc} {off n : Nat} {s : State} : Keeps s (cmpData a off n s) := by
  refine .ite (fun _ => keeps_arrive fun b u => ?_) fun _ => keeps_readAccess
  split
  · exact keeps_cmpRead
  · split
    · exact keeps_answer (.of_eq settings_dropHold)
    · exact keeps_answer (.refl u)

end Sys2Proof.Machine

/-! PROOFS. What a command that is an access to registers can do, by the kind of the access; and with that the settings over every
command and tick (R314, R338). -/

namespace Sys2Proof.Machine

/-! ### Accesses to registers -/

/-- The commands that are accesses to registers: writes and guarded pairs of one register, writes of several, and reads. -/
def isAccessRow : Instr → Bool
  | .bootDone _ | .calRestore _ _ _ _ | .calLock _ _ _ | .calRestorePin _ _ _ | .compatEnter _ _ | .compatLeave _ _ | .compatPin _ _
  | .grnRetire _ _ _ | .captureStart _ _ _ | .capturePin _ _ _ | .hltRetryPin _ _ | .timeSet _ _ _ | .timeAdj _ _ | .timCmdPin _ _ _
  | .rawCommand _ _ | .flashLock _ _ _ _ | .flashLockPin _ _ _ => true
  | .silHltRespWrite _ _ | .slowClockSelect _ _ | .grnRestart _ _ | .hltSnap _ | .plnKatCmd _ _ | .talSnap _ | .lanEnWrite _ _
  | .lanReseedCmd _ _ | .lanKatCmd _ _ | .stkTagSelWrite _ _ | .jobTagSelWrite _ _ | .benchKatCmd _ _ | .portRestoreCmd _ _
  | .syncoutStartWrite _ _ | .roleSwitch _ _ | .lspTxDataWrite _ _ | .cmpCellEnWrite _ _ | .cmpRefresh _ => true
  | .grnEnWrite _ _ _ | .lanQbindWrite _ _ _ | .queueEnable _ _ _ | .queueDisable _ _ _ | .queueFlush _ _ _ | .queueConfigWrite _ _ _ _
  | .benchClaim _ _ | .benchRelease _ _ => true
  | .grnRawDataRead _ | .jobPeakRead _ | .lspRxDataRead _ | .mbxData7Read _ | .cmpFailCntRead _ => true
  | .dqMinRead _ _ | .dqWptrRead _ _ => true
  | .calOverrideWrite _ _ _ => true
  | .mbxClaim _ _ | .mbxRelease _ | .mbxUidRead _ | .mbxClassTableRead _ _ | .mbxClassTableWrite _ _ | .mbxOtpInfoRead _
  | .mbxKeyDigestRead _ _ | .mbxTallyPageRead _ _ | .mbxUcodeDigestRead _ | .mbxGatherTallyRead _ _ | .mbxGatherHealthRead _
  | .mbxTimeCapture _ | .mbxSyncInStamp _ | .mbxEventRemove _ | .mbxEventPeek _ => true
  | .guardArm _ _ _ => true
  | .guardComplement _ _ _ => true
  | .cmpDataRead _ => true
  | .registerWrite _ _ _ => true
  | .clearingRead _ _ _ => true
  | _ => false

/-- What an access to registers does: nothing, or a write or a read that arrives, one that takes in CMP_DATA, or one whose length is no
multiple of 4 bytes. -/
inductive AccessStep (s : State) : State → Prop
  | none : AccessStep s s
  | write {a : Acc} {off : Nat} {ws : List W32} : AccessStep s (writeAccess a off ws s)
  | read {a : Acc} {off n : Nat} : AccessStep s (readAccess a off n s)
  | cmp {a : Acc} {off n : Nat} : AccessStep s (cmpData a off n s)
  | odd {a : Acc} {w : Bool} {off len : Nat} : AccessStep s (oddAccess a w off len s)

theorem AccessStep.ite {c : Prop} [Decidable c] {s t u : State} (h : AccessStep s t) (g : AccessStep s u) :
    AccessStep s (if c then t else u) := by
  split
  · exact h
  · exact g

theorem accessStep_rowWrite {a : Acc} {b : Bool} {off : Nat} {v : W32} {s : State} : AccessStep s (rowWrite a b off v s) := .ite .write .none

theorem accessStep_rowRead {a : Acc} {b : Bool} {off : Nat} {s : State} : AccessStep s (rowRead a b off s) := .ite .read .none

theorem accessStep_pairRow {a : Acc} {g : Nat} {v : W32} {s : State} : AccessStep s (pairRow a g v s) := by
  unfold pairRow
  cases armedNow s (norm s a).req with
  | none => exact .write
  | some x => exact .ite .write .write

theorem accessStep_calRow {a : Acc} {r : CalReg} {v : W32} {s : State} : AccessStep s (calRow a r v s) := by
  cases r with
  | cutCell | cutWit | timeTrim => exact .write
  | cell n | wit b => exact accessStep_rowWrite

theorem accessStep_mbxRow {a : Acc} {op item : Nat} {s : State} : AccessStep s (mbxRow a op item s) := .write

theorem accessStep_armRow {a : Acc} {off : Nat} {v : W32} {s : State} : AccessStep s (armRow a off v s) := accessStep_rowWrite

theorem accessStep_compRow {a : Acc} {off : Nat} {v : W32} {s : State} : AccessStep s (compRow a off v s) := accessStep_rowWrite

theorem accessStep_writeRow {a : Acc} {off : Nat} {ws : List W32} {l : List Byte} {s : State} : AccessStep s (writeRow a off ws l s) :=
  .ite .write .odd

theorem accessStep_regRow {a : Acc} {off n extra : Nat} {s : State} : AccessStep s (regRow a off n extra s) := .ite .cmp .odd

/-- What a command leaves that is an access: the state as it was, or what follows the access. -/
def AccessDone (s t : State) : Prop := t = s ∨ ∃ u, AccessStep s u ∧ t = finishUp u

theorem accessDone_act {f : State → State} {s : State} (h : ∀ u, AccessStep u (f u)) : AccessDone s (act f s) := by
  unfold act
  split
  · exact .inr ⟨f s, h s, rfl⟩
  · exact .inl rfl

theorem accessDone_of_exec {c : Instr} {s t : State} (hc : isAccessRow c = true) (h : exec c s = .next t) : AccessDone s t := by
  cases c
  case bootDone | calRestore | calLock | calRestorePin | compatEnter | compatLeave | compatPin | grnRetire | captureStart | capturePin |
    hltRetryPin | timeSet | timeAdj | timCmdPin | rawCommand | flashLock | flashLockPin =>
    cases h; exact accessDone_act fun _ => accessStep_pairRow
  case silHltRespWrite | slowClockSelect | grnRestart | hltSnap | plnKatCmd | talSnap | lanEnWrite | lanReseedCmd | lanKatCmd |
    stkTagSelWrite | jobTagSelWrite | benchKatCmd | portRestoreCmd | syncoutStartWrite | roleSwitch | lspTxDataWrite | cmpCellEnWrite |
    cmpRefresh =>
    cases h; exact accessDone_act fun _ => .write
  case grnEnWrite | lanQbindWrite | queueEnable | queueDisable | queueFlush | queueConfigWrite | benchClaim | benchRelease =>
    cases h; exact accessDone_act fun _ => accessStep_rowWrite
  case grnRawDataRead | jobPeakRead | lspRxDataRead | mbxData7Read | cmpFailCntRead =>
    cases h; exact accessDone_act fun _ => .read
  case dqMinRead | dqWptrRead =>
    cases h; exact accessDone_act fun _ => accessStep_rowRead
  case calOverrideWrite =>
    cases h; exact accessDone_act fun _ => accessStep_calRow
  case mbxClaim | mbxRelease | mbxUidRead | mbxClassTableRead | mbxClassTableWrite | mbxOtpInfoRead | mbxKeyDigestRead | mbxTallyPageRead |
    mbxUcodeDigestRead | mbxGatherTallyRead | mbxGatherHealthRead | mbxTimeCapture | mbxSyncInStamp | mbxEventRemove | mbxEventPeek =>
    cases h; exact accessDone_act fun _ => accessStep_mbxRow
  case guardArm =>
    cases h; exact accessDone_act fun _ => accessStep_armRow
  case guardComplement =>
    cases h; exact accessDone_act fun _ => accessStep_compRow
  case cmpDataRead =>
    cases h; exact accessDone_act fun _ => .cmp
  case registerWrite =>
    cases h; exact accessDone_act fun _ => accessStep_writeRow
  case clearingRead =>
    cases h; exact accessDone_act fun _ => accessStep_regRow
  all_goals cases hc

/-! ### The settings over every command -/

/-- A command of the units keeps every setting: so say the laws of its own operation and of what follows. -/
theorem settings_exec {c : Instr} {s t : State} (hc : keepsSettings c = true) (h : exec c s = .next t) : settings t = settings s := by
  cases c <;> cases hc
  all_goals
    cases h
    simp

theorem keeps_accessStep {s t : State} (h : AccessStep s t) : Keeps s t := by
  cases h with
  | none => exact .refl s
  | write => exact keeps_writeAccess
  | read => exact keeps_readAccess
  | cmp => exact keeps_cmpData
  | odd => exact .of_eq settings_oddAccess

theorem keeps_act {f : State → State} {s : State} (h : ∀ u, Keeps u (f u)) : Keeps s (act f s) :=
  .ite (fun _ => .then_eq settings_finishUp (h s)) fun _ => .refl s

theorem keeps_flashPoll {sr : Byte} {s : State} : Keeps s (flashPoll sr s) := by
  unfold flashPoll
  split
  · exact .refl s
  · dsimp only
    refine .ite (fun _ => .refl s) fun _ => ?_
    have hpoll {w : Nat} {u : State} (hu : settings u = settings s) : Keeps s (updXip w (fun x => { x with lastSr := sr }) u) :=
      .trans (.of_eq hu) (keeps_updXip fun _ h => h)
    exact .ite (fun _ => .then_eq settings_writeOn (hpoll rfl)) fun _ => hpoll rfl

theorem keeps_engReadAt {off n : Nat} {s : State} : Keeps s (engReadAt off n s) := by
  unfold engReadAt
  dsimp only
  refine .ite (fun _ => .of_eq settings_engRespond) fun _ => .ite (fun _ => .ite (fun _ => keeps_cmpRead) fun _ => ?_) fun _ => ?_
  · exact .then_eq settings_engRespond keeps_regRead
  · exact .of_eq (by simp)

theorem keeps_engWriteAt {off : Nat} {ws : List W32} {s : State} : Keeps s (engWriteAt off ws s) := by
  unfold engWriteAt
  dsimp only
  refine .ite (fun _ => .of_eq settings_engAck) fun _ => .ite (fun _ => .then_eq settings_engAck keeps_regWrite) fun _ => ?_
  exact .of_eq (by simp)

theorem keeps_engRead {s : State} : Keeps s (engRead s) := by
  unfold engRead
  split
  · exact keeps_engReadAt
  · exact .refl s

theorem keeps_engWrite {s : State} : Keeps s (engWrite s) := by
  unfold engWrite
  split
  · exact keeps_engWriteAt
  · exact .refl s

/-- Tamper hold changes the stage of the boot in the boot phase alone (R348). -/
theorem keeps_tamperAct {s : State} : Keeps s (tamperAct s) := by
  cases ht : s.sys.tamper with
  | true => rw [tamperAct_of_tamper ht]; exact .refl s
  | false =>
    unfold Keeps
    rw [settings_tamperAct ht]
    refine ⟨fun h => { h with }, fun hb => ⟨hb, ?_⟩, rfl⟩
    simp only [heldSettings, if_pos hb]

theorem keeps_tamperPulse {ns : Nat} {s : State} : Keeps s (tamperPulse ns s) := by
  refine .ite (fun _ => keeps_tamperAct) fun _ => .ite (fun _ => .refl s) fun _ => .ite (fun _ => ?_) fun _ => .of_eq settings_bumpFree
  exact .trans (.of_eq settings_bumpFree) keeps_tamperAct

theorem keeps_slowclkLost {s : State} : Keeps s (slowclkLost s) :=
  .ite (fun _ => .then_eq settings_post (.of_sys (z := s.mbx) rfl rfl)) fun _ => .refl s

theorem keeps_paceEnd {x : PaceMeasure} {s : State} : Keeps s (paceEnd x s) := by
  unfold paceEnd
  dsimp only
  exact .ite (fun _ => .then_eq settings_postEvent (.of_sys (z := s.mbx) rfl rfl)) fun _ => .of_sys (z := s.mbx) rfl rfl

/-! ### The mask ROM -/

theorem xipWithin_imageBus {l : List Byte} {s : State} (h : xipWithin s.lsp.w0 = true) : xipWithin (imageBus l s).lsp.w0 = true := by
  simp only [xipWithin, Bool.and_eq_true, decide_eq_true_eq] at h
  obtain ⟨⟨⟨-, hpage⟩, htime⟩, hint⟩ := h
  unfold imageBus
  split
  · simp only [xipWithin, hpage, htime, hint, decide_true, Bool.and_true, decide_eq_true_eq, BitVec.toNat_ofNat]
    omega
  · simp only [xipWithin, hpage, htime, hint, decide_true, Bool.and_true]
    rfl

/-- Trying an image changes its window's bus settings and the boot status. -/
theorem keeps_tryImage {base : Nat} {l : List Byte} {agree : Bool} {s : State} {a : Nat × State} (ha : tryImage base l agree s = a)
    (hb : s.sys.bootDone = false) : Keeps s a.2 ∧ a.2.sys.bootDone = false := by
  subst ha
  refine ⟨.of_boot hb rfl fun h => { h with lsp := ?_ }, hb⟩
  exact ⟨h.lsp.1, xipWithin_imageBus (s := s) h.lsp.2.1, h.lsp.2.2⟩

theorem keeps_bootEnter {l : List Byte} {agree : Bool} {s : State} (hb : s.sys.bootDone = false) : Keeps s (bootEnter l agree s) := by
  unfold bootEnter
  dsimp only
  refine .ite (fun _ => .of_boot hb rfl fun h => { h with }) fun _ => ?_
  exact .then_eq (settings_onlyIf fun _ => settings_post) (.of_boot hb rfl fun h => { h with })

theorem keeps_bootStop {stage cause : Nat} {s : State} (hb : s.sys.bootDone = false) : Keeps s (bootStop stage cause s) :=
  .of_boot hb rfl fun h => { h with }

theorem keeps_romBoot {x : BootFlash} {s : State} : Keeps s (romBoot x s) := by
  unfold romBoot
  refine .ite (fun _ => .refl s) fun hrun => ?_
  have hb : s.sys.bootDone = false := by
    simp only [Bool.or_eq_true, not_or] at hrun
    exact Bool.eq_false_iff.mpr hrun.2
  refine .ite (fun _ => keeps_bootStop hb) fun _ => .ite (fun _ => keeps_bootStop hb) fun _ => ?_
  dsimp only
  generalize hfirst : tryImage 0 x.primary x.agreeBoot s = a
  obtain ⟨ha, hab⟩ := keeps_tryImage hfirst hb
  refine .ite (fun _ => ha.trans (keeps_bootEnter hab)) fun _ => .ite (fun _ => ha.trans (keeps_bootStop hab)) fun _ => ?_
  have hmark : Keeps a.2 { a.2 with sil := { a.2.sil with secondary := true } } := .of_boot hab rfl fun h => { h with }
  generalize hsecond : tryImage 0x800000 x.secondary x.agreeBoot { a.2 with sil := { a.2.sil with secondary := true } } = b
  obtain ⟨hb2, hbb⟩ := keeps_tryImage hsecond hab
  have hboth := (ha.trans hmark).trans hb2
  exact .ite (fun _ => hboth.trans (keeps_bootEnter hbb)) fun _ => hboth.trans (keeps_bootStop hbb)

/-! ### Every command -/

/-- The commands that are neither accesses nor keep all settings: those of boot, tamper, pace and time limits, of the slave port and of
polls. -/
theorem keeps_exec_other {c : Instr} {s t : State} (hc : (isPowerRow c || isAccessRow c || keepsSettings c) = false)
    (h : exec c s = .next t) : Keeps s t := by
  cases c
  case romBoot => cases h; exact keeps_act fun _ => keeps_romBoot
  case tamper => cases h; exact keeps_act fun _ => keeps_tamperPulse
  case slowclkLost => cases h; exact keeps_act fun _ => keeps_slowclkLost
  case paceWindowEnd => cases h; exact keeps_act fun _ => keeps_paceEnd
  case lspTransfer => cases h; exact keeps_act fun _ => .of_eq settings_lspPeriods
  case engineRead => cases h; exact keeps_act fun _ => keeps_engRead
  case engineWrite => cases h; exact keeps_act fun _ => keeps_engWrite
  case engineSwitch => cases h; exact keeps_act fun _ => .of_eq settings_engineSwitch
  case flashPoll => cases h; exact keeps_act fun _ => keeps_flashPoll
  case guardTimeout => cases h; exact keeps_act fun _ => keeps_guardTimeout
  case mbxHoldTimeout => cases h; exact keeps_act fun _ => keeps_mbxTimeout
  all_goals cases hc

theorem keeps_accessDone {s t : State} (h : AccessDone s t) : Keeps s t := by
  obtain h | ⟨u, hu, h⟩ := h
  · exact h ▸ .refl s
  · exact h ▸ .then_eq settings_finishUp (keeps_accessStep hu)

/-- Every command but those of power keeps to the relation. -/
theorem keeps_exec {c : Instr} {s t : State} (hp : isPowerRow c = false) (h : exec c s = .next t) : Keeps s t := by
  by_cases ha : isAccessRow c = true
  · exact keeps_accessDone (accessDone_of_exec ha h)
  · by_cases hc : keepsSettings c = true
    · exact .of_eq (settings_exec hc h)
    · exact keeps_exec_other (by simp [hp, ha, hc]) h

end Sys2Proof.Machine

/-! PROOFS. Limits, sill, waiting commands and settings over a whole step, read off the relation and the laws of the operations. -/

namespace Sys2Proof.Machine

/-- The reset values lie within the limits. -/
theorem within_fresh {s r : State} (h : Fresh s r) : Within (settings r) := by
  obtain ⟨is832, x, p, k, rfl⟩ := h
  have hreset : Within (settings State.reset) := by
    rw [← settingsWithin_iff]
    decide
  have hblocks : settings (freshState is832 x p k s.pending) =
      { settings State.reset with pwr := p, sys := State.reset.sys, mbx := State.reset.mbx, pending := s.pending } := rfl
  rw [hblocks]
  exact { hreset with }

theorem within_powerStep {s t : State} (hs : Within (settings s)) (h : PowerStep s t) : Within (settings t) := by
  cases h with
  | pins p => exact { hs with }
  | lost hr => exact within_fresh hr
  | released hr =>
    rw [settings_finishUp]
    exact within_fresh hr
  | tampered hr =>
    rw [settings_finishUp]
    exact keeps_tamperAct.limits (within_fresh hr)

/-- Settles O5: every command but those of power keeps to the relation of the settings before and after, which includes the limits; after a
loss of the volatile state they are the reset values. -/
theorem stepKeepsLimits : Obligations.StepKeepsLimits := by
  intro s t hs h
  have hw : Within (settings s) := settingsWithin_iff.mp hs
  refine settingsWithin_iff.mpr ?_
  unfold step at h
  split at h
  next =>
    cases h
    rw [settings_tick]
    exact hw
  next c rest _ =>
    have hw' : Within (settings { s with pending := rest }) := { hw with }
    cases hc : isPowerRow c with
    | true => exact within_powerStep hw' (powerStep_of_exec hc h)
    | false => exact (keeps_exec hc h).limits hw'

/-! ### The commands that wait -/

theorem settings_pending (s : State) : (settings s).pending = s.pending := rfl

theorem pending_finishUp {s : State} : (finishUp s).pending = s.pending := by
  rw [← settings_pending, settings_finishUp, settings_pending]

theorem pending_fresh {s r : State} (h : Fresh s r) : r.pending = s.pending := by
  obtain ⟨is832, x, p, k, rfl⟩ := h
  rfl

theorem pending_powerStep {s t : State} (h : PowerStep s t) : t.pending = s.pending := by
  cases h with
  | pins p => rfl
  | lost hr => exact pending_fresh hr
  | released hr => exact pending_finishUp.trans (pending_fresh hr)
  | tampered hr => exact pending_finishUp.trans (keeps_tamperAct.pending.trans (pending_fresh hr))

/-- Settles O3: the commands that wait are part of the settings, which no command but those of power changes in that part. -/
theorem execKeepsQueue : Obligations.ExecKeepsQueue := by
  intro c s t h
  cases hc : isPowerRow c with
  | true => exact pending_powerStep (powerStep_of_exec hc h)
  | false => exact (keeps_exec hc h).pending

/-! ### The sill registers and the settings of the units -/

/-- Settles O10: the relation of the settings before and after fixes the sill registers once SYS_BOOT_DONE is set. -/
theorem sillFixedAfterBoot : Obligations.SillFixedAfterBoot :=
  fun _ _ _ hb hc h => ((keeps_exec hc h).sill hb).2

/-- A command that takes no sample and starts no job leaves the sources, the boards and the calibration alone. -/
theorem front_exec {c : Instr} {s t : State} (hc : keepsFront c = true) (h : exec c s = .next t) : front t = front s := by
  cases c <;> cases hc
  all_goals
    cases h
    simp

/-- Settles O9: both frames are the laws of the operations, command by command. -/
theorem unitsKeepSettings : Obligations.UnitsKeepSettings :=
  fun _ _ _ h => ⟨fun hc => settings_exec hc h, fun hc => front_exec hc h⟩

/-- Settles O1: this is how a step is defined. -/
theorem stepRunsFrontCommand : Obligations.StepRunsFrontCommand := fun _ _ => rfl

/-! ### The memories -/

/-- Every address but the written one reads as before. -/
theorem memGet_memSet_ne {m : Mem} {a k : Nat} {b : Byte} (h : k ≠ a) : memGet (memSet m a b) k = memGet m k := by
  induction m with
  | nil =>
    by_cases hb : b = memDefault
    · simp [memSet, hb]
    · simp [memSet, memGet, hb, h.symm]
  | cons x xs ih =>
    obtain ⟨i, v⟩ := x
    by_cases hb : b = memDefault <;> rcases lt_trichotomy a i with hai | rfl | hai
    · simp [memSet, hb, hai]
    · simp [memSet, memGet, hb, h.symm]
    · simp [memSet, memGet, ih, Nat.lt_asymm hai, hai.ne']
    · simp [memSet, memGet, hb, hai, h.symm]
    · simp [memSet, memGet, hb, h.symm]
    · simp [memSet, memGet, ih, Nat.lt_asymm hai, hai.ne']

/-- A byte written into a memory of canonical form reads back. -/
theorem memGet_memSet_self {m : Mem} {lo a : Nat} {b : Byte} (h : memWfFrom lo m = true) : memGet (memSet m a b) a = b := by
  induction m generalizing lo with
  | nil =>
    by_cases hb : b = memDefault
    · simp [memSet, memGet, hb]
    · simp [memSet, memGet, hb]
  | cons x xs ih =>
    obtain ⟨i, v⟩ := x
    simp only [memWfFrom, Bool.and_eq_true, decide_eq_true_eq] at h
    obtain ⟨-, hxs⟩ := h
    by_cases hb : b = memDefault <;> rcases lt_trichotomy a i with hai | rfl | hai
    · simp [memSet, memGet, hb, hai, hai.ne', memGet_below hxs (Nat.lt_succ_of_lt hai)]
    · simp [memSet, hb, memGet_below hxs (Nat.lt_succ_self a)]
    · simp [memSet, memGet, ih hxs, Nat.lt_asymm hai, hai.ne, hai.ne']
    · simp [memSet, memGet, hb, hai]
    · simp [memSet, memGet, hb]
    · simp [memSet, memGet, ih hxs, Nat.lt_asymm hai, hai.ne, hai.ne']

/-- Addresses outside the written bytes read as before. -/
theorem memGet_memWrite_outside {m : Mem} {a k : Nat} {l : List Byte} (h : k < a ∨ a + l.length ≤ k) :
    memGet (memWrite m a l) k = memGet m k := by
  induction l generalizing m a with
  | nil => rfl
  | cons b bs ih =>
    simp only [List.length_cons] at h
    rw [memWrite, ih (by omega), memGet_memSet_ne (by omega)]

/-- The written bytes read back in their order. -/
theorem memRead_memWrite {m : Mem} {a : Nat} {l : List Byte} (h : memWf m = true) : memRead (memWrite m a l) a l.length = l := by
  induction l generalizing m a with
  | nil => rfl
  | cons b bs ih =>
    have hfirst : memGet (memWrite (memSet m a b) (a + 1) bs) a = b := by
      rw [memGet_memWrite_outside (.inl (Nat.lt_succ_self a)), memGet_memSet_self h]
    have hrest := ih (m := memSet m a b) (a := a + 1) (memWfFrom_memSet h (Nat.zero_le a))
    simp only [memRead] at hrest ⊢
    simp only [memWrite, List.length_cons, List.range_succ_eq_map, List.map_cons, List.map_map, Nat.add_zero, hfirst]
    refine congrArg (b :: ·) (Eq.trans (List.map_congr_left fun i _ => ?_) hrest)
    simp only [Function.comp_apply]
    rw [show a + i.succ = a + 1 + i by omega]

/-- Settles O11, by induction on the bytes written. -/
theorem memoryReadAfterWrite : Obligations.MemoryReadAfterWrite :=
  ⟨fun _ _ _ h => memRead_memWrite h, fun _ _ _ _ h => memGet_memWrite_outside h⟩

end Sys2Proof.Machine

/-! PROOFS. How a register row reaches its register, and what its step then leaves of the blocks that the end of a step does not change. -/

namespace Sys2Proof.Machine

/-! ### The end of a step -/

theorem settings_pwr (s : State) : (settings s).pwr = s.pwr := rfl
theorem settings_sys (s : State) : (settings s).sys = s.sys := rfl
theorem settings_mbx (s : State) : (settings s).mbx = s.mbx := rfl
theorem settings_ram (s : State) : (settings s).ram = s.core.ram := rfl
theorem settings_sil (s : State) : (settings s).sil = silSettings s.sil := rfl
theorem front_cal (s : State) : (front s).1 = s.cal := rfl
theorem front_grn (s : State) : (front s).2 = s.grn := rfl

@[simp] theorem finishUp_pwr {s : State} : (finishUp s).pwr = s.pwr := by
  rw [← settings_pwr, settings_finishUp, settings_pwr]

@[simp] theorem finishUp_sys {s : State} : (finishUp s).sys = s.sys := by
  rw [← settings_sys, settings_finishUp, settings_sys]

@[simp] theorem finishUp_mbx {s : State} : (finishUp s).mbx = s.mbx := by
  rw [← settings_mbx, settings_finishUp, settings_mbx]

@[simp] theorem finishUp_ram {s : State} : (finishUp s).core.ram = s.core.ram := by
  rw [← settings_ram, settings_finishUp, settings_ram]

@[simp] theorem silSettings_finishUp {s : State} : silSettings (finishUp s).sil = silSettings s.sil := by
  rw [← settings_sil, settings_finishUp, settings_sil]

@[simp] theorem finishUp_cal {s : State} : (finishUp s).cal = s.cal := by
  rw [← front_cal, front_finishUp, front_cal]

@[simp] theorem finishUp_grn {s : State} : (finishUp s).grn = s.grn := by
  rw [← front_grn, front_finishUp, front_grn]

/-- A command that runs answers the state after its own function and the end of the step. -/
theorem answers_of_act {c : Instr} {f : State → State} {s : State} {P : State → Prop} (hc : exec c s = .next (act f s))
    (hr : running s = true) (hP : P (finishUp (f s))) : Answers c s P :=
  ⟨finishUp (f s), by rw [hc, act, if_pos hr], hP⟩

/-! ### Registers that a row reaches -/

/-- The state at a register differs from the one in which the access came in the ring's buffers, and in the armed values with the latest
guard event (R248, R321). -/
def Reached (s t : State) : Prop := ∃ r y, t = { s with ring := r, sys := y } ∧ sysRest y = sysRest s.sys

theorem reached_entered {a : Acc} {hold : Bool} {s : State} : Reached s (entered a hold s) := by
  refine ⟨(entered a hold s).ring, s.sys, ?_, rfl⟩
  generalize ht : entered a hold s = t
  have hclk : t.clk = s.clk := by simp [← ht]
  have hpwr : t.pwr = s.pwr := by simp [← ht]
  have hsys : t.sys = s.sys := by simp [← ht]
  have hsil : t.sil = s.sil := by simp [← ht]
  have hcal : t.cal = s.cal := by simp [← ht]
  have hmbx : t.mbx = s.mbx := by simp [← ht]
  have hcore : t.core = s.core := by simp [← ht]
  have hgrn : t.grn = s.grn := by simp [← ht]
  have hhlt : t.hlt = s.hlt := by simp [← ht]
  have hpln : t.pln = s.pln := by simp [← ht]
  have htal : t.tal = s.tal := by simp [← ht]
  have hlan : t.lan = s.lan := by simp [← ht]
  have hstk : t.stk = s.stk := by simp [← ht]
  have hjob : t.job = s.job := by simp [← ht]
  have hevt : t.evt = s.evt := by simp [← ht]
  have hbne : t.bne = s.bne := by simp [← ht]
  have htim : t.tim = s.tim := by simp [← ht]
  have hlsp : t.lsp = s.lsp := by simp [← ht]
  have hpend : t.pending = s.pending := by simp [← ht]
  rw [← hclk, ← hpwr, ← hsys, ← hsil, ← hcal, ← hmbx, ← hcore, ← hgrn, ← hhlt, ← hpln, ← htal, ← hlan, ← hstk, ← hjob, ← hevt, ← hbne,
    ← htim, ← hlsp, ← hpend]

theorem Reached.then_sysOnly {s t u : State} (h : Reached s t) (g : SysOnly t u) : Reached s u := by
  obtain ⟨r, y, rfl, hy⟩ := h
  obtain ⟨z, rfl, hz⟩ := g
  exact ⟨r, z, rfl, hz.trans hy⟩

/-- A write of a register that is neither guarded nor of the MBX block reaches it. -/
theorem writeAccess_reaches {a : Acc} {off : Nat} {v : W32} {s : State} (h : mayWrite a off s = true) (ho : off < 0x10000)
    (h4 : off % 4 = 0) (hg : guardBase off = none) (hm : off / 0x1000 ≠ 3) :
    ∃ t, Reached s t ∧ writeAccess a off [v] s = answer (norm s a) true 0 [] false (plainWrite (who a s) off v t) :=
  ⟨_, reached_entered.then_sysOnly (breakArm_sysOnly (who a s) _), by rw [writeAccess_of_mayWrite h ho h4, writeOne_plain hg hm]⟩

/-- A pair that completes reaches its register. -/
theorem pairRow_reaches {a : Acc} {g : Nat} {v : W32} {s : State} (h : completes a g v s = true) (hg : g ∈ guardAddrs) :
    ∃ t, Reached s t ∧ pairRow a g v s = answer (norm s a) true 0 [] false (guardComplete (who a s) g v t) := by
  obtain ⟨t, ht, he⟩ := pairRow_of_completes h hg
  exact ⟨t, reached_entered.then_sysOnly ht, he⟩

/-- Permission to write rests on the register's block and on the queue that owns it. -/
theorem mayWrite_congr {a : Acc} {off off' : Nat} {s : State} (hb : off / 0x1000 = off' / 0x1000) (hq : ownedQueue off = ownedQueue off') :
    mayWrite a off s = mayWrite a off' s := by
  simp [mayWrite, mayWriteReg, hb, hq]

theorem running_of_completes {a : Acc} {g : Nat} {v : W32} {s : State} (h : completes a g v s = true) : running s = true := by
  simp only [completes, Bool.and_eq_true] at h
  exact running_of_enters (enters_of_mayWrite h.1.1)

theorem settled_of_mayWrite {a : Acc} {off : Nat} {s : State} (h : mayWrite a off s = true) : s.hlt.alarm = false := by
  simp only [mayWrite, settled, Bool.and_eq_true, Bool.not_eq_true'] at h
  exact h.2

theorem settled_of_completes {a : Acc} {g : Nat} {v : W32} {s : State} (h : completes a g v s = true) : s.hlt.alarm = false := by
  simp only [completes, Bool.and_eq_true] at h
  exact settled_of_mayWrite h.1.1

theorem settled_of_upAnd {s : State} (h : upAnd s = true) : s.hlt.alarm = false := by
  simp only [upAnd, settled, Bool.and_eq_true, Bool.not_eq_true'] at h
  exact h.2

end Sys2Proof.Machine

/-! PROOFS. Calibration: restore and lock (R345 to R347), the overrides, and SIL_HLT_RESP (R323, R338). -/

namespace Sys2Proof.Machine

/-! ### What leaves the calibration registers alone -/

@[simp] theorem boardRefresh_cal {left : Bool} {b : Nat} {s : State} : (boardRefresh left b s).cal = s.cal := by
  obtain h | ⟨st, h⟩ := boardRefresh_cases left b s
  · rw [h]
  · rw [h, ← front_cal, front_planeOnBoard, front_cal]
    rfl

@[simp] theorem keyCheck_cal {s : State} : (keyCheck s).cal = s.cal := by
  rw [← front_cal, front_keyCheck, front_cal]

@[simp] theorem goSrc_cal {code : Nat} {f : Source → Source} {s : State} : (goSrc code f s).cal = s.cal := by
  simp only [goSrc, keyCheck_cal, boardRefresh_cal]
  rfl

@[simp] theorem calRestart_cal {code : Nat} {s : State} : (calRestart code s).cal = s.cal := by
  unfold calRestart
  split
  · exact goSrc_cal
  · rfl

theorem foldl_calRestart_cal {l : List Nat} {s : State} : (l.foldl (fun t code => calRestart code t) s).cal = s.cal := by
  induction l generalizing s with
  | nil => rfl
  | cons x l ih => rw [List.foldl_cons, ih, calRestart_cal]

/-- New calibration registers take effect as they are, whatever sources they restart. -/
@[simp] theorem calApply_cal {c : Cal} {s : State} : (calApply c s).cal = c := by
  unfold calApply
  dsimp only
  split <;> exact foldl_calRestart_cal

/-! ### Restore and lock -/

/-- CAL after a restore of the groups g with LOCK and PIN (R347). -/
def calRestored (s : State) (g : BitVec 4) (lock pin : Bool) : Cal :=
  { calFactory s (g.getLsbD 0) (g.getLsbD 1) (g.getLsbD 2) (g.getLsbD 3) with
    restores := s.cal.restores + (if g = 0 then 0 else 1), lock := lock, pin := pin }

theorem calRestorePair_cal {r : ReqId} {v : W32} {s : State} :
    (calRestorePair r v s).cal = calRestored s (v.setWidth 4) (bitAt v 30) (bitAt v 31) := by
  unfold calRestorePair calRestored
  by_cases h : v.setWidth 4 = 0#4
  · simp [h, calFactory]
  · simp [h, calRestoreGroups, calFactory]

theorem calWord_fields (g : BitVec 4) (lock pin : Bool) :
    (calWord g lock pin).setWidth 4 = g ∧ bitAt (calWord g lock pin) 30 = lock ∧ bitAt (calWord g lock pin) 31 = pin := by
  revert g lock pin
  decide

/-- The step of a completed CAL_RESTORE pair leaves CAL as its value says. -/
theorem calRestore_cal {a : Acc} {g : BitVec 4} {lock pin : Bool} {s : State} (h : completes a 0x2000 (calWord g lock pin) s = true) :
    (finishUp (pairRow a 0x2000 (calWord g lock pin) s)).cal = calRestored s g lock pin := by
  obtain ⟨t, ⟨r, y, rfl, -⟩, he⟩ := pairRow_reaches h (by decide)
  obtain ⟨hg, hl, hp⟩ := calWord_fields g lock pin
  have hno : ∀ u, guardComplete (who a s) 0x2000 (calWord g lock pin) u = calRestorePair (who a s) (calWord g lock pin) u := fun _ => rfl
  rw [finishUp_cal, he, answer_cal, hno, calRestorePair_cal, hg, hl, hp]
  rfl

end Sys2Proof.Machine

namespace Sys2Proof

open Machine

/-- Settles O16: the three rows write the pair of one value, and its step leaves CAL as that value says. -/
theorem calRestorePair : Obligations.CalRestorePair := by
  intro s a g lock pin h
  have hr := running_of_completes h
  have hcal := calRestore_cal h
  dsimp only
  refine ⟨answers_of_act exec_calRestore hr ?_, ?_, ?_⟩
  · rw [hcal]
    exact ⟨rfl, rfl, rfl, rfl, rfl, rfl, rfl, rfl⟩
  · rintro rfl
    refine answers_of_act exec_calLock hr ?_
    rw [hcal]
    exact ⟨rfl, rfl, rfl, rfl, rfl, rfl, rfl, rfl⟩
  · rintro rfl
    refine answers_of_act exec_calRestorePin hr ?_
    rw [hcal]
    exact ⟨rfl, rfl, rfl, rfl, rfl, rfl, rfl, rfl⟩

end Sys2Proof

namespace Sys2Proof.Machine

/-! ### Overrides and responses -/

/-- The register k of an array of registers. -/
theorem slot_at {base step n k : Nat} (hk : k < n) (hs : 0 < step) : slot (base + step * k) base step n = some k := by
  have hlt : step * k < step * n := Nat.mul_lt_mul_of_pos_left hk hs
  simp [slot, hlt, Nat.mul_div_cancel_left k hs]

theorem nCells_le (s : State) : nCells s ≤ 64 := by
  unfold nCells boardsOf
  split <;> decide

theorem nBoards_le (s : State) : nBoards s ≤ 8 := by
  unfold nBoards boardsOf
  split <;> decide

/-- What is ignored is recorded with its register (R323). -/
theorem lockViol_sys {r : ReqId} {off : Nat} {s : State} :
    (lockViol r off s).sys.viol = true ∧ (lockViol r off s).sys.violOff = BitVec.ofNat 16 off := by
  unfold lockViol
  dsimp only
  split <;> exact ⟨rfl, rfl⟩

theorem calWrite_of_locked {r : ReqId} {off : Nat} {v : W32} {s : State} {c : Cal} (hc : calOverride s off v = some c)
    (hl : s.cal.lock = true) : calWrite r off v s = lockViol r off s := by
  simp [calWrite, hc, hl]

theorem calWrite_of_open {r : ReqId} {off : Nat} {v : W32} {s : State} {c : Cal} (hc : calOverride s off v = some c)
    (hl : s.cal.lock = false) : calWrite r off v s = calApply c s := by
  simp [calWrite, hc, hl]

theorem plainWrite_cal {r : ReqId} {off : Nat} {v : W32} {s : State} (h : off / 0x1000 = 2) : plainWrite r off v s = calWrite r off v s := by
  unfold plainWrite
  rw [h]
  rfl

theorem Answers.mono {c : Instr} {s : State} {P Q : State → Prop} (h : Answers c s P) (hpq : ∀ t, P t → Q t) : Answers c s Q :=
  h.imp fun _ ht => ⟨ht.1, hpq _ ht.2⟩

/-- A CAL override is ignored and recorded while LOCK is 1, and stored otherwise. -/
theorem answers_override {c : Instr} {a : Acc} {off : Nat} {v : W32} {s : State} {x : Cal} (h : mayWrite a 0x2010 s = true)
    (hc : exec c s = .next (act (writeAccess a off [v]) s)) (hlo : 0x2004 < off) (hhi : off < 0x3000) (h4 : off % 4 = 0)
    (hx : ∀ r y, calOverride { s with ring := r, sys := y } off v = some x) :
    Answers c s (fun t =>
      if s.cal.lock then t.cal = s.cal ∧ t.sys.viol = true ∧ t.sys.violOff = BitVec.ofNat 16 off else t.cal = x) := by
  have hblock : off / 0x1000 = 2 := by omega
  have howned : ownedQueue off = none := by
    have h1 : slot off 0x8000 4 256 = none := if_neg (by omega)
    have h2 : slot off 0x7040 4 16 = none := if_neg (by omega)
    simp [ownedQueue, h1, h2]
  have hguard : guardBase off = none := by
    simp only [guardBase, List.find?_eq_none, List.mem_cons, List.not_mem_nil, or_false, Bool.or_eq_true, decide_eq_true_eq]
    omega
  have hw : mayWrite a off s = true := by rw [mayWrite_congr (off' := 0x2010) hblock howned]; exact h
  obtain ⟨t, ⟨r, y, rfl, -⟩, he⟩ := writeAccess_reaches (v := v) hw (by omega) h4 hguard (by omega)
  have hplain : ∀ q u, plainWrite q off v u = calWrite q off v u := fun q u => plainWrite_cal hblock
  refine answers_of_act hc (running_of_enters (enters_of_mayWrite h)) ?_
  rw [he, hplain, finishUp_cal, finishUp_sys, answer_cal, answer_sys]
  split
  next hl =>
    rw [calWrite_of_locked (hx r y) hl, lockViol_cal]
    exact ⟨rfl, lockViol_sys⟩
  next hl =>
    rw [calWrite_of_open (hx r y) (Bool.eq_false_iff.mpr hl), calApply_cal]

/-- The same without the register that the record names. -/
theorem answers_override_viol {c : Instr} {a : Acc} {off : Nat} {v : W32} {s : State} {x : Cal} (h : mayWrite a 0x2010 s = true)
    (hc : exec c s = .next (act (writeAccess a off [v]) s)) (hlo : 0x2004 < off) (hhi : off < 0x3000) (h4 : off % 4 = 0)
    (hx : ∀ r y, calOverride { s with ring := r, sys := y } off v = some x) :
    Answers c s (fun t => if s.cal.lock then t.cal = s.cal ∧ t.sys.viol = true else t.cal = x) := by
  refine (answers_override h hc hlo hhi h4 hx).mono fun t ht => ?_
  split at ht
  next hl => rw [if_pos hl]; exact ⟨ht.1, ht.2.1⟩
  next hl => rw [if_neg hl]; exact ht

theorem calOverride_cell {n : Nat} {v : W32} {s : State} (h : n < nCells s) :
    calOverride s (0x2100 + 4 * n) v = some { s.cal with cells := upd s.cal.cells n (fun _ => v &&& 0xCFFFC000) } := by
  have hs : slot (0x2100 + 4 * n) 0x2100 4 (nCells s) = some n := slot_at h (by decide)
  unfold calOverride
  dsimp only
  split
  · omega
  · omega
  · omega
  · rw [hs]

theorem calOverride_wit {b : Nat} {v : W32} {s : State} (h : b < nBoards s) :
    calOverride s (0x2200 + 4 * b) v = some { s.cal with wits := upd s.cal.wits b (fun _ => v &&& 0x800000FF) } := by
  have hs : slot (0x2200 + 4 * b) 0x2200 4 (nBoards s) = some b := slot_at h (by decide)
  have hc : slot (0x2200 + 4 * b) 0x2100 4 (nCells s) = none := if_neg (by have := nCells_le s; omega)
  unfold calOverride
  dsimp only
  split
  · omega
  · omega
  · omega
  · rw [hs, hc]

/-- SIL_HLT_RESP holds what was written, whatever a change of the responses brings. -/
theorem hltRespWrite_sil {v : W32} {s : State} :
    silSettings (hltRespWrite v s).sil =
      silSettings { s.sil with compatOk := bitAt v 8, contCount := bitAt v 1, seasCount := bitAt v 0 } := by
  rw [← settings_sil]
  unfold hltRespWrite
  rw [settings_modeChange, settings_sil]

/-- Settles O17: every override comes to its field of CAL or is recorded as ignored, and SIL_HLT_RESP holds in the boot phase what was
written. -/
theorem overrideAndResponseWrites : Obligations.OverrideAndResponseWrites := by
  intro s a v
  refine ⟨fun h => ⟨?_, ?_, ?_, fun n hn => ?_, fun b hb => ?_⟩, fun h => ?_⟩
  · exact answers_override (off := 0x2010) h rfl (by decide) (by decide) (by decide) fun _ _ => rfl
  · exact answers_override_viol (off := 0x2014) h rfl (by decide) (by decide) (by decide) fun _ _ => rfl
  · exact answers_override_viol (off := 0x2018) h rfl (by decide) (by decide) (by decide) fun _ _ => rfl
  · have hle := nCells_le s
    have hrow : exec (.calOverrideWrite a (.cell n) v) s = .next (act (writeAccess a (0x2100 + 4 * n) [v]) s) := by
      have : calRow a (.cell n) v = writeAccess a (0x2100 + 4 * n) [v] := by
        funext u
        simp [calRow, rowWrite, show n < 64 by omega]
      rw [exec_calOverrideWrite, this]
    exact answers_override_viol h hrow (by omega) (by omega) (by omega) fun _ _ => calOverride_cell hn
  · have hle := nBoards_le s
    have hrow : exec (.calOverrideWrite a (.wit b) v) s = .next (act (writeAccess a (0x2200 + 4 * b) [v]) s) := by
      have : calRow a (.wit b) v = writeAccess a (0x2200 + 4 * b) [v] := by
        funext u
        simp [calRow, rowWrite, show b < 8 by omega]
      rw [exec_calOverrideWrite, this]
    exact answers_override_viol h hrow (by omega) (by omega) (by omega) fun _ _ => calOverride_wit hb
  · obtain ⟨t, ⟨r, y, rfl, hy⟩, he⟩ := writeAccess_reaches (v := v) h (by decide) (by decide) (by decide) (by decide)
    have hboot : y.bootDone = s.sys.bootDone := congrArg (·.bootDone) hy
    have hplain : ∀ q u, plainWrite q 0x1004 v u = bootOnly q 0x1004 (hltRespWrite v) u := fun _ _ => rfl
    refine answers_of_act exec_silHltRespWrite (running_of_enters (enters_of_mayWrite h)) ?_
    have hsil : ∀ x : Sil, x.compatOk = (silSettings x).compatOk ∧ x.contCount = (silSettings x).contCount ∧
      x.seasCount = (silSettings x).seasCount := fun _ => ⟨rfl, rfl, rfl⟩
    rw [he, hplain, (hsil _).1, (hsil _).2.1, (hsil _).2.2, silSettings_finishUp, finishUp_sys, answer_sys, answer_sil]
    split
    next hb =>
      rw [bootOnly, if_pos (hboot.trans hb), lockViol_sil]
      exact ⟨rfl, lockViol_sys⟩
    next hb =>
      rw [bootOnly, if_neg (by rw [hboot]; exact hb), hltRespWrite_sil]
      exact ⟨rfl, rfl, rfl⟩

end Sys2Proof.Machine

/-! PROOFS. Compatibility mode, CK_SLOW and the pace figures (R17 to R20, R322, R329, R330). -/

namespace Sys2Proof.Machine

/-! ### The calm part of a state -/

theorem calm_ticks (s : State) : (calm s).ticks = s.clk.ticks := rfl
theorem calm_slow (s : State) : (calm s).slow = s.clk.slow := rfl
theorem calm_hlt (s : State) : (calm s).hlt = s.hlt := rfl
theorem calm_pln (s : State) : (calm s).pln = s.pln := rfl
theorem calm_tim (s : State) : (calm s).tim = s.tim := rfl
theorem calm_core (s : State) : (calm s).core = s.core := rfl
theorem calm_sil (s : State) : (calm s).sil = s.sil := rfl
theorem calm_ckTime (s : State) : (calm s).ckTime = s.clk.ckTime := rfl
theorem calm_pending (s : State) : (calm s).pending = s.pending := rfl

theorem finishUp_pln {s : State} (h : s.hlt.alarm = false) : (finishUp s).pln = s.pln := by
  rw [← calm_pln, calm_finishUp h, calm_pln]

theorem finishUp_hlt {s : State} (h : s.hlt.alarm = false) : (finishUp s).hlt = s.hlt := by
  rw [← calm_hlt, calm_finishUp h, calm_hlt]

theorem finishUp_tim {s : State} (h : s.hlt.alarm = false) : (finishUp s).tim = s.tim := by
  rw [← calm_tim, calm_finishUp h, calm_tim]

theorem finishUp_core {s : State} (h : s.hlt.alarm = false) : (finishUp s).core = s.core := by
  rw [← calm_core, calm_finishUp h, calm_core]

theorem finishUp_sil {s : State} (h : s.hlt.alarm = false) : (finishUp s).sil = s.sil := by
  rw [← calm_sil, calm_finishUp h, calm_sil]

/-! ### Compatibility mode -/

theorem compatWord_fields (en pin : Bool) : bitAt (compatWord en pin) 0 = en ∧ bitAt (compatWord en pin) 31 = pin := by
  revert en pin
  decide

/-- A change of the mode leaves SYS as the pair set it, whatever a change of the responses brings. -/
theorem compatSet_sys {en pin : Bool} {s : State} :
    (compatSet en pin s).sys = { s.sys with compatEn := en, compatPin := pin } := by
  rw [← settings_sys]
  unfold compatSet
  rw [settings_modeChange, settings_sys]

/-- A completed SYS_COMPAT pair: refused without the sill's permission, or the mode and the pin that its value names. -/
def CompatDone (s t : State) (en pin : Bool) : Prop :=
  if en && !s.sil.compatOk then t.sys.compatEn = s.sys.compatEn ∧ t.sys.compatPin = s.sys.compatPin ∧ t.sys.gRefused = true
  else t.sys.compatEn = en ∧ t.sys.compatPin = pin

theorem compatDone_of_completes {a : Acc} {en pin : Bool} {s : State} (h : completes a 0x0018 (compatWord en pin) s = true) :
    CompatDone s (finishUp (pairRow a 0x0018 (compatWord en pin) s)) en pin := by
  obtain ⟨t, ⟨r, y, rfl, hy⟩, he⟩ := pairRow_reaches h (by decide)
  obtain ⟨hen, hpin⟩ := compatWord_fields en pin
  have hyen : y.compatEn = s.sys.compatEn := congrArg (·.compatEn) hy
  have hypin : y.compatPin = s.sys.compatPin := congrArg (·.compatPin) hy
  unfold CompatDone
  rw [finishUp_sys, he, answer_sys]
  have hrefuses : guardRefuses { s with ring := r, sys := y } 0x0018 (compatWord en pin) = (en && !s.sil.compatOk) := by
    show (bitAt (compatWord en pin) 0 && !s.sil.compatOk) = _
    rw [hen]
  unfold guardComplete
  rw [hrefuses]
  split
  · exact ⟨hyen, hypin, rfl⟩
  · show (compatSet _ _ _).sys.compatEn = _ ∧ (compatSet _ _ _).sys.compatPin = _
    rw [compatSet_sys, hen, hpin]
    exact ⟨rfl, rfl⟩

/-! ### Pace -/

theorem paceEnd_sys {x : PaceMeasure} {s : State} :
    (paceEnd x s).sys = { s.sys with
      paceValid := true, paceSeq := s.sys.paceSeq + 1, paceRatio := x.ratio
      paceMin := if x.ratio < s.sys.paceMin then x.ratio else s.sys.paceMin
      tjValid := true, paceTj := x.tj, paceRace := if s.grn.cells.any (fun c => decide (c.st = .live)) then x.race else 0 } := by
  unfold paceEnd
  dsimp only
  split <;> rfl

theorem paceEnd_pln {x : PaceMeasure} {s : State} : (paceEnd x s).pln = s.pln ∧ (paceEnd x s).hlt = s.hlt := by
  unfold paceEnd
  dsimp only
  split <;> exact ⟨rfl, rfl⟩

/-- The lower of two unsigned numbers. -/
theorem toNat_ite_lt {n : Nat} (x y : BitVec n) : (if x < y then x else y).toNat = min y.toNat x.toNat := by
  split
  next h => rw [BitVec.lt_def] at h; omega
  next h => rw [BitVec.lt_def] at h; omega

/-- Settles O18: the three rows write the pair of one value, which is refused or sets the mode; the other commands set the fields of SYS
that they name. -/
theorem compatibilityAndClocks : Obligations.CompatibilityAndClocks := by
  refine ⟨fun s a en pin h => ?_, fun s a v x => ⟨fun h => ?_, fun h => ⟨?_, ?_⟩⟩⟩
  · have hr := running_of_completes h
    have hdone := compatDone_of_completes h
    refine ⟨?_, ?_, ?_⟩
    · rintro rfl
      exact answers_of_act exec_compatEnter hr hdone
    · rintro rfl
      exact answers_of_act exec_compatLeave hr hdone
    · rintro rfl
      exact answers_of_act exec_compatPin hr hdone
  · obtain ⟨t, ⟨r, y, rfl, hy⟩, he⟩ := writeAccess_reaches (v := v) h (by decide) (by decide) (by decide) (by decide)
    have hyback : y.fellBack = s.sys.fellBack := congrArg (·.fellBack) hy
    refine answers_of_act exec_slowClockSelect (running_of_enters (enters_of_mayWrite h)) ?_
    rw [finishUp_sys, he, answer_sys, ← hyback]
    exact ⟨rfl, rfl, rfl⟩
  · refine answers_of_act exec_slowclkLost (running_of_upAnd h) ?_
    rw [finishUp_sys, slowclkLost]
    cases hx : s.sys.slowExt <;> simp [hx]
  · refine answers_of_act exec_paceWindowEnd (running_of_upAnd h) ?_
    obtain ⟨hpln, hhlt⟩ := paceEnd_pln (x := x) (s := s)
    have hcalm : (paceEnd x s).hlt.alarm = false := by rw [hhlt]; exact settled_of_upAnd h
    rw [finishUp_sys, paceEnd_sys, finishUp_pln hcalm, hpln]
    exact ⟨rfl, rfl, rfl, rfl, toNat_ite_lt _ _, rfl⟩

end Sys2Proof.Machine

/-! PROOFS. Retirement, the estimator snapshot and the retry window (R43, R61, R70, R321, R322). -/

namespace Sys2Proof.Machine

/-! ### A retirement changes its source or its board -/

@[simp] theorem haltPlane_grn {why : CreditKerf} {b : Nat} {s : State} : (haltPlane why b s).grn = s.grn := by
  rw [← front_grn, front_haltPlane, front_grn]

theorem retireBoard_grn_of_not_retired {b cause : Nat} {s : State} (h : boardSt s.grn b ≠ .retired) :
    (retireBoard b cause s).grn = { s.grn with boards := upd s.grn.boards b (fun _ => ⟨.retired, BitVec.ofNat 3 cause⟩) } := by
  simp only [retireBoard, if_neg h]
  split
  · simp only [raiseFatal_grn, haltPlane_grn]
    rfl
  · simp only [haltPlane_grn]
    rfl

theorem retireBoard_grn {b cause : Nat} {s : State} : ∃ l, (retireBoard b cause s).grn = { s.grn with boards := l } := by
  by_cases h : boardSt s.grn b = .retired
  · exact ⟨s.grn.boards, by rw [retireBoard, if_pos h]⟩
  · exact ⟨_, retireBoard_grn_of_not_retired h⟩

theorem retireSource_grn {code : Nat} {byHealth : Bool} {s : State} :
    ∃ l, (retireSource code byHealth s).grn = { updSrc code (Source.retire byHealth) s.grn with boards := l } := by
  have hs1 : (keyCheck (post 0x02 code 0 (setSum 2 (updGrn (updSrc code (Source.retire byHealth)) s)))).grn =
      updSrc code (Source.retire byHealth) s.grn := by
    rw [keyCheck_grn]
    rfl
  unfold retireSource
  dsimp only
  split
  · rw [← hs1]
    exact retireBoard_grn
  · split
    · rw [← hs1]
      exact retireBoard_grn
    · exact ⟨_, hs1⟩

/-- A board that is there and retires holds its cause. -/
theorem board_retireBoard {b cause : Nat} {s : State} (h : boardSt s.grn b ≠ .retired) :
    (retireBoard b cause s).grn.boards[b]? = some ⟨.retired, BitVec.ofNat 3 cause⟩ := by
  rw [retireBoard_grn_of_not_retired h, getElem?_upd_self]
  unfold boardSt at h
  cases hb : s.grn.boards[b]? with
  | none => exact absurd (by simp [hb]) h
  | some x => rfl

theorem srcOf_retireSource {code : Nat} {byHealth : Bool} {s : State} :
    srcOf (retireSource code byHealth s).grn code = (srcOf s.grn code).map (Source.retire byHealth) := by
  obtain ⟨l, hl⟩ := retireSource_grn (code := code) (byHealth := byHealth) (s := s)
  rw [hl, ← srcOf_updSrc_self]
  rfl

/-! ### GRN_RETIRE -/

theorem retireWord_fields (board : Bool) (idx : BitVec 7) :
    bitAt (packR [(8, b2n board), (0, idx.toNat)]) 8 = board ∧ fld (packR [(8, b2n board), (0, idx.toNat)]) 0 7 = idx.toNat := by
  revert board idx
  decide

/-- What a retirement that is allowed leaves. -/
theorem grnRetire_of_ok {board : Bool} {idx : Nat} {s : State} (h : retireOk board idx s = true) :
    (board = true → (grnRetire board idx s).grn.boards[idx % 8]? = some ⟨.retired, 3⟩) ∧
      (board = false → (srcOf (grnRetire board idx s).grn idx).map (fun y => (y.st, y.retired, y.byHealth)) =
        some (.retired, true, false)) := by
  unfold grnRetire
  rw [if_pos h]
  cases board with
  | true =>
    simp only [retireOk, if_true, Bool.and_eq_true, decide_eq_true_eq] at h
    exact ⟨fun _ => board_retireBoard h.1, nofun⟩
  | false =>
    refine ⟨nofun, fun _ => ?_⟩
    dsimp only [Bool.false_eq_true, if_false]
    rw [if_neg Bool.false_ne_true, srcOf_retireSource]
    show Option.map _ ((srcOf s.grn idx).map _) = _
    cases hx : srcOf s.grn idx with
    | none => simp [retireOk, hx] at h
    | some x => rfl

theorem grnRetire_of_not_ok {board : Bool} {idx : Nat} {s : State} (h : retireOk board idx s = false) :
    grnRetire board idx s = grnRefuse 3 s := by
  simp [grnRetire, h]

/-- The step of a completed GRN_RETIRE pair: the board or source it names retires, or the pair is refused. -/
theorem retirePair {a : Acc} {board : Bool} {idx : BitVec 7} {s : State}
    (h : completes a 0x4034 (packR [(8, b2n board), (0, idx.toNat)]) s = true) :
    let t := finishUp (pairRow a 0x4034 (packR [(8, b2n board), (0, idx.toNat)]) s)
    if retireOk board idx.toNat s then
      (board = true → t.grn.boards[idx.toNat % 8]? = some ⟨.retired, 3⟩) ∧
      (board = false → (srcOf t.grn idx.toNat).map (fun y => (y.st, y.retired, y.byHealth)) = some (.retired, true, false))
    else t.grn = { s.grn with err := s.grn.err ||| 8 } ∧ t.sys.gRefused = true := by
  obtain ⟨t, ⟨r, y, rfl, hy⟩, he⟩ := pairRow_reaches h (by decide)
  obtain ⟨hboard, hidx⟩ := retireWord_fields board idx
  dsimp only
  rw [he, finishUp_grn, finishUp_sys, answer_grn, answer_sys]
  have hok : ∀ r y, retireOk board idx.toNat { s with ring := r, sys := y } = retireOk board idx.toNat s := fun _ _ => rfl
  have hrefuses : guardRefuses { s with ring := r, sys := y } 0x4034 (packR [(8, b2n board), (0, idx.toNat)]) =
      !retireOk board idx.toNat s := by
    show (!retireOk (bitAt _ 8) (fld _ 0 7) _) = _
    rw [hboard, hidx, hok]
  unfold guardComplete
  rw [hrefuses]
  cases h1 : retireOk board idx.toNat s with
  | true =>
    have happly : ∀ u, guardApply (who a s) 0x4034 (packR [(8, b2n board), (0, idx.toNat)]) u = grnRetire board idx.toNat u := by
      intro u
      show grnRetire (bitAt _ 8) (fld _ 0 7) u = _
      rw [hboard, hidx]
    simp only [Bool.not_true, Bool.false_eq_true, if_false, if_true, happly]
    exact grnRetire_of_ok ((hok r y).trans h1)
  | false =>
    have hrefusal : ∀ u, guardRefusal 0x4034 (packR [(8, b2n board), (0, idx.toNat)]) u = grnRetire board idx.toNat u := by
      intro u
      show grnRetire (bitAt _ 8) (fld _ 0 7) u = _
      rw [hboard, hidx]
    simp only [Bool.not_false, Bool.false_eq_true, if_false, if_true, hrefusal]
    rw [grnRetire_of_not_ok (by exact h1)]
    exact ⟨rfl, rfl⟩

/-! ### HLT_CMD and HLT_RETRY -/

/-- The step of a write of HLT_CMD.SNAP counts one snapshot more that is asked for. -/
theorem hltSnap_answers {a : Acc} {s : State} (h : mayWrite a 0x5004 s = true) :
    Answers (.hltSnap a) s (fun t => t.hlt = { s.hlt with snapPend := s.hlt.snapPend + 1 } ∧ t.grn = s.grn) := by
  obtain ⟨t, ⟨r, y, rfl, -⟩, he⟩ := writeAccess_reaches (v := 1) h (by decide) (by decide) (by decide) (by decide)
  have ha : s.hlt.alarm = false := settled_of_mayWrite h
  refine answers_of_act exec_hltSnap (running_of_enters (enters_of_mayWrite h)) ?_
  have hplain : ∀ q u, plainWrite q 0x5004 1 u = hltSnapAsk u := fun _ _ => rfl
  rw [he, hplain, finishUp_grn, finishUp_hlt (by rw [answer_hlt]; exact ha), answer_hlt, answer_grn]
  exact ⟨rfl, rfl⟩

theorem hltSnapTake_of_pending {s : State} (h : s.hlt.snapPend ≠ 0) :
    (hltSnapTake s).grn = { s.grn with cells := s.grn.cells.map snapSource, wits := s.grn.wits.map snapSource } ∧
      ∃ w, (hltSnapTake s).hlt = { s.hlt with snapPend := s.hlt.snapPend - 1, seq := s.hlt.seq + 1, wvalid := w } := by
  rw [hltSnapTake, if_neg h]
  exact ⟨rfl, _, rfl⟩

theorem retryWord_fields (ms : BitVec 16) :
    fld (ms.setWidth 32 ||| 0x80000000) 0 16 = ms.toNat ∧ bitAt (ms.setWidth 32 ||| 0x80000000) 31 = true := by
  constructor
  · have hlt : ms.toNat < 65536 := ms.isLt
    simp [fld, Nat.or_mod_two_pow (n := 16), Nat.mod_eq_of_lt hlt, Nat.mod_eq_of_lt (hlt.trans (by decide : 65536 < 4294967296))]
  · simp [bitAt]

/-- The step of a completed HLT_RETRY pair with PIN sets the window within its limits and pins it. -/
theorem hltRetryPin_answers {a : Acc} {ms : BitVec 16} {s : State} (h : completes a 0x5008 (ms.setWidth 32 ||| 0x80000000) s = true) :
    Answers (.hltRetryPin a ms) s (fun t =>
      t.hlt.retryMs.toNat = max 100 (min 60000 ms.toNat) ∧ t.hlt.retryPin = true ∧ isPinned t 0x5008 = true ∧ t.grn = s.grn) := by
  obtain ⟨t, ⟨r, y, rfl, -⟩, he⟩ := pairRow_reaches h (by decide)
  obtain ⟨hms, hpin⟩ := retryWord_fields ms
  have happly : ∀ u, guardComplete (who a s) 0x5008 (ms.setWidth 32 ||| 0x80000000) u =
      { u with hlt := { u.hlt with retryMs := BitVec.ofNat 16 (clampN 100 60000 ms.toNat), retryPin := true } } := by
    intro u
    show retryPair _ u = _
    rw [retryPair, hms, hpin]
  have ha : s.hlt.alarm = false := settled_of_completes h
  refine answers_of_act exec_hltRetryPin (running_of_completes h) ?_
  have hlimits : (BitVec.ofNat 16 (clampN 100 60000 ms.toNat)).toNat = max 100 (min 60000 ms.toNat) := by
    simp only [BitVec.toNat_ofNat, clampN]
    split
    · omega
    · split <;> omega
  have hpinned : ∀ u : State, isPinned u 0x5008 = u.hlt.retryPin := fun _ => rfl
  rw [he, happly, hpinned, finishUp_grn, finishUp_hlt (by rw [answer_hlt]; exact ha), answer_hlt, answer_grn]
  exact ⟨hlimits, rfl, rfl, rfl⟩

/-- Settles O22: what the pair of GRN_RETIRE leaves, the snapshot from its request to its end, and the pair of HLT_RETRY. -/
theorem retirementAndHealthCommands : Obligations.RetirementAndHealthCommands := by
  refine ⟨fun s a board idx h => answers_of_act exec_grnRetire (running_of_completes h) (retirePair h), fun s a ms =>
    ⟨hltSnap_answers, fun hu hp => answers_of_act exec_hltSnapDone (running_of_upAnd hu) ?_, hltRetryPin_answers⟩⟩
  obtain ⟨hgrn, w, hhlt⟩ := hltSnapTake_of_pending hp
  rw [finishUp_grn, finishUp_hlt (by rw [hhlt]; exact settled_of_upAnd hu), hgrn, hhlt]
  exact ⟨rfl, rfl, rfl, rfl⟩

end Sys2Proof.Machine

/-! PROOFS. Raw capture (R45 to R48), the enable write (R41) and samples of a source (R27, R35, R52, R69). -/

namespace Sys2Proof.Machine

/-! ### A change of one source -/

@[simp] theorem updSrc_cap {code : Nat} {f : Source → Source} {g : Grn} : (updSrc code f g).cap = g.cap := by
  unfold updSrc
  split <;> rfl

@[simp] theorem updSrc_en {code : Nat} {f : Source → Source} {g : Grn} : (updSrc code f g).en = g.en := by
  unfold updSrc
  split <;> rfl

/-- A transition changes nothing of a capture. -/
@[simp] theorem goSrc_cap {code : Nat} {f : Source → Source} {s : State} : (goSrc code f s).grn.cap = s.grn.cap := by
  obtain ⟨l, hl⟩ := goSrc_grn (code := code) (f := f) (s := s)
  simp [hl]

@[simp] theorem goSrc_en {code : Nat} {f : Source → Source} {s : State} : (goSrc code f s).grn.en = s.grn.en := by
  obtain ⟨l, hl⟩ := goSrc_grn (code := code) (f := f) (s := s)
  simp [hl]

theorem goSrc_cells {code : Nat} {f : Source → Source} {s : State} (h : code < 0x40) :
    (goSrc code f s).grn.cells = upd s.grn.cells code f ∧ (goSrc code f s).grn.wits = s.grn.wits := by
  obtain ⟨l, hl⟩ := goSrc_grn (code := code) (f := f) (s := s)
  rw [hl, updSrc, if_pos h]
  exact ⟨rfl, rfl⟩

/-! ### Raw capture -/

theorem captureWord_fields (pin start : Bool) (src : BitVec 7) :
    let v := packR [(9, b2n pin), (8, b2n start), (0, src.toNat)]
    bitAt v 9 = pin ∧ bitAt v 8 = start ∧ fld v 0 7 = src.toNat ∧ v.setWidth 7 = src := by
  revert pin start src
  decide

/-- What GRN_RAW_CTRL leaves of a capture that is allowed: the buffer empty, the source withdrawn. -/
def CaptureStarted (src : BitVec 7) (pin : Bool) (g : Grn) : Prop :=
  g.cap.busy = true ∧ g.cap.done = false ∧ g.cap.hltFail = false ∧ g.cap.source = src ∧ g.cap.bits = 0 ∧
    g.cap.ptr = 0 ∧ g.cap.buf = [] ∧ g.cap.pinned = pin ∧ g.cap.ctrlSrc = src ∧ (srcOf g src.toNat).map (·.st) = some .capture

theorem captureStart_of_ok {src : BitVec 7} {s : State} (h : captureOk src.toNat s = true) (hsrc : s.grn.cap.ctrlSrc = src) :
    CaptureStarted src s.grn.cap.pinned (captureStart src.toNat s).grn := by
  unfold CaptureStarted captureStart
  rw [if_pos h]
  dsimp only
  rw [goSrc_cap, srcOf_goSrc_self]
  have hthere : ∃ x, srcOf s.grn src.toNat = some x := by
    cases hx : srcOf s.grn src.toNat with
    | none => simp [captureOk, hx] at h
    | some x => exact ⟨x, rfl⟩
  obtain ⟨x, hx⟩ := hthere
  refine ⟨rfl, rfl, rfl, BitVec.ofNat_toNat .., rfl, rfl, rfl, rfl, hsrc, ?_⟩
  show Option.map _ (Option.map _ (srcOf s.grn src.toNat)) = _
  rw [hx]
  rfl

/-- The step of a completed GRN_RAW_CTRL pair: the capture starts or is refused; without START the pair sets its fields alone. -/
theorem capturePair_step {a : Acc} {pin start : Bool} {m n : Nat} {src : BitVec 7} {s : State} (hm : m = b2n pin) (hn : n = b2n start)
    (h : completes a 0x4040 (packR [(9, m), (8, n), (0, src.toNat)]) s = true) :
    let t := finishUp (pairRow a 0x4040 (packR [(9, m), (8, n), (0, src.toNat)]) s)
    if start then
      (if captureOk src.toNat s then CaptureStarted src pin t.grn
       else t.grn = { s.grn with err := s.grn.err ||| 4 } ∧ t.sys.gRefused = true)
    else t.grn = { s.grn with cap := { s.grn.cap with ctrlSrc := src, pinned := pin } } := by
  subst hm hn
  obtain ⟨t, ⟨r, y, rfl, hy⟩, he⟩ := pairRow_reaches h (by decide)
  obtain ⟨hpin, hstart, hidx, hsrc⟩ := captureWord_fields pin start src
  dsimp only
  rw [he, finishUp_grn, finishUp_sys, answer_grn, answer_sys]
  generalize packR [(9, b2n pin), (8, b2n start), (0, src.toNat)] = v at *
  have hrefuses : guardRefuses { s with ring := r, sys := y } 0x4040 v = (start && !captureOk src.toNat s) := by
    show (bitAt v 8 && !captureOk (fld v 0 7) _) = _
    rw [hstart, hidx]
    rfl
  have happly : ∀ u, guardApply (who a s) 0x4040 v u =
      (let u1 := updGrn (fun g => { g with cap := { g.cap with ctrlSrc := src, pinned := pin } }) u
       if start then captureStart src.toNat u1 else u1) := by
    intro u
    show capturePair v u = _
    rw [capturePair, hstart, hidx, hsrc, hpin]
  have hrefusal : ∀ u, guardRefusal 0x4040 v u = captureStart src.toNat u := by
    intro u
    show captureStart (fld v 0 7) u = _
    rw [hidx]
  unfold guardComplete
  rw [hrefuses, happly, hrefusal]
  cases start with
  | false => exact rfl
  | true =>
    cases hok : captureOk src.toNat s with
    | true =>
      show CaptureStarted src pin (captureStart src.toNat _).grn
      exact captureStart_of_ok hok rfl
    | false =>
      show (captureStart src.toNat _).grn = _ ∧ (captureStart src.toNat _).sys.gRefused = true
      have hno : ∀ u : State, captureOk src.toNat u = false → captureStart src.toNat u = grnRefuse 2 u := by
        intro u hu
        simp [captureStart, hu]
      rw [hno _ (by exact hok)]
      exact ⟨rfl, rfl⟩

/-- An access of the control core that is answered leaves its data there. -/
theorem answer_core_data {a : Acc} {w : Bool} {st : Nat} {d : List Byte} {s : State} (h : a.path = .core) :
    (answer a w st d false s).core.data = d := by
  simp [answer, h, pathPort, coreAnswer]

/-- The step of a read of GRN_RAW_DATA advances the pointer and returns the word that it pointed at. -/
theorem rawDataRead_answers {a : Acc} {s : State} (h : mayFetch a s = true) :
    Answers (.grnRawDataRead a) s (fun t =>
      t.grn = { s.grn with cap := { s.grn.cap with ptr := s.grn.cap.ptr + 1 } } ∧
      (a.path = .core → t.core.data = w32ToBytes
        [if (s.grn.cap.ptr.toNat + 1) * 32 ≤ s.grn.cap.bits then memW32 s.grn.cap.buf (4 * s.grn.cap.ptr.toNat) else 0])) := by
  have hen : enters a s = true := by
    simp only [mayFetch, Bool.and_eq_true] at h
    exact h.1.1
  have ha : s.hlt.alarm = false := by
    simp only [mayFetch, settled, Bool.and_eq_true, Bool.not_eq_true'] at h
    exact h.2
  refine answers_of_act exec_grnRawDataRead (running_of_enters hen) ?_
  have hafter : ∀ q u, (readOne q 0x4050 u).2 = breakArm q (rawAdvance u) := fun _ _ => rfl
  have hval : ∀ q u, regVal u q 0x4050 = grnVal u 0x4050 := fun _ _ => rfl
  have hraw : ∀ u : State, grnVal u 0x4050 =
      if (u.grn.cap.ptr.toNat + 1) * 32 ≤ u.grn.cap.bits then memW32 u.grn.cap.buf (4 * u.grn.cap.ptr.toNat) else 0 := fun _ => rfl
  have hadvance : ∀ u, (rawAdvance u).grn = { u.grn with cap := { u.grn.cap with ptr := u.grn.cap.ptr + 1 } } := fun _ => rfl
  have hkeeps : ∀ u, (rawAdvance u).hlt = u.hlt := fun _ => rfl
  rw [readAccess_of_mayFetch h (by decide) (by decide), hafter, readOne_val (by decide), hval, hraw, entered_grn]
  rw [finishUp_grn, finishUp_core (by rw [answer_hlt, breakArm_hlt, hkeeps, entered_hlt]; exact ha), answer_grn, breakArm_grn, hadvance,
    entered_grn]
  refine ⟨?_, fun hp => ?_⟩
  · rfl
  · rw [answer_core_data (norm_path.trans hp)]

/-- Settles O23: the rows write the pair of one value, whose step is as capturePair_step says, and the read returns the word at the
pointer. -/
theorem rawCapture : Obligations.RawCapture := by
  intro s a src
  dsimp only
  refine ⟨fun pin h => answers_of_act exec_captureStart (running_of_completes h) ?_, fun start h =>
    answers_of_act exec_capturePin (running_of_completes h) ?_, rawDataRead_answers⟩
  · have hstep := capturePair_step (start := true) (n := 1) rfl rfl h
    rw [if_pos rfl] at hstep
    exact hstep
  · exact capturePair_step (pin := true) (m := 1) rfl rfl h

/-! ### The enable write -/

theorem getElem?_upd_ne {α : Type} {xs : List α} {i k : Nat} {f : α → α} (h : i ≠ k) : (upd xs i f)[k]? = xs[k]? := by
  induction xs generalizing i k with
  | nil => rfl
  | cons x xs ih =>
    cases i with
    | zero =>
      cases k with
      | zero => exact absurd rfl h
      | succ k => rfl
    | succ i =>
      cases k with
      | zero => rfl
      | succ k => exact ih fun he => h (by rw [he])

/-- A foldl that changes entries other than k leaves k. -/
theorem getElem?_foldl_upd_ne {α : Type} {i : Nat → Nat} {f : Nat → α → α} {l : List Nat} {xs : List α} {k : Nat}
    (h : ∀ p ∈ l, i p ≠ k) : (l.foldl (fun c p => upd c (i p) (f p)) xs)[k]? = xs[k]? := by
  induction l generalizing xs with
  | nil => rfl
  | cons p l ih =>
    rw [List.foldl_cons, ih fun q hq => h q (List.mem_cons_of_mem _ hq)]
    exact getElem?_upd_ne (h p List.mem_cons_self)

/-- A foldl that changes each entry once gives entry i p the image under f p. -/
theorem getElem?_foldl_upd_mem {α : Type} {i : Nat → Nat} {f : Nat → α → α} {l : List Nat} {xs : List α} {p : Nat} (hp : p ∈ l)
    (hl : l.Nodup) (hi : ∀ q, i q = i p → q = p) : (l.foldl (fun c p => upd c (i p) (f p)) xs)[i p]? = xs[i p]?.map (f p) := by
  induction l generalizing xs with
  | nil => cases hp
  | cons q l ih =>
    obtain ⟨hq, hl⟩ := List.nodup_cons.mp hl
    rw [List.foldl_cons]
    rcases List.mem_cons.mp hp with rfl | hp
    · rw [getElem?_foldl_upd_ne fun q' hq' hi' => hq (hi q' hi' ▸ hq'), getElem?_upd_self]
    · rw [ih hp hl, getElem?_upd_ne fun h => hq (hi q h ▸ hp)]

/-- Transitions of cells at several positions change those cells alone, each by its own transition, and no enable bit or error bit. -/
theorem foldl_goSrc {i : Nat → Nat} {f : Nat → Source → Source} {l : List Nat} {s : State} (h : ∀ p ∈ l, i p < 0x40) :
    let t := l.foldl (fun t p => goSrc (i p) (f p) t) s
    t.grn.cells = l.foldl (fun c p => upd c (i p) (f p)) s.grn.cells ∧ t.grn.wits = s.grn.wits ∧ t.grn.en = s.grn.en ∧
      t.grn.err = s.grn.err := by
  induction l generalizing s with
  | nil => exact ⟨rfl, rfl, rfl, rfl⟩
  | cons p l ih =>
    obtain ⟨hcells, hwits, hen, herr⟩ := ih (s := goSrc (i p) (f p) s) fun q hq => h q (List.mem_cons_of_mem _ hq)
    obtain ⟨hcell, hwit⟩ := goSrc_cells (f := f p) (s := s) (h p List.mem_cons_self)
    dsimp only [List.foldl_cons] at *
    exact ⟨by rw [hcells, hcell], by rw [hwits, hwit], by rw [hen, goSrc_en], by rw [herr, goSrc_err]⟩

/-- The state that an enable bit gives a cell (R41, Table 2-3). -/
theorem enableCell_st (bit : Bool) (x : Source) :
    (enableCell bit x).st =
      if bit then (if x.st = .off then (if x.retired then .retired else .seasoning) else x.st)
      else if x.st = .seasoning ∨ x.st = .live ∨ x.st = .retired then .off else x.st := by
  unfold enableCell
  cases hst : x.st <;> cases bit <;> cases hr : x.retired <;> simp [hst, Source.season]

theorem plainWrite_grnEn {r : ReqId} {b : Nat} {v : W32} {s : State} (h : b < nBoards s) :
    plainWrite r (0x4010 + 4 * b) v s = grnEnWrite b v s := by
  have hle := nBoards_le s
  have hblock : (0x4010 + 4 * b) / 0x1000 = 4 := by omega
  have hs : slot (0x4010 + 4 * b) 0x4010 4 (nBoards s) = some b := slot_at h (by decide)
  unfold plainWrite
  rw [hblock]
  show grnWrite _ _ _ = _
  unfold grnWrite
  split
  · omega
  · omega
  · rw [hs]

/-- Settles O20: the write reaches grnEnWrite, which refuses it or moves the eight cells of the board one by one. -/
theorem enableWrite : Obligations.EnableWrite := by
  intro s a b v hb hw
  have hle := nBoards_le s
  have hrow : exec (.grnEnWrite a b v) s = .next (act (writeAccess a (0x4010 + 4 * b) [v]) s) := by
    have : rowWrite a (b < 8) (0x4010 + 4 * b) v = writeAccess a (0x4010 + 4 * b) [v] := by
      funext u
      simp [rowWrite, show b < 8 by omega]
    rw [exec_grnEnWrite, this]
  have hguard : guardBase (0x4010 + 4 * b) = none := by
    simp only [guardBase, List.find?_eq_none, List.mem_cons, List.not_mem_nil, or_false, Bool.or_eq_true, decide_eq_true_eq]
    omega
  obtain ⟨t, ⟨r, y, rfl, -⟩, he⟩ := writeAccess_reaches (v := v) hw (by omega) (by omega) hguard (by omega)
  refine answers_of_act hrow (running_of_enters (enters_of_mayWrite hw)) ?_
  have hsrcSt : ∀ u k, srcSt u k = (srcOf u.grn k).map (·.st) := fun _ _ => rfl
  simp only [hsrcSt]
  rw [he, plainWrite_grnEn (by exact hb), finishUp_grn, answer_grn, grnEnWrite]
  dsimp only
  split
  · rfl
  · have hcell : ∀ p ∈ List.range 8, 8 * b + p < 0x40 := fun p hp => by have := List.mem_range.mp hp; omega
    obtain ⟨hcells, hwits, hen, herr⟩ := foldl_goSrc (i := fun p => 8 * b + p) (f := fun p => enableCell (bitAt v p))
      (s := updGrn (fun g => { g with en := upd g.en b (fun _ => v.setWidth 8) }) { s with ring := r, sys := y }) hcell
    refine ⟨hen, herr, fun p x hp hx => ?_, fun k hk hne => ?_, hwits⟩
    · have hlt : 8 * b + p < 0x40 := by omega
      rw [srcOf, if_pos hlt] at hx
      rw [srcOf, if_pos hlt, hcells, getElem?_foldl_upd_mem (i := fun p => 8 * b + p) (List.mem_range.mpr hp) List.nodup_range
        (fun q hq => by omega)]
      show Option.map _ (Option.map _ s.grn.cells[8 * b + p]?) = _
      rw [hx, Option.map_some, Option.map_some, enableCell_st]
    · rw [srcOf, if_pos hk, hcells, getElem?_foldl_upd_ne fun p hp => by have := List.mem_range.mp hp; omega]
      exact (if_pos hk).symm

end Sys2Proof.Machine

/-! PROOFS. Samples (R27, R35, R52, R69): a view of the sources that holds what a sample changes, and that everything which follows from a
sample's tests leaves alone. -/

namespace Sys2Proof.Machine

/-! ### Latest samples and estimates -/

/-- A source's latest sample and its estimator. -/
def trace (x : Source) : Option Bool × Est := (x.last, x.est)

/-- The latest samples and the estimators of all sources. -/
def traces (s : State) (k : Nat) : Option (Option Bool × Est) := (srcOf s.grn k).map trace

theorem traces_of_front {s t : State} (h : front t = front s) : traces t = traces s := by
  have hgrn : t.grn = s.grn := congrArg Prod.snd h
  unfold traces
  rw [hgrn]

@[simp] theorem traces_updGrn {f : Grn → Grn} {s : State} (hc : ∀ g, (f g).cells = g.cells) (hw : ∀ g, (f g).wits = g.wits) :
    traces (updGrn f s) = traces s := by
  funext k
  simp only [traces, srcOf, updGrn, hc, hw]

theorem srcOf_updSrc_ne {code k : Nat} {f : Source → Source} {g : Grn} (h : k ≠ code) : srcOf (updSrc code f g) k = srcOf g k := by
  unfold srcOf updSrc
  by_cases hc : code < 0x40
  · rw [if_pos hc]
    split
    · exact getElem?_upd_ne (Ne.symm h)
    · rfl
  · rw [if_neg hc]
    split
    · rfl
    · exact getElem?_upd_ne (by omega)

/-- A change of a source that keeps its latest sample and its estimator keeps them all. -/
theorem traces_updSrc {code : Nat} {f : Source → Source} {s : State} (h : ∀ x, trace (f x) = trace x) :
    traces (updGrn (updSrc code f) s) = traces s := by
  funext k
  show (srcOf (updSrc code f s.grn) k).map trace = (srcOf s.grn k).map trace
  by_cases hk : k = code
  · subst hk
    rw [srcOf_updSrc_self, Option.map_map]
    exact congrArg (fun g => (srcOf s.grn k).map g) (funext h)
  · rw [srcOf_updSrc_ne hk]

/-- A change of the boards alone keeps every trace. -/
theorem traces_of_boards {code : Nat} {f : Source → Source} {s t : State} (h : ∃ l, t.grn = { updSrc code f s.grn with boards := l })
    (hf : ∀ x, trace (f x) = trace x) : traces t = traces s := by
  obtain ⟨l, hl⟩ := h
  refine Eq.trans ?_ (traces_updSrc (code := code) hf)
  funext k
  unfold traces
  rw [hl]
  rfl

@[simp] theorem trace_leave (x : Source) : trace x.leave = trace x := rfl

@[simp] theorem traces_goSrc {code : Nat} {f : Source → Source} {s : State} (h : ∀ x, trace (f x) = trace x) :
    traces (goSrc code f s) = traces s := traces_of_boards goSrc_grn h

@[simp] theorem traces_retireSource {code : Nat} {byHealth : Bool} {s : State} : traces (retireSource code byHealth s) = traces s :=
  traces_of_boards retireSource_grn fun _ => rfl

@[simp] theorem traces_post {code idx detail : Nat} {s : State} : traces (post code idx detail s) = traces s := rfl

@[simp] theorem traces_setSum {i : Nat} {s : State} : traces (setSum i s) = traces s := rfl

@[simp] theorem traces_bumpFree {s : State} : traces (bumpFree s) = traces s := rfl

@[simp] theorem traces_failBlock {b : Nat} {s : State} : traces (failBlock b s) = traces s := traces_of_front front_failBlock

@[simp] theorem traces_planeResume {b : Nat} {s : State} : traces (planeResume b s) = traces s := traces_of_front front_planeResume

@[simp] theorem traces_deliverSample {b pos : Nat} {bit : Bool} {s : State} : traces (deliverSample b pos bit s) = traces s :=
  traces_of_front front_deliverSample

@[simp] theorem traces_onlyIf {c : Bool} {f : State → State} {s : State} (h : ∀ u, traces (f u) = traces u) :
    traces (onlyIf c f s) = traces s := by
  cases c
  · rfl
  · exact h s

theorem traces_foldl {α : Type} {g : State → α → State} {l : List α} {s : State} (h : ∀ u x, traces (g u x) = traces u) :
    traces (l.foldl g s) = traces s := by
  induction l generalizing s with
  | nil => rfl
  | cons x l ih => rw [List.foldl_cons, ih, h]

/-! ### What follows from a sample -/

@[simp] theorem traces_healthRecord {code test : Nat} {seas : Bool} {s : State} : traces (healthRecord code test seas s) = traces s := by
  unfold healthRecord
  split
  · rfl
  · split
    · rfl
    · dsimp only
      split
      · exact traces_updSrc (fun _ => rfl)
      · rfl

@[simp] theorem traces_countFailure {code : Nat} {seas rct apt : Bool} {s : State} :
    traces (countFailure code seas rct apt s) = traces s := by
  unfold countFailure
  dsimp only
  have hcounted : traces (setSum (if seas then 4 else if code < 0x40 then 0 else 1) (updGrn (updSrc code fun x =>
      { x with
        cntSeas := if seas then inc8 x.cntSeas else x.cntSeas
        cntRct := if rct && !seas then inc8 x.cntRct else x.cntRct
        cntApt := if apt && !seas then inc8 x.cntApt else x.cntApt }) s)) = traces s := traces_updSrc (fun _ => rfl)
  split <;> exact hcounted

@[simp] theorem traces_noteRetry {code : Nat} {s : State} : traces (noteRetry code s) = traces s := traces_updSrc fun _ => rfl

/-- A failed test changes no sample and no estimator: it counts, and the source seasons or retires. -/
@[simp] theorem traces_sourceFails {code : Nat} {seas rct apt : Bool} {s : State} :
    traces (sourceFails code seas rct apt s) = traces s := by
  have hcounts : ∀ u, traces (noteRetry code (countFailure code seas rct apt u)) = traces u := fun u => by simp
  have hfail : ∀ u, traces (updGrn (fun g => { g with cap := { g.cap with hltFail := true } }) u) = traces u :=
    fun u => traces_updGrn (fun _ => rfl) fun _ => rfl
  have hseason : ∀ u, traces (goSrc code Source.season u) = traces u := fun u => traces_goSrc fun _ => rfl
  unfold sourceFails
  split
  · rfl
  · dsimp only
    generalize (if seas then seasCount s else contCount s) = counted
    split
    · rw [traces_healthRecord]
      rw [hfail, traces_countFailure]
    · split
      · rw [traces_healthRecord, traces_onlyIf fun _ => traces_setSum, hcounts]
      · have hfirst : traces (if seas then s else failBlock (boardOfSrc code) s) = traces s := by
          split
          · rfl
          · exact traces_failBlock
        rw [traces_healthRecord, traces_planeResume]
        split
        · rw [traces_retireSource, hcounts, hfirst]
        · rw [hseason, hcounts, hfirst]

@[simp] theorem traces_seasonSample {code : Nat} {xc before rct apt : Bool} {s : State} :
    traces (seasonSample code xc before rct apt s) = traces s := by
  unfold seasonSample
  have hlive : ∀ c, traces (onlyIf c (goSrc code Source.goLive) s) = traces s := fun c => traces_onlyIf fun u => traces_goSrc fun _ => rfl
  have hseason : traces (goSrc code Source.season s) = traces s := traces_goSrc fun _ => rfl
  split
  · rfl
  · dsimp only
    split
    · split
      · rw [traces_sourceFails, hlive]
      · split
        · rw [traces_sourceFails, hlive]
        · exact hlive _
    · split
      · exact traces_sourceFails
      · split
        · rfl
        · split
          · exact hseason
          · split
            · exact hlive true
            · exact traces_sourceFails

@[simp] theorem traces_lineSample {code : Nat} {bit : Bool} {s : State} : traces (lineSample code bit s) = traces s := by
  unfold lineSample
  have hline : ∀ l, traces (updGrn (updSrc code fun y => { y with line := l }) s) = traces s := fun l => traces_updSrc fun _ => rfl
  split
  · rfl
  · dsimp only
    split
    · rw [traces_foldl fun _ _ => traces_deliverSample, hline]
    · split
      · rw [traces_deliverSample, hline]
      · exact hline _

@[simp] theorem traces_captureEnd {code : Nat} {s : State} : traces (captureEnd code s) = traces s := by
  unfold captureEnd
  have hseason : ∀ (c : Bool) u, traces (goSrc code (if c then fun x => { x with st := .retired } else Source.season) u) = traces u := by
    intro c u
    cases c <;> exact traces_goSrc fun _ => rfl
  have hcap : ∀ u, traces (updGrn (fun g => { g with cap := { g.cap with busy := false, done := true } }) u) = traces u :=
    fun u => traces_updGrn (fun _ => rfl) fun _ => rfl
  have hoff : ∀ u, traces (goSrc code (fun x => { x.leave with st := .off }) u) = traces u := fun u => traces_goSrc fun _ => rfl
  dsimp only
  split
  · rw [hoff, hseason, traces_post, hcap]
  · rw [hseason, traces_post, hcap]

@[simp] theorem traces_captureSample {code : Nat} {bit rct apt : Bool} {s : State} :
    traces (captureSample code bit rct apt s) = traces s := by
  have hcap : traces (updGrn (fun g => { g with cap := captureBit bit g.cap }) s) = traces s :=
    traces_updGrn (fun _ => rfl) fun _ => rfl
  have hbit : traces (onlyIf (rct || apt) (sourceFails code false rct apt)
      (updGrn (fun g => { g with cap := captureBit bit g.cap }) s)) = traces s := by
    rw [traces_onlyIf fun _ => traces_sourceFails, hcap]
  unfold captureSample
  dsimp only
  split
  · rw [traces_captureEnd, hbit]
  · exact hbit

/-! ### A sample -/

theorem trace_testStep {rc ac : Nat} {bit : Bool} {x : Source} : trace (testStep rc ac bit x).1 = trace x := by
  unfold testStep
  dsimp only
  split <;> rfl

/-- The neighbour's latest sample is known: it has taken one, or the source has no neighbour. -/
def neighbourKnown (s : State) (code : Nat) : Bool := ((neighbourOf s.grn code).bind (·.last)).isSome || decide (0x40 ≤ code)

/-- The neighbour's latest sample that the estimator pairs with a sample (R69). -/
def pairedBit (s : State) (code : Nat) : Bool :=
  match (neighbourOf s.grn code).bind (·.last) with
  | some v => v
  | none => if neighbourKnown s code then false else Config.firstNeighbour s.clk.free

/-- What the tests make of a sample: the source after them, and whether the RCT and the APT fail (R55). -/
def testedSample (s : State) (code : Nat) (bit : Bool) (x : Source) : Source × Bool × Bool :=
  let cut := if code < 0x40 then cutCell s else cutWit s
  testStep cut.1 cut.2 bit { x with est := estStep x.last bit (pairedBit s code) x.est, last := some bit }

/-- The source after a sample, before what follows from its tests. -/
def sampledSource (s : State) (code : Nat) (bit : Bool) (x : Source) : Source :=
  let r := testedSample s code bit x
  { r.1 with
    seas := if decide (x.st = .seasoning) then seasStep bit (pairedBit s code) r.2.1 r.2.2 x.seas else x.seas
    first := if decide (x.st = .seasoning) && !x.firstDone then bit :: x.first else x.first }

theorem trace_sampledSource {s : State} {code : Nat} {bit : Bool} {x : Source} :
    trace (sampledSource s code bit x) = (some bit, estStep x.last bit (pairedBit s code) x.est) := by
  have htested : trace (testedSample s code bit x).1 = (some bit, estStep x.last bit (pairedBit s code) x.est) := trace_testStep
  exact htested

/-- What follows from a sample's tests in the state its source is in. -/
def sampleFollows (code : Nat) (bit racing counted rct apt : Bool) (x : Source) (s : State) : State :=
  match x.st with
  | .seasoning => seasonSample code racing x.seas.failed rct apt s
  | .live =>
    if rct || apt then
      let s2 := sourceFails code false rct apt s
      if counted then lineSample code bit s2 else s2
    else lineSample code bit s
  | .capture => captureSample code bit rct apt s
  | _ => onlyIf (rct || apt) (sourceFails code false rct apt) s

/-- A sample of a source that races replaces the source, and what follows from its tests comes after. -/
theorem sample_eq {code : Nat} {bit : Bool} {s : State} {x : Source} (hx : srcOf s.grn code = some x) (hr : x.st.races = true) :
    ∃ free racing, sample code bit s =
      sampleFollows code bit racing (contCount s) (testedSample s code bit x).2.1 (testedSample s code bit x).2.2 x
        (onlyIf free bumpFree (updGrn (updSrc code fun _ => sampledSource s code bit x) s)) := by
  refine ⟨!neighbourKnown s code, ((neighbourOf s.grn code).map (·.st.races)).getD false, ?_⟩
  unfold sample
  rw [hx]
  dsimp only
  rw [if_neg (by simp [hr])]
  rfl

theorem traces_sampleFollows {code : Nat} {bit racing counted rct apt : Bool} {x : Source} {s : State} :
    traces (sampleFollows code bit racing counted rct apt x s) = traces s := by
  unfold sampleFollows
  split
  · exact traces_seasonSample
  · dsimp only
    split
    · split
      · rw [traces_lineSample, traces_sourceFails]
      · exact traces_sourceFails
    · exact traces_lineSample
  · exact traces_captureSample
  · exact traces_onlyIf fun _ => traces_sourceFails

/-- A sample gives its source the new sample and the estimator's next state, and leaves the others alone. -/
theorem traces_sample {code k : Nat} {bit : Bool} {s : State} {x : Source} (hx : srcOf s.grn code = some x) (hr : x.st.races = true) :
    traces (sample code bit s) k =
      if k = code then some (some bit, estStep x.last bit (pairedBit s code) x.est) else traces s k := by
  obtain ⟨free, racing, he⟩ := sample_eq (bit := bit) hx hr
  rw [he, traces_sampleFollows, traces_onlyIf fun _ => traces_bumpFree]
  show (srcOf (updSrc code _ s.grn) k).map trace = _
  split
  next hk => rw [hk, srcOf_updSrc_self, hx, Option.map_some, Option.map_some, trace_sampledSource]
  next hk =>
    rw [srcOf_updSrc_ne hk]
    rfl

theorem sample_of_not_races {code : Nat} {bit : Bool} {s : State} {x : Source} (hx : srcOf s.grn code = some x)
    (hr : x.st.races = false) : sample code bit s = s := by
  simp [sample, hx, hr]

/-- What a sample leaves of the sources, as the statement has it. -/
theorem grn_sample {code : Nat} {bit p : Bool} {s : State} {x : Source} (hx : srcOf s.grn code = some x) (hp : p = pairedBit s code) :
    let t := finishUp (sample code bit s)
    (x.st.races = true → traces t code = some (some bit, estStep x.last bit p x.est)) ∧
      (x.st.races = false → t.grn = s.grn) ∧ ∀ k, k ≠ code → traces t k = traces s k := by
  have hfinish : ∀ u, traces (finishUp u) = traces u := fun u => traces_of_front front_finishUp
  dsimp only
  rw [hfinish, finishUp_grn, hp]
  refine ⟨fun hr => ?_, fun hr => by rw [sample_of_not_races hx hr], fun k hk => ?_⟩
  · rw [traces_sample hx hr, if_pos rfl]
  · cases hr : x.st.races with
    | true => rw [traces_sample hx hr, if_neg hk]
    | false => rw [sample_of_not_races hx hr]

/-- Settles O19: a sample changes the view at its own source alone, to the new sample and the estimator's next state. -/
theorem sampleTaken : Obligations.SampleTaken := by
  intro s code bit x hu hx
  dsimp only
  refine ⟨fun hc => answers_of_act exec_race (running_of_upAnd hu) ?_, fun hc => answers_of_act exec_witnessSample (running_of_upAnd hu) ?_⟩
  · rw [raceBit, if_pos hc]
    refine grn_sample hx ?_
    unfold pairedBit neighbourKnown
    cases (neighbourOf s.grn code).bind (·.last) <;> simp
  · rw [show 0x40 + (code - 0x40) = code by omega]
    refine grn_sample hx ?_
    unfold pairedBit neighbourKnown
    cases (neighbourOf s.grn code).bind (·.last) <;> simp

end Sys2Proof.Machine

/-! PROOFS. A view of the health registers, the planes, the credit and the lanes that the ends of jobs and the waits on queues leave alone:
of a lane it leaves out the waiting consumers and pieces, and whether it has stopped for a seed. A weaker one, without the blocks in
progress, is left alone by what a plane does next as well. -/

namespace Sys2Proof.Machine

/-- A plane without its state and its block in progress. -/
def planeCore (p : Plane) : Plane := { p with st := .idle, serial := 0, blk := none, closedAt := 0, store := [], witLast := 0 }

/-- A lane without the consumers and pieces that wait on it; whether a lane that produces words has stopped for a seed is left out too, and
how often it has. -/
def laneCore (l : Lane) : Lane :=
  let produces := decide (l.st = .run) || decide (l.st = .stretch) || decide (l.st = .wait)
  { l with pr := [], pieces := [], stalls := 0, st := if produces then .wait else l.st, asked := if produces then none else l.asked }

/-- The tally's account of credit, and the words generated. -/
structure CreditBooks where
  gen : Word
  creditIn : Word
  creditPending : Word
  creditSeeded : Word
  creditKerf : Word
  ckHealth : Word
  ckMode : Word
  ckRetire : Word
  ckAged : Word
  ckHalt : Word

/-- The account of credit and the words generated, of all the books. -/
def creditBooks (b : Books) : CreditBooks :=
  ⟨b.gen, b.creditIn, b.creditPending, b.creditSeeded, b.creditKerf, b.ckHealth, b.ckMode, b.ckRetire, b.ckAged, b.ckHalt⟩

/-- The parts that the ends of jobs and the waits on queues leave alone. -/
structure Units where
  hlt : Hlt
  pln : Pln
  credit : CreditBooks
  lan : Lan
  ticks : Nat
  slow : Nat

/-- The view of a state. The bindings of queues to lanes are left out. -/
def units (s : State) : Units :=
  ⟨s.hlt, s.pln, creditBooks s.tal.books,
   { s.lan with lanes := s.lan.lanes.map laneCore, bind := [], rebound := [] }, s.clk.ticks, s.clk.slow⟩

theorem units_hlt (s : State) : (units s).hlt = s.hlt := rfl
theorem units_pln (s : State) : (units s).pln = s.pln := rfl
theorem units_credit (s : State) : (units s).credit = creditBooks s.tal.books := rfl

/-- The account of credit without what goes into the blocks in progress. -/
def closedCredit (c : CreditBooks) : CreditBooks := { c with creditIn := 0, creditPending := 0 }

/-- The view without the blocks in progress and the credit that goes into them. -/
def parts (s : State) : Units :=
  { units s with
    pln := { s.pln with planes := s.pln.planes.map planeCore }
    credit := closedCredit (creditBooks s.tal.books) }

theorem parts_of_units {s t : State} (h : units t = units s) : parts t = parts s := by
  have hpln : t.pln = s.pln := congrArg Units.pln h
  have hcredit : creditBooks t.tal.books = creditBooks s.tal.books := congrArg Units.credit h
  unfold parts
  rw [h, hpln, hcredit]

theorem parts_hlt (s : State) : (parts s).hlt = s.hlt := rfl
theorem parts_credit (s : State) : (parts s).credit = closedCredit (creditBooks s.tal.books) := rfl

theorem parts_plane {s : State} {b : Nat} : (planeOf s b).map planeCore = (parts s).pln.planes[b]? := by
  simp [parts, planeOf]

theorem units_lane {s : State} {n : Nat} : (laneOf s n).map laneCore = (units s).lan.lanes[n]? := by
  simp [units, laneOf]

theorem laneCore_idem (l : Lane) : laneCore (laneCore l) = laneCore l := by
  cases hst : l.st <;> simp [laneCore, hst]

/-! ### Changes of one entry -/

/-- A view of the entries does not see a change of one entry that it does not see there. -/
theorem map_upd_at {α β : Type} {g : α → β} {f : α → α} {l : List α} {i : Nat} (h : ∀ x, l[i]? = some x → g (f x) = g x) :
    (upd l i f).map g = l.map g := by
  induction l generalizing i with
  | nil => rfl
  | cons x xs ih =>
    cases i with
    | zero => simp [upd, h x rfl]
    | succ i => simp [upd, ih h]

theorem units_updLane_at {n : Nat} {f : Lane → Lane} {s : State} (h : ∀ l, laneOf s n = some l → laneCore (f l) = laneCore l) :
    units (updLane n f s) = units s := by
  simp [units, updLane, map_upd_at h]

@[simp] theorem units_updLane {n : Nat} {f : Lane → Lane} {s : State} (h : ∀ l, laneCore (f l) = laneCore l) :
    units (updLane n f s) = units s := units_updLane_at fun l _ => h l

theorem units_updLane_eq {n : Nat} {f g : Lane → Lane} {s : State} (h : ∀ l, laneCore (f l) = g (laneCore l)) :
    units (updLane n f s) = { units s with lan := { (units s).lan with lanes := upd (units s).lan.lanes n g } } := by
  simp [units, updLane, map_upd h]

theorem parts_updPlane {b : Nat} {f : Plane → Plane} {s : State} (h : ∀ p, planeCore (f p) = planeCore p) :
    parts (updPlane b f s) = parts s := by
  simp [parts, units, updPlane, map_upd_at fun p _ => h p]

/-- A change of every lane that the view does not see. -/
theorem units_mapLanes {f : Lane → Lane} {s : State} (h : ∀ l, laneCore (f l) = laneCore l) :
    units { s with lan := { s.lan with lanes := s.lan.lanes.map f } } = units s := by
  simp [units, h]

theorem units_stk {x : Stk} {s : State} : units { s with stk := x } = units s := rfl

@[simp] theorem units_ite {c : Prop} [Decidable c] (a b : State) : units (if c then a else b) = if c then units a else units b :=
  apply_ite units c a b

@[simp] theorem units_onlyIf {c : Bool} {f : State → State} {s : State} (h : ∀ u, units (f u) = units u) :
    units (onlyIf c f s) = units s := by
  cases c
  · rfl
  · exact h s

@[simp] theorem units_foldl {α : Type} {g : State → α → State} {l : List α} {s : State} (h : ∀ u x, units (g u x) = units u) :
    units (l.foldl g s) = units s := by
  induction l generalizing s with
  | nil => rfl
  | cons x l ih => exact ih.trans (h s x)

/-! ### Operations on events, queues and words -/

@[simp] theorem units_bumpOrd {s : State} : units (bumpOrd s) = units s := rfl
@[simp] theorem units_bumpFree {s : State} : units (bumpFree s) = units s := rfl
@[simp] theorem units_post {code idx detail : Nat} {s : State} : units (post code idx detail s) = units s := rfl
@[simp] theorem units_updQ {q : Nat} {f : DQueue → DQueue} {s : State} : units (updQ q f s) = units s := rfl
@[simp] theorem units_countQKerf {q n : Nat} {s : State} : units (countQKerf q n s) = units s := rfl
@[simp] theorem units_arrayWrite {a : Nat} {w : Word} {s : State} : units (arrayWrite a w s) = units s := rfl
@[simp] theorem units_updWait {q key : Nat} {f : Waiter → Waiter} {s : State} : units (updWait q key f s) = units s := rfl
@[simp] theorem units_syncQ {q : Nat} {s : State} : units (syncQ q s) = units s := rfl
@[simp] theorem units_syncAll {s : State} : units (syncAll s) = units s := units_foldl fun _ _ => units_syncQ

@[simp] theorem units_watermarkEvent {q : Nat} {high : Bool} {s : State} : units (watermarkEvent q high s) = units s := by
  unfold watermarkEvent
  split <;> simp

@[simp] theorem units_relevel {q : Nat} {f : DQueue → DQueue} {s : State} : units (relevel q f s) = units s := by
  unfold relevel
  split <;> simp

@[simp] theorem units_finishSlots {refs : List (Nat × Nat)} {s : State} : units (finishSlots refs s) = units s := by
  simp [finishSlots]

@[simp] theorem units_bkKerf {why : WordKerf} {stack : Bool} {n : Nat} {s : State} :
    units (updBooks (bkKerf why stack n) s) = units s := rfl

@[simp] theorem units_kerfFlight {why : WordKerf} {refs : List (Nat × Nat)} {n : Nat} {s : State} :
    units (kerfFlight why refs n s) = units s := by
  simp [kerfFlight]

@[simp] theorem units_kerfStack {why : WordKerf} {refs : List (Nat × Nat)} {s : State} : units (kerfStack why refs s) = units s := by
  simp [kerfStack]

@[simp] theorem units_kerfWords {why : WordKerf} {ws : List AWord} {s : State} : units (kerfWords why ws s) = units s := by
  simp [kerfWords]

@[simp] theorem units_kerfQueue {q : Nat} {why : WordKerf} {p : DQueue → QEntry → Bool} {s : State} :
    units (kerfQueue q why p s) = units s := by
  unfold kerfQueue
  split <;> simp

@[simp] theorem units_putBack {q : Nat} {v : AWord} {s : State} : units (putBack q v s) = units s := by
  unfold putBack
  split <;> simp

@[simp] theorem units_releaseAllot {q key : Nat} {s : State} : units (releaseAllot q key s) = units s := by
  unfold releaseAllot
  split <;> simp

/-! ### A lane that stops for a seed -/

theorem updLane_updLane {n : Nat} {f g : Lane → Lane} {s : State} : updLane n f (updLane n g s) = updLane n (f ∘ g) s := by
  have h : ∀ (l : List Lane) (i : Nat), upd (upd l i g) i f = upd l i (f ∘ g) := by
    intro l
    induction l with
    | nil => exact fun _ => rfl
    | cons x xs ih =>
      intro i
      cases i with
      | zero => rfl
      | succ i => simp [upd, ih]
  simp [updLane, h]

/-- A lane that produces words and stops for a seed looks the same. -/
theorem units_raiseRequest_wait {n : Nat} {l : Lane} {s : State} (hl : laneOf s n = some l) (hst : l.st = .run ∨ l.st = .stretch) :
    units (raiseRequest n (updLane n (fun x => { x with st := .wait }) s)) = units s := by
  unfold raiseRequest
  rw [units_bumpOrd, updLane_updLane]
  refine units_updLane_at fun x hx => ?_
  obtain rfl : x = l := Option.some.inj (hx.symm.trans hl)
  rcases hst with h | h <;> simp [laneCore, h]

@[simp] theorem units_laneWait {n : Nat} {s : State} : units (laneWait n s) = units s := by
  unfold laneWait
  split
  · rfl
  next l hl =>
    split
    next h => exact units_raiseRequest_wait hl h.1
    · rfl

@[simp] theorem units_prAdd {n : Nat} {p : PrReq} {s : State} : units (prAdd n p s) = units s := by
  unfold prAdd
  split
  · rfl
  · exact (units_onlyIf fun _ => units_laneWait).trans (units_updLane fun l => by cases hst : l.st <;> simp [laneCore, hst])

@[simp] theorem units_prPlace {q key accepted : Nat} {s : State} : units (prPlace q key accepted s) = units s := by
  unfold prPlace
  (repeat' split) <;> simp

@[simp] theorem units_prDrop {key : Nat} {s : State} : units (prDrop key s) = units s := by
  refine (units_foldl fun u n => ?_).trans (units_mapLanes fun l => rfl)
  split <;> simp

@[simp] theorem units_refreshDone {n : Nat} {s : State} : units (refreshDone n s) = units s :=
  (units_updLane (by intro; rfl)).trans units_prDrop

@[simp] theorem units_placeOrphans {s : State} : units (placeOrphans s) = units s := by
  refine units_foldl fun u q => ?_
  split
  · rfl
  · exact units_foldl fun _ _ => units_prPlace

@[simp] theorem units_placeRefresh {s : State} : units (placeRefresh s) = units s := by
  unfold placeRefresh
  split
  · split
    · rfl
    · rw [units_bumpFree, units_prAdd, units_stk]
  · rfl

/-! ### Ends of jobs -/

@[simp] theorem units_updJob {id : Nat} {f : Job → Job} {s : State} : units (updJob id f s) = units s := rfl

@[simp] theorem units_sendRequest {type addr len : Nat} {payload : List Byte} {fbase : BitVec 22} {t : TxFrame} {s : State} :
    units (sendRequest type addr len payload fbase t s) = units s := rfl

@[simp] theorem units_pullUnsent {id : Nat} {beacons : Bool} {s : State} : units (pullUnsent id beacons s) = units s := rfl

@[simp] theorem units_dropWaits {id : Nat} {s : State} : units (dropWaits id s) = units s := by
  rw [dropWaits, units_prDrop, units_syncAll]
  exact units_stk.trans (units_foldl fun _ _ => units_releaseAllot)

@[simp] theorem units_releaseUnits {id : Nat} {s : State} : units (releaseUnits id s) = units s := by
  simp [releaseUnits, units, laneCore]

@[simp] theorem units_issueWrite {id off : Nat} {bytes : List Byte} {ws : List AWord} {random : Bool} {tag : Option Tag} {s : State} :
    units (issueWrite id off bytes ws random tag s) = units s := by
  unfold issueWrite
  split <;> rfl

@[simp] theorem units_drawIssue {id fuel : Nat} {s : State} : units (drawIssue id fuel s) = units s := by
  fun_induction drawIssue id fuel s <;> simp_all

@[simp] theorem units_resultIssue {id fuel : Nat} {last : Bool} {s : State} : units (resultIssue id last fuel s) = units s := by
  fun_induction resultIssue id last fuel s <;> simp_all

@[simp] theorem units_kerfFrames {why : WordKerf} {l : List TxFrame} {s : State} : units (kerfFrames why l s) = units s := by
  refine units_foldl fun u f => ?_
  split <;> simp

@[simp] theorem units_dropUnsent {why : WordKerf} {id : Nat} {s : State} : units (dropUnsent why id s) = units s := by
  unfold dropUnsent
  split <;> simp

@[simp] theorem units_stopJob {id : Nat} {status : BitVec 8} {why : Option WordKerf} {s : State} :
    units (stopJob id status why s) = units s := by
  unfold stopJob
  (repeat' split) <;> simp

@[simp] theorem units_endIfDone {id : Nat} {s : State} : units (endIfDone id s) = units s := by
  unfold endIfDone
  split <;> simp

@[simp] theorem units_testUnitDone {id unit : Nat} {ok : Bool} {s : State} : units (testUnitDone id unit ok s) = units s := by
  simp [testUnitDone]

@[simp] theorem units_reseedJobs {n : Nat} {sat : Bool} {s : State} : units (reseedJobs n sat s) = units s := by
  simp [reseedJobs]

@[simp] theorem units_mixCheck {id : Nat} {s : State} : units (mixCheck id s) = units s := by
  unfold mixCheck
  split <;> simp

@[simp] theorem units_mixLeave {n : Nat} {s : State} : units (mixLeave n s) = units s := by
  simp [mixLeave]

@[simp] theorem units_mixFeed {n fuel : Nat} {s : State} : units (mixFeed n fuel s) = units s := by
  fun_induction mixFeed n fuel s
  case case7 ih => exact ih.trans (units_updLane fun _ => rfl)
  all_goals rfl

@[simp] theorem units_pieceAbsorbed {n : Nat} {s : State} : units (pieceAbsorbed n s) = units s := by
  unfold pieceAbsorbed
  split
  · rfl
  · split
    · rfl
    · rw [units_mixFeed, units_mixCheck, units_updJob]
      exact units_updLane fun _ => rfl

@[simp] theorem units_rebindQueue {q : Nat} {s : State} : units (rebindQueue q s) = units s := by
  unfold rebindQueue
  (repeat' split) <;> rfl

@[simp] theorem units_rebindAll {n : Nat} {s : State} : units (rebindAll n s) = units s := by
  simp [rebindAll]

/-! ### A plane that goes on -/

theorem parts_foldl {α : Type} {g : State → α → State} {l : List α} {s : State} (h : ∀ u x, parts (g u x) = parts u) :
    parts (l.foldl g s) = parts s := by
  induction l generalizing s with
  | nil => rfl
  | cons x l ih => exact ih.trans (h s x)

@[simp] theorem parts_closeBlock {b : Nat} {s : State} : parts (closeBlock b s) = parts s := by
  refine (parts_of_units units_bumpOrd).trans (parts_updPlane fun p => ?_)
  split <;> rfl

@[simp] theorem parts_blockCheck {b : Nat} {s : State} : parts (blockCheck b s) = parts s := by
  unfold blockCheck
  split
  · split
    · split
      · exact parts_closeBlock
      · exact parts_updPlane fun _ => rfl
    · rfl
  · rfl

@[simp] theorem parts_bkCreditIn {c : Nat} {s : State} : parts (updBooks (bkCreditIn c) s) = parts s := rfl

@[simp] theorem parts_takeCellBit {b pos : Nat} {bit : Bool} {s : State} : parts (takeCellBit b pos bit s) = parts s := by
  rw [takeCellBit, parts_blockCheck, parts_bkCreditIn]
  exact parts_updPlane fun _ => rfl

@[simp] theorem parts_takeWitBit {b : Nat} {bit : Bool} {s : State} : parts (takeWitBit b bit s) = parts s := by
  rw [takeWitBit, parts_blockCheck]
  exact parts_updPlane fun _ => rfl

@[simp] theorem parts_deliverSample {b pos : Nat} {bit : Bool} {s : State} : parts (deliverSample b pos bit s) = parts s := by
  have hstore : ∀ x : List (Nat × Bool), parts (updPlane b (fun q => { q with store := q.store ++ x }) s) = parts s :=
    fun x => parts_updPlane fun _ => rfl
  unfold deliverSample
  (repeat' split) <;> simp [hstore]

@[simp] theorem parts_startBlock {b : Nat} {s : State} : parts (startBlock b s) = parts s := by
  unfold startBlock
  split
  · rfl
  · exact (parts_foldl fun _ _ => parts_deliverSample).trans (parts_updPlane fun _ => rfl)

@[simp] theorem parts_planeNext {b : Nat} {s : State} : parts (planeNext b s) = parts s := by
  unfold planeNext
  split
  · rfl
  · split
    · exact parts_updPlane fun _ => rfl
    · split
      · exact parts_updPlane fun _ => rfl
      · split
        · exact parts_startBlock
        · exact parts_updPlane fun _ => rfl

end Sys2Proof.Machine

/-! PROOFS. Seeds that become ready or age, and known-answer runs of planes (R66, R77, R79, R83, R85, R96). -/

namespace Sys2Proof.Machine

theorem planeOf_updPlane {b : Nat} {f : Plane → Plane} {s : State} : planeOf (updPlane b f s) b = (planeOf s b).map f :=
  getElem?_upd_self

/-- What the view holds of a plane. -/
theorem planeOf_of_parts {s t : State} {b : Nat} {α : Type} {f : Plane → α} (h : parts t = parts s) (hf : ∀ p, f p = f (planeCore p)) :
    (planeOf t b).map f = (planeOf s b).map f := by
  have hmap : ∀ u : State, (planeOf u b).map f = ((parts u).pln.planes[b]?).map f := fun u => by
    rw [← parts_plane, Option.map_map]
    exact congrArg (fun g => (planeOf u b).map g) (funext hf)
  rw [hmap, hmap, h]

/-! ### A block that ends its conditioning -/

theorem kerfBlock_of_blk {why : CreditKerf} {b : Nat} {s : State} {p : Plane} {k : Block} (hp : planeOf s b = some p)
    (hk : p.blk = some k) :
    (kerfBlock why b s).tal.books = bkCreditKerf why k.credit s.tal.books ∧
      planeOf (kerfBlock why b s) b = some { p with blk := none, kerf := p.kerf + 1 } := by
  have hplane : planeOf (updPlane b (fun p => { p with blk := none, kerf := p.kerf + 1 }) s) b =
      some { p with blk := none, kerf := p.kerf + 1 } := by
    rw [planeOf_updPlane, hp]
    rfl
  unfold kerfBlock
  rw [hp, Option.bind_some, hk]
  cases why <;> exact ⟨rfl, hplane⟩

theorem kerfSeed_of_seed {why : CreditKerf} {b : Nat} {s : State} {p : Plane} {k : Seed} (hp : planeOf s b = some p)
    (hk : p.seed = some k) :
    (kerfSeed why b s).tal.books = bkCreditKerf why k.credit s.tal.books ∧
      planeOf (kerfSeed why b s) b = some { p with seed := none, kerf := p.kerf + 1 } := by
  have hplane : planeOf (updPlane b (fun p => { p with seed := none, kerf := p.kerf + 1 }) s) b =
      some { p with seed := none, kerf := p.kerf + 1 } := by
    rw [planeOf_updPlane, hp]
    rfl
  unfold kerfSeed
  rw [hp, Option.bind_some, hk]
  cases why <;> exact ⟨rfl, hplane⟩

/-- With no lane asking the crossbar serves none. -/
theorem handover_of_no_request {s : State} (h : ∀ l ∈ s.lan.lanes, l.asked = none) : handover s = s := by
  have hnone : nextServed s = none := by
    unfold nextServed
    rw [List.filter_eq_nil_iff.mpr]
    · rfl
    · intro n _
      cases hl : laneOf s n with
      | none => simp
      | some l => simp [h l (List.mem_of_getElem? hl)]
  simp [handover, hnone]

/-- A plane that holds a seed goes on to a run that waits, or keeps holding. -/
theorem planeNext_of_seed {b : Nat} {s : State} {p : Plane} (hp : planeOf s b = some p) (hs : p.seed.isSome = true) :
    planeNext b s = updPlane b (fun q => { q with st := if p.kats = [] then .hold else .kat, store := [] }) s := by
  unfold planeNext
  rw [hp]
  dsimp only
  by_cases h : p.kats = [] <;> simp [h, hs]

/-- The seed of a block whose conditioning ends (R77). -/
def readySeed (s : State) (b : Nat) (p : Plane) (k : Block) : Seed :=
  ⟨condSeed b k (k.marked || countOnly s), k.credit, k.marked || countOnly s, p.closedAt, s.clk.ord, s.clk.slow⟩

theorem seedReady_of_doomed {s : State} {b : Nat} {p : Plane} {k : Block} (hp : planeOf s b = some p) (hst : p.st = .cond)
    (hk : p.blk = some k) (hd : k.doomed = true) : parts (seedReady b s) = parts (kerfBlock .mode b s) := by
  simp [seedReady, hp, hk, hst, hd]

theorem seedReady_of_not_doomed {s : State} {b : Nat} {p : Plane} {k : Block} (hp : planeOf s b = some p) (hst : p.st = .cond)
    (hk : p.blk = some k) (hd : k.doomed = false) (hl : ∀ l ∈ s.lan.lanes, l.asked = none) :
    (seedReady b s).tal = s.tal ∧ planeOf (seedReady b s) b = some { p with
      st := if p.kats = [] then .hold else .kat, blk := none, store := [], seed := some (readySeed s b p k) } := by
  generalize ht : bumpOrd (updPlane b (fun q => { q with st := .hold, blk := none, seed := some (readySeed s b p k) }) s) = t
  have hplane : planeOf t b = some { p with st := .hold, blk := none, seed := some (readySeed s b p k) } := by
    rw [← ht]
    show planeOf (updPlane b _ s) b = _
    rw [planeOf_updPlane, hp]
    rfl
  have hasked : handover t = t := handover_of_no_request (by rw [← ht]; exact hl)
  have hready : seedReady b s = planeNext b t := by
    have hmodel : seedReady b s =
        if (planeOf (handover t) b).map (·.st) = some .hold then planeNext b (handover t) else handover t := by
      rw [← ht]
      simp only [seedReady, hp, hk, hst, hd]
      rfl
    rw [hmodel, hasked, hplane]
    rfl
  rw [hready, planeNext_of_seed hplane rfl]
  refine ⟨by rw [← ht]; rfl, ?_⟩
  rw [planeOf_updPlane, hplane]
  rfl

/-- The account of credit and the plane of a doomed block (Table 4-5). -/
theorem seedReady_doomed_books {s : State} {b : Nat} {p : Plane} {k : Block} (hp : planeOf s b = some p) (hst : p.st = .cond)
    (hk : p.blk = some k) (hd : k.doomed = true) :
    closedCredit (creditBooks (seedReady b s).tal.books) = closedCredit (creditBooks (bkCreditKerf .mode k.credit s.tal.books)) ∧
      (planeOf (seedReady b s) b).map (·.kerf) = some (p.kerf + 1) := by
  have h := seedReady_of_doomed hp hst hk hd
  obtain ⟨hbooks, hplane⟩ := kerfBlock_of_blk (why := .mode) hp hk
  refine ⟨?_, ?_⟩
  · rw [← parts_credit, h, parts_credit, hbooks]
  · rw [planeOf_of_parts h fun _ => rfl, hplane]
    rfl

end Sys2Proof.Machine

namespace Sys2Proof

open Machine

/-- Settles O24: a doomed block's credit is booked as kerf before the plane goes on, and with no lane asking the seed of any other stays
with the plane. -/
theorem seedReady : Obligations.SeedReady := by
  intro s b p k hu hp hst hk
  refine ⟨fun hd => effects_of_act exec_seedReady (running_of_upAnd hu) ?_, fun hd hl =>
    effects_of_act exec_seedReady (running_of_upAnd hu) (seedReady_of_not_doomed hp hst hk hd hl)⟩
  obtain ⟨hbooks, hkerf⟩ := seedReady_doomed_books hp hst hk hd
  exact ⟨congrArg CreditBooks.creditKerf hbooks, congrArg CreditBooks.ckMode hbooks, congrArg CreditBooks.creditSeeded hbooks, hkerf⟩

end Sys2Proof

namespace Sys2Proof.Machine

/-! ### A seed that was held too long -/

theorem seedAged_of_old {s : State} {b : Nat} {p : Plane} {k : Seed} (hp : planeOf s b = some p) (hk : p.seed = some k)
    (hold : msToSlow s.pln.holdMax.toNat ≤ s.clk.slow - k.heldSlow) :
    closedCredit (creditBooks (seedAged b s).tal.books) = closedCredit (creditBooks (bkCreditKerf .aged k.credit s.tal.books)) ∧
      (planeOf (seedAged b s) b).map (·.seed) = some none := by
  obtain ⟨hbooks, hplane⟩ := kerfSeed_of_seed (why := .aged) hp hk
  have h : parts (seedAged b s) = parts (kerfSeed .aged b s) := by
    simp only [seedAged, hp, hk, Option.bind_some, if_pos hold]
    split
    · exact parts_planeNext
    · rfl
  refine ⟨?_, ?_⟩
  · rw [← parts_credit, h, parts_credit, hbooks]
  · rw [planeOf_of_parts h fun _ => rfl, hplane]
    rfl

/-! ### Known-answer runs -/

theorem planeKat_hlt {b : Nat} {who : KatWho} {s : State} : (planeKat b who s).hlt = s.hlt := rfl

theorem plnRun_hlt {mask : Nat} {who : KatWho} {s : State} : (plnRun mask who s).hlt = s.hlt :=
  foldl_hlt fun _ _ => planeKat_hlt

theorem plnRunNext_hlt {l : List Nat} {s : State} : (plnRunNext l s).hlt = s.hlt := by
  induction l with
  | nil => rfl
  | cons id ids ih =>
    unfold plnRunNext
    split
    · split
      · exact plnRun_hlt
      · exact ih
    · exact ih

/-- A TEST job that asked for a run of a unit is told that it passed. -/
def testTold (unit : Nat) (who : KatWho) (s : State) : State :=
  match who with
  | .job id => testUnitDone id unit true s
  | _ => s

@[simp] theorem units_testTold {unit : Nat} {who : KatWho} {s : State} : units (testTold unit who s) = units s := by
  unfold testTold
  split
  · exact units_testUnitDone
  · rfl

theorem planeKatReport_of_commanded {b : Nat} {who : KatWho} {s : State} (h : who.commanded = true) :
    planeKatReport b who s =
      (let t := testTold b who { s with pln := plnKatOutcome b true s.pln }
       if t.pln.katBusy then t else plnRunNext t.pln.runq t) := by
  rw [planeKatReport, if_pos h]
  rfl

theorem planeKatReport_of_not_commanded {b : Nat} {who : KatWho} {s : State} (h : who.commanded = false) : planeKatReport b who s = s := by
  simp [planeKatReport, h]

/-- A run that passes raises nothing. -/
theorem planeKatReport_hlt {b : Nat} {who : KatWho} {s : State} : (planeKatReport b who s).hlt = s.hlt := by
  cases hc : who.commanded with
  | false => rw [planeKatReport_of_not_commanded hc]
  | true =>
    have htold : (testTold b who { s with pln := plnKatOutcome b true s.pln }).hlt = s.hlt := by
      rw [← units_hlt, units_testTold]
      rfl
    rw [planeKatReport_of_commanded hc]
    dsimp only
    split
    · exact htold
    · exact plnRunNext_hlt.trans htold

/-- With no TEST waiting, a run that passes is reported, and every plane's runs stay as they are. -/
theorem planeKatReport_pln {b : Nat} {who : KatWho} {s : State} (h : s.pln.runq = []) :
    (planeKatReport b who s).pln.planes.map planeCore = s.pln.planes.map planeCore ∧
      (planeKatReport b who s).pln.katPass =
        (if who.commanded then s.pln.katPass ||| BitVec.ofNat 8 (2 ^ b) else s.pln.katPass) := by
  cases hc : who.commanded with
  | false =>
    rw [planeKatReport_of_not_commanded hc]
    exact ⟨rfl, rfl⟩
  | true =>
    rw [planeKatReport_of_commanded hc]
    generalize ht : testTold b who { s with pln := plnKatOutcome b true s.pln } = t
    have hpln : (units t).pln = (units { s with pln := plnKatOutcome b true s.pln }).pln := by rw [← ht, units_testTold]
    have hplanes : t.pln.planes.map planeCore = s.pln.planes.map planeCore := congrArg (fun x => x.planes.map planeCore) hpln
    have hpass : t.pln.katPass = s.pln.katPass ||| BitVec.ofNat 8 (2 ^ b) := congrArg Pln.katPass hpln
    have hrunq : t.pln.runq = [] := (congrArg Pln.runq hpln).trans h
    dsimp only
    split
    · exact ⟨hplanes, hpass⟩
    · rw [hrunq]
      exact ⟨hplanes, hpass⟩

/-- The health registers of a plane that halts: no cause of kerf that HLT_DISC counts. -/
theorem haltPlane_halt_hlt {b : Nat} {s : State} : (haltPlane .halt b s).hlt = s.hlt := by
  have hblock : (kerfBlock .halt b s).hlt = s.hlt := by
    unfold kerfBlock
    split <;> rfl
  have hseed : ∀ u : State, (kerfSeed .halt b u).hlt = u.hlt := fun u => by
    unfold kerfSeed
    split <;> rfl
  unfold haltPlane
  split
  · rfl
  · split
    · rfl
    · exact (hseed _).trans hblock

theorem kerfBlock_pln {why : CreditKerf} {b : Nat} {s : State} :
    (kerfBlock why b s).pln = s.pln ∨ (kerfBlock why b s).pln = (updPlane b (fun p => { p with blk := none, kerf := p.kerf + 1 }) s).pln := by
  unfold kerfBlock
  split
  · exact .inl rfl
  · cases why <;> exact .inr rfl

theorem kerfSeed_pln {why : CreditKerf} {b : Nat} {s : State} :
    (kerfSeed why b s).pln = s.pln ∨ (kerfSeed why b s).pln = (updPlane b (fun p => { p with seed := none, kerf := p.kerf + 1 }) s).pln := by
  unfold kerfSeed
  split
  · exact .inl rfl
  · cases why <;> exact .inr rfl

/-- A plane that halts is in HALT; of PLN nothing but planes changes. -/
theorem haltPlane_pln {why : CreditKerf} {b : Nat} {s : State} {p : Plane} (hp : planeOf s b = some p) :
    (∃ l, (haltPlane why b s).pln = { s.pln with planes := l }) ∧ (planeOf (haltPlane why b s) b).map (·.st) = some .halt := by
  unfold haltPlane
  rw [hp]
  dsimp only
  split
  next h => exact ⟨⟨_, rfl⟩, by rw [hp]; exact congrArg some h⟩
  next h =>
    have hblock : (∃ l, (kerfBlock why b s).pln = { s.pln with planes := l }) ∧ ∃ q, planeOf (kerfBlock why b s) b = some q := by
      rcases kerfBlock_pln (why := why) (b := b) (s := s) with hk | hk
      · exact ⟨⟨_, hk⟩, p, by unfold planeOf; rw [hk]; exact hp⟩
      · refine ⟨⟨_, hk⟩, { p with blk := none, kerf := p.kerf + 1 }, ?_⟩
        unfold planeOf
        rw [hk]
        show planeOf (updPlane b _ s) b = _
        rw [planeOf_updPlane, hp]
        rfl
    obtain ⟨⟨l, hl⟩, q, hq⟩ := hblock
    have hseed : (∃ l, (kerfSeed why b (kerfBlock why b s)).pln = { s.pln with planes := l }) ∧
        ∃ q, planeOf (kerfSeed why b (kerfBlock why b s)) b = some q := by
      rcases kerfSeed_pln (why := why) (b := b) (s := kerfBlock why b s) with hk | hk
      · exact ⟨⟨l, hk.trans hl⟩, q, by unfold planeOf; rw [hk]; exact hq⟩
      · refine ⟨⟨_, hk.trans (by rw [updPlane, hl])⟩, { q with seed := none, kerf := q.kerf + 1 }, ?_⟩
        unfold planeOf
        rw [hk]
        show planeOf (updPlane b _ _) b = _
        rw [planeOf_updPlane, hq]
        rfl
    obtain ⟨⟨l2, hl2⟩, q2, hq2⟩ := hseed
    refine ⟨⟨_, by rw [updPlane, hl2]⟩, ?_⟩
    rw [planeOf_updPlane, hq2]
    rfl

/-- A plane that fails its run is in HALT under the fatal alarm with the cause of the failed test (R85). -/
theorem planeKatDone_failed {s : State} {b : Nat} {p : Plane} {w : KatWho} {rest : List KatWho} {compOk hashOk : Bool}
    (hp : planeOf s b = some p) (hk : p.kats = w :: rest) (hst : p.st = .kat ∨ p.st = .halt) (hok : (compOk && hashOk) = false) :
    let u := planeKatDone b compOk hashOk s
    u.pln.katFail = (if w.commanded then s.pln.katFail ||| BitVec.ofNat 8 (2 ^ b) else s.pln.katFail) ∧
      (planeOf u b).map (·.st) = some .halt ∧ u.hlt.fatal = true ∧
      (s.hlt.fatal = false → u.hlt.fatalCause = (if compOk then 3 else 2) ∧ u.hlt.fatalIdx = BitVec.ofNat 8 b) := by
  have hbusy : ¬ (p.st ≠ .kat ∧ p.st ≠ .halt) := by
    rintro ⟨h1, h2⟩
    exact hst.elim h1 h2
  have hplane : planeOf (updPlane b (fun q => { q with kats := rest }) s) b = some { p with kats := rest } := by
    rw [planeOf_updPlane, hp]
    rfl
  obtain ⟨⟨l, hl⟩, hhalt⟩ := haltPlane_pln (why := .halt) hplane
  generalize ht : haltPlane .halt b (updPlane b (fun q => { q with kats := rest }) s) = t at hl hhalt
  have hthlt : t.hlt = s.hlt := by rw [← ht, haltPlane_halt_hlt]; rfl
  have hfailed : (planeKatFailed b w t).hlt = s.hlt ∧ (planeKatFailed b w t).pln.planes = t.pln.planes ∧
      (planeKatFailed b w t).pln.katFail = (if w.commanded then s.pln.katFail ||| BitVec.ofNat 8 (2 ^ b) else s.pln.katFail) := by
    unfold planeKatFailed
    split
    next hc => exact ⟨hthlt, rfl, by rw [hl]; rfl⟩
    next hc => exact ⟨hthlt, rfl, by rw [hl]; rfl⟩
  obtain ⟨hfhlt, hfplanes, hffail⟩ := hfailed
  have hdone : planeKatDone b compOk hashOk s = raiseFatal (if compOk then 0x03 else 0x02) b (planeKatFailed b w t) := by
    simp only [planeKatDone, hp, hk, if_neg hbusy, hok, Bool.false_eq_true, if_false, ht]
  dsimp only
  rw [hdone]
  refine ⟨by rw [raiseFatal_pln, hffail], ?_, ?_, fun hf => ?_⟩
  · unfold planeOf
    rw [raiseFatal_pln, hfplanes]
    exact hhalt
  · cases hf : s.hlt.fatal with
    | true => rw [raiseFatal, if_pos (by rw [hfhlt, hf]), hfhlt, hf]
    | false => rw [raiseFatal_hlt_of_not_fatal (by rw [hfhlt, hf])]
  · rw [raiseFatal_hlt_of_not_fatal (by rw [hfhlt, hf])]
    cases compOk <;> exact ⟨rfl, rfl⟩

/-- A plane that passes its run is left with the rest of its runs (R85). -/
theorem planeKatDone_passed {s : State} {b : Nat} {p : Plane} {w : KatWho} {rest : List KatWho} {compOk hashOk : Bool}
    (hp : planeOf s b = some p) (hk : p.kats = w :: rest) (hst : p.st = .kat ∨ p.st = .halt) (hok : (compOk && hashOk) = true) :
    let u := planeKatDone b compOk hashOk s
    u.hlt = s.hlt ∧ (s.pln.runq = [] → (planeOf u b).map (·.kats) = some rest ∧
      u.pln.katPass = (if w.commanded then s.pln.katPass ||| BitVec.ofNat 8 (2 ^ b) else s.pln.katPass)) := by
  have hbusy : ¬ (p.st ≠ .kat ∧ p.st ≠ .halt) := by
    rintro ⟨h1, h2⟩
    exact hst.elim h1 h2
  generalize ht : planeKatReport b w (updPlane b (fun q => { q with kats := rest }) s) = t
  have hparts : parts (planeKatDone b compOk hashOk s) = parts t := by
    simp only [planeKatDone, hp, hk, if_neg hbusy, hok, if_true, ht]
    split
    · exact parts_planeNext
    · rfl
  have hhlt : t.hlt = s.hlt := by rw [← ht, planeKatReport_hlt]; rfl
  dsimp only
  refine ⟨by rw [← parts_hlt, hparts, parts_hlt, hhlt], fun hrunq => ?_⟩
  obtain ⟨hplanes, hpass⟩ := planeKatReport_pln (b := b) (who := w) (s := updPlane b (fun q => { q with kats := rest }) s) hrunq
  rw [ht] at hplanes hpass
  refine ⟨?_, (congrArg (fun x => x.pln.katPass) hparts).trans hpass⟩
  have hplane : (planeOf t b).map planeCore = (planeOf (updPlane b (fun q => { q with kats := rest }) s) b).map planeCore := by
    unfold planeOf
    rw [← List.getElem?_map, hplanes, List.getElem?_map]
  rw [planeOf_of_parts hparts fun _ => rfl]
  have hkats : (planeOf t b).map (·.kats) = ((planeOf t b).map planeCore).map (·.kats) := by
    rw [Option.map_map]
    rfl
  rw [hkats, hplane, planeOf_updPlane, hp]
  rfl

/-! ### PLN_CMD.KAT -/

theorem plnKatWord_fields (mask : BitVec 8) :
    bitAt (mask.setWidth 32 ||| 0x100) 8 = true ∧ fld (mask.setWidth 32 ||| 0x100) 0 8 = mask.toNat := by
  revert mask
  decide

/-- Runs asked of several planes are added to those planes' runs, once each. -/
theorem planes_foldl_planeKat {who : KatWho} {l : List Nat} {s : State} :
    (l.foldl (fun t b => planeKat b who t) s).pln =
      { s.pln with planes := (l.foldl (fun t b => planeKat b who t) s).pln.planes } ∧
      ∀ i, l.Nodup → (planeOf (l.foldl (fun t b => planeKat b who t) s) i).map (·.kats) =
        (planeOf s i).map (fun q => if i ∈ l then q.kats ++ [who] else q.kats) := by
  induction l generalizing s with
  | nil => exact ⟨rfl, fun _ _ => by simp⟩
  | cons b l ih =>
    obtain ⟨hpln, hkats⟩ := ih (s := planeKat b who s)
    refine ⟨hpln, fun i hl => ?_⟩
    obtain ⟨hb, hl⟩ := List.nodup_cons.mp hl
    rw [List.foldl_cons, hkats i hl]
    by_cases hi : i = b
    · subst hi
      unfold planeKat
      rw [planeOf_updPlane, Option.map_map]
      simp [hb, Function.comp_def]
    · have hne : planeOf (planeKat b who s) i = planeOf s i := getElem?_upd_ne (Ne.symm hi)
      rw [hne]
      simp [hi]

/-- PLN_CMD.KAT is refused with an error bit, or starts a run of the boards that it names. -/
theorem plnKatCmd_pln {mask : BitVec 8} {s : State} :
    (plnKatCmd mask.toNat s).hlt = s.hlt ∧
    if s.pln.katBusy = true ∨ mask = 0 ∨ 2 ^ nBoards s ≤ mask.toNat then (plnKatCmd mask.toNat s).pln = { s.pln with err := true }
    else (plnKatCmd mask.toNat s).pln.katBusy = true ∧ (plnKatCmd mask.toNat s).pln.katDone = false ∧
      (plnKatCmd mask.toNat s).pln.katPass = 0 ∧ (plnKatCmd mask.toNat s).pln.katFail = 0 ∧ (plnKatCmd mask.toNat s).pln.katRan = mask ∧
      ∀ i, i < nBoards s → mask.getLsbD i = true →
        (planeOf (plnKatCmd mask.toNat s) i).map (·.kats) = (planeOf s i).map (fun q => q.kats ++ [.cmd]) := by
  have hcond : (s.pln.katBusy || decide (mask.toNat = 0) || decide (2 ^ nBoards s ≤ mask.toNat)) = true ↔
      s.pln.katBusy = true ∨ mask = 0 ∨ 2 ^ nBoards s ≤ mask.toNat := by
    simp only [Bool.or_eq_true, decide_eq_true_eq, or_assoc]
    rw [show mask.toNat = 0 ↔ mask = 0 by rw [← BitVec.toNat_inj]; rfl]
  unfold plnKatCmd
  by_cases h : s.pln.katBusy = true ∨ mask = 0 ∨ 2 ^ nBoards s ≤ mask.toNat
  · rw [if_pos (hcond.mpr h), if_pos h]
    exact ⟨rfl, rfl⟩
  · rw [if_neg (mt hcond.mp h), if_neg h]
    obtain ⟨hpln, hkats⟩ := planes_foldl_planeKat (who := .cmd) (l := maskList (nBoards s) mask.toNat)
      (s := { s with pln := { s.pln with
        katBusy := true, katDone := false, katPass := 0, katFail := 0, katRan := BitVec.ofNat 8 mask.toNat } })
    refine ⟨plnRun_hlt, ?_⟩
    unfold plnRun
    rw [hpln]
    refine ⟨rfl, rfl, rfl, rfl, BitVec.ofNat_toNat .., fun i hi hbit => ?_⟩
    rw [hkats i (List.nodup_range.filter _)]
    have hmem : i ∈ maskList (nBoards s) mask.toNat := List.mem_filter.mpr ⟨List.mem_range.mpr hi, hbit⟩
    simp only [hmem, if_true]
    rfl

/-- Settles O26: an aged seed's credit, a run's outcome, and the command, each in the state after its own function. -/
theorem heldSeedsAndPlaneTests : Obligations.HeldSeedsAndPlaneTests := by
  intro s a b p
  refine ⟨fun hu hp => ⟨fun k hk hold => effects_of_act exec_heldSeedAged (running_of_upAnd hu) ?_, fun w rest compOk hashOk hk hst =>
    effects_of_act exec_planeKatDone (running_of_upAnd hu) ?_⟩, fun mask hw => ?_⟩
  · obtain ⟨hbooks, hseed⟩ := seedAged_of_old hp hk hold
    exact ⟨congrArg CreditBooks.ckAged hbooks, congrArg CreditBooks.creditKerf hbooks, congrArg CreditBooks.creditSeeded hbooks, hseed⟩
  · split
    next hok => exact planeKatDone_passed hp hk hst hok
    next hok => exact planeKatDone_failed hp hk hst (Bool.eq_false_iff.mpr hok)
  · obtain ⟨t, ⟨r, y, rfl, -⟩, he⟩ := writeAccess_reaches (v := mask.setWidth 32 ||| 0x100) hw (by decide) (by decide) (by decide) (by decide)
    obtain ⟨hkat, hmask⟩ := plnKatWord_fields mask
    have hplain : ∀ q u, plainWrite q 0x6080 (mask.setWidth 32 ||| 0x100) u = plnKatCmd mask.toNat u := by
      intro q u
      show onlyIf (bitAt _ 8) (plnKatCmd (fld _ 0 8)) u = _
      rw [hkat, hmask]
      rfl
    refine answers_of_act exec_plnKatCmd (running_of_enters (enters_of_mayWrite hw)) ?_
    obtain ⟨hhlt, hpln⟩ := plnKatCmd_pln (mask := mask) (s := { s with ring := r, sys := y })
    have ha : s.hlt.alarm = false := settled_of_mayWrite hw
    have hplanes : ∀ u i, planeOf u i = u.pln.planes[i]? := fun _ _ => rfl
    simp only [hplanes] at hpln ⊢
    rw [he, hplain, finishUp_pln (by rw [answer_hlt, hhlt]; exact ha), answer_pln]
    exact hpln

end Sys2Proof.Machine

/-! PROOFS. Lanes that stop for a seed, leave service, enter FAULT or start, as the view of the lanes shows them (R13, R105 to R109, R118
to R120). -/

namespace Sys2Proof.Machine

/-- What the view shows of a lane. -/
def coreOf (s : State) (n : Nat) : Option Lane := (laneOf s n).map laneCore

theorem coreOf_of_units {s t : State} {n : Nat} (h : units t = units s) : coreOf t n = coreOf s n := by
  unfold coreOf
  rw [units_lane, units_lane, h]

theorem coreOf_of_laneOf {s : State} {n : Nat} {l : Lane} (h : laneOf s n = some l) : coreOf s n = some (laneCore l) := by
  rw [coreOf, h]
  rfl

theorem laneOf_updLane {n : Nat} {f : Lane → Lane} {s : State} : laneOf (updLane n f s) n = (laneOf s n).map f := getElem?_upd_self

theorem laneOf_updLane_ne {n m : Nat} {f : Lane → Lane} {s : State} (h : m ≠ n) : laneOf (updLane n f s) m = laneOf s m :=
  getElem?_upd_ne h.symm

/-- A lane that the view shows is there. -/
theorem exists_lane_of_core {s : State} {n : Nat} {c : Lane} (h : coreOf s n = some c) : ∃ l, laneOf s n = some l ∧ laneCore l = c :=
  Option.map_eq_some_iff.mp h

/-- A field of a lane that the view keeps. -/
theorem map_of_core {s : State} {n : Nat} {l : Lane} {α : Type} {f : Lane → α} (h : coreOf s n = some (laneCore l))
    (hf : ∀ x, f (laneCore x) = f x) : (laneOf s n).map f = some (f l) := by
  obtain ⟨x, hx, hc⟩ := exists_lane_of_core h
  rw [hx, Option.map_some, ← hf x, hc, hf]

/-- A lane does not produce words, and has not stopped producing. -/
def Stands (l : Lane) : Prop := l.st ≠ .run ∧ l.st ≠ .stretch ∧ l.st ≠ .wait

theorem laneCore_of_stands {l : Lane} (h : Stands l) : laneCore l = { l with pr := [], pieces := [], stalls := 0 } := by
  obtain ⟨hrun, hstretch, hwait⟩ := h
  simp [laneCore, hrun, hstretch, hwait]

/-- The view shows all that counts of a lane that does not produce words. -/
theorem stands_of_core {s : State} {n : Nat} {l : Lane} (h : coreOf s n = some (laneCore l)) (hl : Stands l) :
    ∃ x, laneOf s n = some x ∧ Stands x ∧ { x with pr := [], pieces := [], stalls := 0 } = { l with pr := [], pieces := [], stalls := 0 } := by
  obtain ⟨x, hx, hc⟩ := exists_lane_of_core h
  have hst : (laneCore x).st = l.st := by rw [hc, laneCore_of_stands hl]
  have hxs : Stands x := by
    obtain ⟨-, -, hwait⟩ := hl
    refine ⟨fun he => hwait ?_, fun he => hwait ?_, fun he => hwait ?_⟩ <;> simp [← hst, laneCore, he]
  exact ⟨x, hx, hxs, (laneCore_of_stands hxs).symm.trans (hc.trans (laneCore_of_stands hl))⟩

theorem inService_laneCore (l : Lane) : (laneCore l).st.inService = l.st.inService := by
  cases hst : l.st <;> simp [laneCore, hst, LaneState.inService]

theorem inService_eq_core {s : State} {n : Nat} : inService s n = ((coreOf s n).map (·.st.inService)).getD false := by
  rw [inService, coreOf, Option.map_map]
  congr 2
  funext l
  exact (inService_laneCore l).symm

/-! ### Demand and segments -/

/-- A lane that produces words and changes over to another such state, or stops, looks the same. -/
theorem units_raiseRequest_of_produces {n : Nat} {l : Lane} {f : Lane → Lane} {s : State} (hl : laneOf s n = some l)
    (hst : l.st = .run ∨ l.st = .stretch) (hf : ∀ x a, x.st = .run ∨ x.st = .stretch → laneCore { f x with asked := a } = laneCore x) :
    units (raiseRequest n (updLane n f s)) = units s := by
  unfold raiseRequest
  rw [units_bumpOrd, updLane_updLane]
  refine units_updLane_at fun x hx => ?_
  obtain rfl : x = l := Option.some.inj (hx.symm.trans hl)
  exact hf x _ hst

@[simp] theorem units_laneDemand {n : Nat} {s : State} : units (laneDemand n s) = units s := by
  unfold laneDemand
  split
  · rfl
  next l hl =>
    dsimp only
    split
    next h =>
      obtain ⟨hst, -, -⟩ := h
      split
      · exact units_raiseRequest_of_produces hl hst fun x _ hx => by rcases hx with h | h <;> simp [laneCore, h]
      · split
        · exact units_laneWait
        · split
          · exact units_raiseRequest_of_produces hl hst fun x _ hx => by rcases hx with h | h <;> simp [laneCore, h]
          · rfl
    · rfl

@[simp] theorem units_deliveryReady {q : Nat} {s : State} : units (deliveryReady q s) = units s := by
  unfold deliveryReady
  split <;> rfl

@[simp] theorem units_writeSegment {q w : Nat} {slots : List Nat} {ws : List Word} {tag : Tag} {s : State} :
    units (writeSegment q slots w ws tag s) = units s := by
  unfold writeSegment
  split
  · rfl
  · rw [units_deliveryReady, units_relevel]
    exact units_foldl fun _ _ => units_arrayWrite

/-! ### Leaving service -/

/-- A lane out of service, in the given state. -/
def leftLane (st : LaneState) (l : Lane) : Lane :=
  { l with st := st, drbg := Drbg.zero, asked := none, due := false, unmarkedOnly := false, pr := [], pieces := [], offPend := false }

theorem laneCore_leftLane {st : LaneState} {l : Lane} : laneCore (leftLane st (laneCore l)) = laneCore (leftLane st l) := rfl

theorem units_laneLeave {n : Nat} {st : LaneState} {s : State} : units (laneLeave n st s) = units (updLane n (leftLane st) s) := by
  unfold laneLeave
  split
  next h =>
    exact (units_updLane_at fun l hl => nomatch h.symm.trans hl).symm
  · rw [units_placeRefresh, units_placeOrphans, units_rebindAll, units_mixLeave, units_reseedJobs]
    rfl

end Sys2Proof.Machine

/-! PROOFS. What a lane makes, and its faults (R99, R104, R115, R117, R118). -/

namespace Sys2Proof.Machine

/-- A command whose function changes nothing. -/
theorem next_of_act_same {c : Instr} {f : State → State} {s : State} (hrun : running s = true) (hc : exec c s = .next (act f s))
    (hf : f s = s) : exec c s = .next (finishUp s) := by
  rw [hc, act, if_pos hrun, hf]

theorem laneOf_lanKatSettle {n : Nat} {s : State} : laneOf (lanKatSettle s) n = laneOf s n := by
  unfold lanKatSettle
  split <;> rfl

theorem lanKatSettle_hlt {s : State} : (lanKatSettle s).hlt = s.hlt := by
  unfold lanKatSettle
  split <;> rfl

theorem units_lanKatsGone {n : Nat} {l : List KatWho} {s : State} :
    ∃ t, lanKatsGone n l s = lanKatSettle t ∧ units t = units s := by
  refine ⟨_, rfl, units_foldl fun u w => ?_⟩
  split
  · exact units_testUnitDone
  · rfl

theorem coreOf_updLane {n : Nat} {f : Lane → Lane} {s : State} {l : Lane} (h : laneOf s n = some l) :
    coreOf (updLane n f s) n = some (laneCore (f l)) := by
  rw [coreOf, laneOf_updLane, h]
  rfl

theorem laneOf_raiseFatal {c i n : Nat} {s : State} : laneOf (raiseFatal c i s) n = laneOf s n := by
  rw [laneOf, raiseFatal_lan]
  rfl

/-! ### FAULT -/

/-- A lane that enters FAULT: no segment and no test is left to it, and its state is zero (R118). -/
theorem laneFault_lane {n cause : Nat} {s : State} {l : Lane} (h : laneOf s n = some l) :
    (laneOf (laneFault n cause s) n).map (fun x => (x.st, x.fault, x.drbg, x.seg)) =
      some (.fault, BitVec.ofNat 2 cause, Drbg.zero, none) := by
  unfold laneFault
  rw [h]
  dsimp only
  generalize ht : lanKatsGone n l.kats _ = t
  have hlane : (laneOf t n).map (fun x => (x.st, x.fault, x.drbg, x.seg)) = some (.fault, BitVec.ofNat 2 cause, Drbg.zero, none) := by
    obtain ⟨u, hu, hunits⟩ := units_lanKatsGone (n := n) (l := l.kats) (s := post 0x10 n cause (laneLeave n .fault
      (updBooks (bkKerf .fault false (outputWords l)) (updLane n (fun x => { x with
        fault := BitVec.ofNat 2 cause, seg := none, kats := [], katPass := x.katPass && decide (x.st ≠ .kat) }) s))))
    rw [← ht, hu, laneOf_lanKatSettle]
    rw [units_post, units_laneLeave] at hunits
    have hcore : coreOf u n = some (laneCore (leftLane .fault { l with
        fault := BitVec.ofNat 2 cause, seg := none, kats := [], katPass := l.katPass && decide (l.st ≠ .kat) })) := by
      refine (coreOf_of_units hunits).trans (coreOf_updLane ?_)
      show laneOf (updLane n _ s) n = _
      rw [laneOf_updLane, h]
      rfl
    obtain ⟨x, hx, -, he⟩ := stands_of_core hcore ⟨nofun, nofun, nofun⟩
    rw [hx, Option.map_some]
    exact congrArg (fun y : Lane => some (y.st, y.fault, y.drbg, y.seg)) he
  split
  · exact hlane
  · rw [laneOf_raiseFatal]
    exact hlane

/-! ### Segments -/

theorem laneSegment_of_produces {n : Nat} {cut : Option Nat} {s : State} {l : Lane} (hl : laneOf s n = some l)
    (hst : l.st = .run ∨ l.st = .stretch) (hseg : l.seg = none) (hpr : l.pr = []) :
    laneSegment n cut s = laneProduce n l cut s := by
  simp [laneSegment, hl, hst, hseg, hpr]

/-- The lane after a Generate call for k words. -/
def generated (k : Nat) (l : Lane) : Lane :=
  { l with drbg := (l.drbg.words k (l.pieces.head?.map (·.data))).2, out := l.out + 8 * k, segs := l.segs + 1 }

/-- A change of a lane, by what it does to that lane. -/
theorem updLane_congr {n : Nat} {f g : Lane → Lane} {s : State} {l : Lane} (hl : laneOf s n = some l) (h : f l = g l) :
    updLane n f s = updLane n g s := by
  have hlist : ∀ (xs : List Lane) (i : Nat), xs[i]? = some l → upd xs i f = upd xs i g := by
    intro xs
    induction xs with
    | nil => exact fun _ _ => rfl
    | cons x xs ih =>
      intro i hi
      cases i with
      | zero =>
        obtain rfl : x = l := Option.some.inj hi
        simp [upd, h]
      | succ i => simp [upd, ih i hi]
  rw [updLane, updLane, hlist _ _ hl]

theorem units_laneGenerate {n k : Nat} {s : State} {l : Lane} (hl : laneOf s n = some l) :
    units (laneGenerate n k l s).2 = units (updLane n (fun _ => generated k l) s) :=
  units_pieceAbsorbed.trans (congrArg units (updLane_congr hl rfl))

/-- A whole call: the segment stands in the lane, and the words in its output registers are counted (R89). -/
theorem laneProduce_whole {n : Nat} {s : State} {l : Lane} {o : Nat × List Nat × Nat} (hl : laneOf s n = some l)
    (ho : offerTo s n l.nextQ 64 = some o) :
    let u := laneProduce n l none s
    let g : Segment := ⟨(l.drbg.words 64 (l.pieces.head?.map (·.data))).1, ⟨n, l.gen, l.marked, s.clk.slow⟩, o.1⟩
    coreOf u n = some (laneCore { generated 64 l with seg := some g }) ∧ u.tal.books.gen = s.tal.books.gen + 8 := by
  intro u g
  have hu : units u = units (updLane n (fun x => { x with
      seg := some g })
      (updBooks (bkGen 8) (laneGenerate n 64 l s).2)) := by
    simp only [u, laneProduce, ho]
    exact units_laneDemand
  have hgen := units_laneGenerate (k := 64) hl
  have hlane : coreOf (laneGenerate n 64 l s).2 n = some (laneCore (generated 64 l)) :=
    (coreOf_of_units hgen).trans (coreOf_updLane hl)
  obtain ⟨x, hx, hc⟩ := exists_lane_of_core hlane
  refine ⟨(coreOf_of_units hu).trans ((coreOf_updLane (l := x) hx).trans ?_), ?_⟩
  · exact congrArg (fun y : Lane => some { y with seg := some g }) hc
  · have hbooks : creditBooks (laneGenerate n 64 l s).2.tal.books = creditBooks s.tal.books := congrArg Units.credit hgen
    have hg : (laneGenerate n 64 l s).2.tal.books.gen = s.tal.books.gen := congrArg CreditBooks.gen hbooks
    calc u.tal.books.gen = (laneGenerate n 64 l s).2.tal.books.gen + 8 :=
          congrArg (fun x => x.credit.gen) hu
      _ = s.tal.books.gen + 8 := by rw [hg]

/-- A cut call puts the lane in FAULT (R117, R118). -/
theorem laneProduce_cut {n at' : Nat} {s : State} {l : Lane} {o : Nat × List Nat × Nat} (hl : laneOf s n = some l)
    (ho : offerTo s n l.nextQ 64 = some o) :
    (laneOf (laneProduce n l (some at') s) n).map (fun x => (x.st, x.fault, x.drbg, x.seg)) = some (.fault, 1, Drbg.zero, none) := by
  have hlane : ∀ t, units t = units (laneGenerate n 64 l s).2 → ∃ x, laneOf t n = some x := fun t ht => by
    obtain ⟨x, hx, -⟩ := exists_lane_of_core
      ((coreOf_of_units (ht.trans (units_laneGenerate hl))).trans (coreOf_updLane hl))
    exact ⟨x, hx⟩
  have hcut : ∀ t, (∃ x, laneOf t n = some x) → ∀ k, (laneOf (cutLane n k t) n).map (fun x => (x.st, x.fault, x.drbg, x.seg)) =
      some (.fault, 1, Drbg.zero, none) := fun t ⟨x, hx⟩ k => laneFault_lane (l := x) hx
  have hgen : ∃ x, laneOf (laneGenerate n 64 l s).2 n = some x := hlane _ rfl
  simp only [laneProduce, ho]
  refine hcut _ ?_ _
  split
  · exact hgen
  · obtain ⟨x, hx⟩ := hgen
    obtain ⟨y, hy, -⟩ := exists_lane_of_core ((coreOf_of_units units_writeSegment).trans (coreOf_of_laneOf (s := updBooks _ _) hx))
    exact ⟨y, hy⟩

end Sys2Proof.Machine

namespace Sys2Proof

open Machine

/-- Settles O28: with no queue that takes a segment the call changes nothing; any other is read off the view of the lanes. -/
theorem laneMakesSegment : Obligations.LaneMakesSegment := by
  intro s n l cut hu hl hst hseg hpr
  have hrun := running_of_upAnd hu
  have hmade := laneSegment_of_produces (cut := cut) hl hst hseg hpr
  refine ⟨fun ho => ?_, fun o ho => effects_of_act exec_laneSegment hrun ?_⟩
  · have hnone : laneSegment n cut s = s := by rw [hmade, laneProduce, ho]
    exact next_of_act_same hrun exec_laneSegment hnone
  · rw [hmade]
    cases cut with
    | none =>
      obtain ⟨hcore, hgen⟩ := laneProduce_whole hl ho
      exact ⟨map_of_core hcore fun _ => rfl, map_of_core hcore fun _ => rfl, map_of_core hcore fun _ => rfl, hgen⟩
    | some k => exact laneProduce_cut hl ho

end Sys2Proof

/-! PROOFS. Known-answer runs, the time cap and the handshake limit of a lane (R13, R105, R106, R117 to R120). -/

namespace Sys2Proof.Machine

theorem laneKatReport_eq {n : Nat} {who : KatWho} {s : State} :
    ∃ t, laneKatReport n who s = lanKatSettle t ∧ units t = units s := by
  refine ⟨_, rfl, ?_⟩
  split
  · exact units_testUnitDone
  · rfl

theorem coreOf_laneKatReport {n m : Nat} {who : KatWho} {s : State} : coreOf (laneKatReport n who s) m = coreOf s m := by
  obtain ⟨t, ht, hunits⟩ := laneKatReport_eq (n := n) (who := who) (s := s)
  rw [ht, coreOf, laneOf_lanKatSettle]
  exact coreOf_of_units hunits

theorem laneKatReport_hlt {n : Nat} {who : KatWho} {s : State} : (laneKatReport n who s).hlt = s.hlt := by
  obtain ⟨t, ht, hunits⟩ := laneKatReport_eq (n := n) (who := who) (s := s)
  rw [ht, lanKatSettle_hlt, ← units_hlt, hunits, units_hlt]

/-- A lane in START that asked for its seed at a time. -/
def startedLane (ord : Nat) (l : Lane) : Lane :=
  { l with st := .start, drbg := Drbg.zero, asked := some ord, due := false, segs := 0, out := 0 }

theorem units_laneStart {n : Nat} {s : State} : units (laneStart n s) = units (updLane n (startedLane s.clk.ord) s) := by
  rw [laneStart, units_placeRefresh, units_placeOrphans, raiseRequest, units_bumpOrd, updLane_updLane]
  rfl

theorem laneLeave_hlt {n : Nat} {st : LaneState} {s : State} : (laneLeave n st s).hlt = s.hlt := by
  rw [← units_hlt, units_laneLeave]
  rfl

theorem laneStart_hlt {n : Nat} {s : State} : (laneStart n s).hlt = s.hlt := by
  rw [← units_hlt, units_laneStart]
  rfl

/-- A lane that passes a run, by what waits for it (R119, R120). -/
theorem laneKatDone_passed {s : State} {n : Nat} {l : Lane} {w : KatWho} {rest : List KatWho} (hl : laneOf s n = some l)
    (hst : l.st = .kat) (hk : l.kats = w :: rest) :
    let u := laneKatDone n true s
    (rest ≠ [] → (laneOf u n).map (·.st) = some .kat) ∧
      (rest = [] → (laneOf u n).map (·.st) = some (if s.lan.en.getLsbD n then .start else .off)) ∧
      (rest = [] → s.lan.en.getLsbD n = true → (laneOf u n).map (·.asked.isSome) = some true) ∧ u.hlt = s.hlt := by
  generalize ht : laneKatReport n w (updLane n (fun x => { x with katPass := true, kats := rest }) s) = t
  have hdone : laneKatDone n true s =
      if rest ≠ [] then t else if s.lan.en.getLsbD n then laneStart n t else laneLeave n .off t := by
    rw [← ht]
    simp [laneKatDone, hl, hk, hst]
  have hcore : coreOf t n = some (laneCore { l with katPass := true, kats := rest }) := by
    rw [← ht, coreOf_laneKatReport]
    exact coreOf_updLane hl
  have hhlt : t.hlt = s.hlt := by
    rw [← ht, laneKatReport_hlt]
    rfl
  have hstands : Stands { l with katPass := true, kats := rest } := by simp [Stands, hst]
  obtain ⟨x, hx, -, he⟩ := stands_of_core hcore hstands
  dsimp only
  rw [hdone]
  by_cases hrest : rest = []
  · rw [if_neg (not_not.mpr hrest)]
    cases hen : s.lan.en.getLsbD n with
    | true =>
      obtain ⟨y, hy, -, hf⟩ := stands_of_core ((coreOf_of_units units_laneStart).trans (coreOf_updLane hx)) ⟨nofun, nofun, nofun⟩
      rw [if_pos rfl, hy]
      refine ⟨fun h => absurd hrest h, fun _ => ?_, fun _ _ => ?_, laneStart_hlt.trans hhlt⟩
      · exact congrArg (fun z : Lane => some z.st) hf
      · exact congrArg (fun z : Lane => some z.asked.isSome) hf
    | false =>
      obtain ⟨y, hy, -, hf⟩ := stands_of_core ((coreOf_of_units (units_laneLeave (st := .off))).trans (coreOf_updLane hx))
        ⟨nofun, nofun, nofun⟩
      rw [if_neg nofun, hy]
      exact ⟨fun h => absurd hrest h, fun _ => congrArg (fun z : Lane => some z.st) hf, nofun, laneLeave_hlt.trans hhlt⟩
  · rw [if_pos hrest, hx]
    refine ⟨fun _ => ?_, fun h => absurd h hrest, fun h => absurd h hrest, hhlt⟩
    exact congrArg some ((congrArg Lane.st he).trans hst)

/-- A lane that fails a run is in HALT under the fatal alarm (R119). -/
theorem laneKatDone_failed {s : State} {n : Nat} {l : Lane} {w : KatWho} {rest : List KatWho} (hl : laneOf s n = some l)
    (hst : l.st = .kat) (hk : l.kats = w :: rest) :
    let u := laneKatDone n false s
    (laneOf u n).map (·.st) = some .halt ∧ u.hlt.fatal = true ∧
      (s.hlt.fatal = false → u.hlt.fatalCause = 4 ∧ u.hlt.fatalIdx = BitVec.ofNat 8 n) := by
  generalize ht : laneKatFailed n (updLane n (fun x => { x with st := .halt, katPass := false, kats := [] }) s) = t
  have hdone : laneKatDone n false s = raiseFatal 0x04 n t := by
    rw [← ht]
    simp [laneKatDone, hl, hk, hst]
  have hhlt : t.hlt = s.hlt := by
    rw [← ht]
    exact lanKatSettle_hlt
  have hlane : laneOf t n = some { l with st := .halt, katPass := false, kats := [] } := by
    rw [← ht]
    refine laneOf_lanKatSettle.trans ?_
    show laneOf (updLane n _ s) n = _
    rw [laneOf_updLane, hl]
    rfl
  dsimp only
  rw [hdone]
  refine ⟨by rw [laneOf_raiseFatal, hlane]; rfl, ?_, fun hf => ?_⟩
  · cases hf : s.hlt.fatal with
    | true => rw [raiseFatal, if_pos (by rw [hhlt, hf]), hhlt, hf]
    | false => rw [raiseFatal_hlt_of_not_fatal (by rw [hhlt, hf])]
  · rw [raiseFatal_hlt_of_not_fatal (by rw [hhlt, hf])]
    exact ⟨rfl, rfl⟩

/-! ### A reseed that becomes due -/

/-- Whether a lane is back-pressured depends on the jobs, the queues, its bindings, its own segment and consumers. -/
theorem backPressured_congr {s t : State} {n : Nat} {l k : Lane} (hjob : t.job = s.job) (hstk : t.stk = s.stk)
    (hbind : t.lan.bind = s.lan.bind) (hseg : (laneOf t n).bind (·.seg) = (laneOf s n).bind (·.seg)) (hpr : k.pr = l.pr)
    (hnext : k.nextQ = l.nextQ) : backPressured t n k = backPressured s n l := by
  simp only [backPressured, reseedNames, offerOrder, queueOf, bindOf, hjob, hstk, hbind, hseg, hpr, hnext]

/-- A lane on which a reseed is due. -/
def dueLane (l : Lane) : Lane := { l with due := true }

/-- The lane stops for its seed now. -/
def stopsNow (s : State) (n : Nat) (l : Lane) : Bool := (decide (l.st = .run) || decide (l.st = .stretch)) && !backPressured s n l

theorem makeDue_eq {s : State} {n : Nat} {l : Lane} (hl : laneOf s n = some l) :
    makeDue n s = if stopsNow s n l then raiseRequest n (updLane n (fun x => { x with st := .wait }) (updLane n dueLane s))
      else updLane n dueLane s := by
  have hdue : laneOf (updLane n dueLane s) n = some (dueLane l) := by
    rw [laneOf_updLane, hl]
    rfl
  have hpressed : backPressured (updLane n dueLane s) n (dueLane l) = backPressured s n l :=
    backPressured_congr rfl rfl rfl (by rw [hdue, hl]; rfl) rfl rfl
  have hmodel : makeDue n s = laneWait n (updLane n dueLane s) := rfl
  rw [hmodel, laneWait, hdue]
  dsimp only
  rw [hpressed]
  simp [stopsNow, dueLane]

/-- The lane on which a reseed has become due. -/
theorem laneOf_makeDue {s : State} {n : Nat} {l : Lane} (hl : laneOf s n = some l) :
    laneOf (makeDue n s) n = some (if stopsNow s n l then { l with due := true, st := .wait, asked := some (l.asked.getD s.clk.ord) }
      else { l with due := true }) := by
  rw [makeDue_eq hl]
  split
  · show laneOf (updLane n _ _) n = _
    rw [laneOf_updLane, laneOf_updLane, laneOf_updLane, hl]
    rfl
  · rw [laneOf_updLane, hl]
    rfl

theorem makeDue_tal {n : Nat} {s : State} : (makeDue n s).tal = s.tal := by
  unfold makeDue laneWait
  (repeat' split) <;> rfl

end Sys2Proof.Machine

namespace Sys2Proof

open Machine

/-- Settles O29: each outcome of a run, and each limit, in the state after its own function. -/
theorem laneTestsAndTimeouts : Obligations.LaneTestsAndTimeouts := by
  intro s n l hu hl
  have hrun := running_of_upAnd hu
  refine ⟨fun w rest ok hst hk => effects_of_act exec_laneKatDone hrun ?_, fun at' hst => effects_of_act exec_laneSegment hrun ?_,
    fun hst => ⟨fun hold => effects_of_act exec_laneTimeCap hrun ?_, fun hold => next_of_act_same hrun exec_laneTimeCap ?_⟩,
    fun hst => effects_of_act exec_laneHandshakeTimeout hrun ?_, fun hst hkat => next_of_act_same hrun exec_laneHandshakeTimeout ?_⟩
  · cases ok with
    | true => exact laneKatDone_passed hl hst hk
    | false => exact laneKatDone_failed hl hst hk
  · have hfault : laneSegment n (some at') s = laneFault n 1 s := by
      rcases hst with h | h | h <;> simp [laneSegment, hl, h, onlyIf, LaneState.inService]
    rw [hfault]
    exact laneFault_lane hl
  · have hdue : laneTimeCap n s = makeDue n s := by
      rw [laneTimeCap, hl]
      exact if_pos ⟨hst, hold⟩
    rw [hdue, laneOf_makeDue hl]
    refine ⟨?_, makeDue_tal, fun h => ?_, fun hwait hpress => ?_⟩
    · split <;> rfl
    · have hstays : stopsNow s n l = false := by
        rcases h with h | h <;> simp [stopsNow, h]
      rw [hstays]
      rfl
    · have hstops : stopsNow s n l = true := by
        rcases hst with h | h | h
        · simp [stopsNow, h, hpress]
        · simp [stopsNow, h, hpress]
        · exact absurd h hwait
      rw [hstops]
      rfl
  · unfold laneTimeCap
    rw [hl]
    exact if_neg fun h => absurd h.2 (Nat.not_le.mpr hold)
  · have hfault : laneTimeout n s = laneFault n 2 s := by
      rcases hst with h | h <;> simp [laneTimeout, hl, h]
    rw [hfault]
    exact laneFault_lane hl
  · simp [laneTimeout, hl, hst, hkat]

end Sys2Proof

/-! PROOFS. LAN_EN, LAN_QBIND_q and LAN_CMD (R13, R106, R111, R115, R116, R119 to R121). -/

namespace Sys2Proof.Machine

/-- Steps for several units in turn: what a view shows of unit n afterwards is what its own step makes of it. -/
theorem foldl_at {β : Type} {v : State → Nat → β} {g : State → Nat → State} {P : State → Prop} {l : List Nat} {n : Nat} {s : State}
    (hne : ∀ t k m, m ≠ k → v (g t k) m = v t m) (hP : ∀ t k, P t → P (g t k)) (hnd : l.Nodup) (hn : n ∈ l) (hs : P s) :
    ∃ t, P t ∧ v t n = v s n ∧ v (l.foldl g s) n = v (g t n) n := by
  have hlater : ∀ (l : List Nat) (t : State), n ∉ l → v (l.foldl g t) n = v t n := by
    intro l
    induction l with
    | nil => exact fun _ _ => rfl
    | cons k ks ih =>
      intro t hk
      obtain ⟨hnk, hks⟩ := not_or.mp (mt List.mem_cons.mpr hk)
      exact (ih _ hks).trans (hne t k n hnk)
  induction l generalizing s with
  | nil => cases hn
  | cons k ks ih =>
    obtain ⟨hk, hks⟩ := List.nodup_cons.mp hnd
    by_cases h : n = k
    · subst h
      exact ⟨s, hs, rfl, hlater ks _ hk⟩
    · obtain ⟨t, ht, hv, he⟩ := ih hks ((List.mem_cons.mp hn).resolve_left h) (hP s k hs)
      exact ⟨t, ht, hv.trans (hne s k n h), he⟩

theorem foldl_keeps {α : Type} {P : State → Prop} {g : State → α → State} {l : List α} {s : State} (h : ∀ t k, P t → P (g t k)) (hs : P s) :
    P (l.foldl g s) := by
  induction l generalizing s with
  | nil => exact hs
  | cons k ks ih => exact ih (h s k hs)

theorem laneOf_of_lan {s t : State} {n : Nat} (h : t.lan = s.lan) : laneOf t n = laneOf s n := by
  unfold laneOf
  rw [h]

/-! ### A lane at a segment boundary -/

/-- What LAN says about every lane: the enables and the errors. -/
def lanesWide (s : State) : BitVec 16 × BitVec 4 × Bool × Bool × Bool :=
  (s.lan.en, s.lan.err, s.lan.katBusy, s.lan.katDone, s.lan.katFailed)

theorem lanesWide_of_units {s t : State} (h : units t = units s) : lanesWide t = lanesWide s :=
  congrArg (fun x : Units => (x.lan.en, x.lan.err, x.lan.katBusy, x.lan.katDone, x.lan.katFailed)) h

theorem lanesWide_laneLeave {n : Nat} {st : LaneState} {s : State} : lanesWide (laneLeave n st s) = lanesWide s :=
  lanesWide_of_units (s := updLane n (leftLane st) s) units_laneLeave

theorem coreOf_updLane_ne {n m : Nat} {f : Lane → Lane} {s : State} (h : m ≠ n) : coreOf (updLane n f s) m = coreOf s m := by
  rw [coreOf, laneOf_updLane_ne h, coreOf]

theorem coreOf_laneLeave_ne {n m : Nat} {st : LaneState} {s : State} (h : m ≠ n) : coreOf (laneLeave n st s) m = coreOf s m :=
  (coreOf_of_units units_laneLeave).trans (coreOf_updLane_ne h)

theorem coreOf_laneLeave {n : Nat} {st : LaneState} {s : State} {l : Lane} (h : laneOf s n = some l) :
    coreOf (laneLeave n st s) n = some (laneCore (leftLane st l)) :=
  (coreOf_of_units units_laneLeave).trans (coreOf_updLane h)

theorem lanesWide_laneBoundary {n : Nat} {s : State} : lanesWide (laneBoundary n s) = lanesWide s := by
  have hoff : ∀ b f, lanesWide (onlyIf b (updLane n f) (laneLeave n .off s)) = lanesWide s := by
    intro b f
    cases b <;> exact lanesWide_laneLeave
  unfold laneBoundary
  split
  · rfl
  · split
    · rfl
    · split
      · exact lanesWide_laneLeave
      · split
        · exact hoff _ _
        · rfl

theorem coreOf_laneBoundary_ne {n m : Nat} {s : State} (h : m ≠ n) : coreOf (laneBoundary n s) m = coreOf s m := by
  have hoff : ∀ b f, coreOf (onlyIf b (updLane n f) (laneLeave n .off s)) m = coreOf s m := by
    intro b f
    cases b
    · exact coreOf_laneLeave_ne h
    · exact (coreOf_updLane_ne h).trans (coreOf_laneLeave_ne h)
  unfold laneBoundary
  split
  · rfl
  · split
    · rfl
    · split
      · exact coreOf_laneLeave_ne h
      · split
        · exact hoff _ _
        · rfl

/-! ### LAN_EN -/

/-- What a write of LAN_EN does to one lane (R120). -/
def enableLane (new : BitVec 16) (t : State) (n : Nat) : State :=
  match laneOf t n with
  | none => t
  | some l =>
    if !new.getLsbD n && l.st.inService then laneBoundary n (updLane n (fun x => { x with offPend := true }) t)
    else if new.getLsbD n && decide (l.st = .off) then updLane n (fun x => { x with st := .kat, kats := x.kats ++ [.reset] }) t
    else t

theorem lanEnWrite_eq {v : W32} {s : State} {new : BitVec 16} (hnew : new = BitVec.ofNat 16 (v.toNat % 2 ^ nLanes s)) :
    lanEnWrite v s = if (List.range (nLanes s)).any (fun n => inService s n && new.getLsbD n) then
      (List.range (nLanes s)).foldl (enableLane new) { s with lan := { s.lan with en := new } } else lanRefuse 0 s := by
  subst hnew
  unfold lanEnWrite
  dsimp only
  cases (List.range (nLanes s)).any _ <;> rfl

theorem lanesWide_enableLane {new : BitVec 16} {t : State} {n : Nat} : lanesWide (enableLane new t n) = lanesWide t := by
  unfold enableLane
  split
  · rfl
  · split
    · exact lanesWide_laneBoundary
    · split <;> rfl

theorem coreOf_enableLane_ne {new : BitVec 16} {t : State} {n m : Nat} (h : m ≠ n) : coreOf (enableLane new t n) m = coreOf t m := by
  unfold enableLane
  split
  · rfl
  · split
    · exact (coreOf_laneBoundary_ne h).trans (coreOf_updLane_ne h)
    · split
      · exact coreOf_updLane_ne h
      · rfl

/-- An absent lane that is enabled enters its tests. -/
theorem enableLane_of_off {new : BitVec 16} {t : State} {n : Nat} {l : Lane} (hl : coreOf t n = some (laneCore l))
    (hnew : new.getLsbD n = true) (hst : l.st = .off) :
    ∃ x : Lane, coreOf (enableLane new t n) n = some (laneCore x) ∧ x.st = .kat := by
  obtain ⟨x, hx, -, he⟩ := stands_of_core hl (by simp [Stands, hst])
  have hxst : x.st = .off := (congrArg Lane.st he).trans hst
  have hstep : enableLane new t n = updLane n (fun x => { x with st := .kat, kats := x.kats ++ [.reset] }) t := by
    simp [enableLane, hx, hnew, hxst]
  exact ⟨_, by rw [hstep]; exact coreOf_updLane hx, rfl⟩

theorem laneBoundary_of_offPend {t : State} {n : Nat} {x : Lane} (hx : laneOf t n = some x) (hs : x.st.inService = true)
    (hseg : x.seg = none) (hk : x.kats = []) (ho : x.offPend = true) (hen : t.lan.en.getLsbD n = false) :
    laneBoundary n t = laneLeave n .off t := by
  simp [laneBoundary, hx, hs, hseg, hk, ho, hen, onlyIf]

theorem laneBoundary_of_kat {t : State} {n : Nat} {x : Lane} {w : KatWho} {ws : List KatWho} (hx : laneOf t n = some x)
    (hs : x.st.inService = true) (hseg : x.seg = none) (hk : x.kats = w :: ws) : laneBoundary n t = laneLeave n .kat t := by
  simp [laneBoundary, laneKat, hx, hs, hseg, hk]

theorem laneBoundary_of_seg {t : State} {n : Nat} {x : Lane} (hx : laneOf t n = some x) (hseg : x.seg ≠ none) : laneBoundary n t = t := by
  obtain ⟨g, hg⟩ := Option.ne_none_iff_exists'.mp hseg
  simp [laneBoundary, hx, hg]

/-- A lane in service that is disabled stops at its segment boundary. -/
theorem enableLane_of_disabled {new : BitVec 16} {t : State} {n : Nat} {x : Lane} (hx : laneOf t n = some x)
    (hnew : new.getLsbD n = false) (hs : x.st.inService = true) :
    enableLane new t n = laneBoundary n (updLane n (fun x => { x with offPend := true }) t) := by
  simp [enableLane, hx, hnew, hs]

/-- A lane that the view shows in service, and what else it shows of it. -/
theorem lane_of_core_inService {t : State} {n : Nat} {l : Lane} (hl : coreOf t n = some (laneCore l)) :
    ∃ x, laneOf t n = some x ∧ x.st.inService = l.st.inService ∧ x.seg = l.seg ∧ x.kats = l.kats ∧ x.offPend = l.offPend := by
  obtain ⟨x, hx, hc⟩ := exists_lane_of_core hl
  have hfield : ∀ {α : Type} (f : Lane → α), f (laneCore x) = f (laneCore l) := fun f => congrArg f hc
  exact ⟨x, hx, by rw [← inService_laneCore, hc, inService_laneCore], hfield (·.seg), hfield (·.kats), hfield (·.offPend)⟩

theorem enableLane_of_boundary {new : BitVec 16} {t : State} {n : Nat} {l : Lane} (hl : coreOf t n = some (laneCore l))
    (hen : t.lan.en = new) (hnew : new.getLsbD n = false) (hs : l.st.inService = true) (hseg : l.seg = none) (hk : l.kats = []) :
    ∃ x : Lane, coreOf (enableLane new t n) n = some (laneCore x) ∧ x.st = .off := by
  obtain ⟨x, hx, hxs, hxseg, hxk, -⟩ := lane_of_core_inService hl
  have hu : laneOf (updLane n (fun x => { x with offPend := true }) t) n = some { x with offPend := true } := by
    rw [laneOf_updLane, hx]
    rfl
  rw [enableLane_of_disabled hx hnew (hxs.trans hs),
    laneBoundary_of_offPend hu (hxs.trans hs) (hxseg.trans hseg) (hxk.trans hk) rfl (by show t.lan.en.getLsbD n = false; rw [hen, hnew])]
  exact ⟨_, coreOf_laneLeave hu, rfl⟩

theorem enableLane_of_segment {new : BitVec 16} {t : State} {n : Nat} {l : Lane} (hl : coreOf t n = some (laneCore l))
    (hnew : new.getLsbD n = false) (hs : l.st.inService = true) (hseg : l.seg ≠ none) :
    ∃ x : Lane, coreOf (enableLane new t n) n = some (laneCore x) ∧ x.offPend = true := by
  obtain ⟨x, hx, hxs, hxseg, -, -⟩ := lane_of_core_inService hl
  have hu : laneOf (updLane n (fun x => { x with offPend := true }) t) n = some { x with offPend := true } := by
    rw [laneOf_updLane, hx]
    rfl
  rw [enableLane_of_disabled hx hnew (hxs.trans hs), laneBoundary_of_seg hu (by rw [hxseg]; exact hseg)]
  exact ⟨_, coreOf_updLane hx, rfl⟩

/-- What a lane in one of the states that do not produce words is, from the view. -/
theorem st_of_core {t : State} {n : Nat} {x : Lane} (hx : coreOf t n = some (laneCore x)) (hs : Stands x) :
    (laneOf t n).map (·.st) = some x.st := by
  obtain ⟨y, hy, -, he⟩ := stands_of_core hx hs
  have hst : y.st = x.st := (congrArg Lane.st he : _)
  rw [hy, ← hst]
  rfl

/-- A write of LAN_EN (R120). -/
theorem lanEnWrite_lan {v : W32} {s : State} :
    let new : BitVec 16 := BitVec.ofNat 16 (v.toNat % 2 ^ nLanes s)
    let u := lanEnWrite v s
    if (List.range (nLanes s)).any (fun n => inService s n && new.getLsbD n) then
      u.lan.en = new ∧ u.lan.err = s.lan.err ∧
      ∀ n l, n < nLanes s → laneOf s n = some l →
        (new.getLsbD n = true → l.st = .off → (laneOf u n).map (·.st) = some .kat) ∧
        (new.getLsbD n = false → l.st.inService = true → l.seg = none → l.kats = [] → (laneOf u n).map (·.st) = some .off) ∧
        (new.getLsbD n = false → l.st.inService = true → l.seg ≠ none → (laneOf u n).map (·.offPend) = some true)
    else u.lan = { s.lan with err := s.lan.err ||| 1 } := by
  intro new u
  have hmodel := lanEnWrite_eq (v := v) (s := s) (new := new) rfl
  split
  next h =>
    rw [if_pos h] at hmodel
    have hwide : lanesWide u = lanesWide { s with lan := { s.lan with en := new } } := by
      rw [show u = _ from hmodel]
      exact foldl_keeps (P := fun t => lanesWide t = _) (fun t k ht => lanesWide_enableLane.trans ht) rfl
    refine ⟨congrArg Prod.fst hwide, congrArg (fun x => x.2.1) hwide, fun n l hn hl => ?_⟩
    obtain ⟨t, hen, hcore, hlast⟩ := foldl_at (v := coreOf) (g := enableLane new) (P := fun t => t.lan.en = new)
      (s := { s with lan := { s.lan with en := new } }) (fun t k m => coreOf_enableLane_ne)
      (fun t k ht => (congrArg Prod.fst lanesWide_enableLane).trans ht) List.nodup_range (List.mem_range.mpr hn) rfl
    rw [← hmodel] at hlast
    have hl' : coreOf t n = some (laneCore l) := hcore.trans (coreOf_of_laneOf hl)
    refine ⟨fun hnew hst => ?_, fun hnew hs hseg hk => ?_, fun hnew hs hseg => ?_⟩
    · obtain ⟨x, hx, hxst⟩ := enableLane_of_off hl' hnew hst
      rw [← hxst]
      exact st_of_core (hlast.trans hx) (by simp [Stands, hxst])
    · obtain ⟨x, hx, hxst⟩ := enableLane_of_boundary hl' hen hnew hs hseg hk
      rw [← hxst]
      exact st_of_core (hlast.trans hx) (by simp [Stands, hxst])
    · obtain ⟨x, hx, hxo⟩ := enableLane_of_segment hl' hnew hs hseg
      rw [← hxo]
      exact map_of_core (hlast.trans hx) fun _ => rfl
  next h =>
    rw [if_neg h] at hmodel
    rw [show u = _ from hmodel]
    rfl

end Sys2Proof.Machine

/-! PROOFS. LAN_QBIND_q and LAN_CMD (R106, R110, R111, R115, R116, R119, R121). -/

namespace Sys2Proof.Machine

/-! ### The bindings -/

/-- LAN_QBIND_q.LANES of every queue. -/
def bindings (s : State) : List (BitVec 16) := s.lan.bind

theorem bindings_foldl {α : Type} {g : State → α → State} {l : List α} {s : State} (h : ∀ u x, bindings (g u x) = bindings u) :
    bindings (l.foldl g s) = bindings s :=
  foldl_keeps (P := fun t => bindings t = bindings s) (fun t x ht => (h t x).trans ht) rfl

theorem bindings_bumpFree {s : State} : bindings (bumpFree s) = bindings s := rfl

theorem bindings_laneWait {n : Nat} {s : State} : bindings (laneWait n s) = bindings s := by
  unfold laneWait
  (repeat' split) <;> rfl

theorem bindings_laneDemand {n : Nat} {s : State} : bindings (laneDemand n s) = bindings s := by
  unfold laneDemand
  dsimp only
  split
  · rfl
  · split
    · split
      · rfl
      · split
        · exact bindings_laneWait
        · split <;> rfl
    · rfl

theorem bindings_prAdd {n : Nat} {p : PrReq} {s : State} : bindings (prAdd n p s) = bindings s := by
  unfold prAdd
  split
  · rfl
  next l _ =>
    cases l.pr.isEmpty
    · rfl
    · exact bindings_laneWait

theorem bindings_prPlace {q key accepted : Nat} {s : State} : bindings (prPlace q key accepted s) = bindings s := by
  unfold prPlace
  split
  · rfl
  · split
    · rfl
    · rw [bindings_bumpFree, bindings_prAdd]

theorem bindings_placeOrphans {s : State} : bindings (placeOrphans s) = bindings s := by
  refine bindings_foldl fun u q => ?_
  split
  · rfl
  · exact bindings_foldl fun _ _ => bindings_prPlace

theorem bindings_placeRefresh {s : State} : bindings (placeRefresh s) = bindings s := by
  unfold placeRefresh
  split
  · split
    · rfl
    · rw [bindings_bumpFree, bindings_prAdd]
      rfl
  · rfl

theorem prUnbind_lan {q : Nat} {s : State} : bindings (prUnbind q s) = bindings s ∧ (prUnbind q s).lan.err = s.lan.err := by
  have hunits : ∀ t : State, units (placeRefresh (placeOrphans ((List.range (nLanes s)).foldl (fun t n => laneDemand n t) t))) = units t :=
    fun t => by rw [units_placeRefresh, units_placeOrphans, units_foldl fun _ _ => units_laneDemand]
  have herr : ∀ t : State, t.lan.err = (units t).lan.err := fun _ => rfl
  unfold prUnbind
  dsimp only
  constructor
  · rw [bindings_placeRefresh, bindings_placeOrphans, bindings_foldl fun _ _ => bindings_laneDemand]
    rfl
  · rw [herr, hunits, herr]
    rfl

theorem lanQbindWrite_lan {q : Nat} {v : W32} {s : State} :
    let new := v.toNat % 65536 % 2 ^ nLanes s
    if (maskList (nLanes s) new).any (inService s) then
      (lanQbindWrite q v s).lan.bind = upd s.lan.bind q (fun _ => BitVec.ofNat 16 new) ∧ (lanQbindWrite q v s).lan.err = s.lan.err
    else (lanQbindWrite q v s).lan = { s.lan with err := s.lan.err ||| 8 } := by
  have hfld : fld v 0 16 = v.toNat % 65536 := by simp [fld]
  unfold lanQbindWrite
  rw [hfld]
  dsimp only
  cases (maskList (nLanes s) (v.toNat % 65536 % 2 ^ nLanes s)).any (inService s) with
  | true =>
    rw [Bool.not_true, if_pos (rfl : true = true), if_neg Bool.false_ne_true]
    obtain ⟨hbind, herr⟩ := prUnbind_lan (q := q)
      (s := { s with lan := { s.lan with bind := upd s.lan.bind q (fun _ => BitVec.ofNat 16 (v.toNat % 65536 % 2 ^ nLanes s)) } })
    have hview : ∀ t : State, t.lan.bind = bindings t := fun _ => rfl
    rw [hview, hbind, herr]
    exact ⟨rfl, rfl⟩
  | false =>
    rw [Bool.not_false, if_pos (rfl : true = true), if_neg Bool.false_ne_true]
    rfl

/-! ### LAN_CMD -/

theorem lanWord_fields (mask : BitVec 16) :
    fld (mask.setWidth 32 ||| 0x10000) 0 16 = mask.toNat ∧ bitAt (mask.setWidth 32 ||| 0x10000) 16 = true ∧
      bitAt (mask.setWidth 32 ||| 0x10000) 17 = false ∧ fld (mask.setWidth 32 ||| 0x20000) 0 16 = mask.toNat ∧
      bitAt (mask.setWidth 32 ||| 0x20000) 16 = false ∧ bitAt (mask.setWidth 32 ||| 0x20000) 17 = true := by
  have hlt : mask.toNat < 65536 := mask.isLt
  have hlt32 : mask.toNat < 4294967296 := hlt.trans (by decide)
  refine ⟨?_, ?_, ?_, ?_, ?_, ?_⟩
  · simp [fld, Nat.or_mod_two_pow (n := 16), Nat.mod_eq_of_lt hlt, Nat.mod_eq_of_lt hlt32]
  · simp [bitAt]
  · simp [bitAt]
  · simp [fld, Nat.or_mod_two_pow (n := 16), Nat.mod_eq_of_lt hlt, Nat.mod_eq_of_lt hlt32]
  · simp [bitAt]
  · simp [bitAt]

/-- What a reseed that becomes due on one lane leaves as it was. -/
def MadeDue (s t : State) : Prop := t.job = s.job ∧ t.stk = s.stk ∧ t.lan.bind = s.lan.bind

theorem MadeDue.makeDue {s t : State} {n : Nat} (h : MadeDue s t) : MadeDue s (makeDue n t) := by
  obtain ⟨hjob, hstk, hbind⟩ := h
  have hwait : (laneWait n (updLane n (fun l => { l with due := true }) t)).job = t.job ∧
      (laneWait n (updLane n (fun l => { l with due := true }) t)).stk = t.stk := by
    unfold laneWait
    (repeat' split) <;> exact ⟨rfl, rfl⟩
  exact ⟨hwait.1.trans hjob, hwait.2.trans hstk, (bindings_laneWait (n := n) (s := updLane n (fun l => { l with due := true }) t)).trans hbind⟩

theorem laneOf_makeDue_ne {n m : Nat} {s : State} (h : m ≠ n) : laneOf (makeDue n s) m = laneOf s m := by
  have hraise : ∀ u : State, laneOf (raiseRequest n u) m = laneOf u m := fun u => laneOf_updLane_ne (s := u) h
  unfold makeDue laneWait
  split
  · exact laneOf_updLane_ne h
  · split
    · rw [hraise, laneOf_updLane_ne h, laneOf_updLane_ne h]
    · exact laneOf_updLane_ne h

/-- A lane of a mask that R121 allows is there. -/
theorem mem_maskList_of_not_bad {s : State} {mask : BitVec 16} {n : Nat} (h : lanMaskBad s mask.toNat = false)
    (hn : mask.getLsbD n = true) : n ∈ maskList (nLanes s) mask.toNat := by
  simp only [lanMaskBad, Bool.or_eq_false_iff, decide_eq_false_iff_not, not_le] at h
  obtain ⟨⟨-, hlt⟩, -⟩ := h
  have hbit : mask.toNat.testBit n = true := hn
  refine List.mem_filter.mpr ⟨List.mem_range.mpr ?_, hbit⟩
  by_contra hge
  have hpow : mask.toNat < 2 ^ n := hlt.trans_le (Nat.pow_le_pow_right (by decide) (not_lt.mp hge))
  rw [Nat.testBit_lt_two_pow hpow] at hbit
  cases hbit

theorem maskList_nodup (n m : Nat) : (maskList n m).Nodup := List.nodup_range.filter _

/-- LAN_CMD.RESEED (R111). -/
theorem lanCmd_reseed {mask : BitVec 16} {s : State} :
    let u := lanCmd mask.toNat true false s
    if lanMaskBad s mask.toNat then u.lan = { s.lan with err := s.lan.err ||| 2 }
    else ∀ n l, mask.getLsbD n = true → laneOf s n = some l →
      (laneOf u n).map (·.due) = some true ∧
      (l.st = .run ∨ l.st = .stretch → (laneOf u n).map (·.st) = some (if backPressured s n l then l.st else .wait)) := by
  intro u
  cases hbad : lanMaskBad s mask.toNat with
  | true =>
    have hmodel : u = post 0x12 0 1 (lanErr 1 s) := by simp [u, lanCmd, hbad, onlyIf]
    rw [hmodel]
    rfl
  | false =>
    have hmodel : u = (maskList (nLanes s) mask.toNat).foldl (fun t n => makeDue n t) s := by simp [u, lanCmd, hbad]
    refine fun n l hn hl => ?_
    obtain ⟨t, ⟨hjob, hstk, hbind⟩, hlane, hlast⟩ := foldl_at (v := laneOf) (g := fun t k => makeDue k t) (P := MadeDue s) (s := s)
      (fun t k m => laneOf_makeDue_ne) (fun t k => MadeDue.makeDue) (maskList_nodup _ _) (mem_maskList_of_not_bad hbad hn)
      ⟨rfl, rfl, rfl⟩
    have hlt : laneOf t n = some l := hlane.trans hl
    have hpressed : backPressured t n l = backPressured s n l := backPressured_congr hjob hstk hbind (by rw [hlane]) rfl rfl
    rw [hmodel, hlast, laneOf_makeDue hlt]
    refine ⟨by split <;> rfl, fun hst => ?_⟩
    have hstops : stopsNow t n l = !backPressured s n l := by
      rcases hst with h | h <;> simp [stopsNow, hpressed, h]
    rw [hstops]
    cases backPressured s n l <;> rfl

theorem lanesWide_askLaneKat {n : Nat} {who : KatWho} {s : State} : lanesWide (askLaneKat n who s) = lanesWide s :=
  lanesWide_laneBoundary

theorem coreOf_askLaneKat_ne {n m : Nat} {who : KatWho} {s : State} (h : m ≠ n) : coreOf (askLaneKat n who s) m = coreOf s m :=
  (coreOf_laneBoundary_ne h).trans (coreOf_updLane_ne h)

/-- A lane in service without a segment goes to its tests as it is asked (R119). -/
theorem coreOf_askLaneKat {n : Nat} {who : KatWho} {s : State} {l : Lane} (hl : coreOf s n = some (laneCore l))
    (hs : l.st.inService = true) (hseg : l.seg = none) :
    (laneOf (askLaneKat n who s) n).map (fun x => (x.st, x.kats, x.drbg)) = some (.kat, l.kats ++ [who], Drbg.zero) := by
  obtain ⟨x, hx, hxs, hxseg, hxk, -⟩ := lane_of_core_inService hl
  have hu : laneOf (updLane n (fun l => { l with kats := l.kats ++ [who] }) s) n = some { x with kats := x.kats ++ [who] } := by
    rw [laneOf_updLane, hx]
    rfl
  have hstep : askLaneKat n who s = laneLeave n .kat (updLane n (fun l => { l with kats := l.kats ++ [who] }) s) := by
    obtain ⟨w, ws, hw⟩ := List.exists_cons_of_ne_nil (List.append_ne_nil_of_right_ne_nil x.kats (List.cons_ne_nil who []))
    exact laneBoundary_of_kat hu (hxs.trans hs) (hxseg.trans hseg) hw
  have hcore : coreOf (askLaneKat n who s) n = some (laneCore (leftLane .kat { x with kats := x.kats ++ [who] })) := by
    rw [hstep]
    exact coreOf_laneLeave hu
  obtain ⟨y, hy, -, he⟩ := stands_of_core hcore ⟨nofun, nofun, nofun⟩
  rw [hy, ← hxk]
  exact congrArg (fun z : Lane => some (z.st, z.kats, z.drbg)) he

/-- LAN_CMD.KAT (R119, R121). -/
theorem lanCmd_kat {mask : BitVec 16} {s : State} :
    let u := lanCmd mask.toNat false true s
    if lanMaskBad s mask.toNat || noneLeft s mask.toNat then u.lan = { s.lan with err := s.lan.err ||| 4 }
    else u.lan.katBusy = true ∧ u.lan.katDone = false ∧ u.lan.katFailed = false ∧
      ∀ n l, mask.getLsbD n = true → laneOf s n = some l → l.seg = none → l.offPend = false →
        (laneOf u n).map (fun x => (x.st, x.kats, x.drbg)) = some (.kat, l.kats ++ [.cmd], Drbg.zero) := by
  intro u
  cases hbad : lanMaskBad s mask.toNat || noneLeft s mask.toNat with
  | true =>
    have hmodel : u = post 0x12 0 2 (lanErr 2 s) := by simp [u, lanCmd, hbad, onlyIf]
    rw [hmodel]
    rfl
  | false =>
    have hmodel : u = (maskList (nLanes s) mask.toNat).foldl (fun t n => askLaneKat n .cmd t) (lanRun s) := by simp [u, lanCmd, hbad]
    obtain ⟨hmask, -⟩ := Bool.or_eq_false_iff.mp hbad
    have hwide : lanesWide u = lanesWide (lanRun s) := by
      rw [hmodel]
      exact foldl_keeps (P := fun t => lanesWide t = lanesWide (lanRun s)) (fun t k ht => lanesWide_askLaneKat.trans ht) rfl
    refine ⟨congrArg (fun x => x.2.2.1) hwide, congrArg (fun x => x.2.2.2.1) hwide, congrArg (fun x => x.2.2.2.2) hwide,
      fun n l hn hl hseg _ => ?_⟩
    have hmem := mem_maskList_of_not_bad hmask hn
    have hserves : l.st.inService = true := by
      simp only [lanMaskBad, Bool.or_eq_false_iff, List.any_eq_false] at hmask
      have hout := hmask.2 n hmem
      simpa [laneOut, inService, hl] using hout
    obtain ⟨t, -, hcore, hlast⟩ := foldl_at (v := fun t m => (laneOf t m).map laneCore) (g := fun t k => askLaneKat k .cmd t)
      (P := fun _ => True) (s := lanRun s) (fun t k m => coreOf_askLaneKat_ne) (fun _ _ _ => trivial) (maskList_nodup _ _) hmem
      trivial
    have hl' : coreOf t n = some (laneCore l) := hcore.trans (coreOf_of_laneOf hl)
    have hone := coreOf_askLaneKat (who := .cmd) hl' hserves hseg
    obtain ⟨y, hy, hye⟩ := Option.map_eq_some_iff.mp hone
    have hst : y.st = .kat := congrArg Prod.fst hye
    have hylast : coreOf u n = some (laneCore y) := by
      rw [hmodel]
      exact hlast.trans (coreOf_of_laneOf hy)
    obtain ⟨z, hz, -, he⟩ := stands_of_core hylast (by simp [Stands, hst])
    have hsame : (z.st, z.kats, z.drbg) = (y.st, y.kats, y.drbg) :=
      Prod.ext (congrArg Lane.st he :) (Prod.ext (congrArg Lane.kats he :) (congrArg Lane.drbg he :))
    rw [hz, ← hye, ← hsame]
    rfl

/-! ### The writes -/

theorem lanEnWrite_effects {s : State} {a : Acc} {v : W32} (hw : mayWrite a 0x7010 s = true) {P : State → Prop}
    (hP : ∀ u r y, u.lan = (lanEnWrite v { s with ring := r, sys := y }).lan → P u) : Effects (.lanEnWrite a v) s P := by
  obtain ⟨t, ⟨r, y, rfl, -⟩, he⟩ := writeAccess_reaches (v := v) hw (by decide) (by decide) (by decide) (by decide)
  refine effects_of_act exec_lanEnWrite (running_of_enters (enters_of_mayWrite hw)) ?_
  rw [he]
  exact hP _ r y answer_lan

theorem lanQbindWrite_effects {s : State} {a : Acc} {q : Nat} {v : W32} (hq : q < 16) (hw : mayWrite a (0x7040 + 4 * q) s = true)
    {P : State → Prop} (hP : ∀ u r y, u.lan = (lanQbindWrite q v { s with ring := r, sys := y }).lan → P u) :
    Effects (.lanQbindWrite a q v) s P := by
  obtain ⟨t, ⟨r, y, rfl, -⟩, he⟩ := writeAccess_reaches (v := v) hw (by omega) (by omega) (by interval_cases q <;> decide)
    (by interval_cases q <;> decide)
  have hplain : ∀ p u, plainWrite p (0x7040 + 4 * q) v u = lanQbindWrite q v u := by
    intro p u
    interval_cases q <;> rfl
  refine effects_of_act exec_lanQbindWrite (running_of_enters (enters_of_mayWrite hw)) ?_
  rw [rowWrite, if_pos (decide_eq_true hq), he, hplain]
  exact hP _ r y answer_lan

/-- A write of LAN_CMD reaches its function with the mask and the commands of its word. -/
theorem lanCmd_effects {c : Instr} {s : State} {a : Acc} {v : W32} {mask : Nat} {reseed kat : Bool}
    (hc : exec c s = .next (act (writeAccess a 0x7014 [v]) s)) (hw : mayWrite a 0x7014 s = true) (hmask : fld v 0 16 = mask)
    (hreseed : bitAt v 16 = reseed) (hkat : bitAt v 17 = kat) {P : State → Prop}
    (hP : ∀ u r y, u.lan = (lanCmd mask reseed kat { s with ring := r, sys := y }).lan → P u) : Effects c s P := by
  obtain ⟨t, ⟨r, y, rfl, -⟩, he⟩ := writeAccess_reaches (v := v) hw (by decide) (by decide) (by decide) (by decide)
  have hplain : ∀ p u, plainWrite p 0x7014 v u = lanCmd mask reseed kat u := by
    intro p u
    show lanCmd (fld v 0 16) (bitAt v 16) (bitAt v 17) u = _
    rw [hmask, hreseed, hkat]
  refine effects_of_act hc (running_of_enters (enters_of_mayWrite hw)) ?_
  rw [he, hplain]
  exact hP _ r y answer_lan

end Sys2Proof.Machine

namespace Sys2Proof

open Machine

/-- Settles O30: each write reaches its register's own function, in a state that differs in the armed values and the ring alone. -/
theorem laneControl : Obligations.LaneControl := by
  have hof : ∀ {u t : State} (n : Nat), u.lan = t.lan → laneOf u n = laneOf t n := fun n h => laneOf_of_lan h
  refine ⟨fun s a v => ⟨fun hw => lanEnWrite_effects hw fun u r y hu => ?_, fun q hq hw =>
    lanQbindWrite_effects hq hw fun u r y hu => ?_⟩, fun s a mask hw => ?_⟩
  · simp only [hof _ hu, hu]
    exact lanEnWrite_lan (s := { s with ring := r, sys := y })
  · rw [hu]
    exact lanQbindWrite_lan (s := { s with ring := r, sys := y })
  · obtain ⟨hmaskR, hreseedR, hkatR, hmaskK, hreseedK, hkatK⟩ := lanWord_fields mask
    refine ⟨lanCmd_effects exec_lanReseedCmd hw hmaskR hreseedR hkatR fun u r y hu => ?_,
      lanCmd_effects exec_lanKatCmd hw hmaskK hreseedK hkatK fun u r y hu => ?_⟩
    · simp only [hof _ hu, hu]
      exact lanCmd_reseed (s := { s with ring := r, sys := y })
    · simp only [hof _ hu, hu]
      exact lanCmd_kat (s := { s with ring := r, sys := y })

end Sys2Proof

/-! PROOFS. Loss of CK_TIME and the pulses of SYNC_OUT (R275, R287). -/

namespace Sys2Proof.Machine

theorem finishUp_ckTime {s : State} (h : s.hlt.alarm = false) : (finishUp s).clk.ckTime = s.clk.ckTime := by
  rw [← calm_ckTime, calm_finishUp h, calm_ckTime]

theorem ckTimeLost_of_runs {s : State} (h : s.clk.ckTime = true) :
    ckTimeLost s = post 0x64 (b2n s.tim.clkSel) 0 { s with
      clk := { s.clk with ckTime := false }, tim := { s.tim with clkOk := false, outActive := false } } := by
  simp [ckTimeLost, h]

theorem ckTimeLost_of_lost {s : State} (h : s.clk.ckTime = false) : ckTimeLost s = s := by
  simp [ckTimeLost, h]

theorem ckTimeRestored_of_runs {s : State} (h : s.clk.ckTime = true) : ckTimeRestored s = s := by
  simp [ckTimeRestored, h]

theorem ckTimeRestored_of_lost {s : State} (h : s.clk.ckTime = false) :
    ckTimeRestored s = post 0x65 (b2n s.tim.clkSel) 0 { s with
      clk := { s.clk with ckTime := true }, tim := { s.tim with clkOk := true } } := by
  simp [ckTimeRestored, h]

/-- The next pulse begins: SYNC_OUT runs, its clock too, and the time n is reached. -/
theorem syncOutPulse_of_starts {s : State} {n : BitVec 48} (hn : s.tim.outNext = some n) (hen : s.tim.syncEn = true)
    (hok : s.tim.clkOk = true) (hr : reached s n = true) :
    syncOutPulse s = { s with tim := { s.tim with
      outActive := true, outStart := s.clk.ticks, outLen := pulseTicks s, outEmitted := s.tim.outEmitted + 1
      outLast := some n, outNext := some (n + s.tim.outPeriod.zeroExtend 48) } } := by
  simp [syncOutPulse, hn, hen, hok, hr]

theorem syncOutPulse_of_not_starts {s : State} {n : BitVec 48} (hn : s.tim.outNext = some n)
    (h : ¬ (s.tim.syncEn = true ∧ s.tim.clkOk = true ∧ reached s n = true)) : syncOutPulse s = s := by
  rw [syncOutPulse, hn]
  dsimp only
  rw [if_pos]
  simpa only [Bool.or_eq_true, Bool.not_eq_true', ← Bool.not_eq_true, not_and_or, or_assoc] using h

/-- SYNC_OUT taken anew changes its next pulse alone, and that only while SYNC_OUT runs. -/
theorem resched_tim {s : State} :
    (resched s).tim = { s.tim with outNext := if s.tim.syncEn then some (nextPulse s) else s.tim.outNext } := by
  unfold resched
  split <;> rfl

/-- The next pulse rests on fabric time alone. -/
theorem nextPulse_congr {s t : State} (h : t.tim = s.tim) : nextPulse t = nextPulse s := by
  cases s
  cases t
  cases h
  rfl

/-- Settles O54: each command sets the fields that it names, and the end of the step leaves fabric time alone. -/
theorem clockLossAndPulses : Obligations.ClockLossAndPulses := by
  refine fun s => ⟨fun h => ?_, fun a v h => ?_⟩
  · have hr := running_of_upAnd h
    have hq : s.hlt.alarm = false := settled_of_upAnd h
    refine ⟨fun hc => ?_, fun hc => ?_, fun hc => ?_, fun hc => ?_, fun n hn => ⟨?_, fun hs => ?_⟩, fun hs => ?_, fun hs => ?_⟩
    · refine answers_of_act exec_ckTimeLost hr ?_
      rw [ckTimeLost_of_runs hc, finishUp_tim (by simpa using hq), finishUp_ckTime (by simpa using hq)]
      simp
    · exact next_of_act_same hr exec_ckTimeLost (ckTimeLost_of_lost hc)
    · exact next_of_act_same hr exec_ckTimeRestored (ckTimeRestored_of_runs hc)
    · refine answers_of_act exec_ckTimeRestored hr ?_
      rw [ckTimeRestored_of_lost hc, finishUp_tim (by simpa using hq), finishUp_ckTime (by simpa using hq)]
      simp
    · rintro ⟨hen, hok, hreach⟩
      refine answers_of_act exec_syncOutPulse hr ?_
      rw [syncOutPulse_of_starts hn hen hok hreach, finishUp_tim (by exact hq)]
      exact ⟨rfl, rfl, rfl, rfl, rfl, rfl⟩
    · exact next_of_act_same hr exec_syncOutPulse (syncOutPulse_of_not_starts hn hs)
    · refine answers_of_act exec_syncOutPulseEnd hr ?_
      rw [syncOutEnd, if_pos hs, finishUp_tim (by exact hq)]
    · exact next_of_act_same hr exec_syncOutPulseEnd (by rw [syncOutEnd, if_neg hs])
  · obtain ⟨t, ⟨r, y, rfl, -⟩, he⟩ := writeAccess_reaches (v := v) h (by decide) (by decide) (by decide) (by decide)
    refine answers_of_act exec_syncoutStartWrite (running_of_enters (enters_of_mayWrite h)) ?_
    have hplain : ∀ q u, plainWrite q 0xC034 v u = syncOutStart v u := fun _ _ => rfl
    have halarm : (syncOutStart v { s with ring := r, sys := y }).hlt.alarm = false := by
      rw [← settled_of_mayWrite h]
      unfold syncOutStart resched
      split <;> rfl
    rw [he, hplain, finishUp_tim (by rw [answer_hlt]; exact halarm), answer_tim, syncOutStart, resched_tim]
    refine ⟨rfl, rfl, rfl, ?_⟩
    exact congrArg (fun x => if s.tim.syncEn then some x else s.tim.outNext) (nextPulse_congr rfl)

end Sys2Proof.Machine

/-! PROOFS. Completion records, the loss of the job engine, and the registers of tags and of the peak (R24, R182, R185, R316, R318). -/

namespace Sys2Proof.Machine

theorem jobOf_ne_none_of_mem {s : State} {j : Job} (h : j ∈ s.job.jobs) : jobOf s j.id ≠ none := by
  intro hn
  simpa using List.find?_eq_none.mp hn j h

theorem jobOf_dropJob_self {id : Nat} {s : State} : jobOf (dropJob id s) id = none := by
  refine List.find?_eq_none.mpr fun j hj => ?_
  simpa using (List.mem_filter.mp hj).2

/-- A job in the engine completes: it is there no longer, and its record counts. -/
theorem completeJob_of_mem {s : State} {j : Job} (h : j ∈ s.job.jobs) :
    jobOf (completeJob j.id s) j.id = none ∧ (completeJob j.id s).job.records = s.job.records + 1 ∧ (completeJob j.id s).evt = s.evt := by
  unfold completeJob
  split
  next hn => exact absurd hn (jobOf_ne_none_of_mem h)
  next => exact ⟨jobOf_dropJob_self, rfl, rfl⟩

/-- A record bound for the event queue is stored there, and its job completes. -/
theorem writeRecord_of_toEventQueue {s : State} {j : Job} (hj : toEventQueue j = true) :
    writeRecord j s = completeJob j.id
      { s with evt := { s.evt with queue := s.evt.queue ++ [recordEntry s j s.evt.seq.toNat], seq := s.evt.seq + 1 } } := by
  have hr : j.raddr = none := by
    simp only [toEventQueue, Bool.and_eq_true, Option.isNone_iff_eq_none] at hj
    exact hj.1
  simp only [writeRecord, hr, hj, if_true]

theorem storeWaiting_of_room {s : State} {j : Job} (h : s.job.jobs.find? (fun j => waitsRoom j && recordDue s j) = some j)
    (hroom : recordRoom s = true) : storeWaiting s = writeRecord j s := by
  rw [storeWaiting, h]
  exact if_pos hroom

theorem storeWaiting_of_full {s : State} (hroom : recordRoom s = false) : storeWaiting s = s := by
  unfold storeWaiting
  split
  · rw [if_neg (by simp [hroom])]
  · rfl

theorem engineLost_job {s : State} : (engineLost s).job = { s.job with stopped := true } := by
  simp [engineLost]

theorem engineLost_hlt_of_not_fatal {s : State} (h : s.hlt.fatal = false) :
    (engineLost s).hlt.fatal = true ∧ (engineLost s).hlt.fatalCause = 8 ∧ (engineLost s).hlt.fatalIdx = 3 := by
  rw [engineLost, raiseFatal_hlt_of_not_fatal (by exact h)]
  exact ⟨rfl, rfl, rfl⟩

theorem engineLost_of_fatal {s : State} (h : s.hlt.fatal = true) : (engineLost s).hlt.fatal = true := by
  rw [engineLost, raiseFatal, if_pos (by exact h)]
  exact h

theorem running_of_mayFetch {a : Acc} {s : State} (h : mayFetch a s = true) : running s = true := by
  simp only [mayFetch, Bool.and_eq_true] at h
  exact running_of_enters h.1.1

theorem settled_of_mayFetch {a : Acc} {s : State} (h : mayFetch a s = true) : s.hlt.alarm = false := by
  simp only [mayFetch, settled, Bool.and_eq_true, Bool.not_eq_true'] at h
  exact h.2

/-- A read of JOB_PEAK returns the field and sets it to the jobs in flight. -/
theorem jobPeakRead_effects {a : Acc} {s : State} (h : mayFetch a s = true) :
    Effects (.jobPeakRead a) s (fun u =>
      u.job = { s.job with peak := inflightAll s } ∧ (a.path = .core → u.core.data = w32ToBytes [packR [(0, s.job.peak)]])) := by
  refine effects_of_act exec_jobPeakRead (running_of_mayFetch h) ?_
  have hafter : ∀ q u, (readOne q 0x9008 u).2 = breakArm q { u with job := { u.job with peak := inflightAll u } } := fun _ _ => rfl
  have hval : ∀ q u, regVal u q 0x9008 = packR [(0, u.job.peak)] := fun _ _ => rfl
  have hpeak : ∀ u : State, u.job = s.job → inflightAll u = inflightAll s := fun u hu => by rw [inflightAll, hu, inflightAll]
  rw [readAccess_of_mayFetch h (by decide) (by decide), hafter, readOne_val (by decide), hval, entered_job]
  refine ⟨?_, fun hp => answer_core_data (norm_path.trans hp)⟩
  rw [answer_job, breakArm_job]
  show { s.job with peak := inflightAll (entered a false s) } = _
  rw [hpeak _ entered_job]

/-- A tag's state rests on the jobs, the streams and the alarm. -/
theorem tagState_congr {s t : State} {r : ReqId} {tag : BitVec 12} (hj : t.job = s.job) (hh : halted t = halted s) :
    tagState t r tag = tagState s r tag := by
  have htests : ∀ j, testsLeft t j = testsLeft s j := fun j => by rw [testsLeft, hh, testsLeft]
  have hheld : ∀ r id, startHeld t r id = startHeld s r id := fun r id => by rw [startHeld, streamOf, hj, startHeld, streamOf]
  unfold tagState
  rw [hj]
  split
  next => rfl
  next j _ => rw [htests, hheld]

/-- Settles O43: the record that waits first completes its job, the others set the fields that they name. -/
theorem recordsAndJobRegisters : Obligations.RecordsAndJobRegisters := by
  refine fun s a v => ⟨fun h j hj => ⟨fun hroom => ?_, fun hroom => ?_⟩, fun h => ?_, fun h => ?_, jobPeakRead_effects⟩
  · refine effects_of_act exec_eventQueueStore (running_of_upAnd h) ?_
    have hwaits := List.find?_some hj
    simp only [waitsRoom, Bool.and_eq_true] at hwaits
    rw [storeWaiting_of_room hj hroom, writeRecord_of_toEventQueue hwaits.1.2]
    obtain ⟨hgone, hcount, hevt⟩ := completeJob_of_mem (s :=
      { s with evt := { s.evt with queue := s.evt.queue ++ [recordEntry s j s.evt.seq.toNat], seq := s.evt.seq + 1 } })
      (List.mem_of_find?_eq_some hj)
    exact ⟨congrArg Evt.queue hevt, congrArg Evt.seq hevt, hgone, hcount⟩
  · exact next_of_act_same (running_of_upAnd h) exec_eventQueueStore (storeWaiting_of_full hroom)
  · refine effects_of_act exec_jobEngineLost (running_of_upAnd h) ?_
    rw [engineLost_job]
    cases hf : s.hlt.fatal with
    | false =>
      obtain ⟨hfatal, hcause⟩ := engineLost_hlt_of_not_fatal hf
      exact ⟨rfl, hfatal, fun _ => hcause⟩
    | true => exact ⟨rfl, engineLost_of_fatal hf, nofun⟩
  · obtain ⟨t, ⟨r, y, rfl, hy⟩, he⟩ := writeAccess_reaches (v := v) h (by decide) (by decide) (by decide) (by decide)
    refine effects_of_act exec_jobTagSelWrite (running_of_enters (enters_of_mayWrite h)) ?_
    have hplain : ∀ q u, plainWrite q 0x9048 v u = tagSelWrite v u := fun _ _ => rfl
    have hhalted : halted { s with ring := r, sys := y } = halted s := by
      rw [halted, halted, show y.tamper = s.sys.tamper from congrArg (·.tamper) hy]
    rw [he, hplain, answer_job, tagSelWrite, tagState_congr (by rfl) hhalted]

end Sys2Proof.Machine

/-! PROOFS. Submission writes: accepted whole or refused whole (R154 to R156). -/

namespace Sys2Proof.Machine

/-! ### Streams of a requester -/

/-- The first entry that passes q stays first when the filter keeps it. -/
theorem find?_filter_of_kept {α : Type} {q k : α → Bool} {l : List α} {x : α} (hx : l.find? q = some x) (hk : k x = true) :
    (l.filter k).find? q = some x := by
  induction l with
  | nil => exact hx
  | cons y l ih =>
    by_cases hq : q y = true
    · have hy : y = x := by simpa [List.find?_cons, hq] using hx
      subst hy
      simp [hk, hq]
    · have hl : l.find? q = some x := by simpa [List.find?_cons, hq] using hx
      by_cases hky : k y = true
      · simpa [List.filter_cons, hky, List.find?_cons, hq] using ih hl
      · simpa [List.filter_cons, hky] using ih hl

/-- A change that keeps each stream's requester changes the stream of that requester. -/
theorem streamOf_updStream_self {r : ReqId} {f : Stream → Stream} {s : State} (hf : ∀ x, (f x).req = x.req) :
    streamOf (updStream r f s) r = (streamOf s r).map f := by
  show (s.job.streams.map _).find? _ = (s.job.streams.find? _).map f
  induction s.job.streams with
  | nil => rfl
  | cons x l ih => by_cases hx : x.req = r <;> simp [hx, hf, ih]

theorem streamOf_syncParser_of_words {r : ReqId} {x : Stream} {s : State} (hx : streamOf s r = some x) (hw : x.words ≠ []) :
    streamOf (syncParser s) r = some x :=
  find?_filter_of_kept hx (by simp [hw])

/-! ### Words that are appended -/

theorem bytesToWords_ne_nil {l : List Byte} (h : l ≠ []) : bytesToWords l ≠ [] := by
  cases l with
  | nil => exact absurd rfl h
  | cons x l => simp [bytesToWords, chunks, chunksN]

/-- Words written to a stream, as the stream holds them. -/
def streamWords (a : Acc) (ws : List Word) : List SWord := ws.map (fun w => SWord.mk w (cqOf a.path) a.path)

theorem streamWords_w {a : Acc} {ws : List Word} : (streamWords a ws).map (·.w) = ws := by
  simp [streamWords, Function.comp_def]

theorem appendWords_cqCnt {a : Acc} {ws : List Word} {s : State} :
    (appendWords a ws s).job.cqCnt = upd s.job.cqCnt (cqOf a.path) (· + BitVec.ofNat 32 ws.length) ∧
      (appendWords a ws s).job.err = s.job.err := by
  unfold appendWords
  dsimp only
  split <;> exact ⟨rfl, rfl⟩

/-- The words of an accepted write follow those that its requester's stream holds; what the stream discards is as before. -/
theorem streamOf_appendWords {a : Acc} {ws : List Word} {s : State} :
    ∃ x, streamOf (appendWords a ws s) a.req = some x ∧ x.words = ((streamOf s a.req).map (·.words)).getD [] ++ streamWords a ws ∧
      x.discard = (streamOf s a.req).bind (·.discard) := by
  have hsame : ∀ c, streamOf { s with job := { s.job with cqCnt := c } } a.req = streamOf s a.req := fun _ => rfl
  unfold appendWords
  dsimp only
  split
  next y hy =>
    rw [hsame] at hy
    rw [streamOf_updStream_self (by simp), hsame, hy]
    exact ⟨_, rfl, rfl, rfl⟩
  next hn =>
    rw [hsame] at hn
    refine ⟨⟨a.req, streamWords a ws, none, a.path, none, a.path, []⟩, ?_, ?_, ?_⟩
    · show (s.job.streams ++ [_]).find? _ = _
      rw [List.find?_append, show s.job.streams.find? _ = none from hn]
      simp [streamWords]
    · rw [hn]
      rfl
    · rw [hn]
      rfl

theorem discardRun_of_not_discarding {r : ReqId} {x : Stream} {s : State} (hx : streamOf s r = some x) (hd : x.discard = none) :
    discardRun r s = s := by
  simp [discardRun, hx, hd]

/-! ### The write's outcome -/

theorem submit_of_fine {a : Acc} {w : Nat} {bytes : List Byte} {s : State} (h : (submitCauses s a w bytes).filter (·.1) = []) :
    submit a w bytes s = (0, syncParser (discardRun a.req (appendWords a (bytesToWords bytes) s))) := by
  simp [submit, h]

/-- What a refused write leaves: its error bits are set, and one record tells of the first. -/
theorem submit_of_bad {a : Acc} {w : Nat} {bytes : List Byte} {s : State} {c : Bool × Nat} {cs : List (Bool × Nat)}
    (h : (submitCauses s a w bytes).filter (·.1) = c :: cs) :
    (submit a w bytes s).1 = (if c.2 = 6 then 8 else if c.2 = 5 then 2 else 3) ∧
      (submit a w bytes s).2.job =
        { s.job with err := s.job.err ||| BitVec.ofNat 7 (maskOf 7 (fun i => (c :: cs).any (fun x => decide (x.2 = i)))) } := by
  unfold submit
  dsimp only
  rw [h]
  exact ⟨rfl, by rw [post_job]⟩

/-- A write without cause for refusal has bytes. -/
theorem ne_nil_of_fine {a : Acc} {w : Nat} {bytes : List Byte} {s : State} (h : (submitCauses s a w bytes).filter (·.1) = []) :
    bytes ≠ [] := by
  rintro rfl
  simp [submitCauses] at h

/-- The causes rest on the jobs, the permissions and the alarm. -/
theorem submitCauses_congr {s t : State} {a : Acc} {w : Nat} {bytes : List Byte} (hjob : t.job = s.job) (hsil : t.sil = s.sil)
    (hh : halted t = halted s) : submitCauses t a w bytes = submitCauses s a w bytes := by
  have hbuffered : buffered t a.req = buffered s a.req := by rw [buffered, streamOf, hjob, buffered, streamOf]
  have hcq : cqWords t (cqOf a.path) = cqWords s (cqOf a.path) := by rw [cqWords, hjob, cqWords]
  unfold submitCauses
  rw [permits_congr hsil, hh, hbuffered, hcq]

/-- A write that is accepted adds its words to the requester's stream and to the count of its queue. -/
theorem submit_accepts {a : Acc} {w : Nat} {bytes : List Byte} {s : State} (h : (submitCauses s a w bytes).filter (·.1) = [])
    (hd : (streamOf s a.req).bind (·.discard) = none) :
    let u := (submit a w bytes s).2
    u.job.cqCnt = upd s.job.cqCnt (cqOf a.path) (· + BitVec.ofNat 32 (bytesToWords bytes).length) ∧ u.job.err = s.job.err ∧
      ((streamOf u a.req).map (fun x => x.words.map (·.w))).getD [] =
        ((streamOf s a.req).map (fun x => x.words.map (·.w))).getD [] ++ bytesToWords bytes := by
  obtain ⟨x, hx, hwords, hdiscard⟩ := streamOf_appendWords (a := a) (ws := bytesToWords bytes) (s := s)
  have hne : x.words ≠ [] := by
    rw [hwords]
    simpa [streamWords] using fun _ => bytesToWords_ne_nil (ne_nil_of_fine h)
  have hmap : x.words.map (·.w) = ((streamOf s a.req).map (fun x => x.words.map (·.w))).getD [] ++ bytesToWords bytes := by
    rw [hwords, List.map_append, streamWords_w]
    cases streamOf s a.req <;> rfl
  rw [submit_of_fine h, discardRun_of_not_discarding hx (hdiscard.trans hd)]
  refine ⟨appendWords_cqCnt.1, appendWords_cqCnt.2, ?_⟩
  rw [streamOf_syncParser_of_words hx hne]
  exact hmap

/-! ### The row -/

theorem answer_core_status {a : Acc} {w : Bool} {st : Nat} {d : List Byte} {s : State} (h : a.path = .core) :
    (answer a w st d false s).core.status = BitVec.ofNat 4 st := by
  simp [answer, h, pathPort, coreAnswer]

/-- No ring requester with the core's ID enters. -/
theorem req_ne_core_of_enters {a : Acc} {s : State} {p : PortId} (h : enters a s = true) (hp : pathPort a.path = some p) :
    a.req ≠ coreId := by
  unfold enters at h
  simp only [hp, Bool.and_eq_true, decide_eq_true_eq] at h
  exact h.2.2

/-- A submission write that enters comes to its window. -/
theorem submitRow_of_enters {a : Acc} {w : Nat} {bytes : List Byte} {s : State} (h : enters a s = true) (hw : w < 4) :
    submitRow a w bytes s = submitDone (norm s a) w bytes (entered a false s) := by
  unfold submitRow
  cases hp : pathPort a.path with
  | none =>
    dsimp only
    rw [if_pos hw, arrive_of_enters h]
  | some p =>
    dsimp only
    rw [if_neg fun hc => req_ne_core_of_enters h hp hc.2.1, if_pos hw, arrive_of_enters h]

/-- Settles O39: the write comes to its window, and there submit_accepts and submit_of_bad say what it does. -/
theorem submissionWrite : Obligations.SubmissionWrite := by
  intro s a w bytes hw hen _
  dsimp only
  have hcauses : submitCauses (entered a false s) (norm s a) w bytes = submitCauses s (norm s a) w bytes :=
    submitCauses_congr entered_job entered_sil (by rw [halted, entered_hlt, entered_sys, halted])
  have hstream : ∀ r, streamOf (entered a false s) r = streamOf s r := fun r => by rw [streamOf, entered_job, streamOf]
  have hcore : a.path = .core → (norm s a).path = .core := norm_path.trans
  refine ⟨fun hfine hd => ?_, fun c cs hbad => ?_⟩
  · refine effects_of_act exec_submissionWrite (running_of_enters hen) ?_
    rw [← hcauses] at hfine
    obtain ⟨hcnt, herr, hws⟩ := submit_accepts hfine (by rw [hstream]; exact hd)
    have hst : ∀ r u, streamOf (answer (norm s a) true r [] false u) (norm s a).req = streamOf u (norm s a).req := fun r u => by
      rw [streamOf, answer_job, streamOf]
    rw [submitRow_of_enters hen hw, submitDone, answer_job, hst, hcnt, herr, hws, entered_job, norm_path, hstream]
    exact ⟨rfl, rfl, rfl, fun hp => by rw [answer_core_status (hcore hp), submit_of_fine hfine]; rfl⟩
  · refine effects_of_act exec_submissionWrite (running_of_enters hen) ?_
    obtain ⟨hstatus, hjob⟩ := submit_of_bad (hcauses.symm ▸ hbad)
    rw [submitRow_of_enters hen hw, submitDone, answer_job, hjob, entered_job, hbad]
    refine ⟨rfl, fun hp => ?_⟩
    rw [answer_core_status (hcore hp), hstatus]
    split
    · rfl
    · split <;> rfl

end Sys2Proof.Machine

/-! PROOFS. Frames that a node sends, and what they leave of the ring: the layer for the hierarchy, the link and the responses. -/

namespace Sys2Proof.Machine

/-! ### The ring apart from the frames that pass -/

/-- A port apart from the frames that wait in it and what it owes its partner for those it received. -/
def portCore (x : Port) : Port := { x with txq := [], rxAck := 0, returns := [] }

/-- The ring apart from the frames that pass through its ports. -/
def ringCore (r : Ring) : Ring := { r with pa := portCore r.pa, pb := portCore r.pb, eseq := 0 }

/-- No frame that waits in a port is lost: others may have joined them. -/
def Queued (r r' : Ring) : Prop := ∀ p, ∃ l, (portOf r' p).txq = (portOf r p).txq ++ l

/-- Frames were received and sent: the ring is the same apart from them. -/
structure Passed (r r' : Ring) : Prop where
  core : ringCore r' = ringCore r
  queued : Queued r r'

/-- A frame joined those that wait in a port. -/
def Sends (x : TxFrame) (r r' : Ring) : Prop := ∃ p l, (portOf r' p).txq = (portOf r p).txq ++ l ∧ x ∈ l

theorem Queued.refl {r : Ring} : Queued r r := fun _ => ⟨[], by simp⟩

theorem Queued.trans {r r' r'' : Ring} (h : Queued r r') (g : Queued r' r'') : Queued r r'' := by
  intro p
  obtain ⟨l, hl⟩ := h p
  obtain ⟨k, hk⟩ := g p
  exact ⟨l ++ k, by rw [hk, hl, List.append_assoc]⟩

theorem Passed.refl {r : Ring} : Passed r r := ⟨rfl, .refl⟩

theorem Passed.trans {r r' r'' : Ring} (h : Passed r r') (g : Passed r' r'') : Passed r r'' :=
  ⟨g.core.trans h.core, h.queued.trans g.queued⟩

theorem Sends.then_queued {x : TxFrame} {r r' r'' : Ring} (h : Sends x r r') (g : Queued r' r'') : Sends x r r'' := by
  obtain ⟨p, l, hl, hx⟩ := h
  obtain ⟨k, hk⟩ := g p
  exact ⟨p, l ++ k, by rw [hk, hl, List.append_assoc], List.mem_append_left _ hx⟩

theorem Sends.after_queued {x : TxFrame} {r r' r'' : Ring} (h : Queued r r') (g : Sends x r' r'') : Sends x r r'' := by
  obtain ⟨p, l, hl, hx⟩ := g
  obtain ⟨k, hk⟩ := h p
  exact ⟨p, k ++ l, by rw [hl, hk, List.append_assoc], List.mem_append_right _ hx⟩

/-- Rings with the same ports hold the same waiting frames. -/
theorem queued_of_ports {r r' : Ring} (ha : r'.pa = r.pa) (hb : r'.pb = r.pb) : Queued r r'
  | .a => ⟨[], by simp [portOf, ha]⟩
  | .b => ⟨[], by simp [portOf, hb]⟩

/-! ### Sending and receiving -/

theorem portOf_updPort_self {r : Ring} {p : PortId} {f : Port → Port} : portOf (updPort r p f) p = f (portOf r p) := by
  cases p <;> rfl

theorem portOf_updPort_ne {r : Ring} {p q : PortId} {f : Port → Port} (h : q ≠ p) : portOf (updPort r p f) q = portOf r q := by
  cases p <;> cases q <;> simp_all [portOf, updPort]

/-- A change of a port within what frames change of it leaves the rest of the ring. -/
theorem ringCore_updPort {r : Ring} {p : PortId} {f : Port → Port} (hf : ∀ x, portCore (f x) = portCore x) :
    ringCore (updPort r p f) = ringCore r := by
  cases p <;> simp [ringCore, updPort, hf]

/-- A change of a port that keeps its waiting frames keeps all. -/
theorem queued_updPort {r : Ring} {p : PortId} {f : Port → Port} (hf : ∀ x, ∃ l, (f x).txq = x.txq ++ l) : Queued r (updPort r p f) := by
  intro q
  by_cases h : q = p
  · rw [h, portOf_updPort_self]
    exact hf _
  · rw [portOf_updPort_ne h]
    exact ⟨[], by simp⟩

theorem passed_queueTx {p : PortId} {t : TxFrame} {r : Ring} : Passed r (queueTx p t r) :=
  ⟨ringCore_updPort fun _ => rfl, queued_updPort fun _ => ⟨[t], rfl⟩⟩

theorem sends_queueTx {p : PortId} {t : TxFrame} {r : Ring} : Sends t r (queueTx p t r) :=
  ⟨p, [t], by rw [queueTx, portOf_updPort_self], List.mem_singleton_self t⟩

theorem passed_sendTx {t : TxFrame} {r : Ring} : Passed r (sendTx t r) := passed_queueTx

theorem sends_sendTx {t : TxFrame} {r : Ring} : Sends t r (sendTx t r) := sends_queueTx

theorem passed_sendEvent {s : State} {dst : Nat} {k : TxKind} {l : List Byte} {r : Ring} : Passed r (sendEvent s dst k l r) :=
  have hseq : Passed r { r with eseq := r.eseq + 1 } := ⟨rfl, queued_of_ports rfl rfl⟩
  hseq.trans passed_sendTx

/-- A record changes the event registers, and sends at most an event frame. -/
theorem post_eq {c i d : Nat} {s : State} : ∃ e r, post c i d s = { s with evt := e, ring := r } ∧ Passed s.ring r := by
  unfold post postEvent
  refine ⟨_, _, rfl, ?_⟩
  split
  · exact passed_sendEvent
  · exact .refl

/-! ### The node's whole state -/

/-- Frames were received and sent, and nothing but the ring changed. -/
def Passes (s t : State) : Prop := ∃ r, t = { s with ring := r } ∧ Passed s.ring r

theorem Passes.refl {s : State} : Passes s s := ⟨s.ring, rfl, .refl⟩

theorem Passes.trans {s t u : State} (h : Passes s t) (g : Passes t u) : Passes s u := by
  obtain ⟨r, rfl, hr⟩ := h
  obtain ⟨r', rfl, hr'⟩ := g
  exact ⟨r', rfl, hr.trans hr'⟩

theorem passes_queueTx {p : PortId} {t : TxFrame} {s : State} : Passes s { s with ring := queueTx p t s.ring } := ⟨_, rfl, passed_queueTx⟩

theorem passes_sendPlain {t : TxFrame} {s : State} : Passes s (sendPlain t s) := ⟨_, rfl, passed_sendTx⟩

/-- A change of a port within what frames change of it, and that keeps its waiting frames. -/
theorem passes_onPort {p : PortId} {f : Port → Port} {s : State} (hf : ∀ x, portCore (f x) = portCore x)
    (hq : ∀ x, (f x).txq = x.txq) : Passes s (onPort p f s) :=
  ⟨_, rfl, ringCore_updPort hf, queued_updPort fun x => ⟨[], by simp [hq]⟩⟩

theorem passes_giveCredit {p : PortId} {k : Nat} {s : State} : Passes s (giveCredit p k s) :=
  passes_onPort (fun _ => rfl) fun _ => rfl

theorem passes_rxFrame {p : PortId} {f : Frame} {s : State} : Passes s (rxFrame p f s) := by
  have hack : Passes s (onPort p (fun x => { x with rxAck := x.rxAck + 1 }) s) := passes_onPort (fun _ => rfl) fun _ => rfl
  unfold rxFrame
  dsimp only
  split
  · exact hack
  · exact hack.trans passes_giveCredit

theorem passes_rxAccess {p : PortId} {hold mark : Bool} {s : State} : Passes s (rxAccess p hold mark s) := by
  have hack : Passes s (onPort p (fun x => { x with rxAck := x.rxAck + 1 }) s) := passes_onPort (fun _ => rfl) fun _ => rfl
  unfold rxAccess
  dsimp only
  split
  · exact hack
  · exact hack.trans passes_giveCredit

theorem passes_forward {p : PortId} {k : Nat} {f : Frame} {s : State} : Passes s (forward p k f s) := passes_queueTx

theorem passes_forwardBcast {p : PortId} {f : Frame} {n : Nat} {s : State} : Passes s (forwardBcast p f n s) := by
  unfold forwardBcast
  dsimp only
  split
  · exact .refl
  · split
    · split
      · exact passes_queueTx
      · exact .refl
    · exact passes_forward

/-- A frame that reaches the hierarchy changes the ring's buffers, and a broadcast may go on. -/
theorem passes_hierIn {p : PortId} {f : Frame} {n : Nat} {s : State} : Passes s (hierIn p f n s) := by
  unfold hierIn onlyIf
  split
  · exact passes_rxFrame.trans passes_forwardBcast
  · exact passes_rxFrame

theorem passed_sendPlain {t : TxFrame} {s : State} : Passed s.ring (sendPlain t s).ring := passed_sendTx

theorem sends_sendPlain {t : TxFrame} {s : State} : Sends t s.ring (sendPlain t s).ring := sends_sendTx

end Sys2Proof.Machine

/-! PROOFS. The hierarchy: announcements, standby, HELLO and the table of workers (R265 to R267, R270). -/

namespace Sys2Proof.Machine

/-! ### Frames of the hierarchy -/

/-- The fields of an MGR or WKR frame of the node's own. -/
theorem hierFrame_fields {s : State} {type sub dst h2 : Nat} {payload : List Byte} (ht : type < 64) (hs : sub < 256) (hd : dst < 4096)
    (hh : h2 < 2 ^ 56) :
    let f := (hierFrame s type sub dst h2 payload).f
    f.type.toNat = type ∧ f.vc = 2 ∧ subType f = sub ∧ f.dst.toNat = dst ∧ fldW f.h2 0 56 = h2 ∧ f.payload = payload := by
  have hlow : h2 % 72057594037927936 = h2 := Nat.mod_eq_of_lt (by omega)
  have hword : ((BitVec.ofNat 64 (sub <<< 56 + h2) : Word)).toNat = sub * 72057594037927936 + h2 := by
    rw [BitVec.toNat_ofNat, Nat.shiftLeft_eq, Nat.mod_eq_of_lt (by omega)]
  refine ⟨Nat.mod_eq_of_lt ht, rfl, ?_, Nat.mod_eq_of_lt hd, ?_, rfl⟩
  · show fldW (BitVec.ofNat 64 (sub <<< 56 + h2)) 56 8 = sub
    rw [fldW, hword, Nat.shiftRight_eq_div_pow]
    omega
  · show fldW (BitVec.ofNat 64 (sub <<< 56 + h2)) 0 56 = h2
    rw [fldW, hword, Nat.shiftRight_zero]
    omega

/-- A frame of the hierarchy that joined those that wait, by its fields. -/
theorem sends_hierFrame {s s' u : State} {type sub dst h2 : Nat} {payload : List Byte} (ht : type < 64) (hs : sub < 256) (hd : dst < 4096)
    (hh : h2 < 2 ^ 56) (h : Sends (hierFrame s' type sub dst h2 payload) s.ring u.ring) :
    ∃ p l x, (portAt u p).txq = (portAt s p).txq ++ l ∧ x ∈ l ∧ x.f.type.toNat = type ∧ x.f.vc = 2 ∧ subType x.f = sub ∧
      x.f.dst.toNat = dst ∧ fldW x.f.h2 0 56 = h2 ∧ x.f.payload = payload := by
  obtain ⟨p, l, hl, hx⟩ := h
  exact ⟨p, l, _, hl, hx, hierFrame_fields ht hs hd hh⟩

/-! ### Announcements -/

/-- What a FABRIC_ALARM says of its origin, cause and INDEX. -/
def alarmWord (o : BitVec 12) (c i : BitVec 8) : Nat := o.toNat <<< 36 + c.toNat <<< 8 + i.toNat

theorem alarmWord_eq {o : BitVec 12} {c i : BitVec 8} : alarmWord o c i = o.toNat * 2 ^ 36 + c.toNat * 2 ^ 8 + i.toNat := by
  simp [alarmWord, Nat.shiftLeft_eq]

theorem alarmWord_lt {o : BitVec 12} {c i : BitVec 8} : alarmWord o c i < 2 ^ 56 := by
  have := o.isLt
  have := c.isLt
  have := i.isLt
  rw [alarmWord_eq]
  omega

/-- Every alarm that a manager repeats is sent. -/
theorem foldl_fabricAlarm {l : List (BitVec 12 × BitVec 8 × BitVec 8 × Nat)} {s : State} :
    let t := l.foldl (fun t e => fabricAlarm e.1 e.2.1 e.2.2.1 t) s
    Passes s t ∧ ∀ e ∈ l, ∃ s', Sends (hierFrame s' 0x07 0x04 0xFFF (alarmWord e.1 e.2.1 e.2.2.1) []) s.ring t.ring := by
  induction l generalizing s with
  | nil => exact ⟨.refl, nofun⟩
  | cons e l ih =>
    obtain ⟨hpass, hsends⟩ := ih (s := fabricAlarm e.1 e.2.1 e.2.2.1 s)
    have hfirst : Passes s (fabricAlarm e.1 e.2.1 e.2.2.1 s) := passes_sendPlain
    obtain ⟨r, hr, -, hq⟩ := id hfirst
    refine ⟨hfirst.trans hpass, fun x hx => ?_⟩
    obtain ⟨r', hr', -, hq'⟩ := hpass
    rcases List.mem_cons.mp hx with rfl | hx
    · exact ⟨s, sends_sendPlain.then_queued (by rw [List.foldl_cons, hr']; exact hq')⟩
    · obtain ⟨s', hs'⟩ := hsends x hx
      exact ⟨s', .after_queued (by rw [hr]; exact hq) hs'⟩

/-- The ACTIVE manager announces itself, and repeats its alarms. -/
theorem announceTx_of_due {s : State} (hm : s.ring.mode = .active) (ho : mayOriginate s = true)
    (ht : tickDue s s.ring.annTick 12500000 = true) :
    let u := announceTx s
    (∃ s', Sends (hierFrame s' 0x07 0x01 0xFFF s.ring.annSeq.toNat []) s.ring u.ring) ∧
      (∀ e ∈ s.ring.faRepeat, ∃ s', Sends (hierFrame s' 0x07 0x04 0xFFF (alarmWord e.1 e.2.1 e.2.2.1) []) s.ring u.ring) ∧
      u.ring.annSeq = s.ring.annSeq + 1 ∧ u.ring.annTick = some s.clk.ticks ∧ u.ring.mode = .active := by
  have hann := sends_sendPlain (t := hierFrame s 0x07 0x01 0xFFF s.ring.annSeq.toNat [])
    (s := { s with ring := { s.ring with annSeq := s.ring.annSeq + 1, annTick := some s.clk.ticks } })
  have hsend := passes_sendPlain (t := hierFrame s 0x07 0x01 0xFFF s.ring.annSeq.toNat [])
    (s := { s with ring := { s.ring with annSeq := s.ring.annSeq + 1, annTick := some s.clk.ticks } })
  unfold announceTx
  rw [if_neg (by simp [hm, ho, ticks100, ht])]
  dsimp only
  generalize sendPlain _ _ = s1 at *
  obtain ⟨r1, rfl, hcore1, hq1⟩ := hsend
  have hrepeat : r1.faRepeat = s.ring.faRepeat := (congrArg Ring.faRepeat hcore1 :)
  dsimp only
  rw [hrepeat]
  obtain ⟨hpass, halarms⟩ := foldl_fabricAlarm (l := s.ring.faRepeat)
    (s := { s with ring := r1 })
  dsimp only at hpass halarms
  generalize s.ring.faRepeat.foldl _ _ = s2 at *
  obtain ⟨r2, rfl, hcore2, hq2⟩ := hpass
  have hfirst : Queued s.ring r1 := fun p => hq1 p
  have hlast : ∀ l, Queued r2 { r2 with faRepeat := l } := fun l => queued_of_ports rfl rfl
  have hann' : Sends (hierFrame s 0x07 0x01 0xFFF s.ring.annSeq.toNat []) s.ring r1 := hann
  refine ⟨⟨s, (hann'.then_queued hq2).then_queued (hlast _)⟩, fun e he => ?_, ?_, ?_, ?_⟩
  · obtain ⟨s', hs'⟩ := halarms e he
    exact ⟨s', (Sends.after_queued hfirst hs').then_queued (hlast _)⟩
  · exact (congrArg Ring.annSeq (hcore2.trans hcore1) :)
  · exact (congrArg Ring.annTick (hcore2.trans hcore1) :)
  · exact (congrArg Ring.mode (hcore2.trans hcore1) :).trans hm

theorem announceTx_of_not_active {s : State} (h : s.ring.mode ≠ .active ∨ mayOriginate s = false) : announceTx s = s := by
  unfold announceTx
  rw [if_pos (by rcases h with h | h <;> simp [h])]

theorem takeManager_ring {src : BitVec 12} {s : State} :
    (takeManager src s).ring.mode = s.ring.mode ∧ (takeManager src s).ring.manager = src := by
  unfold takeManager
  split
  next h => exact ⟨rfl, h⟩
  next =>
    dsimp only
    split
    · exact ⟨rfl, rfl⟩
    · obtain ⟨e, r, hr, hcore, -⟩ := post_eq (c := 0x55) (i := src.toNat) (d := if s.ring.mode = .standby then 2 else 0)
        (s := { s with ring := { s.ring with manager := src, helloDue := true } })
      rw [hr]
      exact ⟨(congrArg Ring.mode hcore :), (congrArg Ring.manager hcore :)⟩

/-- What a node's mode and manager are after an ANNOUNCE of another node. -/
def announced (s : State) (src : BitVec 12) (u : State) : Prop :=
  match s.ring.mode with
  | .worker => u.ring.mode = .worker ∧ u.ring.manager = src
  | .active =>
    if src < s.ring.nodeId then u.ring.mode = .standby ∧ u.ring.manager = src
    else u.ring.mode = .active ∧ u.ring.manager = s.ring.manager
  | .standby => u.ring.mode = .standby ∧ u.ring.manager = (if src < s.ring.nodeId then src else s.ring.manager)

theorem announceRx_announces {p : PortId} {f : Frame} {s : State} (hp : (portAt s p).st ≠ .down) (hf : isMgr s f 0x01 true = true)
    (hme : fromMe s f = false) : announced s f.src (announceRx p f s) := by
  have hin := passes_hierIn (p := p) (f := f) (n := 0) (s := s)
  unfold announceRx
  rw [if_neg (by simp [receives, hp, hf])]
  dsimp only
  rw [if_neg (by simp [hme])]
  generalize hierIn p f 0 s = s1 at hin
  obtain ⟨r, rfl, hcore, -⟩ := hin
  have hmode : r.mode = s.ring.mode := (congrArg Ring.mode hcore :)
  have hman : r.manager = s.ring.manager := (congrArg Ring.manager hcore :)
  unfold announced
  cases hm : s.ring.mode with
  | worker =>
    dsimp only
    rw [takeManager_ring.1, takeManager_ring.2]
    exact ⟨hmode.trans hm, rfl⟩
  | active =>
    dsimp only
    split
    · obtain ⟨e, r', hr', hcore', -⟩ := post_eq (c := 0x55) (i := f.src.toNat) (d := 2)
        (s := { s with ring := { r with mode := .standby, manager := f.src, lowerTick := s.clk.ticks, helloDue := true } })
      rw [hr']
      exact ⟨(congrArg Ring.mode hcore' :), (congrArg Ring.manager hcore' :)⟩
    · exact ⟨hmode.trans hm, hman⟩
  | standby =>
    dsimp only
    split
    · rw [takeManager_ring.1, takeManager_ring.2]
      exact ⟨hmode.trans hm, rfl⟩
    · exact ⟨hmode.trans hm, hman⟩

/-- A manager that stood by becomes ACTIVE. -/
theorem standbyTimeout_of_alone {s : State} (h : s.ring.mode = .standby ∧ 37500000 ≤ s.clk.ticks - s.ring.lowerTick) :
    (standbyTimeout s).ring.mode = .active ∧ (standbyTimeout s).ring.manager = s.ring.nodeId := by
  unfold standbyTimeout
  rw [if_pos (by exact h)]
  obtain ⟨e, r, hr, hcore, -⟩ := post_eq (c := 0x55) (i := s.ring.nodeId.toNat) (d := 1)
    (s := { s with ring := { s.ring with mode := .active, manager := s.ring.nodeId, annTick := none } })
  rw [hr]
  exact ⟨(congrArg Ring.mode hcore :), (congrArg Ring.manager hcore :)⟩

/-! ### HELLO and the table -/

/-- The unique identifier's bytes, least significant first. -/
theorem uidBytes_eq : uidBytes = (List.range 16).map (fun k => Config.uid.extractLsb' (8 * k) 8) := by
  unfold uidBytes bytesLE
  rfl

theorem helloTx_of_due {s : State} (hm : s.ring.mode ≠ .active) (hk : s.ring.manager ≠ 0xFFF) (ho : mayOriginate s = true)
    (hd : s.ring.helloDue = true ∨ tickDue s s.ring.helloTick 1250000000 = true) :
    let u := helloTx s
    Sends (hierFrame s 0x08 0x81 s.ring.manager.toNat (variantCode s) uidBytes) s.ring u.ring ∧
      u.ring.helloDue = false ∧ u.ring.helloTick = some s.clk.ticks := by
  have hsend := passes_sendPlain (t := hierFrame s 0x08 0x81 s.ring.manager.toNat (variantCode s) uidBytes)
    (s := { s with ring := { s.ring with helloDue := false, helloTick := some s.clk.ticks } })
  have hsent := sends_sendPlain (t := hierFrame s 0x08 0x81 s.ring.manager.toNat (variantCode s) uidBytes)
    (s := { s with ring := { s.ring with helloDue := false, helloTick := some s.clk.ticks } })
  unfold helloTx
  rw [if_neg (by
    rintro (h | h | h | ⟨h, h'⟩)
    · exact hm h
    · exact hk h
    · simp [ho] at h
    · rcases hd with hd | hd
      · simp [hd] at h
      · simp [hd] at h')]
  generalize sendPlain _ _ = s1 at *
  obtain ⟨r, rfl, hcore, -⟩ := hsend
  exact ⟨hsent, (congrArg Ring.helloDue hcore :), (congrArg Ring.helloTick hcore :)⟩

/-- The table of workers after a HELLO of a node. -/
def helloTable (s : State) (src : BitVec 12) : List (Option Worker) :=
  match slotOf s src, s.ring.workers.findIdx? (·.isNone) with
  | some k, _ => upd s.ring.workers k (fun w => w.map (fun x => { x with heardTick := s.clk.ticks }))
  | none, some k => upd s.ring.workers k (fun _ => some (newWorker s src))
  | none, none => s.ring.workers

theorem helloRx_workers {p : PortId} {f : Frame} {s : State} (hp : (portAt s p).st ≠ .down) (hf : isWkr s f 0x81 = true)
    (hm : s.ring.mode = .active) : (helloRx p f s).ring.workers = helloTable s f.src := by
  have hin := passes_hierIn (p := p) (f := f) (n := 0) (s := s)
  unfold helloRx
  rw [if_neg (by simp [receives, hp, hf])]
  dsimp only
  rw [if_neg (by simp [hm])]
  generalize hierIn p f 0 s = s1 at hin
  obtain ⟨r, rfl, hcore, -⟩ := hin
  have hworkers : r.workers = s.ring.workers := (congrArg Ring.workers hcore :)
  unfold helloTable
  cases slotOf s f.src with
  | some k =>
    show upd r.workers k _ = _
    rw [hworkers]
  | none =>
    cases s.ring.workers.findIdx? (·.isNone) with
    | some k =>
      obtain ⟨e, r', hr', hcore', -⟩ := post_eq (c := 0x56) (i := f.src.toNat) (d := 0)
        (s := { s with ring := { r with workers := upd r.workers k (fun _ => some (newWorker s f.src)) } })
      dsimp only
      rw [hr']
      exact (congrArg Ring.workers hcore' :).trans (congrArg (fun x => upd x k fun _ => some (newWorker s f.src)) hworkers)
    | none =>
      obtain ⟨e, r', hr', hcore', -⟩ := post_eq (c := 0x56) (i := f.src.toNat) (d := 1) (s := { s with ring := r })
      dsimp only
      rw [hr']
      exact (congrArg Ring.workers hcore' :).trans hworkers

theorem slotExpire_of_silent {k : Nat} {w : Worker} {s : State} (hw : workerAt s k = some w)
    (h : 3750000000 ≤ s.clk.ticks - w.heardTick) : (slotExpire k s).ring.workers = upd s.ring.workers k (fun _ => none) := by
  obtain ⟨e, r, hr, hcore, -⟩ := post_eq (c := 0x56) (i := w.id.toNat) (d := 2)
    (s := { s with ring := { s.ring with workers := upd s.ring.workers k (fun _ => none) } })
  unfold slotExpire
  rw [hw]
  dsimp only
  rw [if_pos h, hr]
  exact (congrArg Ring.workers hcore :)

theorem slotExpire_of_heard {k : Nat} {w : Worker} {s : State} (hw : workerAt s k = some w)
    (h : s.clk.ticks - w.heardTick < 3750000000) : slotExpire k s = s := by
  unfold slotExpire
  rw [hw]
  exact if_neg (by omega)

/-- Settles O51: the frames sent are those of announceTx_of_due and helloTx_of_due, the modes and the table those of the lemmas on each
arrival and limit. -/
theorem managerAndWorkers : Obligations.ManagerAndWorkers := by
  intro s h
  have hr := running_of_upAnd h
  refine ⟨fun hm ho ht => ?_, fun hm => ?_, fun p f hp hty hvc hsub hdst hme => ?_, ⟨fun ha => ?_, fun ha => ?_⟩, fun hm hk ho hd => ?_,
    fun p f hp hf hm => ?_, fun k w hw => ⟨fun hs => ?_, fun hs => ?_⟩⟩
  · obtain ⟨⟨s', hs'⟩, halarms, hseq, htick, hmode⟩ := announceTx_of_due hm ho ht
    refine effects_of_act exec_announceTx hr ⟨?_, fun e he => ?_, hseq, htick, hmode⟩
    · exact sends_hierFrame (by decide) (by decide) (by decide) (by have := s.ring.annSeq.isLt; omega) hs'
    · obtain ⟨s'', hs''⟩ := halarms e he
      rw [← alarmWord_eq]
      exact sends_hierFrame (by decide) (by decide) (by decide) alarmWord_lt hs''
  · exact next_of_act_same hr exec_announceTx (announceTx_of_not_active hm)
  · exact effects_of_act exec_announceRx hr (announceRx_announces hp (by simp [isMgr, hty, hvc, hsub, hdst, isBcast]) hme)
  · exact effects_of_act exec_mgrStandbyTimeout hr (standbyTimeout_of_alone ha)
  · exact next_of_act_same hr exec_mgrStandbyTimeout (by rw [standbyTimeout, if_neg (by exact ha)])
  · obtain ⟨hsent, hdue, htick⟩ := helloTx_of_due hm hk ho hd
    refine effects_of_act exec_helloTx hr ⟨?_, hdue, htick⟩
    rw [← uidBytes_eq]
    exact sends_hierFrame (by decide) (by decide) s.ring.manager.isLt (by split <;> decide) hsent
  · have hworkers := helloRx_workers hp hf hm
    refine effects_of_act exec_helloRx hr ?_
    rw [hworkers, helloTable]
    cases slotOf s f.src with
    | some k => exact rfl
    | none =>
      cases s.ring.workers.findIdx? (·.isNone) with
      | some k => exact rfl
      | none => exact rfl
  · exact effects_of_act exec_workerSlotExpire hr (slotExpire_of_silent hw hs)
  · exact next_of_act_same hr exec_workerSlotExpire (slotExpire_of_heard hw hs)

end Sys2Proof.Machine

/-! PROOFS. Peer contributions, gathering, and the alarms of a fabric (R113, R268 to R270). -/

namespace Sys2Proof.Machine

/-! ### Workers and queues -/

theorem workerAt_updWorker_self {k : Nat} {f : Worker → Worker} {s : State} : workerAt (updWorker k f s) k = (workerAt s k).map f := by
  unfold workerAt updWorker
  dsimp only
  rw [getElem?_upd_self]
  cases s.ring.workers[k]? with
  | none => rfl
  | some w => rfl

/-- The table of workers rests on the ring's core. -/
theorem workerAt_congr {k : Nat} {s t : State} (h : t.ring.workers = s.ring.workers) : workerAt t k = workerAt s k := by
  rw [workerAt, h, workerAt]

theorem queueOf_updQ_self {q : Nat} {f : DQueue → DQueue} {s : State} : queueOf (updQ q f s) q = (queueOf s q).map f :=
  getElem?_upd_self

/-- A consumer that begins to wait stands last. -/
theorem queueOf_addWaiter {q : Nat} {w : Waiter} {d : DQueue} {s : State} (h : queueOf s q = some d) :
    ∃ x, queueOf (addWaiter q w s) q = some x ∧ x.waits = d.waits ++ [w] := by
  have hb : ∀ t, queueOf (bumpOrd t) q = queueOf t q := fun _ => rfl
  rw [addWaiter, hb, syncQ, queueOf_updQ_self, queueOf_updQ_self, h]
  exact ⟨_, rfl, rfl⟩

/-! ### Contributions -/

theorem peerTx_of_due {k : Nat} {w : Worker} {d : DQueue} {s : State} (hw : workerAt s k = some w) (hm : s.ring.mode = .active)
    (ho : mayOriginate s = true) (hen : s.ring.peerEn = true) (hh : halted s = false) (hdue : slotDue s 12500000 k w.peerTick = true)
    (hq : queueOf s s.ring.pq.toNat = some d) (hst : d.st = .on) :
    let u := peerTx k s
    (workerAt u k).map (·.peerTick) = some (some s.clk.ticks) ∧
      ∃ x v, queueOf u s.ring.pq.toNat = some x ∧ x.waits = d.waits ++ [v] ∧ v.need = 6 ∧ v.what = .peer k ∧ v.req = coreId := by
  unfold peerTx
  rw [hw]
  dsimp only
  rw [if_neg (by simp [hm, hen, ho, hh, ticks100, hdue])]
  generalize ht : updWorker k (fun x => { x with peerTick := some s.clk.ticks }) s = t
  have hqt : queueOf t s.ring.pq.toNat = some d := by rw [← ht]; exact hq
  rw [if_neg (by rw [hq]; simp [hst])]
  obtain ⟨x, hx, hwaits⟩ := queueOf_addWaiter
    (w := mkWaiter t t.clk.ord coreId 6 (.peer k) t.clk.ord false false s.ring.pq.toNat) hqt
  refine ⟨?_, x, _, hx, hwaits, rfl, rfl, rfl⟩
  have hring : ∀ q v u, (addWaiter q v u).ring = u.ring := fun _ _ _ => rfl
  rw [workerAt_congr (congrArg Ring.workers (hring _ _ _)), ← ht, workerAt_updWorker_self, hw]
  rfl

/-! ### Gathering -/

theorem gatherTx_of_due {k : Nat} {w : Worker} {s : State} (hw : workerAt s k = some w) (hm : s.ring.mode = .active)
    (ho : mayOriginate s = true) (hms : s.ring.gatherMs ≠ 0) (hdue : slotDue s (s.ring.gatherMs.toNat * 125000) k w.gatherTick = true) :
    let u := gatherTx k s
    Sends (hierFrame s 0x07 0x03 w.id.toNat u.ring.gatherSeq.toNat []) s.ring u.ring ∧
      (u.ring.gatherSeq = s.ring.gatherSeq ∨ u.ring.gatherSeq = s.ring.gatherSeq + 1) ∧
      (workerAt u k).map (·.gatherTick) = some (some s.clk.ticks) ∧ u.tal = s.tal := by
  unfold gatherTx
  rw [hw]
  dsimp only
  rw [if_neg (by
    rintro (h | h | h | h)
    · exact h hm
    · exact hms h
    · simp [ho] at h
    · simp [hdue] at h)]
  generalize hseq : (if s.ring.workers.any _ = true then s.ring.gatherSeq else s.ring.gatherSeq + 1) = n
  have hn : n = s.ring.gatherSeq ∨ n = s.ring.gatherSeq + 1 := by
    rw [← hseq]
    split
    · exact .inl rfl
    · exact .inr rfl
  generalize ht : updWorker k (fun x => { x with gatherTick := some s.clk.ticks }) { s with ring := { s.ring with gatherSeq := n } } = t
  have htring : Queued s.ring t.ring := by rw [← ht]; exact queued_of_ports rfl rfl
  have htseq : t.ring.gatherSeq = n := by rw [← ht]; rfl
  have httal : t.tal = s.tal := by rw [← ht]; rfl
  have htworker : workerAt t k = (workerAt s k).map (fun x => { x with gatherTick := some s.clk.ticks }) := by
    rw [← ht, workerAt_updWorker_self]
    rfl
  have hsent := sends_sendPlain (t := hierFrame s 0x07 0x03 w.id.toNat n.toNat []) (s := t)
  have hpass := passes_sendPlain (t := hierFrame s 0x07 0x03 w.id.toNat n.toNat []) (s := t)
  generalize sendPlain _ t = u at *
  obtain ⟨r, rfl, hcore, -⟩ := hpass
  have hrseq : r.gatherSeq = n := (congrArg Ring.gatherSeq hcore :).trans htseq
  dsimp only
  rw [hrseq]
  refine ⟨.after_queued htring hsent, hn, ?_, httal⟩
  rw [workerAt_congr (s := t) (congrArg Ring.workers hcore :), htworker, hw]
  rfl

/-! ### Frames from the manager -/

/-- A frame for the node from its manager is taken. -/
theorem fromManager_of_manager {f : Frame} {g : State → State} {s : State} (hm : s.ring.mode ≠ .active) (hs : f.src = s.ring.manager)
    (hf : f.src ≠ 0xFFF) : fromManager f g s = g s := by
  rw [fromManager, if_neg hm, if_pos ⟨hs, hf⟩]

/-- A contribution reaches its peer slot, in a worker. -/
theorem peerRx_lan {p : PortId} {f : Frame} {s : State} (hp : (portAt s p).st ≠ .down) (hf : isMgr s f 0x02 false = true)
    (hm : s.ring.mode ≠ .active) (hs : f.src = s.ring.manager) (hne : f.src ≠ 0xFFF) (hrole : s.pwr.role = false) :
    (peerRx p f s).lan = { s.lan with
      peer := BitVec.ofNat 384 (beNat (padTo 48 (f.payload.take 48))), peerNo := s.lan.peerNo + 1
      peerSlow := some s.clk.slow, peerCnt := s.lan.peerCnt + 1 } := by
  have hin := passes_hierIn (p := p) (f := f) (n := 0) (s := s)
  unfold peerRx
  rw [if_neg (by simp [receives, hp, hf])]
  generalize hierIn p f 0 s = t at hin
  obtain ⟨r, rfl, hcore, -⟩ := hin
  have hmode : r.mode = s.ring.mode := (congrArg Ring.mode hcore :)
  have hman : r.manager = s.ring.manager := (congrArg Ring.manager hcore :)
  rw [fromManager_of_manager (by rw [← hmode] at hm; exact hm) (hs.trans hman.symm) hne, peerStore,
    if_neg (by rw [show State.pwr _ = s.pwr from rfl, hrole]; decide)]

/-! ### Snapshots that a worker sends -/

theorem raiseFatal_hlt {c i : Nat} {s : State} :
    (raiseFatal c i s).hlt = if s.hlt.fatal then s.hlt else
      { s.hlt with fatal := true, fatalCause := BitVec.ofNat 8 c, fatalIdx := BitVec.ofNat 8 i, alarm := true } := by
  unfold raiseFatal
  split
  · rfl
  · rw [post_hlt]

theorem passed_raiseFatal {c i : Nat} {s : State} : Passed s.ring (raiseFatal c i s).ring := by
  unfold raiseFatal
  split
  · exact .refl
  · obtain ⟨e, r, hr, hpass⟩ := post_eq (c := 0x0F) (i := i) (d := c) (s := { s with hlt := { s.hlt with
        fatal := true, fatalCause := BitVec.ofNat 8 c, fatalIdx := BitVec.ofNat 8 i, alarm := true } })
    rw [hr]
    exact hpass

theorem passed_takeSnapshot {s : State} : Passed s.ring (takeSnapshot s).ring := by
  unfold takeSnapshot
  dsimp only
  split
  · exact .refl
  · exact passed_raiseFatal (s := { s with tal := { s.tal with epoch := s.tal.epoch + 1 } })

theorem takeSnapshot_hlt {s : State} :
    (takeSnapshot s).hlt = if booksOk s s.tal.books || s.hlt.fatal then s.hlt else
      { s.hlt with fatal := true, fatalCause := 8, fatalIdx := 2, alarm := true } := by
  unfold takeSnapshot
  cases booksOk s s.tal.books with
  | true => rfl
  | false => exact raiseFatal_hlt

/-- A health summary rests on these blocks and one counter of the ring. -/
theorem healthSummary_congr {s t : State} (hpwr : t.pwr = s.pwr) (hsys : t.sys = s.sys) (hsil : t.sil = s.sil) (hgrn : t.grn = s.grn)
    (hhlt : t.hlt = s.hlt) (hlan : t.lan = s.lan) (hstk : t.stk = s.stk) (hbne : t.bne = s.bne) (htim : t.tim = s.tim)
    (hfails : t.ring.healthFails = s.ring.healthFails) : healthSummary t = healthSummary s := by
  cases s
  cases t
  dsimp only at *
  subst hpwr hsys hsil hgrn hhlt hlan hstk hbne htim
  unfold healthSummary
  dsimp only
  rw [hfails]
  rfl

/-- Frames that passed change nothing of a snapshot's health summary. -/
theorem healthSummary_takeSnapshot_of_passes {s t : State} (h : Passes s t) :
    healthSummary (takeSnapshot t) = healthSummary (takeSnapshot s) := by
  obtain ⟨r, rfl, hcore, -⟩ := h
  have hfails : ∀ u, (takeSnapshot u).ring.healthFails = u.ring.healthFails := fun u =>
    (congrArg Ring.healthFails passed_takeSnapshot.core :)
  refine healthSummary_congr ?_ ?_ ?_ ?_ ?_ ?_ ?_ ?_ ?_ ?_
  · rw [takeSnapshot_pwr, takeSnapshot_pwr]
  · rw [takeSnapshot_sys, takeSnapshot_sys]
  · rw [takeSnapshot_sil, takeSnapshot_sil]
  · rw [takeSnapshot_grn, takeSnapshot_grn]
  · rw [takeSnapshot_hlt, takeSnapshot_hlt]
    rfl
  · rw [takeSnapshot_lan, takeSnapshot_lan]
  · rw [takeSnapshot_stk, takeSnapshot_stk]
  · rw [takeSnapshot_bne, takeSnapshot_bne]
  · rw [takeSnapshot_tim, takeSnapshot_tim]
  · rw [hfails, hfails]
    exact (congrArg Ring.healthFails hcore :)

/-- Two frames that are sent one after the other both wait. -/
theorem sends_both {x y : TxFrame} {s : State} :
    let u := sendPlain y (sendPlain x s)
    Sends x s.ring u.ring ∧ Sends y s.ring u.ring ∧ Passes s u :=
  ⟨sends_sendPlain.then_queued passed_sendPlain.queued, .after_queued passed_sendPlain.queued sends_sendPlain,
    passes_sendPlain.trans passes_sendPlain⟩

theorem gatherReply_replies {n : Nat} {s : State} :
    let u := gatherReply n s
    Sends (hierFrame (takeSnapshot s) 0x08 0x82 s.ring.manager.toNat n (wordsToBytes (snapRecord s (s.tal.epoch + 1)))) s.ring u.ring ∧
      Sends (hierFrame (takeSnapshot s) 0x08 0x83 s.ring.manager.toNat n (wordsToBytes (healthSummary (takeSnapshot s)))) s.ring u.ring ∧
      u.tal.epoch = s.tal.epoch + 1 ∧ u.ring.healthFails = 0 := by
  have hsnap := passed_takeSnapshot (s := s)
  have hepoch : (takeSnapshot s).tal.epoch = s.tal.epoch + 1 := congrArg Tal.epoch takeSnapshot_tal
  unfold gatherReply
  dsimp only
  rw [hepoch]
  generalize takeSnapshot s = t at *
  have hq : Queued s.ring { t.ring with healthFails := 0 } := hsnap.queued.trans (queued_of_ports rfl rfl)
  obtain ⟨htally, hsum, r, hr, hcore, -⟩ := sends_both
    (x := hierFrame t 0x08 0x82 s.ring.manager.toNat n (wordsToBytes (snapRecord s (s.tal.epoch + 1))))
    (y := hierFrame t 0x08 0x83 s.ring.manager.toNat n (wordsToBytes (healthSummary t)))
    (s := { t with ring := { t.ring with healthFails := 0 } })
  refine ⟨.after_queued hq htally, .after_queued hq hsum, ?_, ?_⟩
  · exact (congrArg (fun u => u.tal.epoch) hr).trans hepoch
  · exact (congrArg (fun u => u.ring.healthFails) hr).trans (congrArg Ring.healthFails hcore :)

/-- A worker answers GATHER with both reports of a snapshot. -/
theorem gatherRx_replies {p : PortId} {f : Frame} {s : State} (hp : (portAt s p).st ≠ .down) (hf : isMgr s f 0x03 false = true)
    (hm : s.ring.mode ≠ .active) (hs : f.src = s.ring.manager) (hne : f.src ≠ 0xFFF) :
    let u := gatherRx p f s
    (∃ s', Sends (hierFrame s' 0x08 0x82 s.ring.manager.toNat (fldW f.h2 0 32) (wordsToBytes (snapRecord s (s.tal.epoch + 1))))
      s.ring u.ring) ∧
    (∃ s', Sends (hierFrame s' 0x08 0x83 s.ring.manager.toNat (fldW f.h2 0 32) (wordsToBytes (healthSummary (takeSnapshot s))))
      s.ring u.ring) ∧
    u.tal.epoch = s.tal.epoch + 1 ∧ u.ring.healthFails = 0 := by
  have hin := passes_hierIn (p := p) (f := f) (n := 0) (s := s)
  have hhealth := healthSummary_takeSnapshot_of_passes hin
  unfold gatherRx
  rw [if_neg (by simp [receives, hp, hf])]
  generalize hierIn p f 0 s = t at *
  obtain ⟨r, rfl, hcore, hq⟩ := hin
  have hmode : r.mode = s.ring.mode := (congrArg Ring.mode hcore :)
  have hman : r.manager = s.ring.manager := (congrArg Ring.manager hcore :)
  rw [fromManager_of_manager (by rw [← hmode] at hm; exact hm) (hs.trans hman.symm) hne]
  obtain ⟨htally, hsum, hepoch, hfails⟩ := gatherReply_replies (n := fldW f.h2 0 32) (s := { s with ring := r })
  rw [hhealth] at hsum
  rw [show ({ s with ring := r } : State).ring.manager = s.ring.manager from hman] at htally hsum
  exact ⟨⟨_, .after_queued hq htally⟩, ⟨_, .after_queued hq hsum⟩, hepoch, hfails⟩

/-! ### Reports -/

theorem reportRx_worker {p : PortId} {f : Frame} {health : Bool} {k : Nat} {w : Worker} {s : State} (hp : (portAt s p).st ≠ .down)
    (hf : isWkr s f (if health then 0x83 else 0x82) = true) (hm : s.ring.mode = .active) (hk : slotOf s f.src = some k)
    (hw : workerAt s k = some w) :
    (workerAt (reportRx p f health s) k).map (fun x => (x.tally, x.health, x.reportSlow)) =
      some (if health then w.tally else some (bytesToWords f.payload), if health then some (bytesToWords f.payload) else w.health,
        some s.clk.slow) := by
  have hin := passes_hierIn (p := p) (f := f) (n := 0) (s := s)
  unfold reportRx
  rw [if_neg (by simp [receives, hp, hf]), hk]
  dsimp only
  rw [if_neg (by simp [hm])]
  generalize hierIn p f 0 s = t at hin
  obtain ⟨r, rfl, hcore, -⟩ := hin
  rw [workerAt_updWorker_self, workerAt_congr (s := s) (congrArg Ring.workers hcore :), hw]
  rfl

theorem post_evt_seq {c i d : Nat} {s : State} :
    (post c i d s).evt.seq = if eventEnabled s.evt c then s.evt.seq + 1 else s.evt.seq := by
  unfold post postEvent evtStore
  dsimp only
  split
  · split <;> rfl
  · rfl

theorem gatherStale_of_stale {k : Nat} {w : Worker} {s : State} (hw : workerAt s k = some w) (hs : isStale s w = true)
    (ht : w.staleTold = false) :
    (workerAt (gatherStale k s) k).map (·.staleTold) = some true ∧
      (gatherStale k s).evt.seq = if eventEnabled s.evt 0x5A then s.evt.seq + 1 else s.evt.seq := by
  unfold gatherStale
  rw [hw]
  dsimp only
  rw [if_pos (by simp [hs, ht]), post_evt_seq]
  refine ⟨?_, rfl⟩
  obtain ⟨e, r, hr, hcore, -⟩ := post_eq (c := 0x5A) (i := w.id.toNat) (d := k) (s := updWorker k (fun x => { x with staleTold := true }) s)
  rw [hr, workerAt_congr (s := updWorker k (fun x => { x with staleTold := true }) s) (congrArg Ring.workers hcore :),
    workerAt_updWorker_self, hw]
  rfl

theorem gatherStale_of_not_stale {k : Nat} {w : Worker} {s : State} (hw : workerAt s k = some w)
    (h : isStale s w = false ∨ w.staleTold = true) : gatherStale k s = s := by
  unfold gatherStale
  rw [hw]
  dsimp only
  rw [if_neg (by rcases h with h | h <;> simp [h])]

/-! ### Alarms -/

/-- The low 16 bits of a word are two bytes. -/
theorem fldW_low16 {w : Word} : fldW w 0 16 = (w.extractLsb' 8 8).toNat * 2 ^ 8 + (w.extractLsb' 0 8).toNat := by
  simp only [fldW, BitVec.extractLsb'_toNat, Nat.shiftRight_eq_div_pow]
  omega

theorem raiseFabric_tells {o : BitVec 12} {c i : BitVec 8} {s : State} :
    let u := raiseFabric o c i s
    (∃ s', Sends (hierFrame s' 0x07 0x04 0xFFF (alarmWord o c i) []) s.ring u.ring) ∧
      u.ring.faRepeat = s.ring.faRepeat.filter (fun e => decide (e.1 ≠ o)) ++ [(o, c, i, 10)] ∧ u.hlt = s.hlt :=
  ⟨⟨_, .after_queued (queued_of_ports rfl rfl) sends_sendPlain⟩, (congrArg Ring.faRepeat passed_sendPlain.core :), rfl⟩

theorem alarmRx_tells {p : PortId} {f : Frame} {s : State} (hp : (portAt s p).st ≠ .down) (hf : isWkr s f 0x84 = true)
    (hm : s.ring.mode = .active) :
    let u := alarmRx p f s
    (∃ s', Sends (hierFrame s' 0x07 0x04 0xFFF (alarmWord f.src (f.h2.extractLsb' 8 8) (f.h2.extractLsb' 0 8)) []) s.ring u.ring) ∧
      u.ring.faRepeat = s.ring.faRepeat.filter (fun e => decide (e.1 ≠ f.src)) ++
        [(f.src, f.h2.extractLsb' 8 8, f.h2.extractLsb' 0 8, 10)] ∧ u.hlt = s.hlt := by
  have hin := passes_hierIn (p := p) (f := f) (n := 0) (s := s)
  unfold alarmRx
  rw [if_neg (by simp [receives, hp, hf])]
  dsimp only
  rw [if_pos hm]
  generalize hierIn p f 0 s = t at hin
  obtain ⟨r, rfl, hcore, hq⟩ := hin
  obtain ⟨⟨s', hsent⟩, hlist, hhlt⟩ := raiseFabric_tells (o := f.src) (c := f.h2.extractLsb' 8 8) (i := f.h2.extractLsb' 0 8)
    (s := { s with ring := r })
  have hrepeat : r.faRepeat = s.ring.faRepeat := (congrArg Ring.faRepeat hcore :)
  exact ⟨⟨s', .after_queued hq hsent⟩, by rw [hlist, ← hrepeat], hhlt⟩

/-- What is recorded of a fabric alarm of an origin that none was recorded of. -/
theorem recordFabric_of_new {f : Frame} {s : State} (h : s.ring.faOrigins.contains (f.h2.extractLsb' 36 12) = false) :
    let u := recordFabric f s
    u.ring.faValid = true ∧ u.ring.faOrigin = f.h2.extractLsb' 36 12 ∧ u.ring.faCause = f.h2.extractLsb' 8 8 ∧
      u.ring.faIndex = f.h2.extractLsb' 0 8 ∧ u.ring.faCount = (if s.ring.faCount = 7 then 7 else s.ring.faCount + 1) ∧ u.hlt = s.hlt := by
  unfold recordFabric
  dsimp only
  rw [if_neg (by rw [h]; decide)]
  generalize ht : { s with ring := { s.ring with faValid := true, faCount := _, faOrigins := _, faOrigin := _, faCause := _, faIndex := _ } } = t
  obtain ⟨e, r, hr, hcore, -⟩ := post_eq (c := 0x57) (i := (f.h2.extractLsb' 36 12 : BitVec 12).toNat)
    (d := (f.h2.extractLsb' 8 8 : BitVec 8).toNat <<< 8 + (f.h2.extractLsb' 0 8 : BitVec 8).toNat) (s := t)
  rw [hr]
  subst ht
  exact ⟨(congrArg Ring.faValid hcore :), (congrArg Ring.faOrigin hcore :), (congrArg Ring.faCause hcore :),
    (congrArg Ring.faIndex hcore :), (congrArg Ring.faCount hcore :), rfl⟩

/-- A FABRIC_ALARM that the node's manager sent, or that an ACTIVE manager hears, is recorded. -/
theorem fabricAlarmRx_records {p : PortId} {f : Frame} {s : State} (hp : (portAt s p).st ≠ .down) (hf : isMgr s f 0x04 true = true)
    (hme : fromMe s f = false) (hm : s.ring.mode = .active ∨ (f.src = s.ring.manager ∧ f.src ≠ 0xFFF)) :
    ∃ t, Passes s t ∧ fabricAlarmRx p f s = recordFabric f t := by
  have hin := passes_hierIn (p := p) (f := f) (n := 0) (s := s)
  refine ⟨_, hin, ?_⟩
  unfold fabricAlarmRx
  rw [if_neg (by simp [receives, hp, hf])]
  dsimp only
  rw [if_neg (by simp [hme])]
  split
  next => rfl
  next hna =>
    generalize hierIn p f 0 s = t at hin
    obtain ⟨r, rfl, hcore, -⟩ := hin
    have hmode : r.mode = s.ring.mode := (congrArg Ring.mode hcore :)
    have hman : r.manager = s.ring.manager := (congrArg Ring.manager hcore :)
    obtain ⟨hs, hne⟩ := hm.resolve_left hna
    exact fromManager_of_manager (by rw [← hmode] at hna; exact hna) (hs.trans hman.symm) hne

/-- Settles O52: each clause is the lemma on its transmission, arrival or limit. -/
theorem peersGatheringAndAlarms : Obligations.PeersGatheringAndAlarms := by
  intro s h
  have hr := running_of_upAnd h
  refine ⟨fun k w hw hm ho => ⟨fun hen hh hdue d hq hst => ?_, fun hms hdue => ?_⟩, fun p f hp hty hvc hme hm hs hne => ⟨fun hsub hrole => ?_,
    fun hsub => ?_⟩, fun p f k w hp hm hk hw => ⟨fun hf => ?_, fun hf => ?_⟩, fun k w hw => ⟨fun hs ht => ?_, fun hs => ?_⟩,
    fun p f hp hf hm => ?_, fun p f hp hty hvc hsub hdst hme hm hnew => ?_⟩
  · exact effects_of_act exec_peerTx hr (peerTx_of_due hw hm ho hen hh hdue hq hst)
  · obtain ⟨hsent, hseq, htick, htal⟩ := gatherTx_of_due hw hm ho hms hdue
    have hbound := (gatherTx k s).ring.gatherSeq.isLt
    exact effects_of_act exec_gatherTx hr
      ⟨sends_hierFrame (by decide) (by decide) w.id.isLt (by omega) hsent, hseq, htick, htal⟩
  · exact effects_of_act exec_peerRx hr (peerRx_lan hp (by simp [isMgr, hty, hvc, hsub, hme]) hm hs hne hrole)
  · obtain ⟨⟨s1, hs1⟩, ⟨s2, hs2⟩, hepoch, hfails⟩ := gatherRx_replies hp (by simp [isMgr, hty, hvc, hsub, hme]) hm hs hne
    have hbound : fldW f.h2 0 32 < 2 ^ 32 := Nat.mod_lt _ (by decide)
    exact effects_of_act exec_gatherRx hr
      ⟨sends_hierFrame (by decide) (by decide) s.ring.manager.isLt (by omega) hs1,
        sends_hierFrame (by decide) (by decide) s.ring.manager.isLt (by omega) hs2, hepoch, hfails⟩
  · exact effects_of_act exec_reportTallyRx hr (reportRx_worker (health := false) hp hf hm hk hw)
  · exact effects_of_act exec_reportHealthRx hr (reportRx_worker (health := true) hp hf hm hk hw)
  · exact effects_of_act exec_gatherStale hr (gatherStale_of_stale hw hs ht)
  · exact next_of_act_same hr exec_gatherStale (gatherStale_of_not_stale hw hs)
  · obtain ⟨⟨s', hsent⟩, hlist, hhlt⟩ := alarmRx_tells hp hf hm
    refine effects_of_act exec_alarmRx hr ⟨?_, hlist, hhlt⟩
    rw [fldW_low16, ← Nat.add_assoc, ← alarmWord_eq]
    exact sends_hierFrame (by decide) (by decide) (by decide) alarmWord_lt hsent
  · obtain ⟨t, ⟨r, rfl, hcore, -⟩, he⟩ := fabricAlarmRx_records hp (by simp [isMgr, hty, hvc, hsub, hdst, isBcast]) hme hm
    have horigins : r.faOrigins = s.ring.faOrigins := (congrArg Ring.faOrigins hcore :)
    have hcount : r.faCount = s.ring.faCount := (congrArg Ring.faCount hcore :)
    refine effects_of_act exec_fabricAlarmRx hr ?_
    rw [he, ← hcount]
    exact recordFabric_of_new (s := { s with ring := r }) (by rw [← horigins] at hnew; exact hnew)

end Sys2Proof.Machine

/-! PROOFS. A view of all that the waits on queues, the words of jobs and their writes leave alone. -/

namespace Sys2Proof.Machine

/-! ### The view -/

/-- A job without its words and its writes. -/
def jobFace (j : Job) : Job :=
  { j with
    grants := [], regrants := [], made := 0, out := [], reout := [], writes := [], rewrites := [], first := none, waitSlow := 0
    waitTick := 0 }

/-- The books without what becomes of words that are not delivered. -/
def booksFace (b : Books) : Books :=
  { b with
    resident := 0, inflight := 0, kerf := 0, wkAge := 0, wkFlush := 0, wkFault := 0, wkFailover := 0, wkReject := 0, wkHalt := 0 }

/-- The ring without the frames that pass through its ports, and the numbers that they take. -/
def wires (r : Ring) : Ring :=
  { ringCore r with
    pa := { portCore r.pa with heldKeys := [] }, pb := { portCore r.pb with heldKeys := [] }, txn := 0 }

/-- No events. -/
def noEvents : Evt :=
  { queue := [], seq := 0, lost := false, lostCnt := 0, irqEn := false, ringEn := false, ringNode := 0, thresh := 0, mask := [] }

/-- The node without the words of its queues and jobs, the order and free counters, the consumers that wait on lanes, the events, and the
frames that pass. -/
def outer (s : State) : State :=
  { s with
    clk := { s.clk with ord := 0, free := 0 }
    tal := { s.tal with books := booksFace s.tal.books }
    lan := { s.lan with lanes := s.lan.lanes.map laneCore }
    stk := { s.stk with queues := [], array := [] }
    job := { s.job with jobs := s.job.jobs.map jobFace }
    evt := noEvents
    ring := wires s.ring }

theorem wires_of_ringCore {r r' : Ring} (h : ringCore r' = ringCore r) : wires r' = wires r := by
  have ha : portCore r'.pa = portCore r.pa := congrArg Ring.pa h
  have hb : portCore r'.pb = portCore r.pb := congrArg Ring.pb h
  unfold wires
  rw [h, ha, hb]

@[simp] theorem wires_sendTx {t : TxFrame} {r : Ring} : wires (sendTx t r) = wires r := wires_of_ringCore passed_sendTx.core

theorem outer_of_passes {s t : State} (h : Passes s t) : outer t = outer s := by
  obtain ⟨r, rfl, hcore, -⟩ := h
  unfold outer
  dsimp only
  rw [wires_of_ringCore hcore]

/-! ### Conditions, loops and entries -/

@[simp] theorem outer_ite {c : Prop} [Decidable c] (a b : State) : outer (if c then a else b) = if c then outer a else outer b :=
  apply_ite outer c a b

@[simp] theorem outer_onlyIf {c : Bool} {f : State → State} {s : State} (h : ∀ u, outer (f u) = outer u) :
    outer (onlyIf c f s) = outer s := by
  cases c
  · rfl
  · exact h s

@[simp] theorem outer_foldl {α : Type} {g : State → α → State} {l : List α} {s : State} (h : ∀ u x, outer (g u x) = outer u) :
    outer (l.foldl g s) = outer s := by
  induction l generalizing s with
  | nil => rfl
  | cons x l ih => exact ih.trans (h s x)

theorem outer_updLane_at {n : Nat} {f : Lane → Lane} {s : State} (h : ∀ l, laneOf s n = some l → laneCore (f l) = laneCore l) :
    outer (updLane n f s) = outer s := by
  simp [outer, updLane, map_upd_at h]

@[simp] theorem outer_updLane {n : Nat} {f : Lane → Lane} {s : State} (h : ∀ l, laneCore (f l) = laneCore l) :
    outer (updLane n f s) = outer s := outer_updLane_at fun l _ => h l

theorem outer_mapLanes {f : Lane → Lane} {s : State} (h : ∀ l, laneCore (f l) = laneCore l) :
    outer { s with lan := { s.lan with lanes := s.lan.lanes.map f } } = outer s := by
  simp [outer, h]

/-- A change of jobs that the view does not see. -/
@[simp] theorem outer_updJob {id : Nat} {f : Job → Job} {s : State} (h : ∀ j, jobFace (f j) = jobFace j) :
    outer (updJob id f s) = outer s := by
  have hmap : ∀ j, jobFace (if j.id = id then f j else j) = jobFace j := fun j => by
    split
    · exact h j
    · rfl
  simp [outer, updJob, hmap]

/-! ### Events, queues and words -/

@[simp] theorem outer_bumpOrd {s : State} : outer (bumpOrd s) = outer s := rfl
@[simp] theorem outer_bumpFree {s : State} : outer (bumpFree s) = outer s := rfl

@[simp] theorem outer_post {code idx detail : Nat} {s : State} : outer (post code idx detail s) = outer s := by
  obtain ⟨e, r, hr, hpass⟩ := post_eq (c := code) (i := idx) (d := detail) (s := s)
  rw [hr]
  unfold outer
  dsimp only
  rw [wires_of_ringCore hpass.core]

theorem outer_queues {l : List DQueue} {s : State} : outer { s with stk := { s.stk with queues := l } } = outer s := rfl

@[simp] theorem outer_updQ {q : Nat} {f : DQueue → DQueue} {s : State} : outer (updQ q f s) = outer s := rfl
@[simp] theorem outer_countQKerf {q n : Nat} {s : State} : outer (countQKerf q n s) = outer s := rfl
@[simp] theorem outer_arrayWrite {a : Nat} {w : Word} {s : State} : outer (arrayWrite a w s) = outer s := rfl
@[simp] theorem outer_updWait {q key : Nat} {f : Waiter → Waiter} {s : State} : outer (updWait q key f s) = outer s := rfl
@[simp] theorem outer_syncQ {q : Nat} {s : State} : outer (syncQ q s) = outer s := rfl
@[simp] theorem outer_syncAll {s : State} : outer (syncAll s) = outer s := outer_foldl fun _ _ => outer_syncQ

@[simp] theorem outer_addWaiter {q : Nat} {w : Waiter} {s : State} : outer (addWaiter q w s) = outer s := rfl
@[simp] theorem outer_dropWaiter {q key : Nat} {s : State} : outer (dropWaiter q key s) = outer s := rfl

@[simp] theorem outer_watermarkEvent {q : Nat} {high : Bool} {s : State} : outer (watermarkEvent q high s) = outer s := by
  unfold watermarkEvent
  split <;> simp

@[simp] theorem outer_relevel {q : Nat} {f : DQueue → DQueue} {s : State} : outer (relevel q f s) = outer s := by
  unfold relevel
  split <;> simp

@[simp] theorem outer_finishSlots {refs : List (Nat × Nat)} {s : State} : outer (finishSlots refs s) = outer s := by
  simp [finishSlots]

@[simp] theorem outer_bkKerf {why : WordKerf} {stack : Bool} {n : Nat} {s : State} :
    outer (updBooks (bkKerf why stack n) s) = outer s := rfl

@[simp] theorem outer_toFlight {refs : List (Nat × Nat)} {s : State} : outer (toFlight refs s) = outer s :=
  (outer_foldl fun _ _ => outer_relevel).trans rfl

@[simp] theorem outer_kerfFlight {why : WordKerf} {refs : List (Nat × Nat)} {n : Nat} {s : State} :
    outer (kerfFlight why refs n s) = outer s := by
  simp [kerfFlight]

@[simp] theorem outer_kerfStack {why : WordKerf} {refs : List (Nat × Nat)} {s : State} : outer (kerfStack why refs s) = outer s := by
  simp [kerfStack]

@[simp] theorem outer_kerfWords {why : WordKerf} {ws : List AWord} {s : State} : outer (kerfWords why ws s) = outer s := by
  simp [kerfWords]

@[simp] theorem outer_kerfQueue {q : Nat} {why : WordKerf} {p : DQueue → QEntry → Bool} {s : State} :
    outer (kerfQueue q why p s) = outer s := by
  unfold kerfQueue
  split <;> simp

@[simp] theorem outer_putBack {q : Nat} {v : AWord} {s : State} : outer (putBack q v s) = outer s := by
  unfold putBack
  split <;> simp

@[simp] theorem outer_releaseAllot {q key : Nat} {s : State} : outer (releaseAllot q key s) = outer s := by
  unfold releaseAllot
  split <;> simp

/-! ### Consumers that wait on lanes -/

/-- A lane that produces words and stops for a seed looks the same. -/
theorem outer_raiseRequest_wait {n : Nat} {l : Lane} {s : State} (hl : laneOf s n = some l) (hst : l.st = .run ∨ l.st = .stretch) :
    outer (raiseRequest n (updLane n (fun x => { x with st := .wait }) s)) = outer s := by
  unfold raiseRequest
  rw [outer_bumpOrd, updLane_updLane]
  refine outer_updLane_at fun x hx => ?_
  obtain rfl : x = l := Option.some.inj (hx.symm.trans hl)
  rcases hst with h | h <;> simp [laneCore, h]

@[simp] theorem outer_laneWait {n : Nat} {s : State} : outer (laneWait n s) = outer s := by
  unfold laneWait
  split
  · rfl
  next l hl =>
    split
    next h => exact outer_raiseRequest_wait hl h.1
    · rfl

@[simp] theorem outer_prAdd {n : Nat} {p : PrReq} {s : State} : outer (prAdd n p s) = outer s := by
  unfold prAdd
  split
  · rfl
  · exact (outer_onlyIf fun _ => outer_laneWait).trans (outer_updLane fun l => by cases hst : l.st <;> simp [laneCore, hst])

@[simp] theorem outer_prPlace {q key accepted : Nat} {s : State} : outer (prPlace q key accepted s) = outer s := by
  unfold prPlace
  (repeat' split) <;> simp

@[simp] theorem outer_prDrop {key : Nat} {s : State} : outer (prDrop key s) = outer s := by
  refine (outer_foldl fun u n => ?_).trans (outer_mapLanes fun l => rfl)
  split <;> simp

@[simp] theorem outer_dropWaits {id : Nat} {s : State} : outer (dropWaits id s) = outer s := by
  rw [dropWaits, outer_prDrop, outer_syncAll]
  exact outer_queues.trans (outer_foldl fun _ _ => outer_releaseAllot)

/-! ### Writes of jobs -/

@[simp] theorem outer_sendRequest {type addr len : Nat} {payload : List Byte} {fbase : BitVec 22} {t : TxFrame} {s : State} :
    outer (sendRequest type addr len payload fbase t s) = outer s := by
  have hring : ∀ f : TxFrame, wires (sendTx f { s.ring with txn := s.ring.txn + 1 }) = wires s.ring := fun f => by
    rw [wires_sendTx]
    rfl
  unfold sendRequest withTxn outer
  dsimp only
  rw [hring]

@[simp] theorem outer_pullUnsent {id : Nat} {beacons : Bool} {s : State} : outer (pullUnsent id beacons s) = outer s := rfl

@[simp] theorem outer_issueWrite {id off : Nat} {bytes : List Byte} {ws : List AWord} {random : Bool} {tag : Option Tag} {s : State} :
    outer (issueWrite id off bytes ws random tag s) = outer s := by
  unfold issueWrite
  split
  · rfl
  · rw [outer_sendRequest, outer_updJob (by intro; rfl)]

@[simp] theorem outer_drawIssue {id fuel : Nat} {s : State} : outer (drawIssue id fuel s) = outer s := by
  fun_induction drawIssue id fuel s
  case case3 ih => exact ih.trans (outer_issueWrite.trans (outer_updJob fun _ => rfl))
  case case4 => exact outer_updJob fun _ => rfl
  case case6 ih => exact ih.trans (outer_issueWrite.trans (outer_updJob fun _ => rfl))
  all_goals rfl

@[simp] theorem outer_resultIssue {id fuel : Nat} {last : Bool} {s : State} : outer (resultIssue id last fuel s) = outer s := by
  fun_induction resultIssue id last fuel s
  case case3 ih => exact ih.trans (outer_issueWrite.trans (outer_updJob fun _ => rfl))
  case case6 ih => exact ih.trans (outer_issueWrite.trans (outer_updJob fun _ => rfl))
  all_goals rfl

@[simp] theorem outer_kerfFrames {why : WordKerf} {l : List TxFrame} {s : State} : outer (kerfFrames why l s) = outer s := by
  refine outer_foldl fun u f => ?_
  split <;> simp

@[simp] theorem outer_dropUnsent {why : WordKerf} {id : Nat} {s : State} : outer (dropUnsent why id s) = outer s := by
  unfold dropUnsent
  split
  · rfl
  · dsimp only
    rw [outer_kerfWords, outer_kerfFrames, outer_pullUnsent, outer_updJob (by intro; rfl)]

@[simp] theorem outer_endWrite {id no : Nat} {st : WState} {s : State} : outer (endWrite id no st s) = outer s :=
  outer_updJob fun _ => rfl

@[simp] theorem outer_endBeacon {id : Nat} {st : WState} {s : State} : outer (endBeacon id st s) = outer s := by
  unfold endBeacon
  split <;> simp

@[simp] theorem outer_takeBack {id : Nat} {s : State} : outer (takeBack id s) = outer s := by
  unfold takeBack
  split
  · rfl
  · dsimp only
    rw [outer_pullUnsent, outer_updJob (by intro; rfl)]

@[simp] theorem outer_resultGo {id : Nat} {s : State} : outer (resultGo id s) = outer s := by
  unfold resultGo
  split <;> simp

@[simp] theorem outer_distEnd {id : Nat} {s : State} : outer (distEnd id s) = outer s := by
  unfold distEnd
  split <;> simp

/-! ### The end of a job -/

/-- A job that stops with a status, as its record and its units show it. -/
def ended (id : Nat) (status : BitVec 8) (s : State) : State :=
  releaseUnits id (updJob id (fun x => { x with
    stop := some status, phase := .ending, read := none, hashing := false, bench := none }) s)

theorem jobOf_outer {s : State} {id : Nat} : jobOf (outer s) id = (jobOf s id).map jobFace := by
  show (s.job.jobs.map jobFace).find? _ = _
  rw [List.find?_map]
  rfl

/-- Jobs that look the same in the view. -/
theorem jobOf_face_congr {s t : State} (h : outer t = outer s) (id : Nat) : (jobOf t id).map jobFace = (jobOf s id).map jobFace := by
  rw [← jobOf_outer, h, jobOf_outer]

theorem wholeClear_outer {s : State} {id : Nat} : wholeClear (outer s) id = wholeClear s id := by
  unfold wholeClear
  rw [jobOf_outer]
  cases jobOf s id <;> rfl

theorem outer_releaseUnits_outer {id : Nat} {s : State} : outer (releaseUnits id (outer s)) = outer (releaseUnits id s) := by
  unfold releaseUnits
  rw [wholeClear_outer]
  have hlane : ∀ l : Lane, laneCore { laneCore l with pieces := (laneCore l).pieces.filter (fun p => decide (p.job ≠ id)) } =
      laneCore { l with pieces := l.pieces.filter (fun p => decide (p.job ≠ id)) } := fun l => laneCore_idem l
  have hface : ∀ j, jobFace (jobFace j) = jobFace j := fun _ => rfl
  simp only [outer, List.map_map, Function.comp_def, hlane, hface]
  rfl

theorem outer_updJob_outer {id : Nat} {f : Job → Job} {s : State} (h : ∀ j, jobFace (f (jobFace j)) = jobFace (f j)) :
    outer (updJob id f (outer s)) = outer (updJob id f s) := by
  have hmap : ∀ j, jobFace (if (jobFace j).id = id then f (jobFace j) else jobFace j) = jobFace (if j.id = id then f j else j) := fun j => by
    show jobFace (if j.id = id then _ else _) = _
    split
    · exact h j
    · rfl
  have hlane : ∀ l : Lane, laneCore (laneCore l) = laneCore l := laneCore_idem
  simp only [outer, updJob, List.map_map, Function.comp_def, hmap, hlane]
  rfl

/-- How a job ends shows in the view as far as the state before shows in it. -/
theorem outer_ended_congr {id : Nat} {status : BitVec 8} {s t : State} (h : outer t = outer s) :
    outer (ended id status t) = outer (ended id status s) := by
  unfold ended
  rw [← outer_releaseUnits_outer, ← outer_updJob_outer (by exact fun _ => rfl), h, outer_updJob_outer (by exact fun _ => rfl),
    outer_releaseUnits_outer]

/-- A job that has not stopped stops: the view shows it ended, and nothing else. -/
theorem outer_stopJob {id : Nat} {status : BitVec 8} {why : Option WordKerf} {s : State} {j : Job} (hj : jobOf s id = some j)
    (hs : j.stop = none) : outer (stopJob id status why s) = outer (ended id status s) := by
  have hbase : outer (releaseUnits id (onlyIf j.qord syncAll (updJob id (fun x => { x with
      stop := some status, phase := .ending, read := none, hashing := false, bench := none }) (dropWaits id s)))) =
      outer (ended id status s) := by
    rw [← outer_releaseUnits_outer, outer_onlyIf fun _ => outer_syncAll, outer_releaseUnits_outer]
    exact outer_ended_congr outer_dropWaits
  unfold stopJob
  rw [hj]
  dsimp only
  rw [if_neg (by simp [hs])]
  split
  · rw [outer_dropUnsent, hbase]
  · split
    · rw [outer_drawIssue, hbase]
    · split
      · split
        · rw [outer_resultIssue, outer_updJob (by intro; rfl), hbase]
        · rw [outer_updJob (by intro; rfl), hbase]
      · exact hbase

/-- A job that is not there, or has stopped, stops no further. -/
theorem stopJob_of_stopped {id : Nat} {status : BitVec 8} {why : Option WordKerf} {s : State}
    (h : ∀ j, jobOf s id = some j → j.stop.isSome = true) : stopJob id status why s = s := by
  unfold stopJob
  split
  · rfl
  next j hj => exact if_pos (h j hj)

theorem jobOf_updJob_self {id : Nat} {f : Job → Job} {s : State} (h : ∀ j, (f j).id = j.id) :
    jobOf (updJob id f s) id = (jobOf s id).map f := by
  show (s.job.jobs.map _).find? _ = (s.job.jobs.find? _).map f
  induction s.job.jobs with
  | nil => rfl
  | cons x l ih => by_cases hx : x.id = id <;> simp [hx, h, ih]

theorem jobOf_updJob_ne {id k : Nat} {f : Job → Job} {s : State} (hk : k ≠ id) (h : ∀ j, (f j).id = j.id) :
    jobOf (updJob id f s) k = jobOf s k := by
  show (s.job.jobs.map _).find? _ = s.job.jobs.find? _
  induction s.job.jobs with
  | nil => rfl
  | cons x l ih =>
    by_cases hx : x.id = id
    · have hne : ¬ id = k := fun he => hk he.symm
      simp [hx, h, ih, hne]
    · by_cases hxk : x.id = k
      · subst hxk
        simp [hx]
      · simp [hx, ih, hxk]

/-- The job that stops, as it then looks. -/
theorem jobOf_stopJob {id : Nat} {status : BitVec 8} {why : Option WordKerf} {s : State} {j : Job} (hj : jobOf s id = some j)
    (hs : j.stop = none) :
    (jobOf (stopJob id status why s) id).map jobFace = some (jobFace { j with
      stop := some status, phase := .ending, read := none, hashing := false, bench := none }) := by
  rw [jobOf_face_congr (outer_stopJob hj hs)]
  have hend : jobOf (ended id status s) id = (jobOf s id).map (fun x => { x with
      stop := some status, phase := .ending, read := none, hashing := false, bench := none }) := jobOf_updJob_self fun _ => rfl
  rw [hend, hj]
  rfl

end Sys2Proof.Machine

/-! PROOFS. A weaker view, that the progress of jobs leaves alone as well. -/

namespace Sys2Proof.Machine

/-! ### The view -/

/-- What a job is, whatever it has done. -/
def jobCard (j : Job) : Job :=
  { jobFace j with
    phase := .ending, stop := none, count := 0, rerouted := false, unchecked := false, qfirst := none, qord := false, qdone := false
    got := 0, perm := [], permI := 0, asked := 0, read := none, digest := none, hashing := false, bench := none, keyBytes := []
    sigBytes := [], entries := [], verdict := none }

/-- A bench whatever job runs on it. -/
def benchCard (b : Bench) : Bench :=
  { b with job := none, phase := 0, zeroAll := false, st := if b.st = .busy then .zero else b.st }

/-- The view without the progress of jobs: their stages, the benches that run them, the unit that builds for them, and the uses of the bus
that they ask for. -/
def shell (s : State) : State :=
  { outer s with
    job := { (outer s).job with jobs := s.job.jobs.map jobCard }
    bne := { s.bne with benches := s.bne.benches.map benchCard }
    stk := { (outer s).stk with building := none }
    lsp := { s.lsp with ops := [], mstErr := 0 } }

theorem shell_of_outer {s t : State} (h : outer t = outer s) : shell t = shell s := by
  have hcards : ∀ u : State, u.job.jobs.map jobCard = (outer u).job.jobs.map jobCard := fun u => by
    simp only [outer, List.map_map, Function.comp_def]
    rfl
  have hbne : t.bne = s.bne := (congrArg State.bne h :)
  have hlsp : t.lsp = s.lsp := (congrArg State.lsp h :)
  unfold shell
  rw [hcards t, hcards s, h, hbne, hlsp]

/-! ### Conditions, loops and entries -/

@[simp] theorem shell_ite {c : Prop} [Decidable c] (a b : State) : shell (if c then a else b) = if c then shell a else shell b :=
  apply_ite shell c a b

@[simp] theorem shell_onlyIf {c : Bool} {f : State → State} {s : State} (h : ∀ u, shell (f u) = shell u) :
    shell (onlyIf c f s) = shell s := by
  cases c
  · rfl
  · exact h s

@[simp] theorem shell_foldl {α : Type} {g : State → α → State} {l : List α} {s : State} (h : ∀ u x, shell (g u x) = shell u) :
    shell (l.foldl g s) = shell s := by
  induction l generalizing s with
  | nil => rfl
  | cons x l ih => exact ih.trans (h s x)

theorem shell_updJob {id : Nat} {f : Job → Job} {s : State} (h : ∀ j, jobCard (f j) = jobCard j) :
    shell (updJob id f s) = shell s := by
  have hmap : ∀ j, jobCard (if j.id = id then f j else j) = jobCard j := fun j => by
    split
    · exact h j
    · rfl
  simp [shell, outer, updJob, hmap]

theorem shell_building {x : Option Nat} {s : State} : shell { s with stk := { s.stk with building := x } } = shell s := rfl

theorem shell_lsp {l : List XipOp} {e : BitVec 5} {s : State} : shell { s with lsp := { s.lsp with ops := l, mstErr := e } } = shell s := rfl

@[simp] theorem shell_post {code idx detail : Nat} {s : State} : shell (post code idx detail s) = shell s := shell_of_outer outer_post
@[simp] theorem shell_bumpOrd {s : State} : shell (bumpOrd s) = shell s := rfl
@[simp] theorem shell_bumpFree {s : State} : shell (bumpFree s) = shell s := rfl
@[simp] theorem shell_updQ {q : Nat} {f : DQueue → DQueue} {s : State} : shell (updQ q f s) = shell s := rfl
@[simp] theorem shell_syncAll {s : State} : shell (syncAll s) = shell s := shell_of_outer outer_syncAll
@[simp] theorem shell_addWaiter {q : Nat} {w : Waiter} {s : State} : shell (addWaiter q w s) = shell s := rfl
@[simp] theorem shell_dropWaiter {q key : Nat} {s : State} : shell (dropWaiter q key s) = shell s := rfl
@[simp] theorem shell_prPlace {q key accepted : Nat} {s : State} : shell (prPlace q key accepted s) = shell s :=
  shell_of_outer outer_prPlace
@[simp] theorem shell_prDrop {key : Nat} {s : State} : shell (prDrop key s) = shell s := shell_of_outer outer_prDrop
@[simp] theorem shell_releaseAllot {q key : Nat} {s : State} : shell (releaseAllot q key s) = shell s :=
  shell_of_outer outer_releaseAllot
@[simp] theorem shell_kerfFlight {why : WordKerf} {refs : List (Nat × Nat)} {n : Nat} {s : State} :
    shell (kerfFlight why refs n s) = shell s := shell_of_outer outer_kerfFlight
@[simp] theorem shell_toFlight {refs : List (Nat × Nat)} {s : State} : shell (toFlight refs s) = shell s := shell_of_outer outer_toFlight
@[simp] theorem shell_kerfWords {why : WordKerf} {ws : List AWord} {s : State} : shell (kerfWords why ws s) = shell s :=
  shell_of_outer outer_kerfWords
@[simp] theorem shell_pullUnsent {id : Nat} {beacons : Bool} {s : State} : shell (pullUnsent id beacons s) = shell s := rfl
@[simp] theorem shell_sendRequest {type addr len : Nat} {payload : List Byte} {fbase : BitVec 22} {t : TxFrame} {s : State} :
    shell (sendRequest type addr len payload fbase t s) = shell s := shell_of_outer outer_sendRequest
@[simp] theorem shell_issueWrite {id off : Nat} {bytes : List Byte} {ws : List AWord} {random : Bool} {tag : Option Tag} {s : State} :
    shell (issueWrite id off bytes ws random tag s) = shell s := shell_of_outer outer_issueWrite
@[simp] theorem shell_drawIssue {id fuel : Nat} {s : State} : shell (drawIssue id fuel s) = shell s := shell_of_outer outer_drawIssue
@[simp] theorem shell_resultIssue {id fuel : Nat} {last : Bool} {s : State} : shell (resultIssue id last fuel s) = shell s :=
  shell_of_outer outer_resultIssue
@[simp] theorem shell_dropUnsent {why : WordKerf} {id : Nat} {s : State} : shell (dropUnsent why id s) = shell s :=
  shell_of_outer outer_dropUnsent
@[simp] theorem shell_endWrite {id no : Nat} {st : WState} {s : State} : shell (endWrite id no st s) = shell s :=
  shell_of_outer outer_endWrite
@[simp] theorem shell_endBeacon {id : Nat} {st : WState} {s : State} : shell (endBeacon id st s) = shell s :=
  shell_of_outer outer_endBeacon
@[simp] theorem shell_takeBack {id : Nat} {s : State} : shell (takeBack id s) = shell s := shell_of_outer outer_takeBack
@[simp] theorem shell_resultGo {id : Nat} {s : State} : shell (resultGo id s) = shell s := shell_of_outer outer_resultGo
@[simp] theorem shell_distEnd {id : Nat} {s : State} : shell (distEnd id s) = shell s := shell_of_outer outer_distEnd

/-! ### Ends of jobs -/

@[simp] theorem shell_releaseUnits {id : Nat} {s : State} : shell (releaseUnits id s) = shell s := by
  have hbench : ∀ b : Bench, benchCard (if b.job = some id then
      { b with job := none, phase := 6, zeroAll := wholeClear s id, st := if b.st = .busy then .zero else b.st } else b) =
      benchCard b := fun b => by
    split
    · by_cases hst : b.st = .busy <;> simp [benchCard, hst]
    · rfl
  have hlane : ∀ l : Lane, laneCore { l with pieces := l.pieces.filter (fun p => decide (p.job ≠ id)) } = laneCore l := fun _ => rfl
  simp only [shell, outer, releaseUnits, List.map_map, Function.comp_def, hbench, hlane]

@[simp] theorem shell_ended {id : Nat} {status : BitVec 8} {s : State} : shell (ended id status s) = shell s := by
  rw [ended, shell_releaseUnits, shell_updJob fun _ => by rfl]

@[simp] theorem shell_stopJob {id : Nat} {status : BitVec 8} {why : Option WordKerf} {s : State} :
    shell (stopJob id status why s) = shell s := by
  by_cases h : ∀ j, jobOf s id = some j → j.stop.isSome = true
  · rw [stopJob_of_stopped h]
  · simp only [not_forall] at h
    obtain ⟨j, hj, hs⟩ := h
    rw [shell_of_outer (outer_stopJob hj (by simpa using hs)), shell_ended]

@[simp] theorem shell_failJob {id : Nat} {status : BitVec 8} {why : Option WordKerf} {s : State} :
    shell (failJob id status why s) = shell s := by
  unfold failJob
  split
  · rfl
  · split
    · exact shell_stopJob
    · dsimp only
      split
      · rw [shell_dropUnsent, shell_updJob fun _ => by rfl]
      · exact shell_updJob fun _ => rfl

@[simp] theorem shell_finishCheck {id : Nat} {s : State} : shell (finishCheck id s) = shell s := by
  unfold finishCheck
  split <;> simp

/-! ### Jobs that ask for words and use them -/

@[simp] theorem shell_beaconFlushed {id : Nat} {s : State} : shell (beaconFlushed id s) = shell s := by
  unfold beaconFlushed
  split
  · rfl
  · have hgrants : ∀ (c : Bool) (gs l), shell (updJob id (fun x => { x with grants := gs }) (onlyIf c (kerfWords .reject l) s)) =
        shell s := fun c gs l => by
      rw [shell_updJob fun _ => by rfl, shell_onlyIf fun _ => shell_kerfWords]
    dsimp only
    rw [shell_ite, shell_stopJob, hgrants, shell_updJob fun _ => by rfl, hgrants, ite_self]

@[simp] theorem shell_jobAsk {id : Nat} {s : State} : shell (jobAsk id s) = shell s := by
  unfold jobAsk
  split
  · rfl
  · dsimp only
    split
    · rfl
    · split
      · rfl
      · split
        · rfl
        · split
          · split <;> simp
          · have hask : ∀ q w f, (∀ j, jobCard (f j) = jobCard j) → shell (addWaiter q w (updJob id f s)) = shell s := fun q w f hf => by
              rw [shell_addWaiter, shell_updJob hf]
            rw [shell_ite, shell_prPlace, hask _ _ _ fun _ => by rfl, ite_self]

@[simp] theorem shell_permDone {id : Nat} {s : State} : shell (permDone id s) = shell s := by
  unfold permDone
  split
  · rfl
  · rw [shell_resultIssue, shell_prDrop, shell_updJob fun _ => by rfl, shell_building]

@[simp] theorem shell_acceptInt {id v : Nat} {tag : Tag} {s : State} : shell (acceptInt id v tag s) = shell s := by
  unfold acceptInt
  split
  · rfl
  · dsimp only
    split
    · exact shell_updJob fun _ => rfl
    · exact shell_updJob fun _ => rfl

@[simp] theorem shell_acceptSwap {id c : Nat} {s : State} : shell (acceptSwap id c s) = shell s := shell_updJob fun _ => rfl

@[simp] theorem shell_wordsDone {id : Nat} {s : State} : shell (wordsDone id s) = shell s := by
  unfold wordsDone
  split
  · rfl
  · split
    · rw [shell_prDrop, shell_syncAll, shell_updJob fun _ => by rfl]
    · rfl

/-! ### Words of jobs that a failover loses -/

@[simp] theorem shell_rebuild {id : Nat} {s : State} : shell (rebuild id s) = shell s := by
  have hpull : ∀ f : Job → Job, (∀ j, jobCard (f j) = jobCard j) → shell (pullUnsent id false (updJob id f s)) = shell s := fun f hf => by
    rw [shell_pullUnsent, shell_updJob hf]
  unfold rebuild
  dsimp only
  split
  · exact hpull _ fun _ => rfl
  · rw [shell_updJob fun _ => by rfl, hpull _ fun _ => by rfl]

@[simp] theorem shell_reserve {id : Nat} {nos : List Nat} {s : State} : shell (reserve id nos s) = shell s := by
  unfold reserve
  split
  · rfl
  · have hmark : ∀ f : Job → Job, (∀ j, jobCard (f j) = jobCard j) → shell (updJob id f s) = shell s := fun f hf => shell_updJob hf
    dsimp only
    split
    · exact hmark _ fun _ => rfl
    · split
      · rw [shell_rebuild, hmark _ fun _ => by rfl]
      · split
        · rw [shell_onlyIf fun _ => shell_drawIssue, shell_jobAsk, shell_prDrop, shell_dropWaiter, shell_releaseAllot,
            shell_updJob fun _ => by rfl, shell_takeBack, hmark _ fun _ => by rfl]
        · exact hmark _ fun _ => rfl

/-! ### Reads of jobs -/

@[simp] theorem shell_mstErr {b : Nat} {s : State} : shell (mstErr b s) = shell s := rfl

@[simp] theorem shell_readFailed {id : Nat} {s : State} : shell (readFailed id s) = shell s := by
  unfold readFailed
  split
  · rfl
  · rw [shell_stopJob, shell_updJob fun _ => by rfl]

@[simp] theorem shell_issueRead {id : Nat} {s : State} : shell (issueRead id s) = shell s := by
  unfold issueRead
  split
  · rfl
  · split
    · rfl
    · have hread : ∀ f : Job → Job, (∀ j, jobCard (f j) = jobCard j) → shell (updJob id f s) = shell s := fun f hf => shell_updJob hf
      dsimp only
      split
      · rfl
      · split
        · rw [shell_readFailed, shell_mstErr]
        · split
          · exact (shell_lsp (s := updJob id _ s)).trans (hread _ fun _ => rfl)
          · rw [shell_sendRequest, hread _ fun _ => by rfl]

@[simp] theorem shell_readKeep {id : Nat} {r : SrcRead} {s : State} : shell (readKeep id r s) = shell s := by
  have hkeep : ∀ f : Job → Job, (∀ j, jobCard (f j) = jobCard j) → shell (updJob id f s) = shell s := fun f hf => shell_updJob hf
  unfold readKeep
  dsimp only
  split
  · exact hkeep _ fun _ => rfl
  · exact hkeep _ fun _ => rfl
  · exact hkeep _ fun _ => rfl
  · split
    · exact shell_stopJob
    · exact hkeep _ fun _ => rfl
  · exact hkeep _ fun _ => rfl
  · exact hkeep _ fun _ => rfl
  · rfl
  · rfl
  · rfl

@[simp] theorem shell_readBegin {id : Nat} {what : ReadFor} {addr total : Nat} {s : State} :
    shell (readBegin id what addr total s) = shell s := by
  have hbegin : ∀ f : Job → Job, (∀ j, jobCard (f j) = jobCard j) → shell (updJob id f s) = shell s := fun f hf => shell_updJob hf
  unfold readBegin
  split
  · rfl
  · dsimp only
    split
    · exact hbegin _ fun _ => rfl
    · split
      · split
        · exact shell_stopJob
        · split
          · exact hbegin _ fun _ => rfl
          · exact shell_stopJob
      · split
        · exact hbegin _ fun _ => rfl
        · exact shell_stopJob

@[simp] theorem shell_batchGo {id : Nat} {s : State} : shell (batchGo id s) = shell s := by
  unfold batchGo
  split
  · rfl
  · split
    · rfl
    · split
      · rfl
      · split
        · rw [shell_jobAsk, shell_updJob fun _ => by rfl]
        · split
          · exact shell_jobAsk
          · dsimp only
            split
            · rw [shell_jobAsk, shell_updJob fun _ => by rfl, shell_prDrop]
            · rw [shell_syncAll, shell_updJob fun _ => by rfl, shell_prDrop]

@[simp] theorem shell_fetchRun {id fuel : Nat} {s : State} : shell (fetchRun id fuel s) = shell s := by
  fun_induction fetchRun id fuel s
  case case4 => exact shell_issueRead
  case case5 ih => exact ih.trans shell_readKeep
  case case6 => exact shell_issueRead
  case case7 => exact shell_batchGo
  case case8 ih => exact ih.trans (shell_readBegin.trans (shell_updJob fun _ => rfl))
  case case9 => exact shell_updJob fun _ => rfl
  case case10 ih => exact ih.trans shell_readBegin
  all_goals rfl

/-! ### What the view shows -/

theorem shell_ring (s : State) : (shell s).ring = wires s.ring := rfl
theorem shell_books (s : State) : (shell s).tal.books = booksFace s.tal.books := rfl

/-- A port's state, and the reason of its last failure, show in the view. -/
theorem port_of_wires {r r' : Ring} (h : wires r' = wires r) (p : PortId) :
    (portOf r' p).st = (portOf r p).st ∧ (portOf r' p).cause = (portOf r p).cause ∧ (portOf r' p).err = (portOf r p).err ∧
      (portOf r' p).store = (portOf r p).store ∧ (portOf r' p).credits = (portOf r p).credits := by
  cases p with
  | a => exact ⟨(congrArg (·.pa.st) h :), (congrArg (·.pa.cause) h :), (congrArg (·.pa.err) h :), (congrArg (·.pa.store) h :),
      (congrArg (·.pa.credits) h :)⟩
  | b => exact ⟨(congrArg (·.pb.st) h :), (congrArg (·.pb.cause) h :), (congrArg (·.pb.err) h :), (congrArg (·.pb.store) h :),
      (congrArg (·.pb.credits) h :)⟩

theorem wires_of_shell {s t : State} (h : shell t = shell s) : wires t.ring = wires s.ring := (congrArg State.ring h :)

theorem delivered_of_shell {s t : State} (h : shell t = shell s) : t.tal.books.delivered = s.tal.books.delivered :=
  (congrArg (fun x => x.tal.books.delivered) h :)

theorem outst_of_shell {s t : State} (h : shell t = shell s) : t.ring.outst = s.ring.outst := (congrArg (fun x => x.ring.outst) h :)

end Sys2Proof.Machine

/-! PROOFS. Frames for other nodes, and what a failover keeps of the ports (R242, R247, R256 to R259). -/

namespace Sys2Proof.Machine

/-! ### What a failover keeps of the ring -/

/-- The ring without the frames of its ports, in their stores too, the requests that await an answer, and the number of the next BREAK. -/
def lines (r : Ring) : Ring :=
  { wires r with
    pa := { (wires r).pa with store := [] }, pb := { (wires r).pb with store := [] }, outst := [], bseq := 0 }

theorem lines_of_wires {r r' : Ring} (h : wires r' = wires r) : lines r' = lines r := by
  unfold lines
  rw [h]

theorem lines_of_shell {s t : State} (h : shell t = shell s) : lines t.ring = lines s.ring := lines_of_wires (wires_of_shell h)

theorem lines_of_passed {r r' : Ring} (h : Passed r r') : lines r' = lines r := lines_of_wires (wires_of_ringCore h.core)

theorem lines_foldl {α : Type} {g : State → α → State} {l : List α} {s : State} (h : ∀ u x, lines (g u x).ring = lines u.ring) :
    lines (l.foldl g s).ring = lines s.ring := by
  induction l generalizing s with
  | nil => rfl
  | cons x l ih => exact ih.trans (h s x)

theorem lines_foldr {α : Type} {g : α → State → State} {l : List α} {s : State} (h : ∀ u x, lines (g x u).ring = lines u.ring) :
    lines (l.foldr g s).ring = lines s.ring := by
  induction l with
  | nil => rfl
  | cons x l ih => exact (h _ x).trans ih

/-- A change of a port's frames alone. -/
theorem lines_onPort {p : PortId} {f : Port → Port} {s : State}
    (h : ∀ x, { portCore (f x) with heldKeys := [], store := [] } = { portCore x with heldKeys := [], store := [] }) :
    lines (onPort p f s).ring = lines s.ring := by
  cases p
  · have ha := h s.ring.pa
    show ({ wires s.ring with pa := { portCore (f s.ring.pa) with heldKeys := [], store := [] }, pb := _, outst := _, bseq := _ } : Ring) = _
    rw [ha]
    rfl
  · have hb := h s.ring.pb
    show ({ wires s.ring with pa := _, pb := { portCore (f s.ring.pb) with heldKeys := [], store := [] }, outst := _, bseq := _ } : Ring) = _
    rw [hb]
    rfl

theorem lines_reroute {p : PortId} {s : State} : lines (reroute p s).ring = lines s.ring := by
  have hmv : ∀ mv : TxFrame → Bool, lines (onPort p (fun y => { y with txq := y.txq.filter (fun t => !mv t) }) s).ring = lines s.ring :=
    fun mv => lines_onPort fun _ => rfl
  unfold reroute
  dsimp only
  split
  · rfl
  · split
    · exact hmv _
    · refine (lines_onPort ?_).trans (hmv _)
      exact fun _ => rfl

theorem lines_requeueStores {ps : List PortId} {s : State} : lines (requeueStores ps s).ring = lines s.ring := by
  unfold requeueStores
  dsimp only
  refine (lines_foldr fun u x => lines_onPort ?_).trans ?_
  · exact fun _ => rfl
  have hempty : lines (ps.foldl (fun t p => onPort p (fun x => { x with store := [] }) t) s).ring = lines s.ring :=
    lines_foldl fun u p => lines_onPort fun _ => rfl
  exact hempty

theorem wires_freeHeld {key : Nat} {s : State} : wires (freeHeld key s).ring = wires s.ring := by
  have hfree : ∀ (p : PortId) (t : State), wires (if (portAt t p).heldKeys.contains key then
      giveCredit p 1 (onPort p (fun x => { x with heldKeys := x.heldKeys.filter (fun k => decide (k ≠ key)) }) t) else t).ring =
      wires t.ring := by
    intro p t
    split
    · obtain ⟨r, hr, hpass⟩ := passes_giveCredit (p := p) (k := 1)
        (s := onPort p (fun x => { x with heldKeys := x.heldKeys.filter (fun k => decide (k ≠ key)) }) t)
      rw [hr]
      refine (wires_of_ringCore hpass.core).trans ?_
      cases p <;> rfl
    · rfl
  unfold freeHeld
  dsimp only
  rw [hfree, hfree]

theorem lines_lostReply {t : TxFrame} {s : State} : lines (lostReply t s).ring = lines s.ring := by
  unfold lostReply
  split
  · exact (lines_of_wires wires_freeHeld).trans (lines_of_passed passed_sendTx)
  · rfl

theorem lines_lostBeacon {k : TxKind} {s : State} : lines (lostBeacon k s).ring = lines s.ring := by
  unfold lostBeacon
  split
  · exact lines_of_shell shell_endBeacon
  · rfl

theorem lines_declareLost {ps : List PortId} {s : State} : lines (declareLost ps s).ring = lines s.ring := by
  unfold declareLost
  dsimp only
  refine (lines_foldl fun u e => lines_lostBeacon).trans ((lines_foldl fun u f => lines_lostReply).trans ?_)
  refine (lines_foldl fun u e => ?_).trans ?_
  · split
    · rfl
    · exact lines_of_shell shell_kerfFlight
  · exact lines_requeueStores (ps := ps) (s := s)

theorem lines_sendBreak {p : PortId} {s : State} : lines (sendBreak p s).ring = lines s.ring := by
  have hframe : ∀ q t, lines (breakFrame q t).ring = lines t.ring := fun q t => by
    have hq : ∀ x, lines (queueTx q x t.ring) = lines t.ring := fun x => lines_of_passed passed_queueTx
    exact hq _
  unfold sendBreak onlyIf
  dsimp only
  split
  · exact (hframe _ _).trans lines_reroute
  · exact lines_reroute

theorem lines_post {c i d : Nat} {s : State} : lines (post c i d s).ring = lines s.ring := lines_of_shell shell_post

theorem lines_reserves {l : List (Nat × List Nat)} {s : State} :
    lines (l.foldl (fun t e => reserve e.1 e.2 t) s).ring = lines s.ring := lines_foldl fun _ _ => lines_of_shell shell_reserve

/-- Two rings have their ports in the same states, with the same causes and error bits. -/
def SamePorts (r r' : Ring) : Prop :=
  ∀ p, (portOf r' p).st = (portOf r p).st ∧ (portOf r' p).cause = (portOf r p).cause ∧ (portOf r' p).err = (portOf r p).err

theorem SamePorts.trans {r r' r'' : Ring} (h : SamePorts r r') (h' : SamePorts r' r'') : SamePorts r r'' := fun p => by
  obtain ⟨hst, hc, he⟩ := h p
  obtain ⟨hst', hc', he'⟩ := h' p
  exact ⟨hst'.trans hst, hc'.trans hc, he'.trans he⟩

/-- Ports that look the same but for their frames are in the same states. -/
theorem samePorts_of_lines {r r' : Ring} (h : lines r' = lines r) : SamePorts r r'
  | .a => ⟨(congrArg (·.pa.st) h :), (congrArg (·.pa.cause) h :), (congrArg (·.pa.err) h :)⟩
  | .b => ⟨(congrArg (·.pb.st) h :), (congrArg (·.pb.cause) h :), (congrArg (·.pb.err) h :)⟩

theorem samePorts_of_ports {r r' : Ring} (ha : r'.pa = r.pa) (hb : r'.pb = r.pb) : SamePorts r r'
  | .a => by simp [portOf, ha]
  | .b => by simp [portOf, hb]

/-- Telling the jobs of their lost writes leaves the ports and the counts of failovers. -/
theorem reserves_ring {l : List (Nat × List Nat)} {s : State} :
    SamePorts s.ring (l.foldl (fun t e => reserve e.1 e.2 t) s).ring ∧
      (l.foldl (fun t e => reserve e.1 e.2 t) s).ring.foLocal = s.ring.foLocal ∧
      (l.foldl (fun t e => reserve e.1 e.2 t) s).ring.foRemote = s.ring.foRemote := by
  have hl := lines_reserves (l := l) (s := s)
  exact ⟨samePorts_of_lines hl, (congrArg Ring.foLocal hl :), (congrArg Ring.foRemote hl :)⟩

/-- What a failover counts: a local one at the failed port, a remote one for the source of a BREAK. -/
def FailoverCounts (o : PortId ⊕ BitVec 12) (r r' : Ring) : Prop :=
  r'.foLocal = (match o with | .inl _ => r.foLocal + 1 | .inr _ => r.foLocal) ∧
    r'.foRemote = (match o with | .inl _ => r.foRemote | .inr _ => r.foRemote + 1)

theorem failoverNote_ring {o : PortId ⊕ BitVec 12} {cause n : Nat} {s t : State} (h : lines t.ring = lines s.ring) :
    SamePorts s.ring (failoverNote o cause n t).ring ∧ FailoverCounts o s.ring (failoverNote o cause n t).ring := by
  have hlocal : t.ring.foLocal = s.ring.foLocal := (congrArg Ring.foLocal h :)
  have hremote : t.ring.foRemote = s.ring.foRemote := (congrArg Ring.foRemote h :)
  refine ⟨(samePorts_of_lines h).trans (samePorts_of_ports rfl rfl), ?_⟩
  cases o with
  | inl p => exact ⟨congrArg (· + 1) hlocal, hremote⟩
  | inr b => exact ⟨hlocal, congrArg (· + 1) hremote⟩

theorem lines_toldOf {o : PortId ⊕ BitVec 12} {t : State} :
    lines (match o with | .inl p => sendBreak p t | .inr _ => t).ring = lines t.ring := by
  cases o with
  | inl p => exact lines_sendBreak
  | inr b => rfl

/-- A failover leaves the states of the ports as they are, and counts once. -/
theorem failover_ring {ps : List PortId} {o : PortId ⊕ BitVec 12} {cause : Nat} {s : State} :
    SamePorts s.ring (failover ps o cause s).ring ∧ FailoverCounts o s.ring (failover ps o cause s).ring := by
  unfold failover
  dsimp only
  obtain ⟨hports, hlocal, hremote⟩ := failoverNote_ring (o := o) (cause := cause) (n := lostCount ps s) (s := s)
    (lines_post.trans (lines_toldOf.trans lines_declareLost))
  obtain ⟨hports', hlocal', hremote'⟩ := reserves_ring
  exact ⟨hports.trans hports', hlocal'.trans hlocal, hremote'.trans hremote⟩

/-- The second of two ports that fail together changes no count. -/
theorem failoverJoin_ring {q : PortId} {s : State} :
    SamePorts s.ring (failoverJoin q s).ring ∧ (failoverJoin q s).ring.foLocal = s.ring.foLocal ∧
      (failoverJoin q s).ring.foRemote = s.ring.foRemote := by
  unfold failoverJoin
  dsimp only
  have h1 : lines (reroute q (declareLost [q] s)).ring = lines s.ring := lines_reroute.trans lines_declareLost
  generalize reroute q (declareLost [q] s) = s1 at *
  obtain ⟨hports, hlocal, hremote⟩ := reserves_ring
  exact ⟨((samePorts_of_lines h1).trans (samePorts_of_ports rfl rfl)).trans hports,
    hlocal.trans (congrArg Ring.foLocal h1 :), hremote.trans (congrArg Ring.foRemote h1 :)⟩

end Sys2Proof.Machine

/-! PROOFS. Frames for other nodes: forwarded, removed, dropped, and the failover that a BREAK starts (R242, R247, R256, R258, R259). -/

namespace Sys2Proof.Machine

/-! ### Forwarding -/

theorem rxFrame_ports {p : PortId} {f : Frame} {s : State} :
    (portAt (rxFrame p f s) p).rxAck = (portAt s p).rxAck + 1 ∧
      ∀ q, (portAt (rxFrame p f s) q).txq = (portAt s q).txq ∧ (portAt (rxFrame p f s) q).st = (portAt s q).st := by
  unfold rxFrame
  dsimp only
  split
  · cases p
    · exact ⟨rfl, fun q => by cases q <;> exact ⟨rfl, rfl⟩⟩
    · exact ⟨rfl, fun q => by cases q <;> exact ⟨rfl, rfl⟩⟩
  · cases p
    · exact ⟨rfl, fun q => by cases q <;> exact ⟨rfl, rfl⟩⟩
    · exact ⟨rfl, fun q => by cases q <;> exact ⟨rfl, rfl⟩⟩

/-- A way out does not depend on the frames that a port has received. -/
theorem wayOut_rxFrame {p q : PortId} {f : Frame} {s : State} : wayOut (rxFrame p f s) q = wayOut s q := by
  obtain ⟨-, hports⟩ := rxFrame_ports (p := p) (f := f) (s := s)
  unfold wayOut
  rw [(hports _).2]

/-- A frame that goes on after it was received joins those that wait on its way out. -/
theorem forward_goes {p : PortId} {pool : Nat} {f g : Frame} {s : State} :
    let u := forward p pool g (rxFrame p f s)
    (portAt u (wayOut s p)).txq = (portAt s (wayOut s p)).txq ++
        [plainTx (.transit p pool) { g with hops := if wayOut s p = p then g.hops else g.hops - 1 }] ∧
      (portAt u p).rxAck = (portAt s p).rxAck + 1 ∧ u.tal = s.tal := by
  obtain ⟨hack, hports⟩ := rxFrame_ports (p := p) (f := f) (s := s)
  obtain ⟨r, hr, -⟩ := passes_rxFrame (p := p) (f := f) (s := s)
  have htal : (rxFrame p f s).tal = s.tal := (congrArg State.tal hr :)
  unfold forward
  rw [wayOut_rxFrame]
  generalize rxFrame p f s = t at *
  obtain ⟨htxq, -⟩ := hports (wayOut s p)
  dsimp only
  refine ⟨?_, ?_, htal⟩
  · exact (congrArg Port.txq portOf_updPort_self).trans (congrArg (· ++ [_]) htxq)
  · refine Eq.trans ?_ hack
    generalize wayOut s p = q
    by_cases h : p = q
    · subst h
      exact (congrArg Port.rxAck portOf_updPort_self :)
    · exact (congrArg Port.rxAck (portOf_updPort_ne h) :)

theorem hops_corrected {s : State} {p : PortId} {f : Frame} {n : Nat} : (corrected s p f n).hops = f.hops := by
  unfold corrected
  split <;> rfl

/-- A frame for another node is forwarded. -/
theorem transitFrame_of_other {p : PortId} {f : Frame} {n : Nat} {s : State} (hp : (portAt s p).st ≠ .down) (hme : forMe s f = false)
    (hb : isBcast f = false) (he : enumHere f = false) (hh : f.hops ≠ 1) :
    transitFrame p f n s = forward p (poolOf s.ring.nodeId f) (corrected s p f n) (rxFrame p f s) := by
  have hbad : isBad s f = false := by
    unfold isBad
    rw [if_neg (by simp [hme, hb, he])]
    exact decide_eq_false hh
  unfold transitFrame
  rw [if_pos (by simp [receives, hp, hme, hb, he, hbad])]

/-! ### Dropped frames -/

theorem rxBad_counts {p : PortId} {f : Frame} {s : State} :
    let u := rxBad p f s
    u.ring.rxBad = s.ring.rxBad + 1 ∧ u.tal = s.tal ∧ u.job = s.job := by
  unfold rxBad
  dsimp only
  split
  · exact ⟨rfl, rfl, rfl⟩
  · generalize ht : onPort p _ _ = t
    obtain ⟨e, r, hr, hcore, -⟩ := post_eq (c := 0x59) (i := portIdx p) (d := f.type.toNat) (s := t)
    rw [hr]
    refine ⟨(congrArg Ring.rxBad hcore :).trans ?_, ?_⟩
    · rw [← ht]
      cases p <;> rfl
    · rw [← ht]
      exact ⟨rfl, rfl⟩

/-- A frame that R242 drops is received and counted, and nothing else comes of it. -/
theorem ringRxBad_of_bad {p : PortId} {f : Frame} {s : State} (hp : (portAt s p).st ≠ .down) (hbad : isBad s f = true) :
    let u := ringRxBad p f s
    u.ring.rxBad = s.ring.rxBad + 1 ∧ u.tal = s.tal ∧ u.job = s.job := by
  unfold ringRxBad onlyIf
  rw [if_pos (by simp [receives, hp, hbad])]
  dsimp only
  have hin : ∀ b : Bool, Passes s (if b then giveCredit p (poolOf s.ring.nodeId f) (rxFrame p f s) else rxFrame p f s) := fun b => by
    split
    · exact passes_rxFrame.trans passes_giveCredit
    · exact passes_rxFrame
  obtain ⟨r, hr, hcore, -⟩ := hin _
  rw [hr]
  obtain ⟨hcount, htal, hjob⟩ := rxBad_counts (p := p) (f := f) (s := { s with ring := r })
  exact ⟨hcount.trans (congrArg (· + 1) (congrArg Ring.rxBad hcore :)), htal, hjob⟩

theorem ringRxBad_of_good {p : PortId} {f : Frame} {s : State} (hbad : isBad s f = false) : ringRxBad p f s = s := by
  unfold ringRxBad
  rw [if_neg (by simp [hbad])]

/-! ### Broadcasts of other nodes -/

/-- A received broadcast of another node that is no SYNC frame goes on, or ends at its last hop. -/
theorem forwardBcast_of_other {p : PortId} {f : Frame} {s : State} (hme : (s.ring.enumDone && decide (f.src = s.ring.nodeId)) = false)
    (hsync : isSync f = false) :
    forwardBcast p f 0 (rxFrame p f s) = if f.hops = 1 then rxFrame p f s else forward p 7 f (rxFrame p f s) := by
  obtain ⟨r, hr, hcore, -⟩ := passes_rxFrame (p := p) (f := f) (s := s)
  rw [hr]
  have hdone : r.enumDone = s.ring.enumDone := (congrArg Ring.enumDone hcore :)
  have hnode : r.nodeId = s.ring.nodeId := (congrArg Ring.nodeId hcore :)
  unfold forwardBcast
  dsimp only
  rw [if_neg (c := (r.enumDone && decide (f.src = r.nodeId)) = true) (by rw [hdone, hnode, hme]; decide),
    show corrected { s with ring := r } p f 0 = f from if_neg (by rw [hsync]; decide)]

theorem beaconRx_of_beacon {p : PortId} {f : Frame} {s : State} (hp : (portAt s p).st ≠ .down) (hd : f.dst = 0xFFF) (hty : f.type = 0x06)
    (hvc : f.vc = 2) : beaconRx p f s = forwardBcast p f 0 (rxFrame p f s) := by
  unfold beaconRx
  rw [if_neg (by simp [receives, isBcast, hp, hd, hty, hvc])]

theorem breakRx_of_break {p : PortId} {f : Frame} {s : State} (hp : (portAt s p).st ≠ .down) (hd : f.dst = 0xFFF) (hty : f.type = 0x09)
    (hvc : f.vc = 2) :
    let t := forwardBcast p f 0 (rxFrame p f s)
    let t' := { t with ring := remember ⟨f.type, f.src, bcastKey f, s.clk.ticks, p⟩ t.ring }
    breakRx p f s =
      if ((s.ring.enumDone && decide (f.src = s.ring.nodeId)) || s.ring.seen.any (fun b => decide (b.ty = 0x09) && decide (b.src = f.src) &&
        decide (b.key = bcastKey f) && decide (s.clk.ticks - b.tick < 1250000))) = true then t
      else if (s.ring.foTick.map (fun t => decide (s.clk.ticks - t < 250000))).getD false = true then t'
      else failover [.a, .b] (.inr f.src) 0 t' := by
  unfold breakRx
  rw [if_neg (by simp [receives, isBcast, hp, hd, hty, hvc])]

/-- A time less than 2 ms ago stands for a recent failover. -/
theorem recent_iff {o : Option Nat} {n : Nat} :
    (o.map (fun t => decide (n - t < 250000))).getD false = true ↔ ∃ t, o = some t ∧ n - t < 250000 := by
  cases o <;> simp

/-- A BREAK that is new, and no part of a failover just made, makes a remote failover. -/
theorem breakRx_counts {p : PortId} {f : Frame} {s : State} (hp : (portAt s p).st ≠ .down) (hd : f.dst = 0xFFF) (hty : f.type = 0x09)
    (hvc : f.vc = 2) :
    let other : Bool := !(s.ring.enumDone && decide (f.src = s.ring.nodeId))
    let seen : Bool := s.ring.seen.any (fun b => decide (b.ty = 0x09) && decide (b.src = f.src) &&
      decide (b.key = fldW f.h2 0 16) && decide (s.clk.ticks - b.tick < 1250000))
    let u := breakRx p f s
    u.ring.foLocal = s.ring.foLocal ∧
      u.ring.foRemote = (if other = true ∧ seen = false ∧ ¬ ∃ t, s.ring.foTick = some t ∧ s.clk.ticks - t < 250000 then
        s.ring.foRemote + 1 else s.ring.foRemote) := by
  have hkey : bcastKey f = fldW f.h2 0 16 := by
    unfold bcastKey
    rw [if_neg (by rw [hty]; decide), if_pos hty]
  dsimp only
  rw [breakRx_of_break hp hd hty hvc, hkey]
  generalize (s.ring.enumDone && decide (f.src = s.ring.nodeId)) = mine
  generalize s.ring.seen.any _ = seen
  obtain ⟨r, hr, hcore, -⟩ := passes_rxFrame.trans (passes_forwardBcast (p := p) (f := f) (n := 0) (s := rxFrame p f s))
  rw [hr]
  have hlocal : r.foLocal = s.ring.foLocal := (congrArg Ring.foLocal hcore :)
  have hremote : r.foRemote = s.ring.foRemote := (congrArg Ring.foRemote hcore :)
  split
  next hold =>
    rw [if_neg (by
      rintro ⟨ho, hs, -⟩
      simp_all)]
    exact ⟨hlocal, hremote⟩
  next hnew =>
    split
    next hrec =>
      rw [if_neg fun h => h.2.2 (recent_iff.mp hrec)]
      exact ⟨hlocal, hremote⟩
    next hrec =>
      obtain ⟨-, hfl, hfr⟩ := failover_ring (ps := [.a, .b]) (o := .inr f.src) (cause := 0)
        (s := { s with ring := remember ⟨f.type, f.src, fldW f.h2 0 16, s.clk.ticks, p⟩ r })
      have hcond : mine = false ∧ seen = false := by simpa using hnew
      obtain ⟨rfl, rfl⟩ := hcond
      rw [if_pos ⟨rfl, rfl, fun h => hrec (recent_iff.mpr h)⟩]
      exact ⟨hfl.trans hlocal, hfr.trans (congrArg (· + 1) hremote)⟩

/-- Settles O49: each clause is the lemma on its frame. -/
theorem forwardedFrames : Obligations.ForwardedFrames := by
  intro s p f h hp goesOn other
  have hr := running_of_upAnd h
  refine ⟨fun resid hme hb he hh => ?_, fun hbad => ?_, fun hbad => ?_, fun hd hty hvc ho => ?_, fun hd hty hvc => ?_⟩
  · refine effects_of_act exec_transitFrame hr ?_
    rw [transitFrame_of_other hp hme hb he hh]
    obtain ⟨htxq, hack, htal⟩ := forward_goes (p := p) (pool := poolOf s.ring.nodeId f) (f := f) (g := corrected s p f resid.toNat) (s := s)
    rw [hops_corrected] at htxq
    exact ⟨⟨htxq, hack⟩, htal⟩
  · exact effects_of_act exec_ringRxBad hr (ringRxBad_of_bad hp hbad)
  · exact next_of_act_same hr exec_ringRxBad (ringRxBad_of_good hbad)
  · refine effects_of_act exec_beaconRx hr ?_
    rw [beaconRx_of_beacon hp hd hty hvc, forwardBcast_of_other ((Bool.not_eq_true' _).mp ho) (by rw [isSync, hty]; rfl)]
    refine ⟨fun hh => ?_, fun hh => ?_⟩
    · rw [if_neg hh]
      obtain ⟨htxq, hack, -⟩ := forward_goes (p := p) (pool := 7) (f := f) (g := f) (s := s)
      exact ⟨htxq, hack⟩
    · rw [if_pos hh]
      exact fun q => (rxFrame_ports.2 q).1
  · exact effects_of_act exec_breakRx hr (breakRx_counts hp hd hty hvc)

end Sys2Proof.Machine

/-! PROOFS. Words that are finished, failures of ports, and the frames of the link (R14, R248, R251, R252, R255 to R257, R262). -/

namespace Sys2Proof.Machine

/-! ### Words that are finished -/

theorem watermarkEvent_tal {q : Nat} {high : Bool} {s : State} : (watermarkEvent q high s).tal = s.tal := by
  unfold watermarkEvent
  split
  · rfl
  · cases high
    · dsimp only
      rw [apply_ite State.tal]
      exact ite_self _
    · dsimp only
      rw [apply_ite State.tal]
      exact ite_self _

theorem relevel_tal {q : Nat} {f : DQueue → DQueue} {s : State} : (relevel q f s).tal = s.tal := by
  have hev : ∀ (b high : Bool) (u : State), (onlyIf b (watermarkEvent q high) u).tal = u.tal := fun b high u => by
    cases b
    · rfl
    · exact watermarkEvent_tal
  unfold relevel
  split
  · rfl
  · exact (hev _ _ _).trans ((hev _ _ _).trans rfl)

theorem finishSlots_tal {refs : List (Nat × Nat)} {s : State} : (finishSlots refs s).tal = s.tal := by
  unfold finishSlots
  induction refQueues refs generalizing s with
  | nil => rfl
  | cons q l ih => exact ih.trans relevel_tal

/-- Words that are delivered leave those in flight. -/
theorem deliverWords_tal {refs : List (Nat × Nat)} {n m : Nat} {s : State} :
    (deliverWords refs n m s).tal = (updBooks (bkDelivered n m) s).tal := finishSlots_tal

/-- A held slot that frees changes only the ports. -/
theorem freeHeld_rest {key : Nat} {s : State} : (freeHeld key s).tal = s.tal ∧ (freeHeld key s).clk = s.clk := by
  have hport : ∀ (p : PortId) (t : State), 
      let u := if (portAt t p).heldKeys.contains key then
          giveCredit p 1 (onPort p (fun x => { x with heldKeys := x.heldKeys.filter (fun k => decide (k ≠ key)) }) t)
        else t
      u.tal = t.tal ∧ u.clk = t.clk := fun p t => by
    dsimp only
    split
    · exact ⟨rfl, rfl⟩
    · exact ⟨rfl, rfl⟩
  obtain ⟨hta, hca⟩ := hport .a s
  obtain ⟨htb, hcb⟩ := hport .b _
  exact ⟨htb.trans hta, hcb.trans hca⟩

/-- What a LINK frame reads of the node besides the frames that wait: the ports' stores, and the time. -/
def linkFace (s : State) : Ring × Nat := (wires s.ring, s.clk.ticks)

theorem linkFace_of_shell {s t : State} (h : shell t = shell s) : linkFace t = linkFace s :=
  Prod.ext (wires_of_shell h) (congrArg (fun x => x.clk.ticks) h :)

theorem linkFace_deliverWords {refs : List (Nat × Nat)} {n m : Nat} {s : State} : linkFace (deliverWords refs n m s) = linkFace s := by
  have h : shell (finishSlots refs (updBooks (bkDelivered n m) s)) = shell (updBooks (bkDelivered n m) s) :=
    shell_of_outer outer_finishSlots
  exact (linkFace_of_shell h).trans rfl

theorem linkFace_completeJob {id : Nat} {s : State} : linkFace (completeJob id s) = linkFace s := by
  unfold completeJob
  split <;> rfl

theorem linkFace_markJob {id n : Nat} {s : State} : linkFace (markJob id n s) = linkFace s := by
  unfold markJob
  split <;> rfl

/-- What comes of an acknowledged frame leaves the ports, but for the held slot that is free again. -/
theorem linkFace_frameAcked {t : TxFrame} {s : State} : linkFace (frameAcked t s) = linkFace s := by
  unfold frameAcked
  dsimp only
  have h1 : linkFace (if t.words = 0 then s else match t.kind with
      | .held _ | .beacon _ | .peer => deliverWords t.refs t.words t.marked s
      | _ => s) = linkFace s := by
    split
    · rfl
    · split
      · exact linkFace_deliverWords
      · exact linkFace_deliverWords
      · exact linkFace_deliverWords
      · rfl
  refine Eq.trans ?_ h1
  generalize (if t.words = 0 then s else match t.kind with
      | .held _ | .beacon _ | .peer => deliverWords t.refs t.words t.marked s
      | _ => s) = u
  split
  · exact Prod.ext wires_freeHeld (congrArg (fun c => c.ticks) freeHeld_rest.2 :)
  · exact linkFace_markJob.trans (linkFace_of_shell shell_endBeacon)
  · exact linkFace_completeJob
  · rfl

theorem linkFace_foldl_frameAcked {l : List TxFrame} {s : State} : linkFace (l.foldl (fun t f => frameAcked f t) s) = linkFace s := by
  induction l generalizing s with
  | nil => rfl
  | cons f l ih => exact ih.trans linkFace_frameAcked

/-- A held response that its first hop acknowledges is delivered. -/
theorem frameAcked_held {t : TxFrame} {key : Nat} {s : State} (h : t.kind = .held key) :
    (frameAcked t s).tal.books.delivered = s.tal.books.delivered + BitVec.ofNat 64 t.words ∧
      (frameAcked t s).tal.books.inflight = s.tal.books.inflight - BitVec.ofNat 64 t.words := by
  unfold frameAcked
  simp only [h]
  rw [freeHeld_rest.1]
  split
  next h0 =>
    rw [h0]
    exact ⟨(BitVec.add_zero _).symm, (BitVec.sub_zero _).symm⟩
  next =>
    rw [deliverWords_tal]
    exact ⟨rfl, rfl⟩

/-! ### Failures of ports -/

/-- What the failure of a port with a cause shows after it (R255, R256, R262). -/
def PortFails (s : State) (p : PortId) (cause : Nat) (u : State) : Prop :=
  if (portAt s p).st = .ready ∨ (portAt s p).st = .service then
    (portAt u p).st = .down ∧ (portAt u p).cause = BitVec.ofNat 3 cause ∧
    (portAt u p).err = (portAt s p).err ||| BitVec.ofNat 5 (2 ^ (cause - 1)) ∧
    u.ring.foRemote = s.ring.foRemote ∧
    ((portAt s p).st = .service → ¬ joinsFailover p s = true → u.ring.foLocal = s.ring.foLocal + 1) ∧
    ((portAt s p).st ≠ .service ∨ joinsFailover p s = true → u.ring.foLocal = s.ring.foLocal)
  else (portAt u p).st = (portAt s p).st ∧ (portAt u p).err = (portAt s p).err ∧ u.ring.foLocal = s.ring.foLocal

/-- A port that has failed (R255). -/
def fallen (cause : Nat) (y : Port) : Port :=
  { y with st := .down, cause := BitVec.ofNat 3 cause, err := y.err ||| BitVec.ofNat 5 (2 ^ (cause - 1)) }

/-- What the record of a failure leaves: the port as it fell, and the counts of failovers. -/
structure Fell (p : PortId) (cause : Nat) (s t : State) : Prop where
  st : (portAt t p).st = .down
  why : (portAt t p).cause = BitVec.ofNat 3 cause
  err : (portAt t p).err = (portAt s p).err ||| BitVec.ofNat 5 (2 ^ (cause - 1))
  foLocal : t.ring.foLocal = s.ring.foLocal
  foRemote : t.ring.foRemote = s.ring.foRemote

theorem onPort_counts {p : PortId} {f : Port → Port} {s : State} :
    (onPort p f s).ring.foLocal = s.ring.foLocal ∧ (onPort p f s).ring.foRemote = s.ring.foRemote := by
  cases p <;> exact ⟨rfl, rfl⟩

/-- Rings that look the same but for their frames have the same ports and the same counts. -/
theorem counts_of_lines {r r' : Ring} (h : lines r' = lines r) :
    SamePorts r r' ∧ r'.foLocal = r.foLocal ∧ r'.foRemote = r.foRemote :=
  ⟨samePorts_of_lines h, (congrArg Ring.foLocal h :), (congrArg Ring.foRemote h :)⟩

/-- A port that fails is DOWN at once, with its cause and error bit; only then come the record and the failover. -/
theorem fell_post {p : PortId} {cause : Nat} {s : State} : Fell p cause s (post 0x50 (portIdx p) cause (onPort p (fallen cause) s)) := by
  obtain ⟨hlocal, hremote⟩ := onPort_counts (p := p) (f := fallen cause) (s := s)
  have hport : portAt (onPort p (fallen cause) s) p = fallen cause (portAt s p) := portOf_updPort_self
  generalize onPort p (fallen cause) s = t at *
  obtain ⟨hports, hlocal', hremote'⟩ := counts_of_lines (lines_post (c := 0x50) (i := portIdx p) (d := cause) (s := t))
  obtain ⟨hst, hc, he⟩ := hports p
  exact ⟨hst.trans (congrArg Port.st hport), hc.trans (congrArg Port.cause hport), he.trans (congrArg Port.err hport),
    hlocal'.trans hlocal, hremote'.trans hremote⟩

/-- A failover, or what stands for one, leaves the port as it fell. -/
theorem Fell.port {p : PortId} {cause : Nat} {s t u : State} (h : Fell p cause s t) (g : SamePorts t.ring u.ring) :
    (portAt u p).st = .down ∧ (portAt u p).cause = BitVec.ofNat 3 cause ∧
      (portAt u p).err = (portAt s p).err ||| BitVec.ofNat 5 (2 ^ (cause - 1)) := by
  obtain ⟨hst, hc, he⟩ := g p
  exact ⟨hst.trans h.st, hc.trans h.why, he.trans h.err⟩

/-- What a port that fails starts: nothing more, its part of a failover, or a failover. -/
def afterFall (p : PortId) (cause : Nat) (s t : State) : State :=
  if (portAt s p).st ≠ .service then reroute p t
  else if joinsFailover p s then failoverJoin p t
  else failover [p] (.inl p) cause t

theorem failPort_eq {p : PortId} {cause : Nat} {s : State} : failPort p cause s =
    if (portAt s p).st = .ready ∨ (portAt s p).st = .service then
      afterFall p cause s (post 0x50 (portIdx p) cause (onPort p (fallen cause) s))
    else s := rfl

theorem afterFall_counts {p : PortId} {cause : Nat} {s t : State} (h : Fell p cause s t) :
    let u := afterFall p cause s t
    SamePorts t.ring u.ring ∧ u.ring.foRemote = s.ring.foRemote ∧
      ((portAt s p).st = .service → ¬ joinsFailover p s = true → u.ring.foLocal = s.ring.foLocal + 1) ∧
      ((portAt s p).st ≠ .service ∨ joinsFailover p s = true → u.ring.foLocal = s.ring.foLocal) := by
  unfold afterFall
  split
  next hns =>
    obtain ⟨hports, hl, hr⟩ := counts_of_lines (lines_reroute (p := p) (s := t))
    exact ⟨hports, hr.trans h.foRemote, fun hs => absurd hs hns, fun _ => hl.trans h.foLocal⟩
  next hserv =>
    have hs : (portAt s p).st = .service := Classical.not_not.mp hserv
    split
    next hj =>
      obtain ⟨hports, hl, hr⟩ := failoverJoin_ring (q := p) (s := t)
      exact ⟨hports, hr.trans h.foRemote, fun _ hn => absurd hj hn, fun _ => hl.trans h.foLocal⟩
    next hj =>
      obtain ⟨hports, hl, hr⟩ := failover_ring (ps := [p]) (o := .inl p) (cause := cause) (s := t)
      exact ⟨hports, hr.trans h.foRemote, fun _ _ => hl.trans (congrArg (· + 1) h.foLocal),
        fun hn => absurd hn (by rintro (hn | hn); exacts [hn hs, hj hn])⟩

theorem failPort_fails {p : PortId} {cause : Nat} {s : State} : PortFails s p cause (failPort p cause s) := by
  unfold PortFails
  rw [failPort_eq]
  split
  next hup =>
    have hfell := fell_post (p := p) (cause := cause) (s := s)
    generalize post 0x50 (portIdx p) cause (onPort p (fallen cause) s) = t at *
    obtain ⟨hports, hremote, hlocal, hsame⟩ := afterFall_counts hfell
    obtain ⟨hst, hc, he⟩ := hfell.port hports
    exact ⟨hst, hc, he, hremote, hlocal, hsame⟩
  next => exact ⟨rfl, rfl, rfl⟩

theorem lossOfLock_fails {p : PortId} {s : State} : PortFails s p 1 (lossOfLock p s) := by
  have h := failPort_fails (p := p) (cause := 1) (s := onPort p (fun x => { x with lock := 0 }) s)
  cases p <;> exact h

theorem highBer_fails {p : PortId} {s : State} : PortFails s p 2 (highBer p s) := by
  have h := failPort_fails (p := p) (cause := 2) (s := onPort p (fun x => { x with hiBer := decide (x.st ≠ .down) }) s)
  cases p <;> exact h

theorem joinsFailover_iff {p : PortId} {s : State} :
    joinsFailover p s = true ↔ (portAt s (otherPort p)).st = .down ∧ s.ring.foTick = some s.clk.ticks ∧
      s.ring.foLast.getLsbD 30 = false ∧ fld s.ring.foLast 29 1 = portIdx (otherPort p) := by
  simp [joinsFailover, bitAt, and_assoc]

theorem retransLimit_of_reached {p : PortId} {s : State} {t : TxFrame} (ht : t ∈ (portAt s p).store)
    (hn : s.ring.retryMax.toNat ≤ t.replays) : retransLimit p s = failPort p 3 s := by
  unfold retransLimit
  rw [if_pos (List.any_eq_true.mpr ⟨t, ht, decide_eq_true hn⟩)]

theorem retransLimit_of_none {p : PortId} {s : State} (h : ∀ t ∈ (portAt s p).store, t.replays < s.ring.retryMax.toNat) :
    retransLimit p s = s := by
  unfold retransLimit
  rw [if_neg (by simpa using h)]

theorem creditTimeout_of_late {p : PortId} {s : State} {k : Nat} (hk : k < 7) (h1 : k ≠ 1) (hc : (portAt s p).credits.getD k 0 = 0)
    (hw : ∃ t ∈ (portAt s p).txq, poolOf (portAt s p).partner t.f = k)
    (ht : usTicks (10 * s.ring.creditTo.toNat) ≤ s.clk.ticks - (portAt s p).creditTick.getD k s.clk.ticks) :
    creditTimeout p s = failPort p 4 s := by
  unfold creditTimeout
  dsimp only
  rw [if_pos]
  obtain ⟨t, htx, hpool⟩ := hw
  have hany : (portAt s p).txq.any (fun t => decide (poolOf (portAt s p).partner t.f = k)) = true :=
    List.any_eq_true.mpr ⟨t, htx, decide_eq_true hpool⟩
  refine List.any_eq_true.mpr ⟨k, List.mem_range.mpr hk, ?_⟩
  rw [decide_eq_true h1, decide_eq_true hc, hany, decide_eq_true ht]
  rfl

/-! ### Frames of the link -/

theorem replay_port {p : PortId} {s : State} :
    (portAt (replay p s) p).store = (portAt s p).store.map (fun t => { t with replays := t.replays + 1, tick := s.clk.ticks }) ∧
      (portAt (replay p s) p).replay = (portAt s p).replay + 1 ∧ (portAt (replay p s) p).credits = (portAt s p).credits ∧
      (replay p s).tal = s.tal := by
  cases p <;> exact ⟨rfl, rfl, rfl, rfl⟩

/-- The condition under which the replay timer has run out, as the model computes it. -/
theorem replayTimer_eq {p : PortId} {s : State} : replayTimer p s = if (portAt s p).st ≠ .down ∧ (portAt s p).store ≠ [] ∧
    usTicks s.ring.replayUs.toNat ≤ s.clk.ticks - (portAt s p).ackTick then replay p s else s := by
  unfold replayTimer
  have hiff : (receives (portAt s p) && !(portAt s p).store.isEmpty &&
      decide (usTicks s.ring.replayUs.toNat ≤ s.clk.ticks - (portAt s p).ackTick)) = true ↔ (portAt s p).st ≠ .down ∧
      (portAt s p).store ≠ [] ∧ usTicks s.ring.replayUs.toNat ≤ s.clk.ticks - (portAt s p).ackTick := by
    simp [receives, and_assoc]
  exact if_congr hiff rfl rfl

theorem frameCrcError_port {p : PortId} {bad : Bool} {s : State} (h : (portAt s p).st ≠ .down) :
    let u := frameCrcError p bad s
    (portAt u p).crc = (if bad then (portAt s p).crc + 1 else (portAt s p).crc) ∧ (portAt u p).nakDue = true ∧
      (portAt u p).rxAck = (portAt s p).rxAck := by
  unfold frameCrcError
  rw [if_neg (by simp [receives, h])]
  cases p <;> exact ⟨rfl, rfl, rfl⟩

/-- The acknowledgements and credits that a LINK word brings, before its acknowledged frames are seen to. -/
def linkTaken (p : PortId) (w : Word) (s : State) : State :=
  let ack : BitVec 12 := BitVec.ofNat 12 (fldW w 36 12)
  let ret (k : Nat) : Nat := fldW w (34 - 5 * k - 4) 5
  let echo := fldW w 56 1 = 1
  onlyIf (decide echo && !(portAt s p).delayValid) bumpFree (onPort p (fun y => { y with
    store := y.store.filter (fun t => !ackedBy ack t.lseq)
    ackTick := if ((portAt s p).store.filter (fun t => ackedBy ack t.lseq)).isEmpty then y.ackTick else s.clk.ticks
    credits := (List.range 7).map (fun k => y.credits.getD k 0 + ret k)
    creditTick := (List.range 7).map (fun k => if ret k = 0 then y.creditTick.getD k 0 else s.clk.ticks)
    delay := if echo ∧ !y.delayValid then Config.linkDelay s.clk.free else y.delay
    delayValid := y.delayValid || decide echo
    echoDue := y.echoDue || (decide echo && y.delayValid) }) s)

theorem linkTaken_port {p : PortId} {w : Word} {s : State} :
    (portAt (linkTaken p w s) p).store = (portAt s p).store.filter (fun t => !ackedBy (BitVec.ofNat 12 (fldW w 36 12)) t.lseq) ∧
      (portAt (linkTaken p w s) p).credits =
        (List.range 7).map (fun k => (portAt s p).credits.getD k 0 + fldW w (34 - 5 * k - 4) 5) ∧
      (linkTaken p w s).tal = s.tal ∧ (linkTaken p w s).clk.ticks = s.clk.ticks := by
  unfold linkTaken
  dsimp only
  generalize (decide (fldW w 56 1 = 1) && !(portAt s p).delayValid) = e
  cases e <;> cases p <;> exact ⟨rfl, rfl, rfl, rfl⟩

/-- The frames that a LINK word acknowledges, one after another. -/
def linkAcked (p : PortId) (w : Word) (s : State) : State :=
  ((portAt s p).store.filter (fun t => ackedBy (BitVec.ofNat 12 (fldW w 36 12)) t.lseq)).foldl (fun t f => frameAcked f t) (linkTaken p w s)

theorem linkRx_of_link {p : PortId} {w : Word} {s : State} (h : (portAt s p).st ≠ .down) (hw : fldW w 58 6 = 0x3F) :
    linkRx p w s = if fldW w 57 1 = 1 ∧ (!(portAt (linkAcked p w s) p).store.isEmpty) = true then replay p (linkAcked p w s)
      else linkAcked p w s := by
  unfold linkRx
  rw [if_neg (by simp [receives, h, hw])]
  rfl

/-- After a LINK word the store holds what it does not acknowledge, sent again where it is a NAK, and its credits are there. -/
theorem linkRx_port {p : PortId} {w : Word} {s : State} (h : (portAt s p).st ≠ .down) (hw : fldW w 58 6 = 0x3F) :
    let left := (portAt s p).store.filter (fun t => !ackedBy (BitVec.ofNat 12 (fldW w 36 12)) t.lseq)
    let u := linkRx p w s
    (portAt u p).store =
        (if fldW w 57 1 = 1 then left.map (fun t => { t with replays := t.replays + 1, tick := s.clk.ticks }) else left) ∧
      (portAt u p).credits = (List.range 7).map (fun k => (portAt s p).credits.getD k 0 + fldW w (34 - 5 * k - 4) 5) ∧
      u.tal = (linkAcked p w s).tal := by
  obtain ⟨hstore, hcred, -, hticks⟩ := linkTaken_port (p := p) (w := w) (s := s)
  have hface : linkFace (linkAcked p w s) = linkFace (linkTaken p w s) := linkFace_foldl_frameAcked
  obtain ⟨-, -, -, hstore', hcred'⟩ := port_of_wires (congrArg Prod.fst hface : wires _ = wires _) p
  have hticks' : (linkAcked p w s).clk.ticks = (linkTaken p w s).clk.ticks := congrArg Prod.snd hface
  have hs := hstore'.trans hstore
  dsimp only
  rw [linkRx_of_link h hw]
  split
  next hnak =>
    obtain ⟨hrs, -, hrc, htal⟩ := replay_port (p := p) (s := linkAcked p w s)
    rw [if_pos hnak.1]
    refine ⟨hrs.trans ?_, hrc.trans (hcred'.trans hcred), htal⟩
    rw [hticks', hticks, portAt, hs]
  next hno =>
    refine ⟨hs.trans ?_, hcred'.trans hcred, rfl⟩
    split
    next hnak =>
      have hempty : (portAt s p).store.filter (fun t => !ackedBy (BitVec.ofNat 12 (fldW w 36 12)) t.lseq) = [] := by
        have he : (portAt (linkAcked p w s) p).store = [] := by simpa [hnak] using hno
        exact hs.symm.trans he
      rw [hempty]
      rfl
    next => rfl

/-- The one frame of a store, a held response, is delivered when it is acknowledged. -/
theorem linkAcked_held {p : PortId} {w : Word} {s : State} {t : TxFrame} {key : Nat} (ht : (portAt s p).store = [t]) (hk : t.kind = .held key)
    (ha : ackedBy (BitVec.ofNat 12 (fldW w 36 12)) t.lseq = true) :
    (linkAcked p w s).tal.books.delivered = s.tal.books.delivered + BitVec.ofNat 64 t.words ∧
      (linkAcked p w s).tal.books.inflight = s.tal.books.inflight - BitVec.ofNat 64 t.words := by
  obtain ⟨-, -, htal, -⟩ := linkTaken_port (p := p) (w := w) (s := s)
  unfold linkAcked
  rw [ht, List.filter_cons_of_pos (by simpa using ha)]
  obtain ⟨hd, hi⟩ := frameAcked_held (s := linkTaken p w s) hk
  rw [htal] at hd hi
  exact ⟨hd, hi⟩

/-- Settles O48: each clause is the lemma on its failure, timer or frame. -/
theorem portFailuresAndLinkFrames : Obligations.PortFailuresAndLinkFrames := by
  refine ⟨fun s p h => ?_, fun s p w h hp hw => ?_⟩
  · have hr := running_of_upAnd h
    intro joined failed
    have hj : joined = (joinsFailover p s = true) := propext joinsFailover_iff.symm
    have hfailed : ∀ c, failed c = PortFails s p c := fun c => by
      funext u
      simp only [failed, PortFails, hj]
    simp only [hfailed]
    refine ⟨effects_of_act exec_lossOfLock hr lossOfLock_fails, effects_of_act exec_highBer hr highBer_fails, fun t ht hn => ?_,
      fun hn => next_of_act_same hr exec_retransmissionLimit (retransLimit_of_none hn), fun k hk h1 hc hw ht => ?_, ⟨fun hlate => ?_,
      fun hlate => ?_⟩, fun bad hp => effects_of_act exec_frameCrcError hr (frameCrcError_port hp)⟩
    · refine effects_of_act exec_retransmissionLimit hr ?_
      rw [retransLimit_of_reached ht hn]
      exact failPort_fails
    · refine effects_of_act exec_creditTimeout hr ?_
      rw [creditTimeout_of_late hk h1 hc hw ht]
      exact failPort_fails
    · refine effects_of_act exec_replayTimer hr ?_
      rw [replayTimer_eq, if_pos hlate]
      obtain ⟨hs, hc, -, htal⟩ := replay_port (p := p) (s := s)
      exact ⟨hs, hc, htal⟩
    · exact next_of_act_same hr exec_replayTimer (replayTimer_eq.trans (if_neg hlate))
  · obtain ⟨hs, hc, htal⟩ := linkRx_port (s := s) hp hw
    refine effects_of_act exec_linkRx (running_of_upAnd h) ⟨hs, hc, fun t key ht hk ha => ?_⟩
    rw [htal]
    exact linkAcked_held ht hk ha

end Sys2Proof.Machine

/-! PROOFS. Responses to the node's own requests, enumeration, and accesses that no register takes (R167, R243, R263, R312). -/

namespace Sys2Proof.Machine

/-! ### Jobs that end with an error -/

/-- The status with which a job ends, once it stops. -/
theorem stop_of_stopJob {id : Nat} {status : BitVec 8} {why : Option WordKerf} {s : State} {j : Job} (hj : jobOf s id = some j)
    (hs : j.stop = none) : (jobOf (stopJob id status why s) id).map (·.stop) = some (some status) := by
  have h := congrArg (Option.map Job.stop) (jobOf_stopJob (status := status) (why := why) hj hs)
  rw [Option.map_map] at h
  exact h

theorem stop_of_failJob {id : Nat} {status : BitVec 8} {why : Option WordKerf} {s : State} {j : Job} (hj : jobOf s id = some j)
    (hs : j.stop = none) : (jobOf (failJob id status why s) id).map (·.stop) = some (some status) := by
  have hf : failJob id status why s = stopJob id status why s := by
    unfold failJob
    rw [hj]
    exact if_pos (by rw [hs]; rfl)
  rw [hf]
  exact stop_of_stopJob hj hs

theorem stop_of_outer {s t : State} (h : outer t = outer s) (id : Nat) :
    (jobOf t id).map (·.stop) = (jobOf s id).map (·.stop) := by
  have hface := congrArg (Option.map Job.stop) (jobOf_face_congr h id)
  rw [Option.map_map, Option.map_map] at hface
  exact hface

theorem jobOf_updJob_some {id : Nat} {f : Job → Job} {s : State} {j : Job} (h : ∀ j, (f j).id = j.id) (hj : jobOf s id = some j) :
    jobOf (updJob id f s) id = some (f j) := by
  rw [jobOf_updJob_self h, hj]
  rfl

/-- A job that has not stopped is still there, and has not stopped, where the views agree. -/
theorem running_of_outer {s t : State} {id : Nat} {j : Job} (h : outer t = outer s) (hj : jobOf s id = some j) (hs : j.stop = none) :
    ∃ j', jobOf t id = some j' ∧ j'.stop = none := by
  have hstop := stop_of_outer h id
  rw [hj, Option.map_some, hs] at hstop
  cases ht : jobOf t id with
  | none => simp [ht] at hstop
  | some j' => exact ⟨j', rfl, by simpa [ht] using hstop⟩

/-! ### Acknowledgements of writes -/

/-- A request's words are delivered with its acknowledgement, and where they were marked the job's record says so. -/
def ackWords (o : Outst) (id : Nat) (s : State) : State :=
  markJob id o.marked (onlyIf (decide (o.words ≠ 0)) (deliverWords o.refs o.words o.marked) s)

theorem ackWords_delivered {o : Outst} {id : Nat} {s : State} :
    (ackWords o id s).tal.books.delivered = s.tal.books.delivered + BitVec.ofNat 64 o.words := by
  have hmark : ∀ t, (markJob id o.marked t).tal = t.tal := fun t => by
    unfold markJob
    split <;> rfl
  unfold ackWords onlyIf
  rw [hmark]
  split
  next => rw [deliverWords_tal]; rfl
  next h =>
    rw [show o.words = 0 by simpa using h]
    exact (BitVec.add_zero _).symm

theorem ackWords_outst {o : Outst} {id : Nat} {s : State} : (ackWords o id s).ring.outst = s.ring.outst := by
  have hmark : ∀ t, (markJob id o.marked t).ring = t.ring := fun t => by
    unfold markJob
    split <;> rfl
  unfold ackWords onlyIf
  rw [hmark]
  split
  next => exact (congrArg (fun r : Ring => r.outst) (congrArg Prod.fst linkFace_deliverWords : wires _ = wires _) :)
  next => rfl

/-- Jobs keep their statuses when words are delivered. -/
theorem ackWords_running {o : Outst} {id : Nat} {s : State} {j : Job} (hj : jobOf s id = some j) (hs : j.stop = none) :
    ∃ j', jobOf (ackWords o id s) id = some j' ∧ j'.stop = none := by
  have hdel : ∃ j', jobOf (onlyIf (decide (o.words ≠ 0)) (deliverWords o.refs o.words o.marked) s) id = some j' ∧ j'.stop = none := by
    unfold onlyIf
    split
    · exact running_of_outer (s := updBooks (bkDelivered o.words o.marked) s) outer_finishSlots hj hs
    · exact ⟨j, hj, hs⟩
  obtain ⟨j', hj', hs'⟩ := hdel
  unfold ackWords markJob
  split
  · exact ⟨j', hj', hs'⟩
  · refine ⟨_, jobOf_updJob_some ?_ hj', hs'⟩
    exact fun _ => rfl

theorem jobOf_congr {s t : State} (h : t.job = s.job) (id : Nat) : jobOf t id = jobOf s id := by
  rw [jobOf, h, jobOf]

/-- The acknowledgement of a data write. -/
theorem wrAckRx_data {p : PortId} {f : Frame} {s : State} {o : Outst} {id no : Nat} (hp : (portAt s p).st ≠ .down)
    (hme : forMe s f = true) (hty : f.type = 0x04) (hvc : f.vc = 1) (ho : outstFor s f = some o) (hk : o.kind = .data id no) :
    wrAckRx p f s =
      if f.status = 0 then finishCheck id (endWrite id no .acked (ackWords o id (dropOutst o (rxFrame p f s))))
      else endWrite id no .failed (failJob id stDenied (some .failover) (ackWords o id (dropOutst o (rxFrame p f s)))) := by
  unfold wrAckRx
  rw [if_neg (by simp [receives, hp, hme, hty, hvc]), ho]
  dsimp only
  rw [hk]
  rfl

theorem dropOutst_rxFrame {p : PortId} {f : Frame} {o : Outst} {s : State} :
    let t := dropOutst o (rxFrame p f s)
    t.ring.outst = s.ring.outst.filter (fun x => decide (x ≠ o)) ∧ t.tal = s.tal ∧ t.job = s.job := by
  obtain ⟨r, hr, hcore, -⟩ := passes_rxFrame (p := p) (f := f) (s := s)
  rw [hr]
  have ho : r.outst = s.ring.outst := (congrArg Ring.outst hcore :)
  exact ⟨congrArg (List.filter fun x => decide (x ≠ o)) ho, rfl, rfl⟩

theorem wrAckRx_ends {p : PortId} {f : Frame} {s : State} {o : Outst} {id no : Nat} (hp : (portAt s p).st ≠ .down)
    (hme : forMe s f = true) (hty : f.type = 0x04) (hvc : f.vc = 1) (ho : outstFor s f = some o) (hk : o.kind = .data id no) :
    let u := wrAckRx p f s
    u.ring.outst = s.ring.outst.filter (fun x => decide (x ≠ o)) ∧
      u.tal.books.delivered = s.tal.books.delivered + BitVec.ofNat 64 o.words ∧
      (∀ j, jobOf s id = some j → j.stop = none → f.status ≠ 0 → (jobOf u id).map (·.stop) = some (some stDenied)) := by
  obtain ⟨hout, htal, hjob⟩ := dropOutst_rxFrame (p := p) (f := f) (o := o) (s := s)
  dsimp only
  rw [wrAckRx_data hp hme hty hvc ho hk]
  generalize dropOutst o (rxFrame p f s) = t at *
  have hd : (ackWords o id t).tal.books.delivered = s.tal.books.delivered + BitVec.ofNat 64 o.words := by
    rw [ackWords_delivered, htal]
  have ho' : (ackWords o id t).ring.outst = s.ring.outst.filter (fun x => decide (x ≠ o)) := ackWords_outst.trans hout
  split
  next h0 =>
    have hsh : shell (finishCheck id (endWrite id no .acked (ackWords o id t))) = shell (ackWords o id t) :=
      shell_finishCheck.trans shell_endWrite
    exact ⟨(outst_of_shell hsh).trans ho', (delivered_of_shell hsh).trans hd, fun j _ _ h => absurd h0 h⟩
  next h0 =>
    have hsh : shell (endWrite id no .failed (failJob id stDenied (some .failover) (ackWords o id t))) = shell (ackWords o id t) :=
      shell_endWrite.trans shell_failJob
    refine ⟨(outst_of_shell hsh).trans ho', (delivered_of_shell hsh).trans hd, fun j hj hs _ => ?_⟩
    obtain ⟨j', hj', hs'⟩ := ackWords_running (o := o) ((jobOf_congr hjob id).trans hj) hs
    exact (stop_of_outer outer_endWrite id).trans (stop_of_failJob hj' hs')

/-- A response that answers nothing is taken from the link, and no more. -/
theorem wrAckRx_unasked {p : PortId} {f : Frame} {s : State} (hp : (portAt s p).st ≠ .down) (hme : forMe s f = true)
    (hty : f.type = 0x04) (hvc : f.vc = 1) (ho : outstFor s f = none) : wrAckRx p f s = rxFrame p f s := by
  unfold wrAckRx
  rw [if_neg (by simp [receives, hp, hme, hty, hvc]), ho]

/-! ### Responses to reads -/

theorem shell_readArrives {id : Nat} {data : List Byte} {s : State} : shell (readArrives id data s) = shell s := by
  unfold readArrives
  split
  · rfl
  · split
    · rfl
    · split
      · rfl
      · rw [shell_fetchRun]
        exact shell_updJob fun _ => rfl

theorem rdRspRx_read {p : PortId} {f : Frame} {s : State} {o : Outst} {id : Nat} (hp : (portAt s p).st ≠ .down)
    (hme : forMe s f = true) (hty : f.type = 0x02) (hvc : f.vc = 1) (ho : outstFor s f = some o) (hk : o.kind = .read id) :
    rdRspRx p f s = if f.status = 0 then readArrives id f.payload (dropOutst o (rxFrame p f s))
      else readFailed id (dropOutst o (rxFrame p f s)) := by
  unfold rdRspRx
  rw [if_neg (by simp [receives, hp, hme, hty, hvc]), ho]
  dsimp only
  rw [hk]

theorem stop_of_readFailed {id : Nat} {s : State} {j : Job} (hj : jobOf s id = some j) (hs : j.stop = none) :
    (jobOf (readFailed id s) id).map (·.stop) = some (some stDenied) := by
  unfold readFailed
  rw [hj]
  dsimp only
  refine stop_of_stopJob (jobOf_updJob_some ?_ hj) hs
  exact fun _ => rfl

theorem rdRspRx_ends {p : PortId} {f : Frame} {s : State} {o : Outst} {id : Nat} (hp : (portAt s p).st ≠ .down)
    (hme : forMe s f = true) (hty : f.type = 0x02) (hvc : f.vc = 1) (ho : outstFor s f = some o) (hk : o.kind = .read id) :
    let u := rdRspRx p f s
    u.ring.outst = s.ring.outst.filter (fun x => decide (x ≠ o)) ∧ u.tal.books.delivered = s.tal.books.delivered ∧
      (∀ j, jobOf s id = some j → j.stop = none → f.status ≠ 0 → (jobOf u id).map (·.stop) = some (some stDenied)) := by
  obtain ⟨hout, htal, hjob⟩ := dropOutst_rxFrame (p := p) (f := f) (o := o) (s := s)
  dsimp only
  rw [rdRspRx_read hp hme hty hvc ho hk]
  generalize dropOutst o (rxFrame p f s) = t at *
  have hd : t.tal.books.delivered = s.tal.books.delivered := (congrArg (fun x => x.books.delivered) htal :)
  split
  next h0 =>
    have hsh : shell (readArrives id f.payload t) = shell t := shell_readArrives
    exact ⟨(outst_of_shell hsh).trans hout, (delivered_of_shell hsh).trans hd, fun j _ _ h => absurd h0 h⟩
  next h0 =>
    have hsh : shell (readFailed id t) = shell t := shell_readFailed
    exact ⟨(outst_of_shell hsh).trans hout, (delivered_of_shell hsh).trans hd,
      fun j hj hs _ => stop_of_readFailed ((jobOf_congr hjob id).trans hj) hs⟩

theorem rdRspRx_unasked {p : PortId} {f : Frame} {s : State} (hp : (portAt s p).st ≠ .down) (hme : forMe s f = true)
    (hty : f.type = 0x02) (hvc : f.vc = 1) (ho : outstFor s f = none) : rdRspRx p f s = rxFrame p f s := by
  unfold rdRspRx
  rw [if_neg (by simp [receives, hp, hme, hty, hvc]), ho]

theorem rxFrame_rest {p : PortId} {f : Frame} {s : State} :
    (rxFrame p f s).job = s.job ∧ (rxFrame p f s).tal = s.tal ∧ (rxFrame p f s).ring.outst = s.ring.outst := by
  obtain ⟨r, hr, hcore, -⟩ := passes_rxFrame (p := p) (f := f) (s := s)
  rw [hr]
  exact ⟨rfl, rfl, (congrArg Ring.outst hcore :)⟩

/-! ### Enumeration -/

theorem sends_sendReply {p : PortId} {t : TxFrame} {s : State} : Sends t s.ring (sendReply p t s).ring := by
  unfold sendReply
  dsimp only
  split
  · exact sends_sendTx
  · exact sends_queueTx

theorem passed_sendReply {p : PortId} {t : TxFrame} {s : State} : Passed s.ring (sendReply p t s).ring := by
  unfold sendReply
  dsimp only
  split
  · exact passed_sendTx
  · exact passed_queueTx

/-- The ring's frames that wait, and what the node is in it. -/
structure SameNode (r r' : Ring) : Prop where
  queued : Queued r r'
  done : r'.enumDone = r.enumDone
  node : r'.nodeId = r.nodeId
  win : r'.win = r.win

theorem SameNode.trans {r r' r'' : Ring} (h : SameNode r r') (g : SameNode r' r'') : SameNode r r'' :=
  ⟨h.queued.trans g.queued, g.done.trans h.done, g.node.trans h.node, g.win.trans h.win⟩

theorem sameNode_of_passed {r r' : Ring} (h : Passed r r') : SameNode r r' :=
  ⟨h.queued, (congrArg Ring.enumDone h.core :), (congrArg Ring.nodeId h.core :), (congrArg Ring.win h.core :)⟩

theorem sameNode_updPort {r : Ring} {p : PortId} {f : Port → Port} (hf : ∀ x, (f x).txq = x.txq) : SameNode r (updPort r p f) := by
  have hq : Queued r (updPort r p f) := queued_updPort fun x => ⟨[], by rw [hf, List.append_nil]⟩
  cases p <;> exact ⟨hq, rfl, rfl, rfl⟩

theorem sameNode_sendIdents {s : State} : SameNode s.ring (sendIdents s).ring := by
  have hone : ∀ p t, SameNode t.ring (sendIdent p t).ring := fun p t => by
    have hword : ∀ w, SameNode t.ring (updPort t.ring p (fun x => { x with identTx := w })) := fun w => by
      refine sameNode_updPort ?_
      exact fun _ => rfl
    unfold sendIdent
    split
    · exact hword _
    · exact sameNode_of_passed .refl
  exact (hone .a s).trans (hone .b _)

/-- The node takes the ID and the window of an ENUM frame, or refuses them. -/
def enumTakes (f : Frame) (s : State) : Prop :=
  f.addr.toNat % 0x4000000 = 0 ∧ (f.h2.setWidth 12 : BitVec 12) ≠ 0xFFF ∧
    (s.ring.enumDone = true → (f.h2.setWidth 12 : BitVec 12) = s.ring.nodeId ∧ (f.addr.extractLsb' 26 22 : BitVec 22) = s.ring.win)

theorem enumTakes_iff {f : Frame} {s : State} :
    (decide (f.addr.toNat % 0x4000000 = 0) && decide ((f.h2.setWidth 12 : BitVec 12) ≠ 0xFFF) &&
      (!s.ring.enumDone || (decide ((f.h2.setWidth 12 : BitVec 12) = s.ring.nodeId) &&
        decide ((f.addr.extractLsb' 26 22 : BitVec 22) = s.ring.win)))) = true ↔ enumTakes f s := by
  unfold enumTakes
  cases s.ring.enumDone <;> simp [and_assoc]

/-- A frame that waits is the answer to an ENUM frame, with a status. -/
def EnumAnswer (f : Frame) (status : BitVec 4) (s u : State) : Prop :=
  ∃ q l x, (portAt u q).txq = (portAt s q).txq ++ l ∧ x ∈ l ∧ x.f.type = 0x0B ∧ x.f.dst = f.src ∧ x.f.txn = f.txn ∧ x.f.status = status

theorem enumAnswer_of_sends {f : Frame} {ok : Bool} {s t u : State} (h : Sends (plainTx .resp (enumRsp t f ok)) s.ring u.ring) :
    EnumAnswer f (if ok then 0 else 3) s u := by
  obtain ⟨q, l, hl, hx⟩ := h
  refine ⟨q, l, _, hl, hx, rfl, ?_, rfl, rfl⟩
  show BitVec.ofNat 12 f.src.toNat = f.src
  simp

/-- A node that has just taken its ID and window answers, and says who it is. -/
theorem enumTaken_answers {p : PortId} {f : Frame} {s t : State} {r : Ring} {id : BitVec 12} {win : BitVec 22} (hq : Queued s.ring r)
    (ha : t.ring.pa = r.pa) (hb : t.ring.pb = r.pb) (he : t.ring.enumDone = true) (hn : t.ring.nodeId = id) (hw : t.ring.win = win) :
    let u := post 0x54 id.toNat 0 (sendIdents (sendReply p (plainTx .resp (enumRsp t f true)) t))
    EnumAnswer f 0 s u ∧ u.ring.enumDone = true ∧ u.ring.nodeId = id ∧ u.ring.win = win := by
  have hsame := sameNode_of_passed (passed_sendReply (p := p) (t := plainTx .resp (enumRsp t f true)) (s := t))
  have hsent := sends_sendReply (p := p) (t := plainTx .resp (enumRsp t f true)) (s := t)
  generalize sendReply p (plainTx .resp (enumRsp t f true)) t = v at *
  have hidents := sameNode_sendIdents (s := v)
  generalize sendIdents v = w at *
  obtain ⟨e, r', hr', hpost⟩ := post_eq (c := 0x54) (i := id.toNat) (d := 0) (s := w)
  dsimp only
  rw [hr']
  have hlast := hidents.trans (sameNode_of_passed hpost)
  have hall := hsame.trans hlast
  exact ⟨enumAnswer_of_sends (ok := true) ((Sends.after_queued (hq.trans (queued_of_ports ha hb)) hsent).then_queued hlast.queued),
    hall.done.trans he, hall.node.trans hn, hall.win.trans hw⟩

theorem enumRx_takes {p : PortId} {f : Frame} {s : State} (hp : (portAt s p).st ≠ .down) (hty : f.type = 0x0A) (hh : f.hops = 1)
    (hvc : f.vc = 0) (h : enumTakes f s) :
    let u := enumRx p f s
    EnumAnswer f 0 s u ∧ u.ring.enumDone = true ∧ u.ring.nodeId = f.h2.setWidth 12 ∧ u.ring.win = f.addr.extractLsb' 26 22 := by
  unfold enumRx
  rw [if_neg (by simp [receives, enumHere, hp, hty, hh, hvc])]
  dsimp only
  rw [if_pos (enumTakes_iff.mpr h)]
  obtain ⟨r, hr, -, hq⟩ := passes_rxFrame (p := p) (f := f) (s := s)
  rw [hr]
  exact enumTaken_answers hq rfl rfl rfl rfl rfl

theorem enumRx_refuses {p : PortId} {f : Frame} {s : State} (hp : (portAt s p).st ≠ .down) (hty : f.type = 0x0A) (hh : f.hops = 1)
    (hvc : f.vc = 0) (h : ¬ enumTakes f s) :
    let u := enumRx p f s
    EnumAnswer f 3 s u ∧ u.ring.enumDone = s.ring.enumDone ∧ u.ring.nodeId = s.ring.nodeId ∧ u.ring.win = s.ring.win := by
  unfold enumRx
  rw [if_neg (by simp [receives, enumHere, hp, hty, hh, hvc])]
  dsimp only
  rw [if_neg (fun hc => h (enumTakes_iff.mp hc))]
  obtain ⟨r, hr, hcore, hq⟩ := passes_rxFrame (p := p) (f := f) (s := s)
  rw [hr]
  have hsent := sends_sendReply (p := p) (t := plainTx .resp (enumRsp { s with ring := r } f false)) (s := { s with ring := r })
  have hcore' := (passed_sendReply (p := p) (t := plainTx .resp (enumRsp { s with ring := r } f false)) (s := { s with ring := r })).core
  generalize sendReply p _ _ = v at *
  have hc := hcore'.trans hcore
  exact ⟨enumAnswer_of_sends (ok := false) (.after_queued hq hsent), (congrArg Ring.enumDone hc :), (congrArg Ring.nodeId hc :),
    (congrArg Ring.win hc :)⟩

/-! ### Accesses that no register takes -/

theorem isMapped_of_reserved {off : Nat} (h : isReserved off = true) : isMapped off = false := by
  simp only [isReserved, isMapped, Bool.or_eq_true, Bool.and_eq_true, decide_eq_true_eq, Bool.or_eq_false_iff, Bool.and_eq_false_iff,
    decide_eq_false_iff_not] at *
  omega

theorem isMapped_of_submission {off : Nat} (h : isSubmission off = true) : isMapped off = true := by
  simp only [isSubmission, isMapped, Bool.or_eq_true, Bool.and_eq_true, decide_eq_true_eq] at *
  omega

/-- An answer without data changes neither words nor jobs. -/
theorem answer_refuses {a : Acc} {w : Bool} {st : Nat} {s : State} :
    let u := answer a w st [] false s
    u.tal = s.tal ∧ u.stk = s.stk ∧ u.job = s.job ∧
      (a.path = .core → u.core.status = BitVec.ofNat 4 st ∧ u.core.data = []) :=
  ⟨answer_tal, answer_stk, answer_job, fun h => ⟨answer_core_status h, answer_core_data h⟩⟩

theorem unmapped_refuses {a : Acc} {off st : Nat} {wr : Bool} {s : State}
    (h : unmapped a off wr s = answer (norm s a) wr st [] false (entered a false s)) :
    let u := unmapped a off wr s
    u.tal = s.tal ∧ u.stk = s.stk ∧ u.job = s.job ∧ (a.path = .core → u.core.status = BitVec.ofNat 4 st ∧ u.core.data = []) := by
  obtain ⟨htal, hstk, hjob, hcore⟩ := answer_refuses (a := norm s a) (w := wr) (st := st) (s := entered a false s)
  rw [← h] at htal hstk hjob hcore
  exact ⟨htal.trans entered_tal, hstk.trans entered_stk, hjob.trans entered_job, fun hp => hcore (norm_path.trans hp)⟩

theorem unmapped_of_reserved {a : Acc} {off : Nat} {wr : Bool} {s : State} (he : enters a s = true) (h : isReserved off = true) :
    unmapped a off wr s = answer (norm s a) wr 1 [] false (entered a false s) := by
  unfold unmapped
  rw [if_pos (by rw [isMapped_of_reserved h]; rfl), arrive_of_enters he]

theorem unmapped_of_submission {a : Acc} {off : Nat} {s : State} (he : enters a s = true) (h : isSubmission off = true) :
    unmapped a off false s = answer (norm s a) false (if halted s then 8 else 3) [] false (entered a false s) := by
  unfold unmapped
  rw [if_neg (by rw [isMapped_of_submission h]; decide), if_pos (by rw [show inSubmit off = true from h]; rfl), arrive_of_enters he,
    halted, entered_hlt, entered_sys, halted]

/-- Settles O50: each clause is the lemma on its frame or access. -/
theorem responsesAndEnumeration : Obligations.ResponsesAndEnumeration := by
  intro s p f
  refine ⟨fun h hp => ?_, fun a off wr he _ => ⟨fun hres => ?_, fun hsub => ?_⟩⟩
  · have hr := running_of_upAnd h
    refine ⟨fun o id no hme hty hvc ho hk => ?_, fun hme hty hvc ho => ?_, fun o id hme hty hvc ho hk => ?_, fun hme hty hvc ho => ?_,
      fun hty hh hvc => ?_⟩
    · exact effects_of_act exec_wrAckRx hr (wrAckRx_ends hp hme hty hvc ho hk)
    · refine effects_of_act exec_wrAckRx hr ?_
      rw [wrAckRx_unasked hp hme hty hvc ho]
      exact rxFrame_rest
    · exact effects_of_act exec_rdRspRx hr (rdRspRx_ends hp hme hty hvc ho hk)
    · refine effects_of_act exec_rdRspRx hr ?_
      rw [rdRspRx_unasked hp hme hty hvc ho]
      exact rxFrame_rest
    · refine effects_of_act exec_enumFrame hr ?_
      by_cases hok : enumTakes f s
      · have hc := hok
        unfold enumTakes at hc
        rw [if_pos hc, if_pos hc]
        exact enumRx_takes hp hty hh hvc hok
      · have hc := hok
        unfold enumTakes at hc
        rw [if_neg hc, if_neg hc]
        exact enumRx_refuses hp hty hh hvc hok
  · exact effects_of_act exec_unmappedAccess (running_of_enters he) (unmapped_refuses (unmapped_of_reserved he hres))
  · refine effects_of_act exec_unmappedAccess (running_of_enters he) ?_
    obtain ⟨htal, hstk, hjob, hcore⟩ := unmapped_refuses (unmapped_of_submission he hsub)
    refine ⟨htal, hstk, hjob, fun hp => ⟨(hcore hp).1.trans ?_, (hcore hp).2⟩⟩
    split <;> rfl

end Sys2Proof.Machine

/-! PROOFS. The states of the ring ports (R248, R251, R252, R254, R261, R274, R362). -/

namespace Sys2Proof.Machine

/-! ### What records and answers leave of a port -/

/-- A port without the frames that wait in it. -/
def portRest (x : Port) : Port := { x with txq := [] }

theorem portRest_queueTx {p q : PortId} {t : TxFrame} {r : Ring} : portRest (portOf (queueTx p t r) q) = portRest (portOf r q) := by
  cases p <;> cases q <;> rfl

theorem portRest_sendTx {q : PortId} {t : TxFrame} {r : Ring} : portRest (portOf (sendTx t r) q) = portRest (portOf r q) := portRest_queueTx

/-- A record adds at most an event frame to those that wait. -/
theorem portRest_post {q : PortId} {c i d : Nat} {s : State} : portRest (portAt (post c i d s) q) = portRest (portAt s q) := by
  unfold post postEvent portAt
  dsimp only
  split
  · exact portRest_sendTx.trans (by cases q <;> rfl)
  · rfl

theorem passes_entered {a : Acc} {hold : Bool} {s : State} : Passes s (entered a hold s) := by
  unfold entered
  split
  · exact passes_rxAccess
  · exact .refl

theorem passed_answer {a : Acc} {w : Bool} {st : Nat} {d : List Byte} {un : Bool} {s : State} : Passed s.ring (answer a w st d un s).ring := by
  unfold answer
  split
  · exact passed_sendReply
  · split
    · exact .refl
    · exact .refl

/-- A write of a plain register reaches it once its frame has been taken from the link. -/
theorem writeAccess_passes {a : Acc} {off : Nat} {v : W32} {s : State} (h : mayWrite a off s = true) (ho : off < 0x10000)
    (h4 : off % 4 = 0) (hg : guardBase off = none) (hm : off / 0x1000 ≠ 3) :
    ∃ r y, Passed s.ring r ∧ sysRest y = sysRest s.sys ∧
      writeAccess a off [v] s = answer (norm s a) true 0 [] false (plainWrite (who a s) off v { s with ring := r, sys := y }) := by
  obtain ⟨r, hr, hpass⟩ := passes_entered (a := a) (hold := false) (s := s)
  obtain ⟨y, hy, hrest⟩ := breakArm_sysOnly (who a s) (entered a false s)
  refine ⟨r, y, hpass, hrest.trans (congrArg sysRest entered_sys), ?_⟩
  rw [writeAccess_of_mayWrite h ho h4, writeOne_plain hg hm, hy, hr]

/-! ### Training and IDENT -/

/-- What a port that begins to train has. -/
def trains (x : Port) : Port :=
  { x with
    st := .train, lock := 3, hiBer := false, partner := 0xFFF, partnerReady := false, delayValid := false, delay := 0
    rxAck := 0xFFF, txSeq := BitVec.ofNat 12 x.store.length, credits := poolSizes, returns := [0, 0, 0, 0, 0, 0, 0]
    nakDue := false, echoDue := true, linkTx := 0
    store := x.store.mapIdx (fun i t => { t with lseq := BitVec.ofNat 12 i }) }

/-- What of a port neither a replay nor an IDENT changes. -/
def portSeen (x : Port) : PortState × BitVec 2 × List Nat × BitVec 12 × BitVec 12 × Bool :=
  (x.st, x.lock, x.credits, x.rxAck, x.partner, x.delayValid)

theorem portSeen_of_rest {x y : Port} (h : portRest x = portRest y) : portSeen x = portSeen y := by
  have h' := congrArg portSeen h
  exact h'

theorem portSeen_onPort {p q : PortId} {f : Port → Port} {s : State} (hf : ∀ x, portSeen (f x) = portSeen x) :
    portSeen (portAt (onPort p f s) q) = portSeen (portAt s q) := by
  by_cases h : q = p
  · subst h
    exact (congrArg portSeen portOf_updPort_self).trans (hf _)
  · exact congrArg portSeen (portOf_updPort_ne h)

theorem portSeen_sendIdent {p q : PortId} {s : State} : portSeen (portAt (sendIdent p s) q) = portSeen (portAt s q) := by
  have hword : ∀ w, portSeen (portAt (onPort p (fun x => { x with identTx := w }) s) q) = portSeen (portAt s q) := fun w => by
    refine portSeen_onPort ?_
    exact fun _ => rfl
  unfold sendIdent
  split
  · exact hword _
  · rfl

theorem portSeen_replay {p q : PortId} {s : State} : portSeen (portAt (replay p s) q) = portSeen (portAt s q) := by
  refine portSeen_onPort ?_
  exact fun _ => rfl

theorem portTrain_of_down {p q : PortId} {s : State} (h : (portAt s p).st = .down) :
    portSeen (portAt (portTrain p s) q) =
      portSeen (portAt (onPort p trains { s with clk := { s.clk with ckRing := true } }) q) := by
  unfold portTrain
  dsimp only
  rw [if_neg (fun hc => hc h)]
  refine portSeen_sendIdent.trans ((portSeen_of_rest portRest_post).trans ?_)
  unfold onlyIf
  have htrain : onPort p (fun y => { y with
      st := .train, lock := 3, hiBer := false, partner := 0xFFF, partnerReady := false, delayValid := false, delay := 0
      rxAck := 0xFFF, txSeq := BitVec.ofNat 12 (portAt s p).store.length, credits := poolSizes, returns := [0, 0, 0, 0, 0, 0, 0]
      nakDue := false, echoDue := true, linkTx := 0
      store := y.store.mapIdx (fun i t => { t with lseq := BitVec.ofNat 12 i }) }) { s with clk := { s.clk with ckRing := true } } =
      onPort p trains { s with clk := { s.clk with ckRing := true } } := by
    cases p <;> rfl
  rw [htrain]
  split
  · exact portSeen_replay
  · rfl

theorem portTrain_trains {p : PortId} {s : State} (h : (portAt s p).st = .down) :
    let u := portTrain p s
    (portAt u p).st = .train ∧ (portAt u p).lock = 3 ∧ (portAt u p).credits = poolSizes ∧ (portAt u p).rxAck = 0xFFF ∧
      (portAt u p).partner = 0xFFF ∧ (portAt u p).delayValid = false ∧ (portAt u (otherPort p)).st = (portAt s (otherPort p)).st := by
  have hself := (portTrain_of_down (q := p) h).trans (congrArg portSeen portOf_updPort_self)
  have hother := (portTrain_of_down (q := otherPort p) h).trans (congrArg portSeen (portOf_updPort_ne (by cases p <;> decide)))
  simp only [portSeen, trains, Prod.mk.injEq] at hself hother
  obtain ⟨hst, hlock, hcred, hack, hpartner, hdelay⟩ := hself
  exact ⟨hst, hlock, hcred, hack, hpartner, hdelay, hother.1⟩

theorem portTrain_of_up {p : PortId} {s : State} (h : (portAt s p).st ≠ .down) :
    let u := portTrain p s
    portAt u p = { portAt s p with lock := 3 } ∧ portAt u (otherPort p) = portAt s (otherPort p) := by
  unfold portTrain
  dsimp only
  rw [if_pos h]
  cases p <;> exact ⟨rfl, rfl⟩

theorem portAt_onPort_self {p : PortId} {f : Port → Port} {s : State} : portAt (onPort p f s) p = f (portAt s p) := portOf_updPort_self

theorem identRx_of_train {p : PortId} {w : Word} {s : State} (hw : fldW w 58 6 = 0x3E) (h : (portAt s p).st = .train) :
    let u := identRx p w s
    (portAt u p).st = .ready ∧ (portAt u p).partner = BitVec.ofNat 12 (fldW w 44 12) ∧
      (portAt u p).partnerReady = decide (fldW w 57 1 = 1) ∧ (portAt u p).readyTick = s.clk.ticks := by
  unfold identRx
  dsimp only
  rw [if_neg (by simp [h, hw]), if_pos h]
  have hrest := portRest_post (q := p) (c := 0x51) (i := portIdx p) (d := 2)
    (s := onPort p (fun y => { y with st := .ready, readyTick := s.clk.ticks }) (onPort p (fun y => { y with
      partner := BitVec.ofNat 12 (fldW w 44 12), partnerReady := decide (fldW w 57 1 = 1) }) s))
  rw [portAt_onPort_self, portAt_onPort_self] at hrest
  exact ⟨(congrArg Port.st hrest :), (congrArg Port.partner hrest :), (congrArg Port.partnerReady hrest :),
    (congrArg Port.readyTick hrest :)⟩

theorem identRx_of_other {p : PortId} {w : Word} {s : State} (h : fldW w 58 6 ≠ 0x3E ∨ (portAt s p).st = .down) : identRx p w s = s := by
  unfold identRx
  dsimp only
  rw [if_pos h.symm]

/-! ### SERVICE -/

/-- A port in SERVICE. -/
def serves (x : Port) : Port := { x with st := .service, everService := true }

theorem lines_enterService {p : PortId} {s : State} : lines (enterService p s).ring = lines (updPort s.ring p serves) := by
  unfold enterService onlyIf
  dsimp only
  split
  · exact lines_post.trans lines_post
  · exact lines_post

theorem enterService_serves {p : PortId} {s : State} : (portAt (enterService p s) p).st = .service ∧
    (portAt (enterService p s) p).everService = true := by
  have h := lines_enterService (p := p) (s := s)
  cases p with
  | a => exact ⟨(congrArg (·.pa.st) h :), (congrArg (·.pa.everService) h :)⟩
  | b => exact ⟨(congrArg (·.pb.st) h :), (congrArg (·.pb.everService) h :)⟩

theorem restoreTimer_eq {p : PortId} {s : State} : restoreTimer p s = if s.sys.bootDone = true ∧ s.ring.autoRestore = true ∧
    (portAt s p).st = .ready ∧ s.ring.restoreMs.toNat * 125000 ≤ s.clk.ticks - (portAt s p).readyTick then enterService p s else s := by
  unfold restoreTimer
  exact if_congr (by simp [and_assoc]) rfl rfl

theorem enterService_sys {p : PortId} {s : State} : (enterService p s).sys = s.sys := by
  unfold enterService onlyIf
  dsimp only
  split
  · exact post_sys.trans post_sys
  · exact post_sys

/-- What entering SERVICE leaves of the ring besides its own port. -/
theorem enterService_ring {p : PortId} {s : State} :
    (enterService p s).ring.autoRestore = s.ring.autoRestore ∧ (enterService p s).ring.bcastB = s.ring.bcastB ∧
      (portAt (enterService p s) (otherPort p)).st = (portAt s (otherPort p)).st := by
  have h := lines_enterService (p := p) (s := s)
  generalize enterService p s = u at *
  cases p with
  | a => exact ⟨(congrArg Ring.autoRestore h :), (congrArg Ring.bcastB h :), (congrArg (·.pb.st) h :)⟩
  | b => exact ⟨(congrArg Ring.autoRestore h :), (congrArg Ring.bcastB h :), (congrArg (·.pa.st) h :)⟩

/-- One port's part of RING_CTRL.RESTORE. -/
def restorePort (bits : Nat) (p : PortId) (t : State) : State :=
  if bits.testBit (portIdx p) && t.sys.bootDone && decide ((portAt t p).st = .ready) then enterService p t else t

theorem restorePort_ring {bits : Nat} {p : PortId} {t : State} :
    let u := restorePort bits p t
    u.sys = t.sys ∧ u.ring.autoRestore = t.ring.autoRestore ∧ u.ring.bcastB = t.ring.bcastB ∧
      (portAt u (otherPort p)).st = (portAt t (otherPort p)).st ∧
      (portAt u p).st = if bits.testBit (portIdx p) = true ∧ t.sys.bootDone = true ∧ (portAt t p).st = .ready then .service
        else (portAt t p).st := by
  unfold restorePort
  dsimp only
  split
  next h =>
    obtain ⟨hauto, hbc, hother⟩ := enterService_ring (p := p) (s := t)
    rw [if_pos (by simpa [and_assoc] using h)]
    exact ⟨enterService_sys, hauto, hbc, hother, enterService_serves.1⟩
  next h =>
    rw [if_neg (by simpa [and_assoc] using h)]
    exact ⟨rfl, rfl, rfl, rfl, rfl⟩

theorem restoreCmd_ring {bits : Nat} {s : State} :
    let u := restoreCmd bits s
    u.ring.autoRestore = s.ring.autoRestore ∧ u.ring.bcastB = s.ring.bcastB ∧
      ∀ q, (portAt u q).st = if bits.testBit (portIdx q) = true ∧ s.sys.bootDone = true ∧ (portAt s q).st = .ready then .service
        else (portAt s q).st := by
  obtain ⟨hsys, hauto, hbc, hother, hself⟩ := restorePort_ring (bits := bits) (p := .a) (t := s)
  obtain ⟨-, hauto', hbc', hother', hself'⟩ := restorePort_ring (bits := bits) (p := .b) (t := restorePort bits .a s)
  refine ⟨hauto'.trans hauto, hbc'.trans hbc, fun q => ?_⟩
  cases q with
  | a => exact hother'.trans hself
  | b =>
    rw [hsys, show (portAt (restorePort bits .a s) .b).st = (portAt s .b).st from hother] at hself'
    exact hself'

theorem testBit_fld {v : W32} {p : PortId} : (fld v 0 2).testBit (portIdx p) = bitAt v (portIdx p) := by
  have hp : portIdx p < 2 := by cases p <;> decide
  unfold fld bitAt BitVec.getLsbD
  rw [Nat.testBit_mod_two_pow, decide_eq_true hp, Bool.true_and, Nat.shiftRight_zero]

/-- A write of RING_CTRL stores its settings, and the named READY ports enter SERVICE. -/
theorem ringCtrl_restores {a : Acc} {v : W32} {s : State} (h : mayWrite a 0xB010 s = true) :
    let u := writeAccess a 0xB010 [v] s
    u.ring.autoRestore = bitAt v 16 ∧ u.ring.bcastB = bitAt v 8 ∧
      ∀ q : PortId, (portAt u q).st =
        if bitAt v (portIdx q) = true ∧ s.sys.bootDone = true ∧ (portAt s q).st = .ready then .service else (portAt s q).st := by
  obtain ⟨r, y, hpass, hy, he⟩ := writeAccess_passes (v := v) h (by decide) (by decide) (by decide) (by decide)
  have hboot : y.bootDone = s.sys.bootDone := (congrArg (·.bootDone) hy :)
  have hin : SamePorts s.ring r := samePorts_of_lines (lines_of_passed hpass)
  obtain ⟨hauto, hbc, hports⟩ := restoreCmd_ring (bits := fld v 0 2)
    (s := { s with ring := { r with autoRestore := bitAt v 16, bcastB := bitAt v 8 }, sys := y })
  have hans := passed_answer (a := norm s a) (w := true) (st := 0) (d := []) (un := false)
    (s := plainWrite (who a s) 0xB010 v { s with ring := r, sys := y })
  have hout := samePorts_of_lines (lines_of_passed hans)
  rw [he]
  refine ⟨(congrArg Ring.autoRestore hans.core :).trans hauto, (congrArg Ring.bcastB hans.core :).trans hbc, fun q => ?_⟩
  have hst : (portAt { s with ring := { r with autoRestore := bitAt v 16, bcastB := bitAt v 8 }, sys := y } q).st = (portAt s q).st :=
    (congrArg Port.st (by cases q <;> rfl)).trans (hin q).1
  have hq := (hout q).1.trans (hports q)
  rw [hst, testBit_fld] at hq
  rw [← hboot]
  exact hq

/-! ### REFCLK -/

theorem reroute_eq {p : PortId} {s : State} : ∃ r, reroute p s = { s with ring := r } := by
  unfold reroute
  dsimp only
  split
  · exact ⟨_, rfl⟩
  · split
    · exact ⟨_, rfl⟩
    · exact ⟨_, rfl⟩

theorem ckRingAbsent_down {p : PortId} {s : State} :
    let u := ckRingAbsent s
    (portAt u p).st = .down ∧ u.clk = { s.clk with ckRing := false } ∧ u.stk = s.stk ∧ u.tal = s.tal ∧ u.tim = s.tim := by
  unfold ckRingAbsent
  dsimp only
  generalize ht : ({ s with clk := _, ring := _ } : State) = t
  have hl := (lines_reroute (p := .b) (s := reroute .a t)).trans lines_reroute
  have hst := (samePorts_of_lines hl p).1
  obtain ⟨r, hr⟩ := reroute_eq (p := .a) (s := t)
  obtain ⟨r', hr'⟩ := reroute_eq (p := .b) (s := reroute .a t)
  have heq : reroute .b (reroute .a t) = { t with ring := r' } := by rw [hr', hr]
  refine ⟨hst.trans ?_, ?_⟩
  · rw [← ht]
    cases p <;> rfl
  · rw [heq, ← ht]
    exact ⟨rfl, rfl, rfl, rfl⟩

theorem refclkLost_down {p : PortId} {s : State} :
    let u := refclkLost s
    (portAt u p).st = .down ∧ u.clk.ckRing = false ∧ u.stk = s.stk ∧ u.tal = s.tal ∧ u.tim.cnt = s.tim.cnt ∧
      u.clk.ckTime = (s.clk.ckTime && s.tim.clkSel) ∧ u.tim.clkOk = (s.tim.clkOk && (!s.clk.ckTime || s.tim.clkSel)) := by
  have htime : let t := onlyIf (!s.tim.clkSel) ckTimeLost s
      t.stk = s.stk ∧ t.tal = s.tal ∧ t.tim.cnt = s.tim.cnt ∧
        t.clk.ckTime = (s.clk.ckTime && s.tim.clkSel) ∧ t.tim.clkOk = (s.tim.clkOk && (!s.clk.ckTime || s.tim.clkSel)) := by
    unfold onlyIf ckTimeLost
    cases hsel : s.tim.clkSel <;> cases hck : s.clk.ckTime <;> simp [hsel, hck]
  obtain ⟨hstk, htal, hcnt, hck, hok⟩ := htime
  obtain ⟨hst, hclk, hstk', htal', htim'⟩ := ckRingAbsent_down (p := p) (s := onlyIf (!s.tim.clkSel) ckTimeLost s)
  refine ⟨hst, (congrArg (·.ckRing) hclk :), hstk'.trans hstk, htal'.trans htal, ?_, ?_, ?_⟩
  · exact (congrArg (·.cnt) htim' :).trans hcnt
  · exact (congrArg (·.ckTime) hclk :).trans hck
  · exact (congrArg (·.clkOk) htim' :).trans hok

/-- Settles O47: each clause is the lemma on its frame, timer or command. -/
theorem ringPortStates : Obligations.RingPortStates := by
  intro s p h
  have hr := running_of_upAnd h
  refine ⟨fun hd => effects_of_act exec_portTrain hr (portTrain_trains hd), fun hu => effects_of_act exec_portTrain hr (portTrain_of_up hu),
    fun w hw hst => effects_of_act exec_identRx hr (identRx_of_train hw hst),
    fun w hw => next_of_act_same hr exec_identRx (identRx_of_other hw), ⟨fun hdue => ?_, fun hdue => ?_⟩, fun a v hw => ?_,
    effects_of_act exec_ckRingAbsent hr refclkLost_down⟩
  · refine effects_of_act exec_portRestoreTimer hr ?_
    rw [restoreTimer_eq, if_pos hdue]
    exact enterService_serves
  · exact next_of_act_same hr exec_portRestoreTimer (restoreTimer_eq.trans (if_neg hdue))
  · exact effects_of_act exec_portRestoreCmd (running_of_enters (enters_of_mayWrite hw)) (ringCtrl_restores hw)

end Sys2Proof.Machine

/-! PROOFS. The mailbox: holding, items, release and silence (R186, R324 to R326, R342). -/

namespace Sys2Proof.Machine

/-! ### The word of a select -/

theorem selWord_toNat {op item : Nat} (ho : op < 4) (hi : item < 65536) : (packR [(30, op), (0, item)]).toNat = op * 2 ^ 30 + item := by
  simp only [packR, List.foldl_cons, List.foldl_nil, Nat.shiftLeft_eq, Nat.zero_add, Nat.pow_zero, Nat.mul_one, BitVec.toNat_ofNat]
  exact Nat.mod_eq_of_lt (by omega)

theorem selWord_op {op item : Nat} (ho : op < 4) (hi : item < 65536) : fld (packR [(30, op), (0, item)]) 30 2 = op := by
  rw [fld, selWord_toNat ho hi, Nat.shiftRight_eq_div_pow]
  omega

theorem selWord_item {op item : Nat} (ho : op < 4) (hi : item < 65536) : fld (packR [(30, op), (0, item)]) 0 16 = item := by
  rw [fld, selWord_toNat ho hi, Nat.shiftRight_zero]
  omega

theorem selWord_opField {op item : Nat} (ho : op < 4) (hi : item < 65536) :
    (packR [(30, op), (0, item)]).extractLsb' 30 2 = BitVec.ofNat 2 op := by
  apply BitVec.eq_of_toNat_eq
  rw [BitVec.extractLsb'_toNat, selWord_toNat ho hi, Nat.shiftRight_eq_div_pow, BitVec.toNat_ofNat]
  omega

theorem selWord_itemField {op item : Nat} (ho : op < 4) (hi : item < 65536) :
    (packR [(30, op), (0, item)]).setWidth 16 = BitVec.ofNat 16 item := by
  apply BitVec.eq_of_toNat_eq
  rw [BitVec.toNat_setWidth, selWord_toNat ho hi, BitVec.toNat_ofNat]
  omega

/-! ### The holding -/

/-- The mailbox as an access finds it: a holding whose time has passed has ended (R324). -/
def boxOf (s : State) : Mbx :=
  if s.mbx.holder.isSome && decide (s.mbx.slow + 33 ≤ s.clk.slow) then
    { s.mbx with holder := none, valid := false, data := List.replicate 8 0 }
  else s.mbx

theorem mbxTimeout_eq {s : State} : mbxTimeout s = { s with mbx := boxOf s } := by
  unfold mbxTimeout boxOf
  by_cases h : s.mbx.holder.isSome ∧ s.mbx.slow + 33 ≤ s.clk.slow
  · rw [if_pos h, if_pos (by simpa using h)]
    rfl
  · rw [if_neg h, if_neg (by simpa using h)]

/-- An access of the holder restarts its time. -/
def touched (r : ReqId) (s : State) : Mbx := if (boxOf s).holder = some r then { boxOf s with slow := s.clk.slow } else boxOf s

theorem mbxTouch_eq {r : ReqId} {off : Nat} {s : State} (h : off / 0x1000 = 3) : mbxTouch r off s = { s with mbx := touched r s } := by
  unfold mbxTouch touched
  rw [if_pos h, mbxTimeout_eq]
  dsimp only
  split <;> rfl

theorem touched_holder {r : ReqId} {s : State} : (touched r s).holder = (boxOf s).holder := by
  unfold touched
  split <;> rfl

theorem touched_data {r : ReqId} {s : State} : (touched r s).data = (boxOf s).data := by
  unfold touched
  split <;> rfl

theorem touched_of_other {r : ReqId} {s : State} (h : (boxOf s).holder ≠ some r) : touched r s = boxOf s := if_neg h

/-! ### How a select reaches the mailbox -/

/-- The state at the MBX block differs from the one in which the access came in the frames of the ring, the armed values, and the mailbox,
which the access has touched. -/
structure AtBox (r : ReqId) (s t : State) : Prop where
  state : ∃ ring y, Passed s.ring ring ∧ sysRest y = sysRest s.sys ∧ t = { s with ring := ring, sys := y, mbx := touched r s }

theorem mbxRow_reaches {a : Acc} {op item : Nat} {s : State} (h : mayWrite a 0x3000 s = true) :
    ∃ t, AtBox (who a s) s t ∧
      mbxRow a op item s = answer (norm s a) true 0 [] false (mbxSelect (who a s) (packR [(30, op), (0, item)]) t) := by
  obtain ⟨r, hr, hpass⟩ := passes_entered (a := a) (hold := false) (s := s)
  obtain ⟨y, hy, hrest⟩ := breakArm_sysOnly (who a s) (entered a false s)
  refine ⟨_, ⟨r, y, hpass, hrest.trans (congrArg sysRest entered_sys), rfl⟩, ?_⟩
  have hone : ∀ v, writeOne (who a s) 0x3000 v (entered a false s) =
      mbxSelect (who a s) v (mbxTouch (who a s) 0x3000 (breakArm (who a s) (entered a false s))) := fun v => rfl
  unfold mbxRow
  rw [writeAccess_of_mayWrite h (by decide) (by decide), hone, mbxTouch_eq (by decide), hy, hr]
  rfl

/-! ### What a select does -/

/-- The mailbox that a select of a free one shows. -/
def selected (op item : Nat) (r : ReqId) (t : State) : State :=
  { t with mbx := { t.mbx with op := BitVec.ofNat 2 op, item := BitVec.ofNat 16 item, holder := some r, slow := t.clk.slow } }

/-- What a select does with a mailbox that its requester holds or may take, by the word's OP. -/
theorem mbxSelect_of_free {r : ReqId} {op item : Nat} {t : State} (ho : op < 3) (hi : item < 65536)
    (h : t.mbx.holder = none ∨ t.mbx.holder = some r) :
    mbxSelect r (packR [(30, op), (0, item)]) t =
      if op = 0 then mbxRead r item (selected op item r t) else if op = 1 then mbxApply r item (selected op item r t)
      else { t with mbx := ⟨BitVec.ofNat 2 op, BitVec.ofNat 16 item, false, 0, some r, List.replicate 8 0, t.clk.slow⟩ } := by
  have h4 : op < 4 := by omega
  unfold mbxSelect
  dsimp only
  rw [selWord_op h4 hi, selWord_item h4 hi, selWord_opField h4 hi, selWord_itemField h4 hi, if_neg (by omega), if_neg]
  · rfl
  · rcases h with h | h <;> simp [h]

theorem mbxSelect_of_taken {r : ReqId} {op item : Nat} {t : State} (ho : op < 3) (hi : item < 65536)
    (h : ¬ (t.mbx.holder = none ∨ t.mbx.holder = some r)) : mbxSelect r (packR [(30, op), (0, item)]) t = t := by
  have h4 : op < 4 := by omega
  unfold mbxSelect
  dsimp only
  rw [selWord_op h4 hi, if_neg (by omega), if_pos]
  rw [not_or] at h
  obtain ⟨hn, hr⟩ := h
  cases hh : t.mbx.holder with
  | none => exact absurd hh hn
  | some q => simpa [hh] using hr

/-- A release by the holder ends the holding; another requester's does nothing. -/
theorem mbxSelect_release {r : ReqId} {t : State} :
    mbxSelect r (packR [(30, 3), (0, 0)]) t = if t.mbx.holder = some r then mbxEnd (selected 3 0 r t) else t := by
  unfold mbxSelect
  dsimp only
  rw [selWord_op (by decide) (by decide), selWord_opField (by decide) (by decide), selWord_itemField (by decide) (by decide), if_pos rfl]
  exact if_congr (by simp) rfl rfl

/-- The contents of an item do not depend on the mailbox, the frames of the ring, or the armed values. -/
theorem mbxItem_atBox {ring : Ring} {y : Sys} {m : Mbx} {s : State} {item : Nat} (h : Passed s.ring ring) :
    mbxItem { s with ring := ring, sys := y, mbx := m } item = mbxItem s item := by
  have hsel : ring.gatherSel = s.ring.gatherSel := (congrArg Ring.gatherSel h.core :)
  have hworkers : ring.workers = s.ring.workers := (congrArg Ring.workers h.core :)
  have hw : workerAt { s with ring := ring, sys := y, mbx := m } ring.gatherSel.toNat = workerAt s s.ring.gatherSel.toNat := by
    rw [hsel]
    exact congrArg (fun l : List (Option Worker) => (l[s.ring.gatherSel.toNat]?).join) hworkers
  unfold mbxItem
  dsimp only
  rw [hw]
  rfl

theorem mbxErr_atBox {ring : Ring} {y : Sys} {m : Mbx} {s : State} {r : ReqId} {w : Bool} {item : Nat} (h : Passed s.ring ring)
    (hy : sysRest y = sysRest s.sys) : mbxErr { s with ring := ring, sys := y, mbx := m } r w item = mbxErr s r w item := by
  have hboot : y.bootDone = s.sys.bootDone := (congrArg (·.bootDone) hy :)
  unfold mbxErr
  rw [mbxItem_atBox h]
  dsimp only
  rw [hboot]
  rfl

/-- A read item as it is captured: with VALID and its error, or its contents. -/
theorem mbxRead_shows {r : ReqId} {item : Nat} {t : State} :
    (mbxRead r item t).mbx = { t.mbx with
        valid := true, err := BitVec.ofNat 4 (mbxErr t r false item)
        data := if mbxErr t r false item = 0 then eight ((mbxItem t item).getD []) else List.replicate 8 0 } ∧
      (mbxRead r item t).evt.queue = (if item = 0x0E00 ∧ mbxErr t r false item = 0 then t.evt.queue.tail else t.evt.queue) := by
  unfold mbxRead
  dsimp only
  by_cases h : mbxErr t r false item = 0
  · rw [if_neg (fun hc => hc h), h, if_pos rfl]
    refine ⟨rfl, ?_⟩
    by_cases hi : item = 0x0E00
    · rw [if_pos hi, if_pos ⟨hi, rfl⟩]
    · rw [if_neg hi, if_neg (fun hc => hi hc.1)]
  · rw [if_pos h, if_neg h, if_neg (fun hc => h hc.2)]
    exact ⟨rfl, rfl⟩

/-! ### The rows -/

/-- The rows that read an item of the mailbox. -/
theorem exec_of_readItem {a : Acc} {c : Instr} {item : Nat} {s : State}
    (h : (c, item) ∈ ([(.mbxUidRead a, 0x0000), (.mbxOtpInfoRead a, 0x0200), (.mbxUcodeDigestRead a, 0x0A00),
        (.mbxGatherHealthRead a, 0x0B08), (.mbxTimeCapture a, 0x0C00), (.mbxSyncInStamp a, 0x0C01), (.mbxEventRemove a, 0x0E00),
        (.mbxEventPeek a, 0x0E01)] : List (Instr × Nat)) ∨
      (∃ pg : BitVec 5, c = .mbxClassTableRead a pg ∧ item = 0x0100 + pg.toNat) ∨
      (∃ hi : Bool, c = .mbxKeyDigestRead a hi ∧ item = (if hi then 0x0202 else 0x0201)) ∨
      (∃ pg : BitVec 3, c = .mbxTallyPageRead a pg ∧ item = 0x0600 + pg.toNat) ∨
      (∃ pg : BitVec 3, c = .mbxGatherTallyRead a pg ∧ item = 0x0B00 + pg.toNat)) :
    exec c s = .next (act (mbxRow a 0 item) s) ∧ item < 65536 := by
  rcases h with h | ⟨pg, rfl, rfl⟩ | ⟨hi, rfl, rfl⟩ | ⟨pg, rfl, rfl⟩ | ⟨pg, rfl, rfl⟩
  · simp only [List.mem_cons, Prod.mk.injEq, List.not_mem_nil, or_false] at h
    rcases h with ⟨rfl, rfl⟩ | ⟨rfl, rfl⟩ | ⟨rfl, rfl⟩ | ⟨rfl, rfl⟩ | ⟨rfl, rfl⟩ | ⟨rfl, rfl⟩ | ⟨rfl, rfl⟩ | ⟨rfl, rfl⟩
    · exact ⟨exec_mbxUidRead, by decide⟩
    · exact ⟨exec_mbxOtpInfoRead, by decide⟩
    · exact ⟨exec_mbxUcodeDigestRead, by decide⟩
    · exact ⟨exec_mbxGatherHealthRead, by decide⟩
    · exact ⟨exec_mbxTimeCapture, by decide⟩
    · exact ⟨exec_mbxSyncInStamp, by decide⟩
    · exact ⟨exec_mbxEventRemove, by decide⟩
    · exact ⟨exec_mbxEventPeek, by decide⟩
  · exact ⟨exec_mbxClassTableRead, by have := pg.isLt; omega⟩
  · have hitem : (if hi then 0x0202 else 0x0201) = 0x0201 + b2n hi := by cases hi <;> rfl
    rw [hitem]
    refine ⟨exec_mbxKeyDigestRead, ?_⟩
    cases hi <;> decide
  · exact ⟨exec_mbxTallyPageRead, by have := pg.isLt; omega⟩
  · exact ⟨exec_mbxGatherTallyRead, by have := pg.isLt; omega⟩

theorem free_iff {m : Mbx} {r : ReqId} : (m.holder.isNone || decide (m.holder = some r)) = true ↔ m.holder = none ∨ m.holder = some r := by
  simp

/-- A select with OP = 2 claims a free mailbox, with its data cleared. -/
theorem mbxRow_claims {a : Acc} {item : BitVec 16} {s : State} (h : mayWrite a 0x3000 s = true) :
    (mbxRow a 2 item.toNat s).mbx =
      if (boxOf s).holder = none ∨ (boxOf s).holder = some (who a s) then
        ⟨2, item, false, 0, some (who a s), List.replicate 8 0, s.clk.slow⟩
      else boxOf s := by
  obtain ⟨t, ⟨ring, y, hpass, hy, rfl⟩, he⟩ := mbxRow_reaches (op := 2) (item := item.toNat) h
  rw [he, answer_mbx]
  split
  next hfree =>
    rw [mbxSelect_of_free (by decide) item.isLt (by dsimp only; rw [touched_holder]; exact hfree)]
    simp
  next hfree =>
    rw [mbxSelect_of_taken (by decide) item.isLt (by dsimp only; rw [touched_holder]; exact hfree)]
    exact touched_of_other fun hc => hfree (.inr hc)

theorem mbxRow_releases {a : Acc} {s : State} (h : mayWrite a 0x3000 s = true) :
    let m := (mbxRow a 3 0 s).mbx
    if (boxOf s).holder = some (who a s) then m.holder = none ∧ m.valid = false ∧ m.data = List.replicate 8 0 else m = boxOf s := by
  obtain ⟨t, ⟨ring, y, hpass, hy, rfl⟩, he⟩ := mbxRow_reaches (op := 3) (item := 0) h
  dsimp only
  rw [he, answer_mbx, mbxSelect_release]
  dsimp only
  rw [touched_holder]
  split
  next => exact ⟨rfl, rfl, rfl⟩
  next hm => exact touched_of_other hm

/-- A select of a read item captures it, and item 0x0E00 removes the oldest event entry. -/
theorem mbxRow_reads {a : Acc} {item : Nat} {s : State} (h : mayWrite a 0x3000 s = true) (hi : item < 65536) :
    let u := mbxRow a 0 item s
    if (boxOf s).holder = none ∨ (boxOf s).holder = some (who a s) then
      u.mbx = ⟨0, BitVec.ofNat 16 item, true, BitVec.ofNat 4 (mbxErr s (who a s) false item), some (who a s),
        if mbxErr s (who a s) false item = 0 then eight ((mbxItem s item).getD []) else List.replicate 8 0, s.clk.slow⟩ ∧
      u.evt.queue = (if item = 0x0E00 ∧ mbxErr s (who a s) false item = 0 then s.evt.queue.tail else s.evt.queue)
    else u.mbx = boxOf s ∧ u.evt = s.evt := by
  obtain ⟨t, ⟨ring, y, hpass, hy, rfl⟩, he⟩ := mbxRow_reaches (op := 0) (item := item) h
  dsimp only
  rw [he, answer_mbx, answer_evt]
  split
  next hfree =>
    rw [mbxSelect_of_free (by decide) hi (by dsimp only; rw [touched_holder]; exact hfree), if_pos rfl]
    obtain ⟨hm, hq⟩ := mbxRead_shows (r := who a s) (item := item)
      (t := selected 0 item (who a s) { s with ring := ring, sys := y, mbx := touched (who a s) s })
    obtain ⟨m, hsel⟩ : ∃ m, selected 0 item (who a s) { s with ring := ring, sys := y, mbx := touched (who a s) s } =
        { s with ring := ring, sys := y, mbx := m } := ⟨_, rfl⟩
    have herr : mbxErr (selected 0 item (who a s) { s with ring := ring, sys := y, mbx := touched (who a s) s }) (who a s) false item =
        mbxErr s (who a s) false item := by
      rw [hsel]
      exact mbxErr_atBox hpass hy
    have hitem : mbxItem (selected 0 item (who a s) { s with ring := ring, sys := y, mbx := touched (who a s) s }) item =
        mbxItem s item := by
      rw [hsel]
      exact mbxItem_atBox hpass
    rw [herr, hitem] at hm
    rw [herr] at hq
    exact ⟨hm, hq⟩
  next hfree =>
    rw [mbxSelect_of_taken (by decide) hi (by dsimp only; rw [touched_holder]; exact hfree)]
    exact ⟨touched_of_other fun hc => hfree (.inr hc), rfl⟩

/-! ### The class table -/

theorem mbxItem_classPage {s : State} {pg : BitVec 5} : (mbxItem s (0x0100 + pg.toNat)).isNone = false := by
  have hp := pg.isLt
  unfold mbxItem
  dsimp only
  rw [if_neg (by omega), if_pos (by omega)]
  rfl

/-- A page of the class table ends with ERR = 5 after the boot phase, and is taken in it. -/
theorem mbxErr_classPage {s : State} {r : ReqId} {pg : BitVec 5} :
    mbxErr s r true (0x0100 + pg.toNat) = if s.sys.bootDone then 5 else 0 := by
  have hp := pg.isLt
  have hperm : mbxPermits s r (0x0100 + pg.toNat) = true := by
    unfold mbxPermits
    rw [if_neg (by omega), if_neg (by omega)]
  have hwr : mbxWritable (0x0100 + pg.toNat) = true := by
    unfold mbxWritable
    rw [decide_eq_true (by omega), decide_eq_true (by omega)]
    rfl
  unfold mbxErr
  rw [mbxItem_classPage, hperm, hwr]
  rfl

/-- What the select of a page does to the table. -/
theorem mbxApply_classPage {r : ReqId} {pg : BitVec 5} {t : State} :
    let u := mbxApply r (0x0100 + pg.toNat) t
    u.hlt = t.hlt ∧
    if t.sys.bootDone then u.sil.classes = t.sil.classes ∧ u.mbx.err ≠ 0 ∧ u.mbx.valid = true
    else u.sil.classes = t.sil.classes.take (8 * pg.toNat) ++ t.mbx.data ++ t.sil.classes.drop (8 * pg.toNat + 8) ∧
      u.mbx.err = 0 ∧ u.mbx.valid = true := by
  unfold mbxApply
  rw [mbxErr_classPage, Nat.add_sub_cancel_left]
  cases t.sys.bootDone with
  | true =>
    dsimp only
    rw [if_pos rfl, if_pos (by decide), if_pos rfl]
    unfold onlyIf
    rw [if_pos (by decide), lockViol_hlt, lockViol_sil, lockViol_mbx]
    exact ⟨rfl, rfl, show (5 : BitVec 4) ≠ 0 by decide, rfl⟩
  | false => exact ⟨rfl, rfl, rfl, rfl⟩

theorem mbxRow_classPage {a : Acc} {pg : BitVec 5} {s : State} (h : mayWrite a 0x3000 s = true) :
    let u := mbxRow a 1 (0x0100 + pg.toNat) s
    u.hlt.alarm = s.hlt.alarm ∧
    if (boxOf s).holder = none ∨ (boxOf s).holder = some (who a s) then
      if s.sys.bootDone then u.sil.classes = s.sil.classes ∧ u.mbx.err ≠ 0 ∧ u.mbx.valid = true
      else
        u.sil.classes = s.sil.classes.take (8 * pg.toNat) ++ (boxOf s).data ++ s.sil.classes.drop (8 * pg.toNat + 8) ∧
        u.mbx.err = 0 ∧ u.mbx.valid = true
    else u.mbx = boxOf s ∧ u.sil.classes = s.sil.classes := by
  have hi : 0x0100 + pg.toNat < 65536 := by have := pg.isLt; omega
  obtain ⟨t, ⟨ring, y, hpass, hy, rfl⟩, he⟩ := mbxRow_reaches (op := 1) (item := 0x0100 + pg.toNat) h
  have hboot : y.bootDone = s.sys.bootDone := (congrArg (·.bootDone) hy :)
  dsimp only
  rw [he, answer_mbx, answer_sil, answer_hlt]
  split
  next hfree =>
    rw [mbxSelect_of_free (by decide) hi (by dsimp only; rw [touched_holder]; exact hfree), if_neg (by decide), if_pos rfl]
    obtain ⟨hhlt, happly⟩ := mbxApply_classPage (r := who a s) (pg := pg)
      (t := selected 1 (0x0100 + pg.toNat) (who a s) { s with ring := ring, sys := y, mbx := touched (who a s) s })
    refine ⟨congrArg (·.alarm) hhlt, ?_⟩
    rw [← hboot, ← touched_data (r := who a s)]
    exact happly
  next hfree =>
    rw [mbxSelect_of_taken (by decide) hi (by dsimp only; rw [touched_holder]; exact hfree)]
    exact ⟨rfl, touched_of_other fun hc => hfree (.inr hc), rfl⟩

/-! ### The last data register, and silence -/

/-- A read of MBX_DATA_7 gives the holder its word and ends the holding. -/
theorem data7_reads {a : Acc} {s : State} (h : mayFetch a s = true) :
    let u := readAccess a 0x302C 1 s
    let r := who a s
    u.hlt = s.hlt ∧
    (a.path = .core → u.core.data = w32ToBytes [if decide ((boxOf s).holder = some r) = true then (boxOf s).data.getD 7 0 else 0]) ∧
    (if (boxOf s).holder = some r then u.mbx.holder = none ∧ u.mbx.data = List.replicate 8 0 else u.mbx = boxOf s) := by
  obtain ⟨ring, hr, -⟩ := passes_entered (a := a) (hold := false) (s := s)
  have htouch : mbxTouch (who a s) 0x302C (entered a false s) = { s with ring := ring, mbx := touched (who a s) s } := by
    rw [mbxTouch_eq (by decide), hr]
    rfl
  have hval : (readOne (who a s) 0x302C (entered a false s)).1 =
      if decide ((boxOf s).holder = some (who a s)) = true then (boxOf s).data.getD 7 0 else 0 := by
    have hv : ∀ t : State, regVal t (who a s) 0x302C = if decide (t.mbx.holder = some (who a s)) = true then t.mbx.data.getD 7 0 else 0 :=
      fun _ => rfl
    unfold readOne
    dsimp only
    rw [htouch, hv]
    dsimp only
    rw [touched_holder, touched_data]
  have hafter : (readOne (who a s) 0x302C (entered a false s)).2 =
      breakArm (who a s) (onlyIf (decide ((boxOf s).holder = some (who a s))) mbxEnd { s with ring := ring, mbx := touched (who a s) s }) := by
    have hv : ∀ t : State, regAfter (who a s) 0x302C t = onlyIf (decide (t.mbx.holder = some (who a s))) mbxEnd t := fun _ => rfl
    unfold readOne
    dsimp only
    rw [htouch, hv]
    dsimp only
    rw [touched_holder]
  dsimp only
  rw [readAccess_of_mayFetch h (by decide) (by decide), hval, hafter, answer_hlt, answer_mbx, breakArm_hlt, breakArm_mbx]
  unfold onlyIf
  refine ⟨?_, fun hp => answer_core_data (norm_path.trans hp), ?_⟩
  · rw [apply_ite State.hlt]
    exact ite_self _
  · split
    next hm =>
      rw [if_pos (decide_eq_true hm)]
      exact ⟨rfl, rfl⟩
    next hm =>
      rw [if_neg (by simpa using hm)]
      exact touched_of_other hm

/-- Settles O59: each clause is the lemma on its select, read or limit. -/
theorem mailbox : Obligations.Mailbox := by
  intro s a r cleared gone box free mine
  have hbox : box = boxOf s := rfl
  have hfree : ∀ P Q : Prop, (if free = true then P else Q) = if (boxOf s).holder = none ∨ (boxOf s).holder = some r then P else Q :=
    fun P Q => if_congr free_iff rfl rfl
  have hmine : ∀ P Q : Prop, (if mine = true then P else Q) = if (boxOf s).holder = some r then P else Q :=
    fun P Q => if_congr decide_eq_true_iff rfl rfl
  simp only [hfree, hmine]
  refine ⟨fun hw => ?_, fun hf => ?_, fun hu => ?_⟩
  · have hr := running_of_enters (enters_of_mayWrite hw)
    refine ⟨fun item => answers_of_act exec_mbxClaim hr ?_, answers_of_act exec_mbxRelease hr ?_, fun c item hc => ?_,
      fun pg => answers_of_act exec_mbxClassTableWrite hr ?_⟩
    · rw [finishUp_mbx, mbxRow_claims hw]
      split
      · rfl
      · rfl
    · rw [finishUp_mbx]
      exact mbxRow_releases hw
    · obtain ⟨hexec, hi⟩ := exec_of_readItem (s := s) hc
      exact effects_of_act hexec hr (mbxRow_reads hw hi)
    · obtain ⟨hhlt, hrest⟩ := mbxRow_classPage (pg := pg) hw
      rw [finishUp_mbx, finishUp_sil (hhlt.trans (settled_of_mayWrite hw))]
      exact hrest
  · obtain ⟨hhlt, hdata, hm⟩ := data7_reads hf
    refine answers_of_act exec_mbxData7Read (running_of_mayFetch hf) ?_
    rw [finishUp_mbx, finishUp_core (by rw [hhlt]; exact settled_of_mayFetch hf)]
    exact ⟨hdata, hm⟩
  · have hr := running_of_upAnd hu
    refine ⟨fun q hq ht => answers_of_act exec_mbxHoldTimeout hr ?_, fun hno => next_of_act_same hr exec_mbxHoldTimeout ?_⟩
    · rw [finishUp_mbx]
      unfold mbxTimeout
      rw [if_pos ⟨by rw [hq]; rfl, ht⟩]
      exact ⟨rfl, rfl, rfl⟩
    · unfold mbxTimeout
      rw [if_neg]
      rintro ⟨hs, ht⟩
      rcases hno with hn | hn
      · simp [hn] at hs
      · omega

end Sys2Proof.Machine

/-! PROOFS. Guarded registers: armed values, pairs, timeouts and pins (R320 to R323). -/

namespace Sys2Proof.Machine

/-! ### What guard events leave -/

/-- Nothing but the frames of the ring, the events, the control core's access, and the guard's own registers and notes changed. -/
structure Quiet (s t : State) : Prop where
  cal : t.cal = s.cal
  grn : t.grn = s.grn
  hlt : t.hlt = s.hlt
  tim : t.tim = s.tim
  sil : t.sil = s.sil
  boot : t.sys.bootDone = s.sys.bootDone
  compat : t.sys.compatEn = s.sys.compatEn

theorem Quiet.trans {s t u : State} (h : Quiet s t) (g : Quiet t u) : Quiet s u :=
  ⟨g.cal.trans h.cal, g.grn.trans h.grn, g.hlt.trans h.hlt, g.tim.trans h.tim, g.sil.trans h.sil, g.boot.trans h.boot,
    g.compat.trans h.compat⟩

theorem quiet_of_sysOnly {s t : State} (h : SysOnly s t) : Quiet s t := by
  obtain ⟨y, rfl, hy⟩ := h
  exact ⟨rfl, rfl, rfl, rfl, rfl, (congrArg (·.bootDone) hy :), (congrArg (·.compatEn) hy :)⟩

theorem quiet_entered {a : Acc} {hold : Bool} {s : State} : Quiet s (entered a hold s) :=
  ⟨entered_cal, entered_grn, entered_hlt, entered_tim, entered_sil, by rw [entered_sys], by rw [entered_sys]⟩

theorem quiet_answer {a : Acc} {w : Bool} {st : Nat} {d : List Byte} {un : Bool} {s : State} : Quiet s (answer a w st d un s) :=
  ⟨answer_cal, answer_grn, answer_hlt, answer_tim, answer_sil, by rw [answer_sys], by rw [answer_sys]⟩

theorem quiet_lockViol {r : ReqId} {off : Nat} {s : State} : Quiet s (lockViol r off s) := by
  refine ⟨lockViol_cal, lockViol_grn, lockViol_hlt, lockViol_tim, lockViol_sil, ?_, ?_⟩
  · unfold lockViol
    dsimp only
    split <;> rfl
  · unfold lockViol
    dsimp only
    split <;> rfl

/-- The end of a step changes none of it, where no fatal alarm is left unsettled. -/
theorem quiet_finishUp {s : State} (h : s.hlt.alarm = false) : Quiet s (finishUp s) :=
  ⟨finishUp_cal, finishUp_grn, finishUp_hlt h, finishUp_tim h, finishUp_sil h, by rw [finishUp_sys], by rw [finishUp_sys]⟩

/-- What is kept to the end of a step that came in as an access and is answered. -/
theorem quiet_step {a : Acc} {hold w : Bool} {st : Nat} {d : List Byte} {un : Bool} {s u : State} (h : Quiet (entered a hold s) u)
    (ha : s.hlt.alarm = false) : Quiet s (finishUp (answer (norm s a) w st d un u)) := by
  have hu : Quiet s (answer (norm s a) w st d un u) := (quiet_entered.trans h).trans quiet_answer
  exact hu.trans (quiet_finishUp (by rw [hu.hlt]; exact ha))

/-! ### What a completed pair leaves of the armed values -/

/-- The armed values, and whether a pair was broken by another value. -/
def armFace (y : Sys) : List Armed × Bool := (y.armed, y.gMismatch)

theorem armFace_of_settings {s t : State} (h : settings t = settings s) : armFace t.sys = armFace s.sys :=
  congrArg (fun x : Settings => armFace x.sys) h

theorem armFace_lockViol {r : ReqId} {off : Nat} {s : State} : armFace (lockViol r off s).sys = armFace s.sys := by
  unfold lockViol
  dsimp only
  split <;> rfl

theorem armFace_bootClose {s : State} : armFace (bootClose s).sys = armFace s.sys := by
  have hsys : ∀ u : State, settings u = settings { s with
      sys := { s.sys with bootDone := true }, pwr := { s.pwr with ready := true }, sil := { s.sil with stage := 5 } } →
      armFace u.sys = armFace s.sys := fun u h => (congrArg (fun x : Settings => armFace x.sys) h :)
  apply hsys
  have henter : ∀ p u, settings (if (portAt u p).st = .ready then enterService p u else u) = settings u := fun p u => by
    split
    · exact settings_enterService
    · rfl
  unfold bootClose
  dsimp only
  rw [settings_post, henter, henter, settings_sendIdents]

theorem armFace_flashLockPair {v : W32} {s : State} : armFace (flashLockPair v s).sys = armFace s.sys := by
  have hlock : settings (flashLock (bitAt v 0) (bitAt v 1) s) =
      settings { s with lsp := { s.lsp with lock0 := bitAt v 0, lock1 := bitAt v 1 } } :=
    settings_xipEndWaiting fun _ => settings_mstErr
  exact (congrArg (fun x : Settings => armFace x.sys) hlock :)

/-- The register that a completed pair names takes its value; the armed values stay as they are. -/
theorem armFace_guardApply {r : ReqId} {g : Nat} {v : W32} {s : State} : armFace (guardApply r g v s).sys = armFace s.sys := by
  unfold guardApply
  split
  · unfold onlyIf
    split
    · exact armFace_lockViol
    · split
      · exact armFace_bootClose
      · rfl
  · rw [compatSet_sys]
    rfl
  · exact armFace_of_settings settings_calRestorePair
  · exact armFace_of_settings settings_grnRetire
  · exact armFace_of_settings settings_capturePair
  · rfl
  · exact (armFace_of_settings settings_timCmd :)
  · exact armFace_of_settings settings_mstCmdPair
  · exact armFace_flashLockPair
  · rfl

theorem armFace_guardComplete {r : ReqId} {g : Nat} {v : W32} {s : State} : armFace (guardComplete r g v s).sys = armFace s.sys := by
  unfold guardComplete
  split
  · exact (armFace_of_settings settings_guardRefusal).trans rfl
  · exact armFace_guardApply

theorem armedOf_of_armed {s t : State} (h : t.sys.armed = s.sys.armed) (r : ReqId) : armedOf t r = armedOf s r := by
  rw [armedOf, h, armedOf]

theorem armedOf_disarm {r : ReqId} {s : State} : armedOf (disarm r s) r = none := by
  simp [armedOf, disarm]

/-! ### How a write comes to a guarded register -/

/-- The access as it comes to the register, once what has expired is dropped. -/
def atGuard (a : Acc) (s : State) : State := guardExpire (entered a false s)

theorem quiet_atGuard {a : Acc} {s : State} : Quiet (entered a false s) (atGuard a s) := quiet_of_sysOnly (guardExpire_sysOnly _)

theorem isPinned_atGuard {a : Acc} {g : Nat} {s : State} : isPinned (atGuard a s) g = isPinned s g := by
  rw [atGuard, isPinned_sysOnly (guardExpire_sysOnly _)]
  unfold isPinned
  split <;> simp

theorem armLives_entered {a : Acc} {s : State} : armLives (entered a false s) = armLives s := by
  funext x
  rw [armLives, entered_clk, armLives]

theorem armed_atGuard {a : Acc} {s : State} : (atGuard a s).sys.armed = s.sys.armed.filter (armLives s) := by
  rw [atGuard, guardExpire_armed, armLives_entered, entered_sys]

/-- A requester's first armed value, if it lives, is the one that a pair finds. -/
theorem armedOf_atGuard_of_live {a : Acc} {s : State} {r : ReqId} {x : Armed} (h : armedOf s r = some x) (hl : armLives s x = true) :
    armedOf (atGuard a s) r = some x := by
  rw [armedOf, armed_atGuard]
  exact find?_filter_of_kept h hl

theorem armedOf_atGuard_of_none {a : Acc} {s : State} {r : ReqId} (h : ∀ x ∈ s.sys.armed, x.req = r → armLives s x = false) :
    armedOf (atGuard a s) r = none := by
  rw [armedOf, armed_atGuard, List.find?_eq_none]
  intro x hx hr
  obtain ⟨hmem, hl⟩ := List.mem_filter.mp hx
  simp [h x hmem (by simpa using hr)] at hl

/-- A guarded register's row writes it. -/
theorem armRow_reaches {a : Acc} {g : Nat} {v : W32} {s : State} (hg : g ∈ guardAddrs) (h : mayWrite a g s = true) :
    armRow a g v s = answer (norm s a) true 0 [] false (guardWrite (who a s) g g v (entered a false s)) := by
  obtain ⟨h1, -, h3, h4, -⟩ := guardBase_of_mem hg
  unfold armRow rowWrite
  rw [h1, if_pos (by simp), writeAccess_of_mayWrite h (by omega) h4, writeOne_guard h1]

theorem compRow_reaches {a : Acc} {g : Nat} {v : W32} {s : State} (hg : g ∈ guardAddrs) (h : mayWrite a (g + 4) s = true) :
    compRow a (g + 4) v s = answer (norm s a) true 0 [] false (guardWrite (who a s) g (g + 4) v (entered a false s)) := by
  obtain ⟨-, h2, h3, h4, -⟩ := guardBase_of_mem hg
  unfold compRow rowWrite
  rw [h2, if_pos (by simp), writeAccess_of_mayWrite h (by omega) (by omega), writeOne_guard h2]

theorem guardWrite_of_pinned {a : Acc} {r : ReqId} {g off : Nat} {v : W32} {s : State} (h : isPinned s g = true) :
    guardWrite r g off v (entered a false s) = lockViol r off (breakArm r (atGuard a s)) :=
  if_pos (isPinned_atGuard.trans h)

theorem guardWrite_of_value {a : Acc} {r : ReqId} {g : Nat} {v : W32} {s : State} (h : isPinned s g = false) :
    guardWrite r g g v (entered a false s) = guardArm r g v (atGuard a s) := by
  have hp : isPinned (atGuard a s) g ≠ true := by rw [isPinned_atGuard, h]; decide
  exact (if_neg hp).trans (if_pos rfl)

theorem guardWrite_of_comp {a : Acc} {r : ReqId} {g : Nat} {v : W32} {s : State} (h : isPinned s g = false) :
    guardWrite r g (g + 4) v (entered a false s) = guardComp r g v (atGuard a s) := by
  have hp : isPinned (atGuard a s) g ≠ true := by rw [isPinned_atGuard, h]; decide
  exact (if_neg hp).trans (if_neg (by omega))

/-! ### Values that are armed -/

theorem sysOnly_cleared {r : ReqId} {g : Nat} {s : State} : SysOnly s (breakOthers r g (breakArm r s)) :=
  (breakArm_sysOnly r s).trans (breakOthers_sysOnly r g _)

theorem sysOnly_guardArm {r : ReqId} {g : Nat} {v : W32} {s : State} : SysOnly s (guardArm r g v s) := by
  unfold guardArm
  dsimp only
  split
  · exact sysOnly_cleared.trans ⟨_, rfl, rfl⟩
  · exact sysOnly_cleared.trans ⟨_, rfl, rfl⟩

/-- A value is armed where there is room, with the present time. -/
theorem armedOf_guardArm {r : ReqId} {g : Nat} {v : W32} {s : State} (h : s.sys.armed.length < 16) :
    armedOf (guardArm r g v s) r = some ⟨r, g, v, s.clk.slow⟩ := by
  have hroom : ¬ 16 ≤ (breakOthers r g (breakArm r s)).sys.armed.length :=
    Nat.not_le.mpr (lt_of_le_of_lt (armed_length_breakOthers.trans armed_length_breakArm) h)
  have hnone : armedOf (breakOthers r g (breakArm r s)) r = none := by rw [armedOf_breakOthers, armedOf_breakArm_self]
  have hclk : (breakOthers r g (breakArm r s)).clk = s.clk := by simp
  unfold guardArm
  dsimp only
  rw [if_neg hroom, hclk, armedOf, List.find?_append, ← armedOf, hnone]
  simp

/-- Where 16 values of others are armed elsewhere, one more has no room. -/
theorem guardArm_of_full {r : ReqId} {g : Nat} {v : W32} {s : State} (h : ∀ x ∈ s.sys.armed, x.req ≠ r ∧ x.off ≠ g)
    (hfull : 16 ≤ s.sys.armed.length) : guardArm r g v s = guardNote r g { s with sys := { s.sys with gNoSlot := true } } := by
  have hnone : armedOf s r = none := by
    rw [armedOf, List.find?_eq_none]
    intro x hx
    simpa using (h x hx).1
  have harm : breakArm r s = s := by
    unfold breakArm
    rw [hnone]
  have hothers : breakOthers r g s = s := by
    unfold breakOthers
    rw [List.filter_eq_nil_iff.mpr fun x hx => by simp [(h x hx).2]]
    rfl
  unfold guardArm
  dsimp only
  rw [harm, hothers, if_pos hfull]

/-! ### Complements -/

theorem guardComp_matches {r : ReqId} {g : Nat} {s : State} {x : Armed} (h : armedOf s r = some x) (hg : x.off = g) :
    guardComp r g (~~~x.val) s = guardComplete r g x.val (disarm r (breakOthers r g s)) := by
  simp [guardComp, armedOf_breakOthers, h, hg]

theorem guardComp_mismatch {r : ReqId} {g : Nat} {w : W32} {s : State} {x : Armed} (h : armedOf s r = some x) (hg : x.off = g)
    (hw : w ≠ ~~~x.val) : guardComp r g w s =
      guardNote r g (disarm r { breakOthers r g s with sys := { (breakOthers r g s).sys with gMismatch := true } }) := by
  simp [guardComp, armedOf_breakOthers, h, hg, hw]

theorem guardComp_unarmed {r : ReqId} {g : Nat} {w : W32} {s : State} (h : armedOf s r = none) :
    guardComp r g w s = guardBroken r g (breakOthers r g s) := by
  simp [guardComp, armedOf_breakOthers, h]

theorem gMismatch_breakArm {r : ReqId} {s : State} : (breakArm r s).sys.gMismatch = s.sys.gMismatch := by
  unfold breakArm
  split <;> rfl

theorem gMismatch_breakOthers {r : ReqId} {g : Nat} {s : State} : (breakOthers r g s).sys.gMismatch = s.sys.gMismatch := by
  unfold breakOthers
  generalize s.sys.armed.filter _ = l
  induction l generalizing s with
  | nil => rfl
  | cons x l ih => exact ih.trans gMismatch_breakArm

theorem gMismatch_atGuard {a : Acc} {s : State} : (atGuard a s).sys.gMismatch = s.sys.gMismatch := by
  have hl : ∀ (l : List Armed) (u : State), (l.foldl (fun t a => guardBroken a.req a.off t) u).sys.gMismatch = u.sys.gMismatch := by
    intro l
    induction l with
    | nil => exact fun _ => rfl
    | cons x xs ih => exact fun u => ih _
  unfold atGuard guardExpire
  rw [hl]
  show (entered a false s).sys.gMismatch = _
  rw [entered_sys]

/-- A completed HLT_RETRY pair stores the window within its limits, and its pin. -/
theorem retryPair_stores {r : ReqId} {v : W32} {s : State} :
    let u := guardComplete r 0x5008 v s
    u.hlt.retryMs.toNat = max 100 (min 60000 (v.toNat % 65536)) ∧ u.hlt.retryPin = bitAt v 31 ∧ u.hlt.alarm = s.hlt.alarm := by
  refine ⟨?_, rfl, rfl⟩
  show (BitVec.ofNat 16 (clampN 100 60000 (fld v 0 16))).toNat = _
  rw [toNat_ofNat_clampN (by decide) (by decide), clampN, fld, Nat.shiftRight_zero]
  split
  · omega
  · split <;> omega

/-! ### The steps -/

/-- What the step of a write at a guarded register shows, from what the register's own function does. -/
theorem guard_answers {a : Acc} {c : Instr} {f : State → State} {s u : State} {P : State → Prop} (hexec : exec c s = .next (act f s))
    (hr : running s = true) (ha : s.hlt.alarm = false) (hf : f s = answer (norm s a) true 0 [] false u) (hq : Quiet (entered a false s) u)
    (hP : ∀ t, Quiet s t → t.sys = u.sys → P t) : Answers c s P := by
  refine answers_of_act hexec hr ?_
  rw [hf]
  exact hP _ (quiet_step hq ha) (finishUp_sys.trans answer_sys)

theorem lockViol_violReq {r : ReqId} {off : Nat} {s : State} : (lockViol r off s).sys.violReq = r := by
  unfold lockViol
  dsimp only
  split <;> rfl

theorem armedOf_congr {s t : State} (h : t.sys = s.sys) (r : ReqId) : armedOf t r = armedOf s r := armedOf_of_armed (congrArg Sys.armed h) r

theorem running_of_mayWrite {a : Acc} {off : Nat} {s : State} (h : mayWrite a off s = true) : running s = true :=
  running_of_enters (enters_of_mayWrite h)

/-- What the step of a write to a value address does: a pinned register ignores it, any other arms the value, or has no room for it. -/
theorem guardArm_step {s : State} {a : Acc} {g : Nat} {v : W32} (hg : g ∈ guardAddrs) (hw : mayWrite a g s = true) :
    Answers (.guardArm a g v) s (fun t => Quiet s t ∧
      (isPinned s g = true → armedOf t (who a s) = none ∧ t.sys.viol = true ∧ t.sys.violOff = BitVec.ofNat 16 g ∧
        t.sys.violReq = who a s) ∧
      (isPinned s g = false → countP (armLives s) s.sys.armed < 16 → armedOf t (who a s) = some ⟨who a s, g, v, s.clk.slow⟩) ∧
      (isPinned s g = false → (∀ x ∈ s.sys.armed, armLives s x = true ∧ x.req ≠ who a s ∧ x.off ≠ g) → 16 ≤ s.sys.armed.length →
        t.sys.armed = s.sys.armed ∧ t.sys.gNoSlot = true ∧ t.sys.gReq = who a s)) := by
  have hr := running_of_mayWrite hw
  have ha := settled_of_mayWrite hw
  cases hp : isPinned s g with
  | true =>
    refine guard_answers exec_guardArm hr ha (armRow_reaches hg hw) ?_ fun t hq hsys => ⟨hq, fun _ => ?_, nofun, nofun⟩
    · rw [guardWrite_of_pinned hp]
      exact (quiet_atGuard.trans (quiet_of_sysOnly (breakArm_sysOnly _ _))).trans quiet_lockViol
    · rw [armedOf_congr hsys, hsys, guardWrite_of_pinned hp,
        armedOf_of_armed (congrArg Prod.fst armFace_lockViol : (lockViol _ _ _).sys.armed = _), armedOf_breakArm_self]
      exact ⟨rfl, lockViol_sys.1, lockViol_sys.2, lockViol_violReq⟩
  | false =>
    refine guard_answers exec_guardArm hr ha (armRow_reaches hg hw) ?_ fun t hq hsys => ⟨hq, nofun, fun _ hroom => ?_, fun _ hother hfull => ?_⟩
    · rw [guardWrite_of_value hp]
      exact quiet_atGuard.trans (quiet_of_sysOnly sysOnly_guardArm)
    · have hclk : (atGuard a s).clk = s.clk := by
        obtain ⟨y, hy, -⟩ := guardExpire_sysOnly (entered a false s)
        rw [atGuard, hy]
        exact entered_clk
      rw [armedOf_congr hsys, guardWrite_of_value hp, armedOf_guardArm (by rw [armed_atGuard]; exact hroom), hclk]
    · have harmed : (atGuard a s).sys.armed = s.sys.armed := by
        rw [armed_atGuard, List.filter_eq_self.mpr fun x hx => (hother x hx).1]
      rw [hsys, guardWrite_of_value hp, guardArm_of_full (by rw [harmed]; exact fun x hx => (hother x hx).2) (by rw [harmed]; exact hfull)]
      exact ⟨harmed, rfl, rfl⟩

/-- The complement of an armed value that lives completes the pair. -/
theorem guardComp_step_matches {s : State} {a : Acc} {g : Nat} {x : Armed} (hg : g ∈ guardAddrs) (hw : mayWrite a (g + 4) s = true)
    (hp : isPinned s g = false) (hx : armedOf s (who a s) = some x) (hl : armLives s x = true) (ho : x.off = g) :
    Answers (.guardComplement a (g + 4) (~~~x.val)) s (fun t =>
      armedOf t (who a s) = none ∧ t.sys.gMismatch = s.sys.gMismatch ∧
      (g = 0x5008 → t.hlt.retryMs.toNat = max 100 (min 60000 (x.val.toNat % 65536)) ∧ t.hlt.retryPin = bitAt x.val 31)) := by
  refine answers_of_act exec_guardComplement (running_of_mayWrite hw) ?_
  rw [compRow_reaches hg hw, guardWrite_of_comp hp, guardComp_matches (armedOf_atGuard_of_live hx hl) ho]
  generalize hd : disarm (who a s) (breakOthers (who a s) g (atGuard a s)) = d
  have hface := armFace_guardComplete (r := who a s) (g := g) (v := x.val) (s := d)
  have hsys : ∀ u, (finishUp (answer (norm s a) true 0 [] false u)).sys = u.sys := fun u => finishUp_sys.trans answer_sys
  refine ⟨?_, ?_, ?_⟩
  · rw [armedOf_congr (hsys _), armedOf_of_armed (congrArg Prod.fst hface), ← hd, armedOf_disarm]
  · rw [hsys]
    refine (congrArg Prod.snd hface : (guardComplete _ _ _ _).sys.gMismatch = _).trans ?_
    rw [← hd]
    exact gMismatch_breakOthers.trans gMismatch_atGuard
  · rintro rfl
    have hhlt : d.hlt = s.hlt := by
      rw [← hd]
      exact (quiet_of_sysOnly (breakOthers_sysOnly _ _ _)).hlt.trans (quiet_atGuard.hlt.trans entered_hlt)
    obtain ⟨hms, hpin, halarm⟩ := retryPair_stores (r := who a s) (v := x.val) (s := d)
    rw [ho] at *
    rw [finishUp_hlt (by rw [answer_hlt, halarm, hhlt]; exact settled_of_mayWrite hw), answer_hlt]
    exact ⟨hms, hpin⟩

/-- Settles O58: each clause is the lemma on its write, or on the time that passes. -/
theorem guardedPairs : Obligations.GuardedPairs := by
  intro s a g hg r live kept
  have hkept : ∀ t, Quiet s t → kept t := fun t h =>
    ⟨h.cal, h.grn, h.hlt, h.tim, by rw [h.sil], h.boot, h.compat⟩
  refine ⟨fun v hw => ?_, fun w hw hp => ⟨fun x hx hl ho hv => ?_, fun x hx hl ho hv => ?_, fun hno => ?_⟩, fun q x hu hx =>
    ⟨fun hl => ?_, fun hl => ?_⟩⟩
  · obtain ⟨t, hexec, hq, hrest⟩ := guardArm_step (v := v) hg hw
    exact ⟨t, hexec, hkept t hq, hrest⟩
  · rw [hv]
    exact guardComp_step_matches hg hw hp hx hl ho
  · have he : guardWrite r g (g + 4) w (entered a false s) = _ :=
      (guardWrite_of_comp hp).trans (guardComp_mismatch (armedOf_atGuard_of_live hx hl) ho hv)
    refine guard_answers exec_guardComplement (running_of_mayWrite hw) (settled_of_mayWrite hw) (compRow_reaches hg hw) ?_
      fun t hq hsys => ⟨hkept t hq, ?_⟩
    · rw [he]
      exact quiet_atGuard.trans (quiet_of_sysOnly ((breakOthers_sysOnly _ _ _).trans ⟨_, rfl, rfl⟩))
    · rw [armedOf_congr hsys, hsys, he]
      exact ⟨armedOf_disarm, rfl, rfl⟩
  · have he : guardWrite r g (g + 4) w (entered a false s) = _ :=
      (guardWrite_of_comp hp).trans (guardComp_unarmed (armedOf_atGuard_of_none hno))
    refine guard_answers exec_guardComplement (running_of_mayWrite hw) (settled_of_mayWrite hw) (compRow_reaches hg hw) ?_
      fun t hq hsys => ⟨hkept t hq, ?_⟩
    · rw [he]
      exact quiet_atGuard.trans (quiet_of_sysOnly ((breakOthers_sysOnly _ _ _).trans ⟨_, rfl, rfl⟩))
    · rw [hsys, he]
      exact ⟨rfl, rfl⟩
  · have hgone : guardTimeout q s = breakArm q s := by
      unfold guardTimeout
      rw [hx]
      exact if_neg (by rw [show armLives s x = false from hl]; decide)
    refine answers_of_act exec_guardTimeout (running_of_upAnd hu) ?_
    have hq : Quiet s (breakArm q s) := quiet_of_sysOnly (breakArm_sysOnly q s)
    rw [hgone]
    refine ⟨hkept _ (hq.trans (quiet_finishUp (by rw [hq.hlt]; exact settled_of_upAnd hu))), ?_⟩
    rw [armedOf_congr finishUp_sys, finishUp_sys, armedOf_breakArm_self]
    unfold breakArm
    rw [hx]
    exact ⟨rfl, rfl, rfl, rfl⟩
  · refine next_of_act_same (running_of_upAnd hu) exec_guardTimeout ?_
    unfold guardTimeout
    rw [hx]
    exact if_pos hl

end Sys2Proof.Machine

/-! PROOFS. Accesses to registers: clamps, refused accesses, and reads that clear (R312 to R316). -/

namespace Sys2Proof.Machine

/-! ### Writes of plain registers -/

/-- The register is neither guarded nor in the MBX block, and lies in the window. -/
def plainReg (off : Nat) : Bool :=
  decide (off < 0x10000) && decide (off % 4 = 0) && decide (guardBase off = none) && decide (off / 0x1000 ≠ 3)

/-- Sources, word counts, jobs, the mailbox and the event records are the same. -/
structure KeptUnits (s u : State) : Prop where
  front : front u = front s
  tal : u.tal = s.tal
  job : u.job = s.job
  mbx : u.mbx = s.mbx
  queue : u.evt.queue = s.evt.queue

theorem keptUnits_answer {a : Acc} {w : Bool} {st : Nat} {d : List Byte} {un : Bool} {s u : State} (h : KeptUnits s u) :
    KeptUnits s (answer a w st d un u) :=
  ⟨front_answer.trans h.front, answer_tal.trans h.tal, answer_job.trans h.job, answer_mbx.trans h.mbx, by rw [answer_evt, h.queue]⟩

/-- A write of a plain register shows what its own function does in the state that the access reaches. -/
theorem registerWrite_effects {a : Acc} {off : Nat} {v : W32} {s : State} {P : State → Prop} (hw : mayWrite a off s = true)
    (ho : plainReg off = true)
    (hP : ∀ r y, P (answer (norm s a) true 0 [] false (plainWrite (who a s) off v { s with ring := r, sys := y }))) :
    Effects (.registerWrite a off ⟨[v], []⟩) s P := by
  simp only [plainReg, Bool.and_eq_true, decide_eq_true_eq] at ho
  obtain ⟨⟨⟨hlt, h4⟩, hg⟩, hm⟩ := ho
  obtain ⟨t, ⟨r, y, rfl, -⟩, he⟩ := writeAccess_reaches (v := v) hw hlt h4 hg hm
  have hrow : writeRow a off [v] [] s = writeAccess a off [v] s := if_pos rfl
  refine effects_of_act exec_registerWrite (running_of_mayWrite hw) ?_
  rw [hrow, he]
  exact hP r y

/-- A clamped field of a register holds the nearest value within its limits. -/
theorem clamped_toNat {w lo hi n : Nat} {v : W32} (h : lo ≤ hi) (hw : hi < 2 ^ w) :
    (BitVec.ofNat w (clampN lo hi (fld v 0 n))).toNat = max lo (min hi (v.toNat % 2 ^ n)) := by
  rw [toNat_ofNat_clampN h hw, clampN, fld, Nat.shiftRight_zero]
  split
  · omega
  · split <;> omega

/-- A write of a setting stores its value, and leaves the units. -/
theorem setting_effects {α : Type} {a : Acc} {off : Nat} {v : W32} {s : State} (field : State → α) {x : α} (ho : plainReg off = true)
    (hans : ∀ u, field (answer (norm s a) true 0 [] false u) = field u)
    (hset : ∀ r y, field (plainWrite (who a s) off v { s with ring := r, sys := y }) = x)
    (hkept : ∀ r y, KeptUnits s (plainWrite (who a s) off v { s with ring := r, sys := y })) (hw : mayWrite a off s = true) :
    Effects (.registerWrite a off ⟨[v], []⟩) s (fun u => field u = x ∧ KeptUnits s u) :=
  registerWrite_effects hw ho fun r y => ⟨(hans _).trans (hset r y), keptUnits_answer (hkept r y)⟩

/-! ### Accesses that a check ends -/

theorem settings_entered {a : Acc} {hold : Bool} {s : State} : settings (entered a hold s) = settings s := by
  unfold entered
  split
  · exact settings_takeRequest
  · rfl

theorem front_entered {a : Acc} {hold : Bool} {s : State} : front (entered a hold s) = front s := Prod.ext entered_cal entered_grn

/-- Nothing but the frames of the ring changes in an access that is answered at once. -/
theorem answer_entered_keeps {a : Acc} {w : Bool} {st : Nat} {d : List Byte} {s : State} :
    let u := answer (norm s a) w st d false (entered a false s)
    settings u = settings s ∧ front u = front s ∧ u.tal = s.tal ∧ u.stk = s.stk ∧ u.job = s.job ∧
      (a.path = .core → u.core.status = BitVec.ofNat 4 st ∧ u.core.data = d) := by
  refine ⟨settings_answer.trans settings_entered, front_answer.trans front_entered, answer_tal.trans entered_tal,
    answer_stk.trans entered_stk, answer_job.trans entered_job, fun hp => ?_⟩
  exact ⟨answer_core_status (norm_path.trans hp), answer_core_data (norm_path.trans hp)⟩

theorem writeAccess_of_ends {a : Acc} {off st : Nat} {ws : List W32} {s : State} (he : enters a s = true)
    (h : regEnds s (who a s) true off ws.length = some st) :
    writeAccess a off ws s = answer (norm s a) true st [] false (entered a false s) := by
  have hends : regEnds (entered a false s) (norm s a).req true off ws.length = some st := by
    rw [regEnds_congr (s := s) (by simp)]
    exact h
  unfold writeAccess
  rw [arrive_of_enters he]
  dsimp only
  rw [regWrite, hends]

theorem oddAccess_of_enters {a : Acc} {w : Bool} {off len : Nat} {s : State} (he : enters a s = true) :
    oddAccess a w off len s = answer (norm s a) w (if 0x10000 < off + len then 1 else 3) [] false (entered a false s) := by
  unfold oddAccess
  rw [arrive_of_enters he]

/-! ### Reads that clear -/

/-- What reading a register may clear for good. -/
structure Cleared (off : Nat) (s : State) : Prop where
  viol : off = 0x0010 → s.sys.viol = false
  grn : off = 0x403C → s.grn.err = 0
  sum : off = 0x5020 → s.hlt.sum = 0
  stk : off = 0x840C → s.stk.err = 0
  job : off = 0x900C → s.job.err = 0
  lost : off = 0xE004 → s.evt.lost = false

/-- The fields that a read clears, where they are not clear already. -/
structure NoMore (s t : State) : Prop where
  viol : s.sys.viol = false → t.sys.viol = false
  grn : s.grn.err = 0 → t.grn.err = 0
  sum : s.hlt.sum = 0 → t.hlt.sum = 0
  stk : s.stk.err = 0 → t.stk.err = 0
  job : s.job.err = 0 → t.job.err = 0
  lost : s.evt.lost = false → t.evt.lost = false

theorem NoMore.refl {s : State} : NoMore s s := ⟨id, id, id, id, id, id⟩

theorem NoMore.trans {s t u : State} (h : NoMore s t) (g : NoMore t u) : NoMore s u :=
  ⟨g.viol ∘ h.viol, g.grn ∘ h.grn, g.sum ∘ h.sum, g.stk ∘ h.stk, g.job ∘ h.job, g.lost ∘ h.lost⟩

theorem Cleared.then {off : Nat} {s t : State} (h : Cleared off s) (g : NoMore s t) : Cleared off t :=
  ⟨g.viol ∘ h.viol, g.grn ∘ h.grn, g.sum ∘ h.sum, g.stk ∘ h.stk, g.job ∘ h.job, g.lost ∘ h.lost⟩

theorem noMore_of_sysOnly {s t : State} (h : SysOnly s t) : NoMore s t := by
  obtain ⟨y, rfl, hy⟩ := h
  have hv : y.viol = s.sys.viol := congrArg (·.viol) hy
  exact ⟨fun h => hv.trans h, id, id, id, id, id⟩

theorem noMore_answer {a : Acc} {w : Bool} {st : Nat} {d : List Byte} {un : Bool} {s : State} : NoMore s (answer a w st d un s) := by
  refine ⟨?_, ?_, ?_, ?_, ?_, ?_⟩
  · rw [answer_sys]; exact id
  · rw [answer_grn]; exact id
  · rw [answer_hlt]; exact id
  · rw [answer_stk]; exact id
  · rw [answer_job]; exact id
  · rw [answer_evt]; exact id

theorem noMore_mbxTouch {r : ReqId} {off : Nat} {s : State} : NoMore s (mbxTouch r off s) := by
  by_cases h : off / 0x1000 = 3
  · rw [mbxTouch_eq h]
    exact ⟨id, id, id, id, id, id⟩
  · unfold mbxTouch
    rw [if_neg h]
    exact .refl

theorem noMore_onlyIf {b : Bool} {f : State → State} {s : State} (h : NoMore s (f s)) : NoMore s (onlyIf b f s) := by
  cases b
  · exact .refl
  · exact h

theorem noMore_familyReadEffect {off : Nat} {s : State} : NoMore s (familyReadEffect off s) := by
  unfold familyReadEffect
  split
  · exact ⟨id, id, id, id, id, id⟩
  · exact noMore_onlyIf ⟨id, id, id, id, id, id⟩
  · exact ⟨id, id, id, id, id, id⟩
  · exact noMore_onlyIf ⟨id, id, id, id, id, id⟩
  · exact .refl

/-- What a read does besides never sets a field that reads clear. -/
theorem noMore_regAfter {r : ReqId} {off : Nat} {s : State} : NoMore s (regAfter r off s) := by
  unfold regAfter
  split
  next => exact ⟨fun _ => rfl, id, id, id, id, id⟩
  next => exact ⟨id, id, id, id, id, id⟩
  next => exact ⟨id, id, id, id, id, id⟩
  next => exact noMore_onlyIf ⟨id, id, id, id, id, id⟩
  next => exact ⟨id, fun _ => rfl, id, id, id, id⟩
  next => exact ⟨id, id, id, id, id, id⟩
  next => exact ⟨id, id, fun _ => rfl, id, id, id⟩
  next => exact ⟨id, id, id, id, id, id⟩
  next => exact ⟨id, id, id, id, id, id⟩
  next => exact ⟨id, id, id, fun _ => rfl, id, id⟩
  next => exact ⟨id, id, id, id, id, id⟩
  next => exact ⟨id, id, id, id, fun _ => rfl, id⟩
  next => exact ⟨id, id, id, id, id, id⟩
  next => exact ⟨id, id, id, id, id, id⟩
  next => exact ⟨id, id, id, id, id, id⟩
  next => exact ⟨id, id, id, id, id, id⟩
  next => exact ⟨id, id, id, id, id, id⟩
  next => exact ⟨id, id, id, id, id, id⟩
  next => exact ⟨id, id, id, id, id, fun _ => rfl⟩
  next => exact noMore_onlyIf ⟨id, id, id, id, id, id⟩
  next => exact noMore_familyReadEffect

theorem cleared_regAfter {r : ReqId} {off : Nat} {s : State} : Cleared off (regAfter r off s) := by
  refine ⟨?_, ?_, ?_, ?_, ?_, ?_⟩ <;> (rintro rfl; rfl)

theorem noMore_readOne {r : ReqId} {off : Nat} {s : State} : NoMore s (readOne r off s).2 :=
  (noMore_mbxTouch.trans noMore_regAfter).trans (noMore_of_sysOnly (breakArm_sysOnly _ _))

theorem cleared_readOne {r : ReqId} {off : Nat} {s : State} : Cleared off (readOne r off s).2 :=
  cleared_regAfter.then (noMore_of_sysOnly (breakArm_sysOnly _ _))

theorem noMore_readMany {r : ReqId} {off n : Nat} {s : State} : NoMore s (readMany r off n s).2 := by
  induction n generalizing off s with
  | zero => exact .refl
  | succ n ih => exact noMore_readOne.trans ih

/-- After consecutive reads each register read has its cleared value. -/
theorem cleared_readMany {r : ReqId} {off n k : Nat} {s : State} (hk : k < n) : Cleared (off + 4 * k) (readMany r off n s).2 := by
  induction n generalizing off k s with
  | zero => exact absurd hk (Nat.not_lt_zero k)
  | succ n ih =>
    cases k with
    | zero => exact cleared_readOne.then noMore_readMany
    | succ k =>
      have h := ih (off := off + 4) (k := k) (s := (readOne r off s).2) (by omega)
      rw [show off + 4 * (k + 1) = off + 4 + 4 * k by omega]
      exact h

/-- A read of registers that is performed answers with their values, and clears what reads clear. -/
theorem readAccess_of_performed {a : Acc} {off n : Nat} {s : State} (he : enters a s = true)
    (h : regEnds s (who a s) false off n = none) :
    readAccess a off n s = answer (norm s a) false 0 (w32ToBytes (readMany (who a s) off n (entered a false s)).1) false
      (readMany (who a s) off n (entered a false s)).2 := by
  have hends : regEnds (entered a false s) (norm s a).req false off n = none := by
    rw [regEnds_congr (s := s) (by simp)]
    exact h
  rw [readAccess_of_enters he]
  dsimp only
  rw [regRead, hends]
  rfl

/-! ### The statement -/

/-- A write of a clamped setting stores the nearest value within its limits. -/
theorem clamped_settings {s : State} {a : Acc} {v : W32} :
    let clamped (off : Nat) (field : State → Nat) (lo hi n : Nat) : Prop :=
      mayWrite a off s = true →
        Effects (.registerWrite a off ⟨[v], []⟩) s (fun u => field u = max lo (min hi (v.toNat % 2 ^ n)) ∧ KeptUnits s u)
    clamped 0x6088 (·.pln.holdMax.toNat) 1 100 7 ∧ clamped 0x7008 (·.lan.timeMs.toNat) 1 100 7 ∧
      clamped 0x8400 (·.stk.maxAge.toNat) 1 300000 19 ∧ clamped 0x8404 (·.stk.stallUs.toNat) 10 100000 17 ∧
      clamped 0x8430 (·.stk.period.toNat) 10 1000 10 ∧ clamped 0xA100 (·.bne.idleMs.toNat) 0 10000 14 ∧
      clamped 0xB01C (·.ring.restoreMs.toNat) 10 10000 14 ∧ clamped 0xC01C (·.tim.slewLimit.toNat) 0 1000000 20 ∧
      clamped 0xC024 (·.tim.late.toNat) 0 100000 17 ∧ clamped 0xC02C (·.tim.inPeriod.toNat) 100000 1000000000 32 ∧
      clamped 0xC040 (·.tim.outWidth.toNat) 8 65535 16 ∧ clamped 0xD008 (·.lsp.len.toNat) 4 32 6 ∧
      clamped 0xE008 (·.evt.thresh.toNat) 1 1024 11 := by
  have hkept : ∀ u : State, front u = front s → u.tal = s.tal → u.job = s.job → u.mbx = s.mbx → u.evt.queue = s.evt.queue → KeptUnits s u :=
    fun u hf ht hj hm hq => ⟨hf, ht, hj, hm, hq⟩
  refine ⟨?_, ?_, ?_, ?_, ?_, ?_, ?_, ?_, ?_, ?_, ?_, ?_, ?_⟩
  · exact setting_effects (fun u => u.pln.holdMax.toNat) (by decide) (fun u => by rw [answer_pln])
      (fun r y => clamped_toNat (by decide) (by decide)) fun r y => hkept _ rfl rfl rfl rfl rfl
  · exact setting_effects (fun u => u.lan.timeMs.toNat) (by decide) (fun u => by rw [answer_lan])
      (fun r y => clamped_toNat (by decide) (by decide)) fun r y => hkept _ rfl rfl rfl rfl rfl
  · exact setting_effects (fun u => u.stk.maxAge.toNat) (by decide) (fun u => by rw [answer_stk])
      (fun r y => clamped_toNat (by decide) (by decide)) fun r y => hkept _ rfl rfl rfl rfl rfl
  · exact setting_effects (fun u => u.stk.stallUs.toNat) (by decide) (fun u => by rw [answer_stk])
      (fun r y => clamped_toNat (by decide) (by decide)) fun r y => hkept _ rfl rfl rfl rfl rfl
  · exact setting_effects (fun u => u.stk.period.toNat) (by decide) (fun u => by rw [answer_stk])
      (fun r y => clamped_toNat (by decide) (by decide)) fun r y => hkept _ rfl rfl rfl rfl rfl
  · exact setting_effects (fun u => u.bne.idleMs.toNat) (by decide) (fun u => by rw [answer_bne])
      (fun r y => clamped_toNat (by decide) (by decide)) fun r y => hkept _ rfl rfl rfl rfl rfl
  · exact setting_effects (fun u => u.ring.restoreMs.toNat) (by decide)
      (fun u => (congrArg (fun r : Ring => r.restoreMs.toNat) passed_answer.core :))
      (fun r y => clamped_toNat (by decide) (by decide)) fun r y => hkept _ rfl rfl rfl rfl rfl
  · exact setting_effects (fun u => u.tim.slewLimit.toNat) (by decide) (fun u => by rw [answer_tim])
      (fun r y => clamped_toNat (by decide) (by decide)) fun r y => hkept _ rfl rfl rfl rfl rfl
  · exact setting_effects (fun u => u.tim.late.toNat) (by decide) (fun u => by rw [answer_tim])
      (fun r y => clamped_toNat (by decide) (by decide)) fun r y => hkept _ rfl rfl rfl rfl rfl
  · have hfld : v.toNat = fld v 0 32 := by
      rw [fld, Nat.shiftRight_zero, Nat.mod_eq_of_lt v.isLt]
    refine setting_effects (fun u => u.tim.inPeriod.toNat) (by decide) (fun u => by rw [answer_tim]) (fun r y => ?_)
      fun r y => hkept _ rfl rfl rfl rfl rfl
    have hval : (BitVec.ofNat 32 (clampN 100000 1000000000 v.toNat)).toNat = max 100000 (min 1000000000 (v.toNat % 2 ^ 32)) := by
      rw [hfld, clamped_toNat (by decide) (by decide), ← hfld]
    exact hval
  · exact setting_effects (fun u => u.tim.outWidth.toNat) (by decide) (fun u => by rw [answer_tim])
      (fun r y => clamped_toNat (by decide) (by decide)) fun r y => hkept _ rfl rfl rfl rfl rfl
  · exact setting_effects (fun u => u.lsp.len.toNat) (by decide) (fun u => by rw [answer_lsp])
      (fun r y => clamped_toNat (by decide) (by decide)) fun r y => hkept _ rfl rfl rfl rfl rfl
  · exact setting_effects (fun u => u.evt.thresh.toNat) (by decide) (fun u => by rw [answer_evt])
      (fun r y => clamped_toNat (by decide) (by decide)) fun r y => hkept _ rfl rfl rfl rfl rfl

/-- Settles O57: each clause is the lemma on its write, refused access or read. -/
theorem registerAccess : Obligations.RegisterAccess := by
  intro s a
  refine ⟨fun v => ?_, fun off ws st he hset hends => ?_, fun he hset => ⟨fun off ws tail ht => ?_, fun off n extra hx => ?_⟩,
    fun off n he hset hends hcmp => ?_⟩
  · intro kept clamped
    have hkept : ∀ u, KeptUnits s u → kept u := fun u h => ⟨h.front, h.tal, h.job, h.mbx, h.queue⟩
    have hclamped : ∀ {off : Nat} {field : State → Nat} {lo hi n : Nat}, (mayWrite a off s = true →
        Effects (.registerWrite a off ⟨[v], []⟩) s (fun u => field u = max lo (min hi (v.toNat % 2 ^ n)) ∧ KeptUnits s u)) →
        clamped off field lo hi n := fun h hw => by
      obtain ⟨u, hexec, hfield, hk⟩ := h hw
      exact ⟨u, hexec, hfield, hkept u hk⟩
    obtain ⟨h1, h2, h3, h4, h5, h6, h7, h8, h9, h10, h11, h12, h13⟩ := clamped_settings (s := s) (a := a) (v := v)
    refine ⟨hclamped h1, hclamped h2, hclamped h3, hclamped h4, hclamped h5, hclamped h6, hclamped h7, hclamped h8, hclamped h9,
      hclamped h10, hclamped h11, hclamped h12, hclamped h13, fun hw => ?_, fun hw => ?_, fun hw => ?_⟩
    · obtain ⟨u, hexec, hfield, hk⟩ := setting_effects (v := v) (s := s) (x := { s.tim with adj := v }) State.tim (by decide)
        (fun u => answer_tim) (fun r y => rfl) (fun r y => ⟨rfl, rfl, rfl, rfl, rfl⟩) hw
      exact ⟨u, hexec, hfield, hkept u hk⟩
    · exact registerWrite_effects hw (by decide) fun r y => ⟨answer_job, answer_tal⟩
    · obtain ⟨u, hexec, hfield, hk⟩ := setting_effects (v := v) (s := s)
        (x := upd s.evt.mask 0 (fun _ => (v &&& 0x3F0781FE) ||| 0x0000800C)) (fun u => u.evt.mask) (by decide)
        (fun u => by rw [answer_evt]) (fun r y => rfl) (fun r y => ⟨rfl, rfl, rfl, rfl, rfl⟩) hw
      exact ⟨u, hexec, hfield, hkept u hk⟩
  · refine effects_of_act exec_registerWrite (running_of_enters he) ?_
    rw [show writeRow a off ws [] s = writeAccess a off ws s from if_pos rfl, writeAccess_of_ends he hends]
    obtain ⟨h1, h2, h3, h4, h5, hcore⟩ := answer_entered_keeps (a := a) (w := true) (st := st) (d := []) (s := s)
    exact ⟨h1, h2, h3, h4, h5, fun hp => (hcore hp).1⟩
  · refine effects_of_act exec_registerWrite (running_of_enters he) ?_
    rw [show writeRow a off ws tail s = oddAccess a true off (4 * ws.length + tail.length) s from if_neg ht, oddAccess_of_enters he]
    obtain ⟨h1, h2, h3, h4, h5, hcore⟩ := answer_entered_keeps (a := a) (w := true)
      (st := if 0x10000 < off + (4 * ws.length + tail.length) then 1 else 3) (d := []) (s := s)
    refine ⟨h1, h2, h3, h4, h5, fun hp => ⟨(hcore hp).1.trans ?_, (hcore hp).2⟩⟩
    split <;> rfl
  · refine effects_of_act exec_clearingRead (running_of_enters he) ?_
    rw [show regRow a off n extra s = oddAccess a false off (4 * n + extra) s from if_neg (by omega), oddAccess_of_enters he]
    obtain ⟨h1, h2, h3, h4, h5, hcore⟩ := answer_entered_keeps (a := a) (w := false)
      (st := if 0x10000 < off + (4 * n + extra) then 1 else 3) (d := []) (s := s)
    refine ⟨h1, h2, h3, h4, h5, fun hp => ⟨(hcore hp).1.trans ?_, (hcore hp).2⟩⟩
    split <;> rfl
  · refine effects_of_act exec_clearingRead (running_of_enters he) ?_
    have hrow : regRow a off n 0 s = readAccess a off n s := (if_pos rfl).trans (if_neg (by rw [hcmp]; decide))
    rw [hrow, readAccess_of_performed he hends]
    have hclear : ∀ k, k < n → Cleared (off + 4 * k) (answer (norm s a) false 0
        (w32ToBytes (readMany (who a s) off n (entered a false s)).1) false (readMany (who a s) off n (entered a false s)).2) :=
      fun k hk => (cleared_readMany hk).then noMore_answer
    refine ⟨fun hp => ⟨answer_core_status (norm_path.trans hp), answer_core_data (norm_path.trans hp)⟩, fun k hk => (hclear k hk).viol,
      fun k hk => (hclear k hk).grn, fun k hk => (hclear k hk).sum, fun k hk => (hclear k hk).stk, fun k hk => (hclear k hk).job,
      fun k hk => (hclear k hk).lost⟩

end Sys2Proof.Machine

/-! PROOFS. Reset values, and the commands of power, reset and the test port (R331, R356, R357, R359 to R361). -/

namespace Sys2Proof.Machine

/-! ### Reset values -/

theorem mem_allSources_reset {x : Source} (h : x ∈ allSources State.reset.grn) : x.st = .seasoning := by
  have hall : ∀ y ∈ allSources State.reset.grn, y.st = .seasoning := by decide
  exact hall x h

/-- Settles O4: each value is the one that State.atRelease gives, and the invariants are evaluated there. -/
theorem resetValues : Obligations.ResetValues := by
  refine ⟨rfl, rfl, rfl, rfl, rfl, rfl, rfl, rfl, rfl, rfl, rfl, rfl, rfl, rfl, rfl, fun x h => mem_allSources_reset h, rfl, rfl, ?_, rfl, rfl,
    rfl, rfl, ?_, rfl, ?_, rfl, rfl, rfl, rfl, ?_, rfl, rfl, rfl, rfl, rfl, rfl, rfl, rfl, ?_, ?_, rfl, rfl, rfl⟩
  · exact fun p hp => (List.eq_of_mem_replicate hp).symm ▸ rfl
  · exact fun l hl => (List.eq_of_mem_replicate hl).symm ▸ rfl
  · intro d hd
    obtain ⟨q, -, rfl⟩ := List.mem_map.mp hd
    exact ⟨rfl, rfl⟩
  · exact fun b hb => (List.eq_of_mem_replicate hb).symm ▸ rfl
  · exact (by decide : settingsWithin (settings State.reset) = true)
  · exact ⟨by decide, by decide, by decide, by decide⟩

/-! ### Power and reset -/

/-- A node in internal reset keeps none of its volatile state. -/
theorem volatileLost_holdReset {phase : PwrPhase} {s t : State} (h : t.pending = s.pending) : volatileLost s (holdReset phase t) := by
  refine ⟨rfl, rfl, rfl, rfl, rfl, rfl, rfl, rfl, rfl, rfl, ?_, ?_, h⟩
  · exact fun b hb => (List.eq_of_mem_replicate hb).symm ▸ rfl
  · exact fun l hl => (List.eq_of_mem_replicate hl).symm ▸ rfl

theorem phase_of_running {s : State} (h : running s = true) : s.pwr.phase = .running := by simpa [running] using h

theorem act_of_not_running {f : State → State} {s : State} (h : running s = false) : act f s = s := by
  rw [act, if_neg (by rw [h]; decide)]

/-- Only a command of power, reset or the test port acts on a node held in internal reset. -/
theorem exec_of_not_running {c : Instr} {s : State} (h : running s = false) (hc : isPowerRow c = false) : exec c s = .next s := by
  have hact : ∀ f, (.next (act f s) : Host.Outcome State Fault Refusal) = .next s := fun f => by rw [act_of_not_running h]
  cases c
  case vinRise | internalResetRelease | resetAssert | brownOut | jtagResetHold => cases hc
  all_goals exact hact _

/-- The test port's instruction holds the node. -/
theorem holds_iff {i : JtagHold} : (decide (i = .extest) || decide (i = .clamp) || decide (i = .highz)) = true ↔
    i = .extest ∨ i = .clamp ∨ i = .highz := by
  simp [or_assoc]

theorem jtagInstr_of_holding {i : JtagHold} {s : State} (hr : running s = true) (hi : i = .extest ∨ i = .clamp ∨ i = .highz) :
    jtagInstr i s = holdReset .inReset { s with pwr := { s.pwr with jtag := i, jtagHold := true } } := by
  unfold jtagInstr
  dsimp only
  rw [phase_of_running hr, holds_iff.mpr hi]
  rfl

theorem jtagInstr_of_not_holding {i : JtagHold} {s : State} (hi : ¬ (i = .extest ∨ i = .clamp ∨ i = .highz)) :
    jtagInstr i s = { s with pwr := { s.pwr with jtagHold := false, jtag := i } } := by
  unfold jtagInstr
  dsimp only
  rw [Bool.eq_false_iff.mpr (fun h => hi (holds_iff.mp h))]
  cases s.pwr.phase <;> rfl

theorem jtagInstr_of_held {i : JtagHold} {s : State} (hr : running s = false) (hi : i = .extest ∨ i = .clamp ∨ i = .highz) :
    jtagInstr i s = { s with pwr := { s.pwr with jtagHold := true, jtag := i } } := by
  unfold jtagInstr
  dsimp only
  rw [holds_iff.mpr hi]
  cases hp : s.pwr.phase with
  | running => simp [running, hp] at hr
  | off => rfl
  | inReset => rfl

theorem next_of_eq {s t : State} (h : s = t) : (.next s : Host.Outcome State Fault Refusal) = .next t := congrArg _ h

/-- Settles O12: each command is evaluated in the phase of power that it meets. -/
theorem powerAndReset : Obligations.PowerAndReset := by
  intro s
  refine ⟨fun l c h => ?_, fun l c h => ?_, fun h => ⟨_, rfl, ?_⟩, fun h => ?_, fun h => ⟨_, rfl, ?_⟩, fun h => ?_, fun i h hi => ⟨_, rfl, ?_⟩,
    fun i hi => congrArg _ (jtagInstr_of_not_holding hi), fun i h hi => congrArg _ (jtagInstr_of_held h hi), fun c h hc => exec_of_not_running h hc⟩
  · refine next_of_eq ?_
    unfold vinRise
    rw [h]
  · refine next_of_eq ?_
    unfold vinRise
    split
    next hp => exact absurd hp h
    next => rfl
  · unfold resetAssert
    rw [phase_of_running h]
    exact ⟨rfl, rfl, volatileLost_holdReset rfl⟩
  · refine next_of_eq ?_
    unfold resetAssert
    dsimp only
    split
    next hp => simp [running, hp] at h
    next => rfl
  · unfold brownOut
    split
    next hp => exact absurd hp h
    next => exact ⟨rfl, volatileLost_holdReset rfl⟩
  · refine next_of_eq ?_
    unfold brownOut
    rw [h]
  · rw [jtagInstr_of_holding h hi]
    exact ⟨rfl, rfl, rfl, volatileLost_holdReset rfl⟩

end Sys2Proof.Machine

/-! PROOFS. The discipline of fabric time: samples, steps, the frequency term, SET, ADJ and holdover (R275 to R281, R286). -/

namespace Sys2Proof.Machine

/-! ### What steps and samples leave -/

/-- The TIM block without what a step or a sample changes of it. -/
def timRest (x : Tim) : Tim :=
  { x with
    cnt := 0, prev := 0, steps := 0, phase := 0, skipF := false, inRef := none, outNext := none, outSkipped := 0, offset := 0
    lastT := none, disc := .free, trackSlow := 0, f := 0, phaseT := 0, metT := none }

/-- Only event records, their frames, and what a step or a sample changes of the TIM block are new. -/
def TimeOnly (s t : State) : Prop := ∃ e r x, t = { s with evt := e, ring := r, tim := x } ∧ timRest x = timRest s.tim

theorem TimeOnly.refl {s : State} : TimeOnly s s := ⟨s.evt, s.ring, s.tim, rfl, rfl⟩

theorem TimeOnly.trans {s t u : State} (h : TimeOnly s t) (g : TimeOnly t u) : TimeOnly s u := by
  obtain ⟨e, r, x, rfl, hx⟩ := h
  obtain ⟨e', r', x', rfl, hx'⟩ := g
  exact ⟨e', r', x', rfl, hx'.trans hx⟩

theorem timeOnly_tim {x : Tim} {s : State} (h : timRest x = timRest s.tim) : TimeOnly s { s with tim := x } := ⟨s.evt, s.ring, x, rfl, h⟩

theorem postEvent_eq {c i d : Nat} {x : Word} {s : State} : ∃ e r, postEvent c i d x s = { s with evt := e, ring := r } := ⟨_, _, rfl⟩

theorem timeOnly_postEvent {c i d : Nat} {x : Word} {s : State} : TimeOnly s (postEvent c i d x s) := ⟨_, _, s.tim, rfl, rfl⟩

/-! ### Steps -/

/-- A step as the TIM block shows it, but for the pulses of SYNC_OUT. -/
theorem timeStep_tim {src : Nat} {new : BitVec 80} {corr : Int} {s : State} :
    ∃ n k, (timeStep src new corr s).tim = { s.tim with
      cnt := new, prev := new - 1, steps := s.tim.steps + 1, phase := 0, skipF := true, inRef := none, outNext := n, outSkipped := k } := by
  unfold timeStep
  dsimp only
  rw [postEvent_tim]
  dsimp only
  rw [resched_tim]
  exact ⟨_, _, rfl⟩

theorem timeOnly_timeStep {src : Nat} {new : BitVec 80} {corr : Int} {s : State} : TimeOnly s (timeStep src new corr s) := by
  have hsched : ∀ u : State, TimeOnly u (resched u) := fun u => by
    unfold resched
    split
    · exact timeOnly_tim rfl
    · exact .refl
  unfold timeStep
  dsimp only
  refine TimeOnly.trans ?_ timeOnly_postEvent
  refine TimeOnly.trans ?_ (timeOnly_tim rfl)
  refine TimeOnly.trans ?_ (hsched _)
  exact timeOnly_tim rfl

/-! ### Samples -/

theorem clampI_eq {m : Nat} {v : Int} : clampI m v = max (-(m : Int)) (min (m : Int) v) := by
  unfold clampI
  split
  · omega
  · split <;> omega

theorem sinceSample_eq {s : State} : sinceSample s = (match s.tim.lastT with
    | some t0 => max 100000 (min 1000000000 (8 * (s.clk.ticks - t0)))
    | none => 1000000000) := by
  unfold sinceSample
  cases s.tim.lastT with
  | none => rfl
  | some t0 =>
    show clampN _ _ _ = max _ (min _ _)
    unfold clampN
    split
    · omega
    · split <;> omega

/-- A sample's error as the TIM block shows it, where no sample was granted in the same period: beyond the slew limit it steps, any other is
slewed (R279). -/
def Applied (x y : Tim) (e : Int) : Prop :=
  if x.slewLimit.toNat * 2 ^ 32 < e.natAbs then
    y.cnt = x.cnt - BitVec.ofInt 80 e ∧ y.steps = x.steps + 1 ∧ y.phase = 0 ∧ y.f = x.f
  else y.cnt = x.cnt ∧ y.steps = x.steps ∧ y.phase = -e

/-- A sample of the selected source as the discipline takes it (R279, R280). -/
def Tracks (x y : Tim) (ticks : Nat) (e : Int) : Prop :=
  y.disc = .track ∧ y.offset = offset16 e ∧
    (e.natAbs ≤ x.slewLimit.toNat * 2 ^ 32 → y.f =
      if x.skipF then x.f
      else BitVec.ofInt 32 (max (-((x.maxPpm.toNat * 2 ^ 32 / 1000000 : Nat) : Int)) (min ((x.maxPpm.toNat * 2 ^ 32 / 1000000 : Nat) : Int)
        (x.f.toInt - Int.tdiv e ((match x.lastT with
          | some t0 => max 100000 (min 1000000000 (8 * (ticks - t0)))
          | none => 1000000000) * 2 ^ x.gain.toNat : Nat)))))

/-- The discipline once a sample of the selected source has been accepted. -/
def tracking (e : Int) (s : State) : State := enterTrack { s with tim := { s.tim with offset := offset16 e, lastT := some s.clk.ticks } }

theorem tracking_tim {e : Int} {s : State} : (tracking e s).tim =
    { s.tim with offset := offset16 e, lastT := some s.clk.ticks, disc := .track, trackSlow := s.clk.slow } := by
  unfold tracking enterTrack onlyIf
  dsimp only
  split <;> rfl

theorem timeOnly_tracking {e : Int} {s : State} : TimeOnly s (tracking e s) := by
  unfold tracking enterTrack onlyIf
  dsimp only
  split
  · exact (timeOnly_tim (x := { s.tim with
      offset := offset16 e, lastT := some s.clk.ticks, disc := .track, trackSlow := s.clk.slow }) rfl).trans timeOnly_postEvent
  · exact timeOnly_tim rfl

theorem sampleApply_own {src : Nat} {e : Int} {s : State} : sampleApply src true e s =
    if s.tim.slewLimit.toNat * 2 ^ 32 < e.natAbs then timeStep src (s.tim.cnt - BitVec.ofInt 80 e) (-e) (tracking e s)
    else { tracking e s with tim := { (tracking e s).tim with
      f := if !s.tim.skipF then BitVec.ofInt 32 (clampI (maxRate s)
        (s.tim.f.toInt - Int.tdiv e (sinceSample s * 2 ^ s.tim.gain.toNat : Nat))) else (tracking e s).tim.f
      skipF := false, phase := -e, phaseT := sinceSample s } } := rfl

theorem sampleApply_host {src : Nat} {e : Int} {s : State} : sampleApply src false e s =
    if s.tim.slewLimit.toNat * 2 ^ 32 < e.natAbs then timeStep src (s.tim.cnt - BitVec.ofInt 80 e) (-e) s
    else { s with tim := { s.tim with phase := -e, phaseT := sinceSample s } } := rfl

theorem timeOnly_sampleApply {src : Nat} {own : Bool} {e : Int} {s : State} : TimeOnly s (sampleApply src own e s) := by
  cases own with
  | true =>
    rw [sampleApply_own]
    split
    · exact timeOnly_tracking.trans timeOnly_timeStep
    · exact timeOnly_tracking.trans (timeOnly_tim rfl)
  | false =>
    rw [sampleApply_host]
    split
    · exact timeOnly_timeStep
    · exact timeOnly_tim rfl

theorem sampleApply_applied {src : Nat} {own : Bool} {e : Int} {s : State} : Applied s.tim (sampleApply src own e s).tim e := by
  unfold Applied
  cases own with
  | true =>
    rw [sampleApply_own]
    split
    · obtain ⟨n, k, h⟩ := timeStep_tim (src := src) (new := s.tim.cnt - BitVec.ofInt 80 e) (corr := -e) (s := tracking e s)
      rw [h, tracking_tim]
      exact ⟨rfl, rfl, rfl, rfl⟩
    · dsimp only
      rw [tracking_tim]
      exact ⟨rfl, rfl, rfl⟩
  | false =>
    rw [sampleApply_host]
    split
    · obtain ⟨n, k, h⟩ := timeStep_tim (src := src) (new := s.tim.cnt - BitVec.ofInt 80 e) (corr := -e) (s := s)
      rw [h]
      exact ⟨rfl, rfl, rfl, rfl⟩
    · exact ⟨rfl, rfl, rfl⟩

theorem sampleApply_tracks {src : Nat} {e : Int} {s : State} : Tracks s.tim (sampleApply src true e s).tim s.clk.ticks e := by
  unfold Tracks
  rw [sampleApply_own]
  split
  next hbig =>
    obtain ⟨n, k, h⟩ := timeStep_tim (src := src) (new := s.tim.cnt - BitVec.ofInt 80 e) (corr := -e) (s := tracking e s)
    rw [h, tracking_tim]
    exact ⟨rfl, rfl, fun hle => absurd hbig (Nat.not_lt.mpr hle)⟩
  next =>
    dsimp only
    rw [tracking_tim, ← sinceSample_eq, clampI_eq]
    refine ⟨rfl, rfl, fun _ => ?_⟩
    cases s.tim.skipF <;> rfl

/-- A sample that is granted, or discarded where one was granted before it in the same period (R286). -/
def Sampled (x y : Tim) (ticks : Nat) (e : Int) : Prop :=
  if x.metT = some ticks then y.cnt = x.cnt ∧ y.steps = x.steps ∧ y.phase = x.phase ∧ y.f = x.f
  else if x.slewLimit.toNat * 2 ^ 32 < e.natAbs then
    y.cnt = x.cnt - BitVec.ofInt 80 e ∧ y.steps = x.steps + 1 ∧ y.phase = 0 ∧ y.f = x.f
  else y.cnt = x.cnt ∧ y.steps = x.steps ∧ y.phase = -e

theorem timeSample_sampled {src : Nat} {own : Bool} {e : Int} {s : State} : Sampled s.tim (timeSample src own e s).tim s.clk.ticks e := by
  unfold Sampled timeSample
  split
  · exact ⟨rfl, rfl, rfl, rfl⟩
  · exact sampleApply_applied (s := meetHere s)

theorem timeSample_tracks {src : Nat} {e : Int} {s : State} (h : s.tim.metT ≠ some s.clk.ticks) :
    Tracks s.tim (timeSample src true e s).tim s.clk.ticks e := by
  unfold timeSample
  rw [if_neg h]
  exact sampleApply_tracks (s := meetHere s)

theorem timeOnly_timeSample {src : Nat} {own : Bool} {e : Int} {s : State} : TimeOnly s (timeSample src own e s) := by
  unfold timeSample
  split
  · exact .refl
  · exact (timeOnly_tim (x := (meetHere s).tim) rfl).trans timeOnly_sampleApply

/-! ### TIM_CMD -/

theorem timWord_fields (set adj pin : Bool) :
    bitAt (timWord set adj pin) 0 = set ∧ bitAt (timWord set adj pin) 1 = adj ∧ bitAt (timWord set adj pin) 31 = pin := by
  revert set adj pin
  decide

/-- A held command is applied, and none waits then. -/
theorem applyHeld_adj {v : W32} {s : State} (h : s.tim.held = some (.adj v)) :
    applyHeld s = timeAdj v { s with tim := { s.tim with held := none } } := by
  rw [applyHeld, h]

theorem applyHeld_set {wrap : BitVec 16} {ns : BitVec 32} {s : State} (h : s.tim.held = some (.set wrap ns)) :
    applyHeld s = timeSet wrap ns { s with tim := { s.tim with held := none } } := by
  rw [applyHeld, h]

theorem applyHeld_none {s : State} (h : s.tim.held = none) : applyHeld s = s := by
  rw [applyHeld, h]

theorem timeOnly_timeAdj {v : W32} {s : State} : TimeOnly s (timeAdj v s) := timeOnly_timeSample

theorem timeOnly_timeSet {wrap : BitVec 16} {ns : BitVec 32} {s : State} : TimeOnly s (timeSet wrap ns s) :=
  (timeOnly_tim (x := (meetHere s).tim) rfl).trans timeOnly_timeStep

/-- What a TIM_CMD pair changes besides: the command that waits. -/
def TimeCmd (s t : State) : Prop := ∃ h, TimeOnly { s with tim := { s.tim with held := h } } t

theorem timeCmd_held {h : Option HeldTime} {s : State} : TimeCmd s { s with tim := { s.tim with held := h } } := ⟨h, .refl⟩

theorem TimeOnly.timeCmd {s t : State} (h : TimeOnly s t) : TimeCmd s t := ⟨s.tim.held, h⟩

theorem TimeCmd.trans {s t u : State} (h : TimeCmd s t) (g : TimeCmd t u) : TimeCmd s u := by
  obtain ⟨a, e, r, x, rfl, hx⟩ := h
  obtain ⟨b, e', r', y, rfl, hy⟩ := g
  have hset : timRest { x with held := b } = timRest { s.tim with held := b } := congrArg (fun z : Tim => { z with held := b }) hx
  exact ⟨b, e', r', y, rfl, hy.trans hset⟩

theorem timeCmd_applyHeld {s : State} : TimeCmd s (applyHeld s) := by
  cases h : s.tim.held with
  | none => rw [applyHeld_none h]; exact TimeOnly.refl.timeCmd
  | some c =>
    cases c with
    | set wrap ns => rw [applyHeld_set h]; exact ⟨none, timeOnly_timeSet⟩
    | adj v => rw [applyHeld_adj h]; exact ⟨none, timeOnly_timeAdj⟩

/-- The command that a TIM_CMD value gives: SET goes before ADJ. -/
def timGiven (set : Bool) (s : State) : HeldTime := if set then .set s.tim.setWrap s.tim.setNs else .adj s.tim.adj

/-- The state in which a command waits. -/
def holding (h : HeldTime) (s : State) : State := { s with tim := { s.tim with held := some h } }

theorem timCmd_eq {set adj pin : Bool} {s : State} : timCmd (timWord set adj pin) s =
    if !set && !adj then s
    else if s.tim.clkOk then applyHeld (holding (timGiven set s) (applyHeld s)) else holding (timGiven set s) s := by
  obtain ⟨hset, hadj, -⟩ := timWord_fields set adj pin
  unfold timCmd
  rw [hset, hadj]
  rfl

theorem timeCmd_timCmd {set adj pin : Bool} {s : State} : TimeCmd s (timCmd (timWord set adj pin) s) := by
  rw [timCmd_eq]
  split
  · exact TimeOnly.refl.timeCmd
  · split
    · exact (timeCmd_applyHeld.trans timeCmd_held).trans timeCmd_applyHeld
    · exact timeCmd_held

/-- A SET that is given while no other command waits; without CK_TIME it is held (R279, R281). -/
def SetDone (x y : Tim) : Prop :=
  if x.clkOk then x.held = none → y.cnt = x.setWrap ++ x.setNs ++ (0 : BitVec 32) ∧ y.steps = x.steps + 1 ∧ y.held = none
  else y.cnt = x.cnt ∧ y.held = some (.set x.setWrap x.setNs)

/-- An ADJ that is given while no other command waits is a sample of its own; without CK_TIME it is held (R279, R281). -/
def AdjDone (x y : Tim) (ticks : Nat) : Prop :=
  if x.clkOk then x.held = none → Sampled x y ticks (-(x.adj.toInt) * 2 ^ 32) ∧ y.held = none
  else y.cnt = x.cnt ∧ y.held = some (.adj x.adj)

theorem timCmd_given {set adj pin : Bool} {s : State} (h : set = true ∨ adj = true) : timCmd (timWord set adj pin) s =
    if s.tim.clkOk then applyHeld (holding (timGiven set s) (applyHeld s)) else holding (timGiven set s) s := by
  have hg : ¬ ((!set && !adj) = true) := by
    rcases h with rfl | rfl
    · simp
    · cases set <;> decide
  rw [timCmd_eq, if_neg hg]

theorem timCmd_set {adj pin : Bool} {s : State} : SetDone s.tim (timCmd (timWord true adj pin) s).tim := by
  rw [timCmd_given (.inl rfl)]
  unfold SetDone
  split
  · intro hh
    rw [applyHeld_none hh, applyHeld_set (s := holding (timGiven true s) s) rfl]
    obtain ⟨n, k, hstep⟩ := timeStep_tim (src := 4) (new := s.tim.setWrap ++ s.tim.setNs ++ (0 : BitVec 32))
      (corr := ((s.tim.setWrap ++ s.tim.setNs ++ (0 : BitVec 32) : BitVec 80).toNat : Int) - s.tim.cnt.toNat)
      (s := meetHere { s with tim := { s.tim with held := none } })
    have hset : (timeSet s.tim.setWrap s.tim.setNs { s with tim := { s.tim with held := none } }).tim = _ := hstep
    exact ⟨(congrArg Tim.cnt hset :), (congrArg Tim.steps hset :), (congrArg Tim.held hset :)⟩
  · exact ⟨rfl, rfl⟩

theorem timCmd_adj {pin : Bool} {s : State} : AdjDone s.tim (timCmd (timWord false true pin) s).tim s.clk.ticks := by
  rw [timCmd_given (.inr rfl)]
  unfold AdjDone
  split
  · intro hh
    rw [applyHeld_none hh, applyHeld_adj (s := holding (timGiven false s) s) rfl]
    obtain ⟨e, r, x, hx, hrest⟩ := timeOnly_timeAdj (v := s.tim.adj) (s := { s with tim := { s.tim with held := none } })
    refine ⟨timeSample_sampled (s := { s with tim := { s.tim with held := none } }), ?_⟩
    exact (congrArg (fun u : State => u.tim.held) hx :).trans (congrArg Tim.held hrest :)
  · exact ⟨rfl, rfl⟩

theorem timCmd_idle {pin : Bool} {s : State} : timCmd (timWord false false pin) s = s := by
  rw [timCmd_eq]
  rfl

/-- The step of a TIM_CMD pair: what its command does, with the pin, and no source touched. -/
theorem timPair_step {a : Acc} {set adj pin : Bool} {c : Instr} {s : State} {P : Tim → Prop}
    (hexec : exec c s = .next (act (pairRow a 0xC054 (timWord set adj pin)) s)) (h : completes a 0xC054 (timWord set adj pin) s = true)
    (hP : ∀ r y, P (timCmd (timWord set adj pin) { s with ring := r, sys := y }).tim) :
    Answers c s (fun t => ∃ x, P x ∧ t.tim = { x with cmdPin := pin } ∧ t.grn = s.grn) := by
  obtain ⟨t, ⟨r, y, rfl, -⟩, he⟩ := pairRow_reaches h (by decide)
  refine answers_of_act hexec (running_of_completes h) ?_
  have hdone : guardComplete (who a s) 0xC054 (timWord set adj pin) { s with ring := r, sys := y } =
      timCmdPair (timWord set adj pin) { s with ring := r, sys := y } := rfl
  obtain ⟨k, e, r', x, hx, -⟩ := timeCmd_timCmd (set := set) (adj := adj) (pin := pin) (s := { s with ring := r, sys := y })
  have hhlt : (timCmdPair (timWord set adj pin) { s with ring := r, sys := y }).hlt = s.hlt :=
    (congrArg State.hlt hx :)
  have hgrn : (timCmdPair (timWord set adj pin) { s with ring := r, sys := y }).grn = s.grn :=
    (congrArg State.grn hx :)
  rw [he, hdone, finishUp_grn, answer_grn, hgrn, finishUp_tim (by rw [answer_hlt, hhlt]; exact settled_of_completes h), answer_tim]
  refine ⟨_, hP r y, ?_, rfl⟩
  unfold timCmdPair
  rw [(timWord_fields set adj pin).2.2]

/-! ### SYNC frames and edges -/

theorem syncRef_congr {p : PortId} {f : Frame} {s t : State} (h : (portAt t p).delay = (portAt s p).delay) :
    syncRef t p f = syncRef s p f := by
  unfold syncRef delayCorr
  rw [h]

/-- A SYNC frame of the manager gives its sample, with the link delay of the port it came in on. -/
theorem syncRx_takes {p : PortId} {f : Frame} {s : State} (hp : (portAt s p).st ≠ .down) (hf : isMgr s f 0x05 true = true)
    (hme : fromMe s f = false) (hm : s.ring.mode ≠ .active) (hsrc : f.src = s.ring.manager) (hne : f.src ≠ 0xFFF) :
    ∃ r k, syncRef { s with clk := { s.clk with free := k }, ring := r } p f = syncRef s p f ∧
      syncRx p f s = syncTake p f { s with clk := { s.clk with free := k }, ring := r } := by
  obtain ⟨r, hr, hcore, -⟩ := passes_hierIn (p := p) (f := f) (n := (Config.freeWord s.clk.free).toNat % 2 ^ 40) (s := s)
  have hmode : r.mode = s.ring.mode := (congrArg Ring.mode hcore :)
  have hman : r.manager = s.ring.manager := (congrArg Ring.manager hcore :)
  have hdelay : (portOf r p).delay = (portOf s.ring p).delay := by
    cases p
    · exact (congrArg (fun r : Ring => r.pa.delay) hcore :)
    · exact (congrArg (fun r : Ring => r.pb.delay) hcore :)
  refine ⟨r, s.clk.free + 1, ?_, ?_⟩
  · exact syncRef_congr hdelay
  · unfold syncRx
    rw [if_neg (by simp [receives, hp, hf]), hr]
    dsimp only
    rw [if_neg (by rw [hme]; decide)]
    exact fromManager_of_manager (by rw [← hmode] at hm; exact hm) (hsrc.trans hman.symm) hne

/-- The sample of a selected source as the whole statement reads it. -/
def Tracked (x y : Tim) (ticks : Nat) (e : Int) : Prop :=
  Sampled x y ticks e ∧ (¬ x.metT = some ticks → Tracks x y ticks e)

theorem timeSample_tracked {src : Nat} {e : Int} {s : State} : Tracked s.tim (timeSample src true e s).tim s.clk.ticks e :=
  ⟨timeSample_sampled, timeSample_tracks⟩

theorem syncInEdge_of_early {s : State} {t0 : Nat} (hok : s.tim.clkOk = true) (ht : s.tim.inLast = some t0)
    (h : s.clk.ticks - t0 < 12500) : syncInEdge s = syncInIgnored s := by
  unfold syncInEdge
  rw [if_neg (by rw [hok]; decide), if_pos (by simp [ht, h])]

theorem syncInIgnored_tim {s : State} :
    (syncInIgnored s).hlt = s.hlt ∧ (syncInIgnored s).tim.inIgnored = s.tim.inIgnored + 1 ∧
      (syncInIgnored s).tim.inAccepted = s.tim.inAccepted ∧ (syncInIgnored s).tim.cnt = s.tim.cnt := by
  unfold syncInIgnored
  dsimp only
  split
  · exact ⟨rfl, rfl, rfl, rfl⟩
  · exact ⟨rfl, rfl, rfl, rfl⟩

/-- An accepted edge, before its sample. -/
def edgeTaken (s : State) : State :=
  { s with tim := { s.tim with inAccepted := s.tim.inAccepted + 1, inLast := some s.clk.ticks, inStamp := s.tim.cnt } }

theorem syncInEdge_of_accepted {s : State} (hok : s.tim.clkOk = true) (h : ∀ t0, s.tim.inLast = some t0 → 12500 ≤ s.clk.ticks - t0) :
    syncInEdge s = if s.tim.src ≠ 2 then edgeTaken s
      else timeSample 2 true ((s.tim.cnt - (inReference s ++ (0 : BitVec 32))).toInt)
        { edgeTaken s with tim := { (edgeTaken s).tim with inRef := some (inReference s) } } := by
  unfold syncInEdge
  rw [if_neg (by rw [hok]; decide), if_neg]
  · rfl
  · cases hl : s.tim.inLast with
    | none => simp
    | some t0 => simpa using h t0 hl

/-- What an accepted edge shows. -/
theorem syncInEdge_accepts {s : State} (hok : s.tim.clkOk = true) (h : ∀ t0, s.tim.inLast = some t0 → 12500 ≤ s.clk.ticks - t0) :
    let u := syncInEdge s
    u.hlt = s.hlt ∧ u.tim.inAccepted = s.tim.inAccepted + 1 ∧ u.tim.inStamp = s.tim.cnt ∧ u.tim.inLast = some s.clk.ticks ∧
      (s.tim.src = 2 → Tracked s.tim u.tim s.clk.ticks (s.tim.cnt - (inReference s ++ (0 : BitVec 32))).toInt) ∧
      (s.tim.src ≠ 2 → u.tim.cnt = s.tim.cnt ∧ u.tim.disc = s.tim.disc) := by
  dsimp only
  rw [syncInEdge_of_accepted hok h]
  split
  next hsrc => exact ⟨rfl, rfl, rfl, rfl, fun he => absurd he hsrc, fun _ => ⟨rfl, rfl⟩⟩
  next hsrc =>
    have htr := timeSample_tracked (src := 2) (e := (s.tim.cnt - (inReference s ++ (0 : BitVec 32))).toInt)
      (s := { edgeTaken s with tim := { (edgeTaken s).tim with inRef := some (inReference s) } })
    obtain ⟨e, r, x, hx, hrest⟩ := timeOnly_timeSample (src := 2) (own := true)
      (e := (s.tim.cnt - (inReference s ++ (0 : BitVec 32))).toInt)
      (s := { edgeTaken s with tim := { (edgeTaken s).tim with inRef := some (inReference s) } })
    generalize timeSample 2 true _ _ = u at *
    subst hx
    exact ⟨rfl, (congrArg Tim.inAccepted hrest :), (congrArg Tim.inStamp hrest :), (congrArg Tim.inLast hrest :), fun _ => htr,
      fun hn => absurd hn hsrc⟩

/-! ### SYNC frames sent, and holdover -/

theorem syncTx_eq {s : State} : syncTx s =
    if s.ring.mode = .active ∧ s.tim.syncTxEn = true ∧ mayOriginate s = true ∧
        tickDue s s.ring.syncTick (s.tim.syncTxMs.toNat * 125000) = true then
      sendPlain (hierFrame s 0x07 0x05 0xFFF 0 (wordsToBytes (syncWords s))) { s with ring := { s.ring with syncTick := some s.clk.ticks } }
    else s := by
  unfold syncTx
  by_cases h : s.ring.mode = .active ∧ s.tim.syncTxEn = true ∧ mayOriginate s = true ∧
      tickDue s s.ring.syncTick (s.tim.syncTxMs.toNat * 125000) = true
  · obtain ⟨hm, hen, ho, hd⟩ := id h
    rw [if_pos h, if_neg (by simp [hm, hen, ho, hd])]
  · rw [if_neg h, if_pos]
    simpa only [ne_eq, Bool.not_eq_true', ← Bool.not_eq_true, ← not_and_or] using h

theorem timeHoldover_eq {s : State} : timeHoldover s =
    if s.tim.disc = .track ∧ s.tim.holdMs.toNat * 32768 / 2000 ≤ s.clk.slow - s.tim.trackSlow then
      post 0x61 s.tim.src.toNat 0 { s with tim := { s.tim with disc := .holdover, phase := 0, skipF := true, inRef := none } }
    else s := rfl

/-! ### O53 -/

theorem timeSet_timCmd {a : Acc} {adj pin : Bool} {s : State} (h : completes a 0xC054 (timWord true adj pin) s = true) :
    Answers (.timeSet a adj pin) s (fun t => SetDone s.tim t.tim ∧ t.tim.cmdPin = pin ∧ t.grn = s.grn) := by
  refine (timPair_step (P := SetDone s.tim) (exec_timeSet ..) h fun r y => timCmd_set (s := { s with ring := r, sys := y })).mono ?_
  rintro t ⟨x, hx, ht, hgrn⟩
  rw [ht]
  exact ⟨hx, rfl, hgrn⟩

theorem timeAdj_timCmd {a : Acc} {pin : Bool} {s : State} (h : completes a 0xC054 (timWord false true pin) s = true) :
    Answers (.timeAdj a pin) s (fun t => AdjDone s.tim t.tim s.clk.ticks ∧ t.tim.cmdPin = pin ∧ t.grn = s.grn) := by
  refine (timPair_step (P := fun x => AdjDone s.tim x s.clk.ticks) (exec_timeAdj ..) h
    fun r y => timCmd_adj (s := { s with ring := r, sys := y })).mono ?_
  rintro t ⟨x, hx, ht, hgrn⟩
  rw [ht]
  exact ⟨hx, rfl, hgrn⟩

theorem timCmdPin_timCmd {a : Acc} {set adj : Bool} {s : State} (h : completes a 0xC054 (timWord set adj true) s = true) :
    Answers (.timCmdPin a set adj) s (fun t =>
      t.tim.cmdPin = true ∧ isPinned t 0xC054 = true ∧ (set = true → SetDone s.tim t.tim) ∧
      (set = false → adj = true → AdjDone s.tim t.tim s.clk.ticks) ∧
      (set = false → adj = false → t.tim = { s.tim with cmdPin := true })) := by
  refine (timPair_step (P := fun x => (set = true → SetDone s.tim x) ∧ (set = false → adj = true → AdjDone s.tim x s.clk.ticks) ∧
    (set = false → adj = false → x = s.tim)) (exec_timCmdPin ..) h fun r y => ⟨?_, ?_, ?_⟩).mono ?_
  · rintro rfl
    exact timCmd_set (s := { s with ring := r, sys := y })
  · rintro rfl rfl
    exact timCmd_adj (s := { s with ring := r, sys := y })
  · rintro rfl rfl
    rw [timCmd_idle]
  · rintro t ⟨x, ⟨hset, hadj, hidle⟩, ht, -⟩
    have hpin : t.tim.cmdPin = true := by rw [ht]
    rw [ht]
    exact ⟨rfl, hpin, hset, hadj, fun h1 h2 => by rw [hidle h1 h2]⟩

section
variable {s : State} (hup : upAnd s = true)
include hup

theorem syncRx_tracks {p : PortId} {f : Frame} (hp : (portAt s p).st ≠ .down) (hf : isMgr s f 0x05 true = true)
    (hme : fromMe s f = false) (hm : s.ring.mode ≠ .active) (hsrc : f.src = s.ring.manager) (hne : f.src ≠ 0xFFF)
    (h1 : s.tim.src = 1) (hok : s.tim.clkOk = true) :
    Answers (.syncRx p f) s (fun t => Tracked s.tim t.tim s.clk.ticks (s.tim.cnt - syncRef s p f).toInt) := by
  refine answers_of_act (exec_syncRx ..) (running_of_upAnd hup) ?_
  obtain ⟨r, k, href, he⟩ := syncRx_takes hp hf hme hm hsrc hne
  have htake := timeSample_tracked (src := 1) (e := (s.tim.cnt - syncRef s p f).toInt)
    (s := { s with clk := { s.clk with free := k }, ring := r })
  have hframe := timeOnly_timeSample (src := 1) (own := true) (e := (s.tim.cnt - syncRef s p f).toInt)
    (s := { s with clk := { s.clk with free := k }, ring := r })
  rw [he, syncTake, if_pos ⟨h1, hok⟩, href]
  obtain ⟨e, r', x, hx, -⟩ := hframe
  rw [finishUp_tim ((congrArg (fun u : State => u.hlt.alarm) hx :).trans (settled_of_upAnd hup))]
  exact htake

theorem syncRx_keeps {p : PortId} {f : Frame} (hp : (portAt s p).st ≠ .down) (hf : isMgr s f 0x05 true = true)
    (hme : fromMe s f = false) (hm : s.ring.mode ≠ .active) (hsrc : f.src = s.ring.manager) (hne : f.src ≠ 0xFFF)
    (h1 : s.tim.src ≠ 1) : Answers (.syncRx p f) s (fun t => t.tim = s.tim) := by
  refine answers_of_act (exec_syncRx ..) (running_of_upAnd hup) ?_
  obtain ⟨r, k, -, he⟩ := syncRx_takes hp hf hme hm hsrc hne
  rw [he, syncTake, if_neg (fun h => h1 h.1)]
  exact finishUp_tim (settled_of_upAnd hup)

theorem syncInEdge_ignores {t0 : Nat} (hok : s.tim.clkOk = true) (ht : s.tim.inLast = some t0) (h : s.clk.ticks - t0 < 12500) :
    Answers .syncInEdge s (fun t => t.tim.inIgnored = s.tim.inIgnored + 1 ∧ t.tim.inAccepted = s.tim.inAccepted ∧ t.tim.cnt = s.tim.cnt) := by
  refine answers_of_act (exec_syncInEdge ..) (running_of_upAnd hup) ?_
  obtain ⟨hhlt, htim⟩ := syncInIgnored_tim (s := s)
  rw [syncInEdge_of_early hok ht h, finishUp_tim (by rw [hhlt]; exact settled_of_upAnd hup)]
  exact htim

theorem syncInEdge_takes (hok : s.tim.clkOk = true) (h : ∀ t0, s.tim.inLast = some t0 → 12500 ≤ s.clk.ticks - t0) :
    Answers .syncInEdge s (fun t =>
      t.tim.inAccepted = s.tim.inAccepted + 1 ∧ t.tim.inStamp = s.tim.cnt ∧ t.tim.inLast = some s.clk.ticks ∧
      (s.tim.src = 2 → Tracked s.tim t.tim s.clk.ticks (s.tim.cnt - (inReference s ++ (0 : BitVec 32))).toInt) ∧
      (s.tim.src ≠ 2 → t.tim.cnt = s.tim.cnt ∧ t.tim.disc = s.tim.disc)) := by
  refine answers_of_act (exec_syncInEdge ..) (running_of_upAnd hup) ?_
  obtain ⟨hhlt, htim⟩ := syncInEdge_accepts hok h
  rw [finishUp_tim (by rw [hhlt]; exact settled_of_upAnd hup)]
  exact htim

theorem syncTx_sends (h : s.ring.mode = .active ∧ s.tim.syncTxEn = true ∧ mayOriginate s = true ∧
    tickDue s s.ring.syncTick (s.tim.syncTxMs.toNat * 125000) = true) :
    Effects .syncTx s (fun u => u.ring.syncTick = some s.clk.ticks ∧ u.tim = s.tim) := by
  refine effects_of_act (exec_syncTx ..) (running_of_upAnd hup) ?_
  rw [syncTx_eq, if_pos h]
  obtain ⟨r, hr, hcore, -⟩ := passes_sendPlain (t := hierFrame s 0x07 0x05 0xFFF 0 (wordsToBytes (syncWords s)))
    (s := { s with ring := { s.ring with syncTick := some s.clk.ticks } })
  rw [hr]
  exact ⟨(congrArg Ring.syncTick hcore :), rfl⟩

theorem timeHoldover_holds (h : s.tim.disc = .track ∧ s.tim.holdMs.toNat * 32768 / 2000 ≤ s.clk.slow - s.tim.trackSlow) :
    Answers .timeHoldover s (fun t => t.tim.disc = .holdover ∧ t.tim.phase = 0 ∧ t.tim.f = s.tim.f ∧ t.tim.cnt = s.tim.cnt) := by
  refine answers_of_act (exec_timeHoldover ..) (running_of_upAnd hup) ?_
  rw [timeHoldover_eq, if_pos h, finishUp_tim (by rw [post_hlt]; exact settled_of_upAnd hup), post_tim]
  exact ⟨rfl, rfl, rfl, rfl⟩

end

/-- Settles O53: each command through the step or the sample that it is, and each sample through what the discipline makes of its error. -/
theorem timeDiscipline : Obligations.TimeDiscipline := by
  unfold Obligations.TimeDiscipline
  intro s
  refine ⟨fun a adj pin h => timeSet_timCmd h, fun a pin h => timeAdj_timCmd h, fun a set adj h => timCmdPin_timCmd h, fun hup =>
    ⟨fun p f hp hf hme hm hsrc hne => ⟨fun h1 hok => syncRx_tracks hup hp hf hme hm hsrc hne h1 hok,
      fun h1 => syncRx_keeps hup hp hf hme hm hsrc hne h1⟩,
    fun hok => ⟨fun t0 ht h => syncInEdge_ignores hup hok ht h, fun h => syncInEdge_takes hup hok h⟩,
    ⟨fun h => syncTx_sends hup h, fun h => ?_⟩, fun h => timeHoldover_holds hup h, fun h => ?_⟩⟩
  · exact next_of_act_same (running_of_upAnd hup) (exec_syncTx ..) (by rw [syncTx_eq, if_neg h])
  · exact next_of_act_same (running_of_upAnd hup) (exec_timeHoldover ..) (by rw [timeHoldover_eq, if_neg h])

end Sys2Proof.Machine

/-! PROOFS. One CK_TIME period on an empty queue (R273 to R275, R279). -/

namespace Sys2Proof.Machine

/-! ### One CK_TIME period -/

theorem clockOn_eq (s : State) : ∃ k, clockOn s = { s with clk := k } ∧ k.ticks = s.clk.ticks + 1 ∧ k.ckTime = s.clk.ckTime ∧
    k.slow = s.clk.slow + (if Config.slowEdge s.clk.ticks then 1 else 0) := by
  unfold clockOn
  dsimp only
  split
  next h => exact ⟨_, rfl, rfl, rfl, by simp [h, b2n]⟩
  next h => exact ⟨_, rfl, rfl, rfl, by simp [h, b2n]⟩

/-- Only event records, their frames and the TIM block are new. -/
def TimAlone (s t : State) : Prop := ∃ e r x, t = { s with evt := e, ring := r, tim := x }

theorem timAlone_tim {x : Tim} {s : State} : TimAlone s { s with tim := x } := ⟨s.evt, s.ring, x, rfl⟩

theorem TimAlone.trans {s t u : State} (h : TimAlone s t) (g : TimAlone t u) : TimAlone s u := by
  obtain ⟨e, r, x, rfl⟩ := h
  obtain ⟨e', r', x', rfl⟩ := g
  exact ⟨e', r', x', rfl⟩

theorem timAlone_applyHeld {s : State} : TimAlone s (applyHeld s) := by
  obtain ⟨h, e, r, x, hx, -⟩ := timeCmd_applyHeld (s := s)
  exact ⟨e, r, x, hx⟩

theorem countUp_fields {s : State} :
    ∃ a b c, countUp s = { s with tim := { s.tim with prev := a, cnt := b, phase := c } } := ⟨_, _, _, rfl⟩

theorem timAlone_countUp {s : State} : TimAlone s (countUp s) := by
  obtain ⟨a, b, c, h⟩ := countUp_fields (s := s)
  rw [h]
  exact timAlone_tim

theorem timAlone_timeTick {s : State} : TimAlone s (timeTick s) := by
  unfold timeTick
  split
  · exact ⟨s.evt, s.ring, s.tim, rfl⟩
  · dsimp only
    split
    · exact timAlone_tim
    · exact (timAlone_tim.trans timAlone_countUp).trans timAlone_applyHeld

theorem timeTick_of_lost {s : State} (h : s.clk.ckTime = false) : timeTick s = s := by
  unfold timeTick
  rw [h]
  rfl

theorem timeTick_of_skip {s : State} (h : s.clk.ckTime = true) (hk : s.tim.skipTicks ≠ 0) :
    (timeTick s).tim.cnt = s.tim.cnt ∧ (timeTick s).tim.skipTicks = s.tim.skipTicks - 1 := by
  unfold timeTick
  rw [if_neg (by simp [h])]
  dsimp only
  rw [if_pos hk]
  exact ⟨rfl, rfl⟩

theorem countUp_cnt {s : State} : (countUp s).tim.cnt = s.tim.cnt +
    BitVec.ofInt 80 (Int.fdiv ((s.tim.inc.toNat * 256 : Int) * (2 ^ 32 + (rateF s + phaseRate s))) (2 ^ 32)) := by
  unfold countUp incNom
  dsimp only
  rw [Int.add_assoc]

theorem countUp_held {s : State} : (countUp s).tim.held = s.tim.held := by
  obtain ⟨a, b, c, h⟩ := countUp_fields (s := s)
  rw [h]

theorem rates_clkOk {s : State} :
    rateF { s with tim := { s.tim with clkOk := true } } = rateF s ∧ phaseRate { s with tim := { s.tim with clkOk := true } } = phaseRate s :=
  ⟨rfl, rfl⟩

theorem timeTick_eq {s : State} (h : s.clk.ckTime = true) (hk : s.tim.skipTicks = 0) :
    timeTick s = applyHeld (countUp { s with tim := { s.tim with clkOk := true } }) := by
  unfold timeTick
  rw [if_neg (by rw [h]; decide)]
  dsimp only
  rw [if_neg (not_not.mpr hk)]

/-- The increment of one period (R273, R279). -/
theorem timeTick_of_runs {s : State} (h : s.clk.ckTime = true) (hk : s.tim.skipTicks = 0) (hh : s.tim.held = none) :
    (timeTick s).tim.cnt = s.tim.cnt +
      BitVec.ofInt 80 (Int.fdiv ((s.tim.inc.toNat * 256 : Int) * (2 ^ 32 + (rateF s + phaseRate s))) (2 ^ 32)) := by
  rw [timeTick_eq h hk, applyHeld_none (by rw [countUp_held]; exact hh), countUp_cnt, rates_clkOk.1, rates_clkOk.2]

theorem natAbs_clampI_le {m : Nat} {v : Int} : (clampI m v).natAbs ≤ m := by
  rw [clampI_eq]
  omega

/-- The correction of the rate stays within MAX_PPM: the phase takes what the frequency term leaves (R279). -/
theorem rate_le_maxRate {s : State} : (rateF s + phaseRate s).natAbs ≤ maxRate s := by
  have hf : (rateF s).natAbs ≤ maxRate s := natAbs_clampI_le
  have hp : (phaseRate s).natAbs ≤ maxRate s - (rateF s).natAbs := natAbs_clampI_le
  generalize rateF s = a at *
  generalize phaseRate s = b at *
  omega

theorem tick_of_upAnd {s : State} (hup : upAnd s = true) :
    ∃ k, calm (tick s) = calm (timeTick { s with clk := k }) ∧ k.ticks = s.clk.ticks + 1 ∧ k.ckTime = s.clk.ckTime ∧
      k.slow = s.clk.slow + (if Config.slowEdge s.clk.ticks then 1 else 0) := by
  obtain ⟨k, hk, hticks, htime, hslow⟩ := clockOn_eq s
  refine ⟨k, ?_, hticks, htime, hslow⟩
  obtain ⟨e, r, x, hx⟩ := timAlone_timeTick (s := { s with clk := k })
  unfold tick act
  rw [if_pos (running_of_upAnd hup)]
  dsimp only
  rw [hk]
  exact calm_finishUp ((congrArg (fun u : State => u.hlt.alarm) hx :).trans (settled_of_upAnd hup))

/-- Settles O2: the end of a step leaves the blocks that it names alone, and the tick's own increment is bounded by its two clamps. -/
theorem stepIdleIsOneTick : Obligations.StepIdleIsOneTick := by
  unfold Obligations.StepIdleIsOneTick
  intro s hq
  have hstep : step s = .next (tick s) := by rw [step, hq]
  refine ⟨fun hr => by rw [hstep, tick, act, if_neg (by simp [hr])], fun hup => ⟨tick s, hstep, ?_⟩⟩
  obtain ⟨k, hcalm, hticks, htime, hslow⟩ := tick_of_upAnd hup
  obtain ⟨e, r, x, hx⟩ := timAlone_timeTick (s := { s with clk := k })
  have htim : (tick s).tim = (timeTick { s with clk := k }).tim := (congrArg Calm.tim hcalm :)
  rw [htim]
  rw [hx] at hcalm
  refine ⟨(congrArg Calm.pending hcalm :).trans hq, (congrArg Calm.ticks hcalm :).trans hticks, (congrArg Calm.slow hcalm :).trans hslow,
    (congrArg Calm.sys hcalm :), (congrArg Calm.sil hcalm :), (congrArg Calm.cal hcalm :), (congrArg Calm.grn hcalm :),
    (congrArg Calm.hlt hcalm :), (congrArg Calm.pln hcalm :), fun hc => ?_, fun hc hk => ?_, fun hc hk hh => ⟨?_, rate_le_maxRate⟩⟩
  · rw [timeTick_of_lost (htime.trans hc)]
  · exact timeTick_of_skip (s := { s with clk := k }) (htime.trans hc) hk
  · exact timeTick_of_runs (s := { s with clk := k }) (htime.trans hc) hk hh

end Sys2Proof.Machine

/-! PROOFS. The mask ROM, and the end of the boot phase (R332 to R336, R341). -/

namespace Sys2Proof.Machine

/-! ### Images -/

theorem imageBus_eq (l : List Byte) (s : State) : ∃ w, imageBus l s = { s with lsp := w } := ⟨_, rfl⟩

theorem tryImage_eq (base : Nat) (l : List Byte) (agree : Bool) (s : State) :
    ∃ w d, tryImage base l agree s = (imageCause base l agree, { s with lsp := w, sil := { s.sil with dev := d } }) := by
  obtain ⟨w, hw⟩ := imageBus_eq l s
  unfold tryImage
  rw [hw]
  exact ⟨w, _, rfl⟩

/-- The boot code of an image is entered. -/
def Enters (l : List Byte) (t : State) : Prop :=
  t.sil.stage = 4 ∧ t.core.entry = some (BitVec.ofNat 32 (imgLe l 0x18 4)) ∧
    t.core.ram = memWrite [] 0 (imgBytes l (imgLe l 0x10 4) (imgLe l 0x14 4))

theorem bootEnter_eq (l : List Byte) (agree : Bool) (s : State) : ∃ uc b e r, bootEnter l agree s =
    { s with
      core := { s.core with
        ram := memWrite [] 0 (imgBytes l (imgLe l 0x10 4) (imgLe l 0x14 4)), entry := some (BitVec.ofNat 32 (imgLe l 0x18 4)) }
      sil := { s.sil with uc := uc, stage := 4 }, bne := b, evt := e, ring := r } := by
  unfold bootEnter
  generalize ucodeCode l agree = uc
  dsimp only
  split
  · exact ⟨_, _, _, _, rfl⟩
  · unfold onlyIf
    split
    · exact ⟨_, _, _, _, rfl⟩
    · exact ⟨_, _, _, _, rfl⟩

theorem enters_bootEnter {l : List Byte} {agree : Bool} {s : State} :
    Enters l (bootEnter l agree s) ∧ (bootEnter l agree s).hlt = s.hlt ∧ (bootEnter l agree s).sil.secondary = s.sil.secondary := by
  obtain ⟨uc, b, e, r, h⟩ := bootEnter_eq l agree s
  rw [h]
  exact ⟨⟨rfl, rfl, rfl⟩, rfl, rfl⟩

/-- The mask ROM has stopped. -/
def Stops (stage cause : Nat) (s t : State) : Prop :=
  t.sil.stage = BitVec.ofNat 4 stage ∧ t.sil.fail = BitVec.ofNat 4 cause ∧ t.core = s.core

/-! ### The sequence -/

/-- What the mask ROM makes of the two images (R332 to R336). -/
def Boots (x : BootFlash) (s t : State) : Prop :=
  if s.pwr.otpUe then Stops 7 5 s t
  else if 2 ≤ s.pwr.bootSel.toNat then Stops 6 0 s t
  else if imageCause 0 x.primary x.agreeBoot = 0 then Enters x.primary t
  else if s.pwr.bootSel = 0 then Stops 7 (imageCause 0 x.primary x.agreeBoot) s t
  else t.sil.secondary = true ∧ (if imageCause 0x800000 x.secondary x.agreeBoot = 0 then Enters x.secondary t
    else Stops 7 (imageCause 0x800000 x.secondary x.agreeBoot) s t)

section
variable {x : BootFlash} {s : State} (htamper : s.sys.tamper = false) (hstage : s.sil.stage = 0) (hentry : s.core.entry = none)
  (hdone : s.sys.bootDone = false)
include htamper hstage hentry hdone

theorem romBoot_starts : ∃ w d w' d', romBoot x s =
    if s.pwr.otpUe then bootStop 7 5 s
    else if 2 ≤ s.pwr.bootSel.toNat then bootStop 6 0 s
    else if imageCause 0 x.primary x.agreeBoot = 0 then
      bootEnter x.primary x.agreeUcode { s with lsp := w, sil := { s.sil with dev := d } }
    else if s.pwr.bootSel = 0 then
      bootStop 7 (imageCause 0 x.primary x.agreeBoot) { s with lsp := w, sil := { s.sil with dev := d } }
    else if imageCause 0x800000 x.secondary x.agreeBoot = 0 then
      bootEnter x.secondary x.agreeUcode { s with lsp := w', sil := { s.sil with dev := d', secondary := true } }
    else bootStop 7 (imageCause 0x800000 x.secondary x.agreeBoot)
      { s with lsp := w', sil := { s.sil with dev := d', secondary := true } } := by
  obtain ⟨w, d, hfirst⟩ := tryImage_eq 0 x.primary x.agreeBoot s
  obtain ⟨w', d', hsecond⟩ := tryImage_eq 0x800000 x.secondary x.agreeBoot
    { s with lsp := w, sil := { s.sil with dev := d, secondary := true } }
  refine ⟨w, d, w', d', ?_⟩
  unfold romBoot
  rw [if_neg (by simp [htamper, hstage, hentry, hdone]), hfirst]
  refine if_congr Iff.rfl rfl (if_congr Iff.rfl rfl (if_congr Iff.rfl rfl (if_congr Iff.rfl rfl ?_)))
  exact congrArg (fun b : Nat × State => if b.1 = 0 then bootEnter x.secondary x.agreeUcode b.2 else bootStop 7 b.1 b.2) hsecond

theorem romBoot_boots : Boots x s (romBoot x s) ∧ (romBoot x s).hlt = s.hlt := by
  obtain ⟨w, d, w', d', h⟩ := romBoot_starts (x := x) htamper hstage hentry hdone
  rw [h, Boots]
  generalize imageCause 0 x.primary x.agreeBoot = c1
  generalize imageCause 0x800000 x.secondary x.agreeBoot = c2
  by_cases hue : s.pwr.otpUe = true
  · rw [if_pos hue, if_pos hue]
    exact ⟨⟨rfl, rfl, rfl⟩, rfl⟩
  rw [if_neg hue, if_neg hue]
  by_cases hsel : 2 ≤ s.pwr.bootSel.toNat
  · rw [if_pos hsel, if_pos hsel]
    exact ⟨⟨rfl, rfl, rfl⟩, rfl⟩
  rw [if_neg hsel, if_neg hsel]
  by_cases h1 : c1 = 0
  · rw [if_pos h1, if_pos h1]
    exact ⟨enters_bootEnter.1, enters_bootEnter.2.1⟩
  rw [if_neg h1, if_neg h1]
  by_cases hone : s.pwr.bootSel = 0
  · rw [if_pos hone, if_pos hone]
    exact ⟨⟨rfl, rfl, rfl⟩, rfl⟩
  rw [if_neg hone, if_neg hone]
  by_cases h2 : c2 = 0
  · rw [if_pos h2, if_pos h2]
    exact ⟨⟨enters_bootEnter.2.2, enters_bootEnter.1⟩, enters_bootEnter.2.1⟩
  rw [if_neg h2, if_neg h2]
  exact ⟨⟨rfl, rfl, rfl, rfl⟩, rfl⟩

end

theorem boots_congr {x : BootFlash} {s t u : State} (hsil : u.sil = t.sil) (hcore : u.core = t.core) (h : Boots x s t) : Boots x s u := by
  unfold Boots Enters Stops at *
  rw [hsil, hcore]
  exact h

/-! ### The end of the boot phase -/

theorem calm_sendIdents {s : State} : calm (sendIdents s) = calm s := by
  unfold sendIdents sendIdent
  simp

theorem calm_enterService {p : PortId} {s : State} : calm (enterService p s) = calm s := by
  unfold enterService onlyIf
  dsimp only
  split
  · rw [calm_post, calm_post]
    rfl
  · rw [calm_post]
    rfl

theorem calm_bootClose {s : State} : calm (bootClose s) =
    calm { s with sys := { s.sys with bootDone := true }, pwr := { s.pwr with ready := true }, sil := { s.sil with stage := 5 } } := by
  have henter : ∀ p u, calm (if (portAt u p).st = .ready then enterService p u else u) = calm u := fun p u => by
    split
    · exact calm_enterService
    · rfl
  unfold bootClose
  dsimp only
  rw [calm_post, henter, henter, calm_sendIdents]

theorem guardComplete_bootDone {s : State} : guardComplete coreId 0x0008 1 s = bootClose s := rfl

/-- Settles O14: what each image comes to fixes the ROM's way, and the completed pair closes the phase. -/
theorem bootPhase : Obligations.BootPhase := by
  unfold Obligations.BootPhase
  refine ⟨fun s x hup htamper hstage hentry hdone => ?_, fun s a h hwho => ?_⟩
  · refine answers_of_act (exec_romBoot ..) (running_of_upAnd hup) ?_
    obtain ⟨hboots, hhlt⟩ := romBoot_boots (x := x) htamper hstage hentry hdone
    have hq : (romBoot x s).hlt.alarm = false := by rw [hhlt]; exact settled_of_upAnd hup
    exact boots_congr (finishUp_sil hq) (finishUp_core hq) hboots
  · refine answers_of_act (exec_bootDone ..) (running_of_completes h) ?_
    obtain ⟨t, ⟨r, y, rfl, hy⟩, he⟩ := pairRow_reaches h (by decide)
    rw [he, hwho, guardComplete_bootDone]
    have hcalm := calm_bootClose (s := { s with ring := r, sys := y })
    generalize bootClose { s with ring := r, sys := y } = t at *
    have hq : (answer (norm s a) true 0 [] false t).hlt.alarm = false := by
      rw [answer_hlt]
      exact (congrArg (fun x : Calm => x.hlt.alarm) hcalm :).trans (settled_of_completes h)
    rw [finishUp_sys, finishUp_pwr, finishUp_sil hq, finishUp_cal, finishUp_grn, answer_sys, answer_pwr, answer_sil, answer_cal, answer_grn]
    have hdone : t.sys.bootDone = true := (congrArg (fun x : Calm => x.sys.bootDone) hcalm :)
    refine ⟨hdone, (congrArg (fun x : Calm => x.pwr.ready) hcalm :), (congrArg (fun x : Calm => x.sil.stage) hcalm :), ?_,
      (congrArg (fun x : Calm => x.sil.perms) hcalm :), (congrArg Calm.cal hcalm :), (congrArg Calm.grn hcalm :)⟩
    show (finishUp _).sys.bootDone = true
    rw [finishUp_sys, answer_sys]
    exact hdone

end Sys2Proof.Machine

/-! PROOFS. The step that raises the fatal alarm: a state in which one of its effects is missing (R157, R211). -/

namespace Sys2Proof.Machine

/-- A job of requester 5 with the number 0: DRAW of one word from queue 0. -/
def twin (p : JPhase) (stop : Option (BitVec 8)) : Job :=
  { newJob State.reset 5 0x0100001000000001 [0] .portA with id := 0, accepted := true, phase := p, stop := stop }

/-- After reset with two jobs that share the number 0, the first of them with its record on its way, and the engine about to be lost. -/
def twins : State :=
  { State.reset with
    job := { State.reset.job with jobs := [twin .recordSent (some 0), twin .running none] }, pending := [.jobEngineLost] }

/-- The state after the step. -/
def afterTwins : State := act engineLost { twins with pending := [] }

theorem step_twins : step twins = .next afterTwins := rfl

/-- The second job is found by no number, so the alarm does not end it. -/
theorem afterTwins_unstopped :
    afterTwins.hlt.fatal = true ∧ afterTwins.job.jobs.any (fun j => j.accepted && decide (j.stop = none)) = true := by decide +kernel

/-- Refutes O8: of two jobs that share a number the alarm ends only the one that its number names. No number is given twice while the node
runs, but the statement speaks of every state. -/
theorem not_stepSettlesAlarm : ¬ Obligations.StepSettlesAlarm := by
  intro h
  obtain ⟨hfatal, hany⟩ := afterTwins_unstopped
  obtain ⟨-, -, hraised⟩ := h twins afterTwins step_twins
  obtain ⟨-, hstopped, -⟩ := hraised rfl rfl hfatal
  obtain ⟨j, hj, hopen⟩ := List.any_eq_true.mp hany
  simp only [Bool.and_eq_true, decide_eq_true_eq] at hopen
  exact hstopped j hj hopen.1 hopen.2

end Sys2Proof.Machine

/-! PROOFS. Known-answer runs of benches and of the hash unit, and errors of the microcode store (R215, R217, R238). -/

namespace Sys2Proof.Machine

/-! ### Benches while jobs end -/

/-- The bench block whatever jobs run on its benches. -/
def bneFace (s : State) : Bne := { s.bne with benches := s.bne.benches.map benchCard }

/-- A bench whatever job runs on it, by its index. -/
def cardOf (s : State) (n : Nat) : Option Bench := (benchOf s n).map benchCard

theorem bneFace_of_shell {s t : State} (h : shell t = shell s) : bneFace t = bneFace s := (congrArg State.bne h :)

theorem cardOf_of_bneFace {s t : State} (h : bneFace t = bneFace s) (n : Nat) : cardOf t n = cardOf s n := by
  have hl := congrArg (fun x : Bne => x.benches[n]?) h
  simp only [bneFace, List.getElem?_map] at hl
  exact hl

theorem bneFace_of_bne {s t : State} (h : t.bne = s.bne) : bneFace t = bneFace s := by rw [bneFace, h, bneFace]

/-- A bench whose card is not at its clear is known by it. -/
theorem benchOf_of_card {s : State} {n : Nat} {c : Bench} (h : cardOf s n = some c) (hst : c.st ≠ .zero) :
    ∃ x, benchOf s n = some x ∧ x.st = c.st ∧ x.mem = c.mem ∧ x.owner = c.owner ∧ x.cause = c.cause ∧ x.kats = c.kats ∧
      x.katPass = c.katPass ∧ x.relPend = c.relPend := by
  obtain ⟨x, hx, rfl⟩ := Option.map_eq_some_iff.mp h
  refine ⟨x, hx, ?_, rfl, rfl, rfl, rfl, rfl, rfl⟩
  show x.st = if x.st = .busy then .zero else x.st
  rw [if_neg]
  rintro hb
  exact hst (if_pos hb)

theorem benchOf_updBench_self {n : Nat} {f : Bench → Bench} {s : State} : benchOf (updBench n f s) n = (benchOf s n).map f :=
  getElem?_upd_self

theorem benchOf_updBench_ne {n m : Nat} {f : Bench → Bench} {s : State} (h : n ≠ m) : benchOf (updBench n f s) m = benchOf s m :=
  getElem?_upd_ne h

theorem bneFace_updJob {id : Nat} {f : Job → Job} {s : State} : bneFace (updJob id f s) = bneFace s := rfl

theorem bneFace_endIfDone {id : Nat} {s : State} : bneFace (endIfDone id s) = bneFace s := by
  unfold endIfDone
  split
  · split
    · exact (bneFace_of_shell shell_stopJob).trans bneFace_updJob
    · rfl
  · rfl

theorem bneFace_testUnitDone {id unit : Nat} {ok : Bool} {s : State} : bneFace (testUnitDone id unit ok s) = bneFace s :=
  bneFace_endIfDone.trans bneFace_updJob

theorem bneKatSettle_eq (s : State) : ∃ b d, bneKatSettle s = { s with bne := { s.bne with katBusy := b, katDone := d } } := by
  unfold bneKatSettle
  split
  · exact ⟨s.bne.katBusy, s.bne.katDone, rfl⟩
  · exact ⟨_, _, rfl⟩

theorem cardOf_bneKatSettle {n : Nat} {s : State} : cardOf (bneKatSettle s) n = cardOf s n := by
  obtain ⟨b, d, h⟩ := bneKatSettle_eq s
  rw [h]
  rfl

/-! ### Commanded runs -/

/-- The bits of a BNE_CMD write that name units. -/
theorem katCmd_fields (v : W32) : fld (v ||| 0x100) 0 4 = v.toNat % 16 ∧ bitAt (v ||| 0x100) 4 = bitAt v 4 := by
  have hlow : ∀ w : W32, fld w 0 4 = (w.setWidth 4).toNat := fun w => by simp [fld]
  constructor
  · have : (v ||| 0x100).setWidth 4 = v.setWidth 4 := by simp [BitVec.setWidth_or]
    rw [hlow, this, BitVec.toNat_setWidth]
  · simp [bitAt]

/-- A run is asked of each bench in a list. -/
def askBenches (l : List Nat) (s : State) : State := l.foldl (fun t n => benchKat n .cmd t) s

theorem askBenches_eq (l : List Nat) (s : State) : ∃ bs, askBenches l s = { s with bne := { s.bne with benches := bs } } :=
  foldl_keeps (P := fun t => ∃ bs, t = { s with bne := { s.bne with benches := bs } })
    (fun t n h => by obtain ⟨bs, rfl⟩ := h; exact ⟨_, rfl⟩) ⟨s.bne.benches, rfl⟩

theorem kats_askBenches {l : List Nat} {n : Nat} {s : State} (hnd : l.Nodup) (hn : n ∈ l) :
    (benchOf (askBenches l s) n).map (·.kats) = (benchOf s n).map (fun b => b.kats ++ [.cmd]) := by
  have hself : ∀ t : State, (benchOf (benchKat n .cmd t) n).map (·.kats) = ((benchOf t n).map (·.kats)).map (· ++ [.cmd]) := fun t => by
    have hupd : benchOf (benchKat n .cmd t) n = (benchOf t n).map (fun b =>
        { b with kats := b.kats ++ [.cmd], st := if b.st = .idle then .kat else b.st }) := getElem?_upd_self
    rw [hupd, Option.map_map, Option.map_map]
    rfl
  obtain ⟨t, -, hv, he⟩ := foldl_at (v := fun t n => (benchOf t n).map (·.kats)) (g := fun t n => benchKat n .cmd t) (P := fun _ => True)
    (s := s) (fun t k m h => congrArg (Option.map Bench.kats) (getElem?_upd_ne (Ne.symm h))) (fun _ _ _ => trivial) hnd hn trivial
  exact he.trans ((hself t).trans (by rw [hv, Option.map_map]; rfl))

theorem nodup_maskList {n m : Nat} : (maskList n m).Nodup := List.nodup_range.filter _

/-- The conditions under which BNE_CMD.KAT is refused. -/
theorem katBad_iff {m : Nat} {hash : Bool} {s : State} :
    (s.bne.katBusy || (decide (m = 0) && !hash) ||
      (maskList 4 m).any (fun n => ((benchOf s n).map (fun b => decide (b.st = .load ∨ b.st = .retired ∨ b.st = .halt))).getD true)) = true ↔
    s.bne.katBusy = true ∨ (m = 0 ∧ hash = false) ∨
      (∃ n ∈ maskList 4 m, ∀ b, benchOf s n = some b → b.st = .load ∨ b.st = .retired ∨ b.st = .halt) := by
  have hunit : ∀ n, ((benchOf s n).map (fun b => decide (b.st = .load ∨ b.st = .retired ∨ b.st = .halt))).getD true = true ↔
      ∀ b, benchOf s n = some b → b.st = .load ∨ b.st = .retired ∨ b.st = .halt := fun n => by
    cases benchOf s n with
    | none => simp
    | some b => simp
  simp only [Bool.or_eq_true, Bool.and_eq_true, decide_eq_true_eq, Bool.not_eq_true', List.any_eq_true, hunit, or_assoc]

theorem bneKatCmd_bne {v : W32} {s : State} :
    let u := bneKatCmd (v ||| 0x100) s
    let m := v.toNat % 16
    if s.bne.katBusy = true ∨ (m = 0 ∧ bitAt v 4 = false) ∨
        (∃ n ∈ maskList 4 m, ∀ b, benchOf s n = some b → b.st = .load ∨ b.st = .retired ∨ b.st = .halt) then
      u.bne = { s.bne with err := s.bne.err ||| 16 }
    else
      u.bne.katBusy = true ∧ u.bne.katDone = false ∧ u.bne.katFailed = false ∧
      (∀ n ∈ maskList 4 m, (benchOf u n).map (·.kats) = (benchOf s n).map (fun b => b.kats ++ [.cmd])) ∧
      u.bne.hashKats = (if bitAt v 4 then s.bne.hashKats ++ [.cmd] else s.bne.hashKats) := by
  obtain ⟨hm, hh⟩ := katCmd_fields v
  dsimp only
  unfold bneKatCmd
  rw [hm, hh]
  generalize v.toNat % 16 = m
  generalize bitAt v 4 = hash
  by_cases hbad : s.bne.katBusy = true ∨ (m = 0 ∧ hash = false) ∨
      (∃ n ∈ maskList 4 m, ∀ b, benchOf s n = some b → b.st = .load ∨ b.st = .retired ∨ b.st = .halt)
  · rw [if_pos hbad, if_pos (katBad_iff.mpr hbad), bneRefuse, post_bne]
    rfl
  · rw [if_neg hbad, if_neg (mt katBad_iff.mp hbad)]
    have hkats : ∀ n ∈ maskList 4 m, (benchOf (askBenches (maskList 4 m) (bneRun s)) n).map (·.kats) =
        (benchOf s n).map (fun b => b.kats ++ [.cmd]) := fun n hn => kats_askBenches nodup_maskList hn
    obtain ⟨bs, hask⟩ := askBenches_eq (maskList 4 m) (bneRun s)
    have hfold : (maskList 4 m).foldl (fun t n => benchKat n .cmd t) (bneRun s) =
        { bneRun s with bne := { (bneRun s).bne with benches := bs } } := hask
    rw [hask] at hkats
    rw [hfold]
    cases hash with
    | true => exact ⟨rfl, rfl, rfl, hkats, rfl⟩
    | false => exact ⟨rfl, rfl, rfl, hkats, rfl⟩

/-! ### Runs that end -/

theorem cardOf_bneKatReport {unit n : Nat} {who : KatWho} {ok : Bool} {s : State} : cardOf (bneKatReport unit who ok s) n = cardOf s n := by
  have hset : cardOf (bneKatSettle { s with bne := { s.bne with katFailed := s.bne.katFailed || !ok } }) n = cardOf s n :=
    cardOf_bneKatSettle
  unfold bneKatReport
  split
  · split
    · exact (cardOf_of_bneFace bneFace_testUnitDone n).trans hset
    · exact hset
  · exact hset

theorem cardOf_updBench {n : Nat} {f : Bench → Bench} {b : Bench} {s : State} (h : benchOf s n = some b) :
    cardOf (updBench n f s) n = some (benchCard (f b)) := by
  rw [cardOf, benchOf_updBench_self, h]
  rfl

theorem hlt_testUnitDone {id unit : Nat} {ok : Bool} {s : State} : (testUnitDone id unit ok s).hlt = s.hlt := by
  unfold testUnitDone endIfDone
  split
  · split
    · exact (congrArg Calm.hlt calm_stopJob :)
    · rfl
  · rfl

theorem hlt_bneKatReport {unit : Nat} {who : KatWho} {ok : Bool} {s : State} : (bneKatReport unit who ok s).hlt = s.hlt := by
  obtain ⟨b, d, hset⟩ := bneKatSettle_eq { s with bne := { s.bne with katFailed := s.bne.katFailed || !ok } }
  unfold bneKatReport
  rw [hset]
  split
  · split
    · exact hlt_testUnitDone
    · rfl
  · rfl

section
variable {n : Nat} {b : Bench} {w : KatWho} {rest : List KatWho} {s : State} (hb : benchOf s n = some b) (hst : b.st = .kat)
  (hk : b.kats = w :: rest)
include hb hst hk

theorem benchKatDone_eq (ok : Bool) : benchKatDone n ok s =
    if ok then bneKatReport n w true (updBench n (fun x => { x with
      st := if rest.isEmpty then .idle else .kat, kats := rest, katPass := true, idleSlow := s.clk.slow }) s)
    else raiseFatal 0x06 n (bneKatReport n w false (updBench n (fun x => { x with
      st := .halt, kats := [], katPass := false, mem := [] }) s)) := by
  unfold benchKatDone
  rw [hb]
  dsimp only
  rw [hk]
  dsimp only
  rw [if_neg (by simp [hst])]

theorem benchKatDone_passed :
    (benchOf (benchKatDone n true s) n).map (fun x => (x.st, x.kats, x.katPass)) =
      some (if rest.isEmpty then .idle else .kat, rest, true) := by
  rw [benchKatDone_eq hb hst hk, if_pos rfl]
  have hcard := cardOf_bneKatReport (unit := n) (n := n) (who := w) (ok := true) (s := updBench n (fun x => { x with
    st := if rest.isEmpty then .idle else .kat, kats := rest, katPass := true, idleSlow := s.clk.slow }) s)
  rw [cardOf_updBench hb] at hcard
  have hkeep : (if rest.isEmpty then BenchState.idle else .kat) ≠ .busy ∧ (if rest.isEmpty then BenchState.idle else .kat) ≠ .zero := by
    split <;> decide
  have hcst : (benchCard { b with
      st := if rest.isEmpty then .idle else .kat, kats := rest, katPass := true, idleSlow := s.clk.slow }).st =
      if rest.isEmpty then .idle else .kat := if_neg hkeep.1
  obtain ⟨x, hx, hxst, -, -, -, hxk, hxp, -⟩ := benchOf_of_card hcard (by rw [hcst]; exact hkeep.2)
  rw [hx, Option.map_some, hxst, hcst, hxk, hxp]
  rfl

theorem benchKatDone_failed :
    (benchOf (benchKatDone n false s) n).map (fun x => (x.st, x.mem)) = some (.halt, []) ∧ (benchKatDone n false s).hlt.fatal = true ∧
      (s.hlt.fatal = false → (benchKatDone n false s).hlt.fatalCause = 6 ∧ (benchKatDone n false s).hlt.fatalIdx = BitVec.ofNat 8 n) := by
  rw [benchKatDone_eq hb hst hk, if_neg (by decide)]
  have hcard := cardOf_bneKatReport (unit := n) (n := n) (who := w) (ok := false) (s := updBench n (fun x => { x with
    st := .halt, kats := [], katPass := false, mem := [] }) s)
  rw [cardOf_updBench hb] at hcard
  obtain ⟨x, hx, hxst, hxmem, -⟩ := benchOf_of_card hcard (by intro h; cases h)
  have hhlt : (bneKatReport n w false (updBench n (fun x => { x with st := .halt, kats := [], katPass := false, mem := [] }) s)).hlt = s.hlt := by
    rw [hlt_bneKatReport]
    rfl
  generalize bneKatReport n w false _ = u at *
  have hbench : benchOf (raiseFatal 6 n u) n = benchOf u n := congrArg (fun y : Bne => y.benches[n]?) raiseFatal_bne
  rw [hbench, raiseFatal_hlt, hhlt, hx]
  refine ⟨?_, ?_, fun hf => ?_⟩
  · rw [Option.map_some, hxst, hxmem]
    rfl
  · split
    next hf => exact hf
    next => rfl
  · rw [if_neg (by rw [hf]; decide)]
    exact ⟨rfl, rfl⟩

end

/-- The hash unit's run counts for its block whatever it brings to its job. -/
theorem hashKatDone_fields {w : KatWho} {rest : List KatWho} {ok : Bool} {s : State} (hk : s.bne.hashKats = w :: rest) :
    (hashKatDone ok s).bne.hashPass = ok ∧ (hashKatDone ok s).bne.hashKats = rest ∧
      (ok = false → (hashKatDone ok s).hlt.fatal = true ∧ (s.hlt.fatal = false → (hashKatDone ok s).hlt.fatalCause = 5)) := by
  have hbne : ∀ t : State, (bneFace (bneKatReport 0 w ok t)).hashPass = t.bne.hashPass ∧
      (bneFace (bneKatReport 0 w ok t)).hashKats = t.bne.hashKats := fun t => by
    obtain ⟨b, d, hset⟩ := bneKatSettle_eq { t with bne := { t.bne with katFailed := t.bne.katFailed || !ok } }
    unfold bneKatReport
    rw [hset]
    split
    · split
      · rw [bneFace_testUnitDone]
        exact ⟨rfl, rfl⟩
      · exact ⟨rfl, rfl⟩
    · exact ⟨rfl, rfl⟩
  obtain ⟨hpass, hkats⟩ := hbne { s with bne := { s.bne with hashKats := rest, hashPass := ok } }
  have hhlt := hlt_bneKatReport (unit := 0) (who := w) (ok := ok) (s := { s with bne := { s.bne with hashKats := rest, hashPass := ok } })
  unfold hashKatDone
  rw [hk]
  dsimp only
  generalize bneKatReport 0 w ok _ = u at *
  cases ok with
  | true => exact ⟨hpass, hkats, fun h => absurd h (by decide)⟩
  | false =>
    rw [if_neg (by decide), raiseFatal_bne, raiseFatal_hlt, hhlt]
    refine ⟨hpass, hkats, fun _ => ⟨?_, fun hf => ?_⟩⟩
    · split
      next hf => exact hf
      next => rfl
    · rw [if_neg (by rw [hf]; decide)]
      rfl

/-! ### Errors of the microcode store -/

theorem hit_iff {n : Nat} {s : State} : n ∈ (List.range (nBenches s)).filter (fun n =>
    ((benchOf s n).map (fun b => decide (b.st ≠ .load ∧ b.st ≠ .halt))).getD false) ↔
    n < nBenches s ∧ ∃ b, benchOf s n = some b ∧ b.st ≠ .load ∧ b.st ≠ .halt := by
  rw [List.mem_filter, List.mem_range]
  refine and_congr_right fun _ => ?_
  cases h : benchOf s n with
  | none => simp
  | some b => simp

/-- The bench of a retirement, before its record. -/
def retiredBench (cause : Nat) (b : Bench) : Bench :=
  { b with
    st := .retired, cause := BitVec.ofNat 2 cause, owner := none, relPend := false, retiring := false, job := none
    phase := 0, mem := [] }

theorem bneFace_foldl {α : Type} {g : State → α → State} {l : List α} {s : State} (h : ∀ u x, bneFace (g u x) = bneFace u) :
    bneFace (l.foldl g s) = bneFace s := by
  induction l generalizing s with
  | nil => rfl
  | cons x l ih => exact ih.trans (h s x)

/-- A bench gives up its runs: its other fields stay. -/
theorem cardOf_dropBenchKats_at {n m : Nat} {s : State} {b : Bench} (h : benchOf s n = some b) :
    cardOf (dropBenchKats n s) m = cardOf (updBench n (fun x => { x with kats := [] }) s) m := by
  unfold dropBenchKats
  rw [h]
  dsimp only
  rw [cardOf_bneKatSettle]
  refine cardOf_of_bneFace (bneFace_foldl fun t w => ?_) m
  cases w with
  | job id => exact bneFace_testUnitDone
  | _ => rfl

theorem dropBenchKats_of_none {n : Nat} {s : State} (h : benchOf s n = none) : dropBenchKats n s = s := by
  unfold dropBenchKats
  rw [h]

theorem cardOf_dropBenchKats_ne {n m : Nat} {s : State} (h : n ≠ m) : cardOf (dropBenchKats n s) m = cardOf s m := by
  cases hb : benchOf s n with
  | none => rw [dropBenchKats_of_none hb]
  | some b => rw [cardOf_dropBenchKats_at hb, cardOf, benchOf_updBench_ne h, cardOf]

theorem cardOf_dropBenchKats {n : Nat} {s : State} :
    cardOf (dropBenchKats n s) n = (cardOf s n).map (fun b => { b with kats := [] }) := by
  cases hb : benchOf s n with
  | none => rw [dropBenchKats_of_none hb, cardOf, hb]; rfl
  | some b => rw [cardOf_dropBenchKats_at hb, cardOf_updBench hb, cardOf, hb]; rfl

theorem cardOf_retireBench_ne {n m cause : Nat} {s : State} (h : n ≠ m) : cardOf (retireBench n cause s) m = cardOf s m := by
  unfold retireBench
  rw [cardOf_of_bneFace (bneFace_of_bne post_bne), cardOf_dropBenchKats_ne h, cardOf, benchOf_updBench_ne h, cardOf]

theorem cardOf_retireBench {n cause : Nat} {s : State} :
    cardOf (retireBench n cause s) n = (benchOf s n).map (fun b => { benchCard (retiredBench cause b) with kats := [] }) := by
  have hupd : cardOf (updBench n (retiredBench cause) s) n = (benchOf s n).map (fun b => benchCard (retiredBench cause b)) := by
    rw [cardOf, benchOf_updBench_self, Option.map_map]
    rfl
  unfold retireBench
  rw [cardOf_of_bneFace (bneFace_of_bne post_bne), cardOf_dropBenchKats]
  exact (congrArg (Option.map (fun b : Bench => { b with kats := [] })) hupd).trans (Option.map_map _ _ _)

/-- One bench of those that an uncorrectable error retires: its job ends first. -/
def ucodeHit (t : State) (n : Nat) : State :=
  retireBench n 2 (match (benchOf t n).bind (·.job) with
    | some id => stopJob id stNoEntropy none t
    | none => t)

theorem bneFace_ucodeStop {n : Nat} {t : State} : bneFace (match (benchOf t n).bind (·.job) with
    | some id => stopJob id stNoEntropy none t
    | none => t) = bneFace t := by
  split
  · exact bneFace_of_shell shell_stopJob
  · rfl

/-- What shows of a bench that is retired for the microcode store. -/
def lostCard (b : Bench) : BenchState × BitVec 2 × Mem × Option ReqId := (b.st, b.cause, b.mem, b.owner)

theorem lost_ucodeHit {n : Nat} {t : State} (h : (cardOf t n).isSome = true) :
    (cardOf (ucodeHit t n) n).map lostCard = some (.retired, 2, [], none) := by
  have hface := cardOf_of_bneFace (bneFace_ucodeStop (n := n) (t := t)) n
  unfold ucodeHit
  generalize (match (benchOf t n).bind (·.job) with
    | some id => stopJob id stNoEntropy none t
    | none => t) = u at *
  rw [← hface, cardOf, Option.isSome_map] at h
  obtain ⟨b, hb⟩ := Option.isSome_iff_exists.mp h
  rw [cardOf_retireBench, hb]
  rfl

theorem cardOf_ucodeHit_ne {n m : Nat} {t : State} (h : n ≠ m) : cardOf (ucodeHit t n) m = cardOf t m := by
  unfold ucodeHit
  rw [cardOf_retireBench_ne h, cardOf_of_bneFace bneFace_ucodeStop]

theorem ucodeUncorrectable_eq (s : State) : ucodeUncorrectable s =
    benchSettle (((List.range (nBenches s)).filter (fun n =>
      ((benchOf s n).map (fun b => decide (b.st ≠ .load ∧ b.st ≠ .halt))).getD false)).foldl ucodeHit s) := rfl

theorem shell_denyOrphans {s : State} : shell (denyOrphans s) = shell s := shell_foldl fun _ _ => shell_stopJob

theorem shell_starveWaiters {s : State} : shell (starveWaiters s) = shell s := by
  unfold starveWaiters
  split
  · rfl
  · exact shell_foldl fun _ _ => shell_stopJob

/-- A release that waited takes effect on one bench. -/
def releasedBench (b : Bench) : Bench :=
  if b.relPend && b.job.isNone then { b with owner := none, relPend := false, zeroAll := true, mem := [] } else b

theorem bneFace_benchSettle {s : State} :
    bneFace (benchSettle s) = { s.bne with benches := s.bne.benches.map (fun b => benchCard (releasedBench b)) } := by
  unfold benchSettle
  rw [bneFace_of_shell shell_starveWaiters, bneFace_of_shell shell_denyOrphans]
  simp only [bneFace, List.map_map, Function.comp_def, releasedBench]

theorem cardOf_benchSettle {n : Nat} {s : State} : cardOf (benchSettle s) n = (benchOf s n).map (fun b => benchCard (releasedBench b)) := by
  have hl := congrArg (fun x : Bne => x.benches[n]?) (bneFace_benchSettle (s := s))
  simp only [bneFace, List.getElem?_map] at hl
  exact hl

theorem ue_of_bneFace {s t : State} (h : bneFace t = bneFace s) : t.bne.ue = s.bne.ue := (congrArg Bne.ue h :)

theorem dropBenchKats_ue {n : Nat} {s : State} : (dropBenchKats n s).bne.ue = s.bne.ue := by
  have hset : ∀ t : State, (bneKatSettle t).bne.ue = t.bne.ue := fun t => by
    obtain ⟨b, d, h⟩ := bneKatSettle_eq t
    rw [h]
  unfold dropBenchKats
  split
  · rfl
  · refine (hset _).trans ((ue_of_bneFace (bneFace_foldl fun t w => ?_)).trans rfl)
    cases w with
    | job id => exact bneFace_testUnitDone
    | _ => rfl

theorem ucodeHit_ue {n : Nat} {s : State} : (ucodeHit s n).bne.ue = s.bne.ue := by
  unfold ucodeHit retireBench
  rw [post_bne, dropBenchKats_ue]
  exact (ue_of_bneFace (bneFace_ucodeStop (n := n) (t := s)) :)

theorem ucodeUncorrectable_ue {s : State} : (ucodeUncorrectable s).bne.ue = s.bne.ue := by
  rw [ucodeUncorrectable_eq]
  refine (congrArg Bne.ue bneFace_benchSettle :).trans ?_
  exact foldl_keeps (P := fun t => t.bne.ue = s.bne.ue) (fun t n h => ucodeHit_ue.trans h) rfl

theorem lostCard_released {b : Bench} (h : lostCard (benchCard b) = (.retired, 2, [], none)) :
    lostCard (benchCard (releasedBench b)) = (.retired, 2, [], none) := by
  unfold releasedBench
  split
  · simp only [lostCard, benchCard, Prod.mk.injEq] at h ⊢
    obtain ⟨hst, hcause, -, -⟩ := h
    exact ⟨hst, hcause, trivial⟩
  · exact h

theorem ucodeUncorrectable_retires {n : Nat} {b : Bench} {s : State} (hn : n < nBenches s) (hb : benchOf s n = some b)
    (hload : b.st ≠ .load) (hhalt : b.st ≠ .halt) :
    (benchOf (ucodeUncorrectable s) n).map (fun x => (x.st, x.cause, x.mem, x.owner)) = some (.retired, 2, [], none) := by
  obtain ⟨t, ht, hv, he⟩ := foldl_at (v := fun t n => (cardOf t n).map lostCard) (g := ucodeHit)
    (P := fun t => (cardOf t n).isSome = true) (s := s) (n := n)
    (fun t k m h => congrArg (Option.map lostCard) (cardOf_ucodeHit_ne (Ne.symm h)))
    (fun t k h => by
      by_cases hk : k = n
      · subst hk
        have hlost := lost_ucodeHit h
        cases hc : cardOf (ucodeHit t k) k with
        | none => rw [hc] at hlost; cases hlost
        | some c => rfl
      · rw [cardOf_ucodeHit_ne hk]
        exact h)
    (List.nodup_range.filter _) (hit_iff.mpr ⟨hn, b, hb, hload, hhalt⟩) (by rw [cardOf, hb]; rfl)
  have hlost := he.trans (lost_ucodeHit ht)
  rw [ucodeUncorrectable_eq]
  generalize List.foldl ucodeHit s _ = u at *
  rw [cardOf, Option.map_map] at hlost
  obtain ⟨y, hy, hyl⟩ := Option.map_eq_some_iff.mp hlost
  have hcard : cardOf (benchSettle u) n = some (benchCard (releasedBench y)) := by rw [cardOf_benchSettle, hy]; rfl
  have hall := lostCard_released hyl
  simp only [lostCard, Prod.mk.injEq] at hall
  obtain ⟨hst, hcause, hmem, howner⟩ := hall
  obtain ⟨x, hx, hxst, hxmem, hxowner, hxcause, -⟩ := benchOf_of_card hcard (by rw [hst]; decide)
  rw [hx, Option.map_some, hxst, hxcause, hxmem, hxowner, hst, hcause, hmem, howner]

/-! ### O46 -/

/-- Settles O46: a command's runs are asked bench by bench, a run that ends is reported while the benches keep their cards, and the error of
the store retires each bench in its turn. -/
theorem benchTestsAndMicrocode : Obligations.BenchTestsAndMicrocode := by
  intro s a v
  refine ⟨fun hw => ?_, fun hup => ⟨fun n b w rest ok hb hst hk => ?_, fun w rest ok hk => ?_, fun hl => ⟨?_, ?_⟩⟩⟩
  · obtain ⟨t, ⟨r, y, rfl, -⟩, he⟩ := writeAccess_reaches (v := v ||| 0x100) hw (by decide) (by decide) (by decide) (by decide)
    have hplain : ∀ q u, plainWrite q 0xA104 (v ||| 0x100) u = bneKatCmd (v ||| 0x100) u := fun q u => by
      show onlyIf (bitAt (v ||| 0x100) 8) (bneKatCmd (v ||| 0x100)) u = _
      rw [show bitAt (v ||| 0x100) 8 = true by simp [bitAt]]
      rfl
    refine effects_of_act exec_benchKatCmd (running_of_enters (enters_of_mayWrite hw)) ?_
    have hbne := bneKatCmd_bne (v := v) (s := { s with ring := r, sys := y })
    have hbench : ∀ u n, benchOf u n = u.bne.benches[n]? := fun _ _ => rfl
    simp only [hbench] at hbne ⊢
    rw [he, hplain, answer_bne]
    exact hbne
  · refine effects_of_act exec_benchKatDone (running_of_upAnd hup) ?_
    cases ok with
    | true => exact benchKatDone_passed hb hst hk
    | false => exact benchKatDone_failed hb hst hk
  · exact effects_of_act exec_benchKatDone (running_of_upAnd hup) (hashKatDone_fields hk)
  · refine effects_of_act exec_ucodeStoreError (running_of_upAnd hup) ?_
    unfold ucodeStoreError
    rw [if_neg (by rw [hl]; decide), if_neg (by decide), post_bne]
  · refine effects_of_act exec_ucodeStoreError (running_of_upAnd hup) ?_
    unfold ucodeStoreError
    rw [if_neg (by rw [hl]; decide), if_pos rfl]
    refine ⟨by rw [ucodeUncorrectable_ue, post_bne], fun n b hn hb hload hhalt => ?_⟩
    exact ucodeUncorrectable_retires (b := b) hn ((congrArg (fun y : Bne => y.benches[n]?) post_bne).trans hb) hload hhalt

end Sys2Proof.Machine

/-! PROOFS. Ownership and operand windows of benches (R219 to R221, R300). -/

namespace Sys2Proof.Machine

/-! ### Claims and releases -/

theorem nBenches_le (s : State) : nBenches s ≤ 4 := by
  unfold nBenches benchesOf
  split <;> decide

/-- What a job on a bench does not change of it. -/
theorem benchOf_map_card {s : State} {n : Nat} : (benchOf s n).map (fun x => (x.owner, x.mem, x.relPend)) =
    (cardOf s n).map (fun x => (x.owner, x.mem, x.relPend)) := by
  rw [cardOf, Option.map_map]
  rfl

theorem bneRefuse_bne {n bit : Nat} {s : State} :
    (bneRefuse n bit s).bne = { s.bne with err := s.bne.err ||| BitVec.ofNat 5 (2 ^ bit) } := post_bne

theorem owner_endOwner_settled {n : Nat} {b : Bench} {s : State} (hb : benchOf s n = some b) :
    (benchOf (benchSettle (endOwner n s)) n).map (fun x => (x.owner, x.mem, x.relPend)) = some (none, [], false) := by
  have hend : benchOf (endOwner n s) n = some { b with owner := none, relPend := false, mem := [], zeroAll := true } := by
    rw [endOwner, benchOf_updBench_self, hb]
    rfl
  rw [benchOf_map_card, cardOf_benchSettle, hend]
  rfl

/-- A register row of a bench's ownership reaches the function of its bit. -/
theorem bneOwn_effects {c : Instr} {s : State} {a : Acc} {n : Nat} {v : W32} {f : State → State} (hn : n < nBenches s)
    (hexec : exec c s = .next (act (rowWrite a (n < 4) (0xA004 + 16 * n) v) s)) (hw : mayWrite a (0xA004 + 16 * n) s = true)
    (hf : ∀ u, onlyIf (bitAt v 31) (benchClaim (who a s) n) (onlyIf (bitAt v 30) (benchRelease (who a s) n) u) = f u) {P : State → Prop}
    (hP : ∀ u r y, u.bne = (f { s with ring := r, sys := y }).bne → P u) : Effects c s P := by
  have hle := nBenches_le s
  obtain ⟨t, ⟨r, y, rfl, -⟩, he⟩ := writeAccess_reaches (v := v) hw (by omega) (by omega)
    (by have h4 : n < 4 := by omega
        interval_cases n <;> decide) (by omega)
  have hplain : ∀ u, nBenches u = nBenches s → plainWrite (who a s) (0xA004 + 16 * n) v u = f u := fun u hu => by
    have hslot : slot (0xA004 + 16 * n) 0xA004 16 (nBenches u) = some n := slot_at (by rw [hu]; exact hn) (by decide)
    rw [← hf u]
    have h4 : n < 4 := by omega
    have hbne : plainWrite (who a s) (0xA004 + 16 * n) v u = bneWrite (who a s) (0xA004 + 16 * n) v u := by interval_cases n <;> rfl
    rw [hbne, bneWrite, hslot]
    all_goals omega
  refine effects_of_act hexec (running_of_enters (enters_of_mayWrite hw)) ?_
  rw [rowWrite, if_pos (by simp; omega), he, hplain { s with ring := r, sys := y } rfl]
  exact hP _ r y answer_bne

theorem benchOf_of_bne {s t : State} (h : t.bne = s.bne) (n : Nat) : benchOf t n = benchOf s n := congrArg (fun x : Bne => x.benches[n]?) h

section
variable {s : State} {a : Acc} {n : Nat} {b : Bench} (hn : n < nBenches s) (hb : benchOf s n = some b)
include hn hb

theorem benchClaim_claims (hw : mayWrite a (0xA004 + 16 * n) s = true) :
    Effects (.benchClaim a n) s (fun u =>
      if claimOk s (who a s) n then (benchOf u n).map (·.owner) = some (some (who a s)) ∧ u.bne.err = s.bne.err
      else u.bne = { s.bne with err := s.bne.err ||| 1 }) := by
  refine bneOwn_effects (f := benchClaim (who a s) n) hn exec_benchClaim hw (fun u => rfl) fun u r y hu => ?_
  have hok : claimOk { s with ring := r, sys := y } (who a s) n = claimOk s (who a s) n := rfl
  rw [benchClaim, hok] at hu
  by_cases hc : claimOk s (who a s) n = true
  · rw [if_pos hc] at hu ⊢
    rw [benchOf_of_bne hu, benchOf_updBench_self, hu]
    exact ⟨by rw [show benchOf { s with ring := r, sys := y } n = some b from hb]; rfl, rfl⟩
  · rw [if_neg hc] at hu ⊢
    rw [hu, bneRefuse_bne]
    rfl

theorem benchRelease_releases (hw : mayWrite a (0xA004 + 16 * n) s = true) :
    Effects (.benchRelease a n) s (fun u =>
      if b.owner ≠ some (who a s) then u.bne = { s.bne with err := s.bne.err ||| 2 }
      else if b.job.isSome then (benchOf u n).map (fun x => (x.owner, x.relPend)) = some (b.owner, true)
      else (benchOf u n).map (fun x => (x.owner, x.mem, x.relPend)) = some (none, [], false)) := by
  refine bneOwn_effects (f := benchRelease (who a s) n) hn exec_benchRelease hw (fun u => rfl) fun u r y hu => ?_
  have hb' : benchOf { s with ring := r, sys := y } n = some b := hb
  rw [benchRelease, hb'] at hu
  dsimp only at hu
  split
  next ho =>
    rw [hu, if_pos ho, bneRefuse_bne]
    rfl
  next ho =>
    rw [if_neg ho] at hu
    split
    next hj =>
      rw [benchOf_of_bne hu, if_pos hj, benchOf_updBench_self, hb']
      rfl
    next hj => rw [benchOf_of_bne hu, if_neg hj, owner_endOwner_settled hb']

omit hn in
theorem benchIdleTimeout_ends (hup : upAnd s = true) (ho : b.owner ≠ none) (hms : s.bne.idleMs ≠ 0) (hst : b.st = .idle)
    (hlong : msToSlow s.bne.idleMs.toNat ≤ s.clk.slow - b.idleSlow) (hwait : ∀ j ∈ benchWaiters s, b.owner ≠ some j.req) :
    Effects (.benchIdleTimeout n) s (fun u => (benchOf u n).map (fun x => (x.owner, x.mem)) = some (none, [])) := by
  refine effects_of_act exec_benchIdleTimeout (running_of_upAnd hup) ?_
  obtain ⟨r, hr⟩ := Option.ne_none_iff_exists'.mp ho
  have hnone : ownerWaits s r = false := by
    rw [ownerWaits, List.any_eq_false]
    exact fun j hj he => hwait j hj (by rw [hr, of_decide_eq_true he])
  unfold benchIdleTimeout
  rw [hb]
  dsimp only
  rw [hr]
  dsimp only
  rw [if_pos ⟨hms, hst, hlong, by rw [hnone]; rfl⟩, benchOf_of_bne post_bne]
  have h := congrArg (Option.map (fun x : Option ReqId × Mem × Bool => (x.1, x.2.1))) (owner_endOwner_settled hb)
  rw [Option.map_map] at h
  exact h

omit hn in
theorem benchIdleTimeout_stays (h : b.owner = none ∨ ¬ (s.bne.idleMs ≠ 0 ∧ b.st = .idle ∧
    msToSlow s.bne.idleMs.toNat ≤ s.clk.slow - b.idleSlow ∧ ∀ j ∈ benchWaiters s, b.owner ≠ some j.req)) :
    benchIdleTimeout n s = s := by
  unfold benchIdleTimeout
  rw [hb]
  dsimp only
  cases ho : b.owner with
  | none => rfl
  | some r =>
    dsimp only
    rw [if_neg]
    rintro ⟨hms, hst, hlong, hwait⟩
    refine (h.resolve_left (by rw [ho]; simp)) ⟨hms, hst, hlong, fun j hj he => ?_⟩
    have hr : r = j.req := by simpa [ho] using he
    have : ownerWaits s r = true := List.any_eq_true.mpr ⟨j, hj, decide_eq_true hr.symm⟩
    rw [this] at hwait
    exact absurd hwait (by decide)

end

/-! ### Operand windows -/

/-- A state that an access to a window has entered differs in the ring's buffers alone. -/
theorem entered_ring {a : Acc} {hold : Bool} {s : State} : ∃ r, entered a hold s = { s with ring := r } := by
  obtain ⟨r, y, h, -⟩ := reached_entered (a := a) (hold := hold) (s := s)
  have hy : y = s.sys := by
    rw [← entered_sys (a := a) (h := hold), h]
  exact ⟨r, by rw [h, hy]⟩

/-- A window access as its row performs it: what its answer shows. -/
theorem benchRow_effects {a : Acc} {n off : Nat} {op : WindowOp} {s : State} (hn : n < nBenches s) (he : enters a s = true)
    (ho : off < 0x10000) {P : State → Prop} (hP : ∀ u r, u.bne = (benchAccess (who a s) n off op { s with ring := r }).2.2.bne →
      (a.path = .core → u.core.status = BitVec.ofNat 4 (benchAccess (who a s) n off op { s with ring := r }).1 ∧
        u.core.data = (benchAccess (who a s) n off op { s with ring := r }).2.1) → P u) :
    Effects (.benchWindowAccess a n off op) s P := by
  have hle := nBenches_le s
  refine effects_of_act exec_benchWindowAccess (running_of_enters he) ?_
  obtain ⟨r, hr⟩ := entered_ring (a := a) (hold := false) (s := s)
  have hcond : n < 4 ∧ off < 0x10000 := ⟨by omega, ho⟩
  unfold benchRow
  dsimp only
  rw [if_pos hcond, arrive_of_enters he, hr]
  refine hP _ r answer_bne fun hcore => ?_
  have hpath : (norm s a).path = .core := by rw [norm_path, hcore]
  exact ⟨answer_core_status hpath, answer_core_data hpath⟩

/-- A refused access to a window. -/
theorem benchAccess_of_halted {r : ReqId} {n off : Nat} {op : WindowOp} {s : State} {b : Bench} (h : halted s = true)
    (hb : benchOf s n = some b) : benchAccess r n off op s = (8, [], bneRefuse n 2 s) := by
  rw [benchAccess, if_pos h, hb]
  rfl

/-- The length of an access to a window. -/
def opLen : WindowOp → Nat
  | .read k => k
  | .write bs => bs.length

section
variable {r : ReqId} {n off : Nat} {op : WindowOp} {s : State} {b : Bench} (hh : ¬ halted s = true) (hb : benchOf s n = some b)
include hh hb

theorem benchAccess_of_owned : benchAccess r n off op s =
    if b.owner ≠ some r ∨ b.st ≠ .idle then (3, [], bneRefuse n 2 s)
    else if opLen op < 4 ∨ 256 < opLen op ∨ opLen op % 4 ≠ 0 ∨ off % 4 ≠ 0 then (3, [], bneRefuse n 3 s)
    else match op with
      | .read k => (0, (memRead b.mem off k).mapIdx (fun i v => if off + i < 0x6000 then v else 0),
          updBench n (fun x => { x with idleSlow := s.clk.slow }) s)
      | .write bs => (0, [], updBench n (fun x => { x with mem := memWrite x.mem off (bs.take (0x6000 - off)) })
          (updBench n (fun x => { x with idleSlow := s.clk.slow }) s)) := by
  rw [benchAccess, if_neg hh]
  unfold benchWindow
  rw [hb]
  cases op <;> rfl

end

/-- Whose access, and of which length, a bench's window takes (R220). -/
def WindowShows (s : State) (a : Acc) (b : Bench) (off len : Nat) (u : State) (P : Prop) : Prop :=
  if halted s then u.bne = { s.bne with err := s.bne.err ||| 4 } ∧ (a.path = .core → u.core.status = 8)
  else if b.owner ≠ some (who a s) ∨ b.st ≠ .idle then
    u.bne = { s.bne with err := s.bne.err ||| 4 } ∧ (a.path = .core → u.core.status = 3)
  else if len < 4 ∨ 256 < len ∨ len % 4 ≠ 0 ∨ off % 4 ≠ 0 then
    u.bne = { s.bne with err := s.bne.err ||| 8 } ∧ (a.path = .core → u.core.status = 3)
  else P

section
variable {s : State} {a : Acc} {n off : Nat} {b : Bench} {op : WindowOp} (hn : n < nBenches s) (hb : benchOf s n = some b)
  (he : enters a s = true) (ho : off < 0x10000)
include hn hb he ho

/-- An access to a window is refused as the bench's owner and state say; what it does otherwise shows in its own result. -/
theorem benchWindow_effects {P : State → Prop}
    (hP : ∀ u r x, x = benchAccess (who a s) n off op { s with ring := r } → x = (match op with
        | .read k => (0, (memRead b.mem off k).mapIdx (fun i v => if off + i < 0x6000 then v else 0),
            updBench n (fun x => { x with idleSlow := s.clk.slow }) { s with ring := r })
        | .write bs => (0, [], updBench n (fun x => { x with mem := memWrite x.mem off (bs.take (0x6000 - off)) })
            (updBench n (fun x => { x with idleSlow := s.clk.slow }) { s with ring := r }))) →
      u.bne = x.2.2.bne → (a.path = .core → u.core.status = BitVec.ofNat 4 x.1 ∧ u.core.data = x.2.1) → P u) :
    Effects (.benchWindowAccess a n off op) s (fun u => WindowShows s a b off (opLen op) u (P u)) := by
  refine benchRow_effects hn he ho fun u r hbne hcore => ?_
  have hb' : benchOf { s with ring := r } n = some b := hb
  have hrefuse : ∀ bit, (bneRefuse n bit { s with ring := r }).bne = { s.bne with err := s.bne.err ||| BitVec.ofNat 5 (2 ^ bit) } :=
    fun bit => bneRefuse_bne
  unfold WindowShows
  by_cases hh : halted s = true
  · rw [benchAccess_of_halted (s := { s with ring := r }) hh hb'] at hbne hcore
    rw [if_pos hh, hbne, hrefuse]
    exact ⟨rfl, fun hp => (hcore hp).1⟩
  · have heq := benchAccess_of_owned (r := who a s) (off := off) (op := op) (s := { s with ring := r }) hh hb'
    rw [if_neg hh]
    by_cases hown : b.owner ≠ some (who a s) ∨ b.st ≠ .idle
    · rw [if_pos hown] at heq
      rw [heq] at hbne hcore
      rw [if_pos hown, hbne, hrefuse]
      exact ⟨rfl, fun hp => (hcore hp).1⟩
    · rw [if_neg hown] at heq
      rw [if_neg hown]
      by_cases hlen : opLen op < 4 ∨ 256 < opLen op ∨ opLen op % 4 ≠ 0 ∨ off % 4 ≠ 0
      · rw [if_pos hlen] at heq
        rw [heq] at hbne hcore
        rw [if_pos hlen, hbne, hrefuse]
        exact ⟨rfl, fun hp => (hcore hp).1⟩
      · rw [if_neg hlen] at heq
        rw [if_neg hlen]
        exact hP u r _ rfl heq hbne hcore

end

section
variable {s : State} {a : Acc} {n off : Nat} {b : Bench} (hn : n < nBenches s) (hb : benchOf s n = some b) (he : enters a s = true)
  (ho : off < 0x10000)
include hn hb he ho

theorem benchWindow_reads {len : Nat} : Effects (.benchWindowAccess a n off (.read len)) s (fun u => WindowShows s a b off len u
    ((benchOf u n).map (·.mem) = some b.mem ∧ (a.path = .core → u.core.status = 0 ∧ u.core.data.length = len))) := by
  refine benchWindow_effects (op := .read len) hn hb he ho fun u r x _ hx hbne hcore => ?_
  subst hx
  refine ⟨?_, fun hp => ⟨(hcore hp).1, ?_⟩⟩
  · rw [benchOf_of_bne hbne, benchOf_updBench_self, show benchOf { s with ring := r } n = some b from hb]
    rfl
  · rw [(hcore hp).2, List.length_mapIdx, memRead, List.length_map, List.length_range]

theorem benchWindow_writes {bytes : List Byte} : Effects (.benchWindowAccess a n off (.write bytes)) s (fun u =>
    WindowShows s a b off bytes.length u ((benchOf u n).map (·.mem) = some (memWrite b.mem off (bytes.take (0x6000 - off))) ∧
      (a.path = .core → u.core.status = 0))) := by
  refine benchWindow_effects (op := .write bytes) hn hb he ho fun u r x _ hx hbne hcore => ?_
  subst hx
  refine ⟨?_, fun hp => (hcore hp).1⟩
  rw [benchOf_of_bne hbne, benchOf_updBench_self, benchOf_updBench_self, show benchOf { s with ring := r } n = some b from hb]
  rfl

end

/-- Settles O44: ownership goes through the register's function and the settling of the benches, a window through the checks of its access.
-/
theorem benchOwnership : Obligations.BenchOwnership := by
  unfold Obligations.BenchOwnership
  intro s a n b hn hb
  refine ⟨fun hw => ⟨benchClaim_claims hn hb hw, benchRelease_releases hn hb hw⟩, fun hup => ⟨fun ho hx => ?_, fun hx => ?_⟩,
    fun he _ => ⟨fun off len ho => benchWindow_reads hn hb he ho, fun off bytes ho => benchWindow_writes hn hb he ho⟩⟩
  · obtain ⟨hms, hst, hlong, hwait⟩ := hx
    exact benchIdleTimeout_ends hb hup ho hms hst hlong hwait
  · exact next_of_act_same (running_of_upAnd hup) exec_benchIdleTimeout (benchIdleTimeout_stays hb hx)

end Sys2Proof.Machine

/-! PROOFS. Jobs on benches, and the turns of the hash unit (R216, R217, R222, R227, R229, R230). -/

namespace Sys2Proof.Machine

/-! ### What a job's reads and grants leave of the benches -/

/-- A property of the bench block that a job's end keeps. -/
structure BenchKept (K : State → Prop) : Prop where
  same : ∀ {s t : State}, K s → t.bne = s.bne → K t
  stop : ∀ {id : Nat} {status : BitVec 8} {why : Option WordKerf} {s : State}, K s → K (stopJob id status why s)

section
variable {K : State → Prop} (hK : BenchKept K)
include hK

theorem kept_outer {s t : State} (h : outer t = outer s) (hs : K s) : K t := hK.same hs (congrArg State.bne h :)

omit hK in
theorem kept_ite {c : Prop} [Decidable c] {s t : State} (hs : K s) (ht : K t) : K (if c then s else t) := by
  split
  · exact hs
  · exact ht

theorem kept_beaconFlushed {id : Nat} {s : State} (hs : K s) : K (beaconFlushed id s) := by
  unfold beaconFlushed
  split
  · exact hs
  next j =>
    have hcut : ∀ (c : Bool) l f, K (updJob id f (onlyIf c (kerfWords .reject l) s)) := fun c l f =>
      hK.same (kept_outer hK (outer_onlyIf fun _ => outer_kerfWords) hs) rfl
    dsimp only
    exact kept_ite (hK.stop (hcut _ _ _)) (hK.same (hcut _ _ fun x => x) rfl)

theorem kept_jobAsk {id : Nat} {s : State} (hs : K s) : K (jobAsk id s) := by
  unfold jobAsk
  split
  · exact hs
  · dsimp only
    split
    · exact hs
    · split
      · exact hs
      · split
        · exact hs
        · split
          · split
            · exact kept_beaconFlushed hK hs
            · exact hK.stop hs
          · exact kept_ite (kept_outer hK outer_prPlace (hK.same hs rfl)) (hK.same hs rfl)

theorem kept_readFailed {id : Nat} {s : State} (hs : K s) : K (readFailed id s) := by
  unfold readFailed
  split
  · exact hs
  · exact hK.stop (hK.same hs rfl)

theorem kept_issueRead {id : Nat} {s : State} (hs : K s) : K (issueRead id s) := by
  unfold issueRead
  split
  · exact hs
  · split
    · exact hs
    · dsimp only
      split
      · exact hs
      · split
        · exact kept_readFailed hK (hK.same hs rfl)
        · split
          · exact hK.same hs rfl
          · exact kept_outer hK outer_sendRequest (hK.same hs rfl)

theorem kept_readKeep {id : Nat} {r : SrcRead} {s : State} (hs : K s) : K (readKeep id r s) := by
  unfold readKeep
  dsimp only
  split
  · exact hK.same hs rfl
  · exact hK.same hs rfl
  · exact hK.same hs rfl
  · split
    · exact hK.stop hs
    · exact hK.same hs rfl
  · exact hK.same hs rfl
  · exact hK.same hs rfl
  · exact hs
  · exact hs
  · exact hs

theorem kept_readBegin {id : Nat} {what : ReadFor} {addr total : Nat} {s : State} (hs : K s) : K (readBegin id what addr total s) := by
  unfold readBegin
  split
  · exact hs
  · dsimp only
    split
    · exact hK.same hs rfl
    · split
      · split
        · exact hK.stop hs
        · split
          · exact hK.same hs rfl
          · exact hK.stop hs
      · split
        · exact hK.same hs rfl
        · exact hK.stop hs

theorem kept_batchGo {id : Nat} {s : State} (hs : K s) : K (batchGo id s) := by
  have hdrop : K (prDrop id s) := kept_outer hK outer_prDrop hs
  unfold batchGo
  split
  · exact hs
  · split
    · exact hs
    · split
      · exact hs
      · split
        · exact kept_jobAsk hK (hK.same hs rfl)
        · split
          · exact kept_jobAsk hK hs
          · dsimp only
            split
            · exact kept_jobAsk hK (hK.same hdrop rfl)
            · exact kept_outer hK outer_syncAll (hK.same hdrop rfl)

theorem kept_fetchRun {id fuel : Nat} {s : State} (hs : K s) : K (fetchRun id fuel s) := by
  fun_induction fetchRun id fuel s
  case case4 => exact kept_issueRead hK hs
  case case5 ih => exact ih (kept_readKeep hK hs)
  case case6 => exact kept_issueRead hK hs
  case case7 => exact kept_batchGo hK hs
  case case8 ih => exact ih (kept_readBegin hK (hK.same hs rfl))
  case case9 => exact hK.same hs rfl
  case case10 ih => exact ih (kept_readBegin hK hs)
  all_goals exact hs

end

/-! ### Starts -/

/-- A job runs on a bench, or has just left it. -/
def OnBench (id n : Nat) (s : State) : Prop :=
  ∃ x, benchOf s n = some x ∧ ((x.st = .busy ∧ x.job = some id) ∨ (x.st = .zero ∧ x.job = none))

/-- The bench of a job that gives it up. -/
def givenUp (id : Nat) (whole : Bool) (b : Bench) : Bench :=
  if b.job = some id then { b with job := none, phase := 6, zeroAll := whole, st := if b.st = .busy then .zero else b.st } else b

theorem benchOf_ended {id n : Nat} {status : BitVec 8} {s : State} :
    ∃ whole, benchOf (ended id status s) n = (benchOf s n).map (givenUp id whole) := ⟨_, List.getElem?_map⟩

/-- A job's end as a bench shows it. -/
theorem benchOf_stopJob {id n : Nat} {status : BitVec 8} {why : Option WordKerf} {s : State} :
    benchOf (stopJob id status why s) n = benchOf s n ∨
      ∃ whole, benchOf (stopJob id status why s) n = (benchOf s n).map (givenUp id whole) := by
  by_cases h : ∀ j, jobOf s id = some j → j.stop.isSome = true
  · rw [stopJob_of_stopped h]
    exact .inl rfl
  · simp only [not_forall] at h
    obtain ⟨j, hj, hs⟩ := h
    have hout := outer_stopJob (status := status) (why := why) hj (by simpa using hs)
    have hbne : (stopJob id status why s).bne = (ended id status s).bne := (congrArg State.bne hout :)
    rw [benchOf_of_bne hbne]
    exact .inr benchOf_ended

theorem benchKept_onBench {id n : Nat} : BenchKept (OnBench id n) where
  same := fun ⟨x, hx, hst⟩ h => ⟨x, by rw [benchOf_of_bne h, hx], hst⟩
  stop := by
    rintro i status why s ⟨x, hx, hst⟩
    rcases benchOf_stopJob (id := i) (n := n) (status := status) (why := why) (s := s) with h | ⟨whole, h⟩
    · exact ⟨x, by rw [h, hx], hst⟩
    · refine ⟨givenUp i whole x, by rw [h, hx]; rfl, ?_⟩
      unfold givenUp
      split
      next hi =>
        rcases hst with ⟨hb, -⟩ | ⟨-, hnone⟩
        · exact .inr ⟨if_pos hb, rfl⟩
        · rw [hnone] at hi
          cases hi
      next => exact hst

theorem suitable_of_pick {s : State} {j : Job} {n : Nat} (h : benchPick s = some (j, n)) : ∃ b, benchOf s n = some b := by
  unfold benchPick at h
  obtain ⟨q, -, hq⟩ := List.exists_of_findSome?_eq_some h
  obtain ⟨x, -, hx⟩ := Option.bind_eq_some_iff.mp hq
  obtain ⟨m, hm, he⟩ := Option.map_eq_some_iff.mp hx
  obtain ⟨rfl, rfl⟩ := Prod.mk.inj he
  have hbench := List.find?_some hm
  cases hb : benchOf s m with
  | none => rw [hb] at hbench; cases hbench
  | some b => exact ⟨b, rfl⟩

theorem benchJobStart_onBench {s : State} {j : Job} {n : Nat} (hh : halted s = false) (h : benchPick (syncBench s) = some (j, n)) :
    OnBench j.id n (benchJobStart s) := by
  obtain ⟨b, hb⟩ := suitable_of_pick h
  unfold benchJobStart
  rw [if_neg (by rw [hh]; decide)]
  dsimp only
  rw [h]
  dsimp only
  refine kept_fetchRun benchKept_onBench ⟨{ b with st := .busy, job := some j.id, phase := 1 }, ?_, .inl ⟨rfl, rfl⟩⟩
  have hb' : benchOf s n = some b := hb
  rw [benchOf_updBench_self]
  exact congrArg (Option.map _) hb'

/-! ### Clears -/

theorem benchClearDone_clears {n : Nat} {b : Bench} {s : State} (hb : benchOf s n = some b) (hst : b.st = .zero) :
    (benchOf (benchClearDone n s) n).map (fun x => (x.st, x.mem)) =
      some (if b.retiring then (.retired, []) else (if b.kats.isEmpty then .idle else .kat, if b.zeroAll then [] else b.mem)) := by
  unfold benchClearDone
  rw [hb]
  dsimp only
  rw [if_neg (not_not.mpr hst)]
  split
  next hr =>
    have hretired : cardOf (retireBench n 1 s) n = some { benchCard (retiredBench 1 b) with kats := [] } := by
      rw [cardOf_retireBench, hb]
      rfl
    obtain ⟨y, hy, hcard⟩ := Option.map_eq_some_iff.mp hretired
    have hsettled : cardOf (benchSettle (retireBench n 1 s)) n = some (benchCard (releasedBench y)) := by
      rw [cardOf_benchSettle, hy]
      rfl
    have hyst : (benchCard y).st = .retired := by rw [hcard]; rfl
    have hymem : y.mem = [] := (congrArg Bench.mem hcard :)
    have hst' : (benchCard (releasedBench y)).st = .retired := by
      unfold releasedBench
      split <;> exact hyst
    have hmem' : (benchCard (releasedBench y)).mem = [] := by
      unfold releasedBench
      split
      · rfl
      · exact hymem
    obtain ⟨x, hx, hxst, hxmem, -⟩ := benchOf_of_card hsettled (by rw [hst']; decide)
    rw [hx, Option.map_some, hxst, hst', hxmem, hmem']
  next hr =>
    rw [benchOf_updBench_self, hb]
    rfl

theorem benchClearDone_of_not_zero {n : Nat} {b : Bench} {s : State} (hb : benchOf s n = some b) (hst : b.st ≠ .zero) :
    benchClearDone n s = s := by
  unfold benchClearDone
  rw [hb]
  exact if_pos hst

/-! ### Turns of the hash unit -/

theorem shell_syncHash {s : State} {r : Rr} : shell { s with bne := { s.bne with hashRr := r } } =
    { shell s with bne := { (shell s).bne with hashRr := r } } := rfl

theorem shell_benchWait {id : Nat} {s : State} : shell (benchWait id s) = shell s := by
  unfold benchWait
  split
  · rfl
  · split
    · exact shell_stopJob
    · split
      · exact shell_stopJob
      · exact shell_updJob fun _ => rfl

theorem hashBytes_of_shell {s t : State} (h : shell t = shell s) : t.bne.hashBytes = s.bne.hashBytes :=
  (congrArg (fun x : State => x.bne.hashBytes) h :)

theorem shell_issueResult {id : Nat} {bytes : List Byte} {status : BitVec 8} {s : State} :
    shell (issueResult id bytes status s) = shell s := shell_issueWrite.trans (shell_updJob fun _ => rfl)

theorem hashBytes_digestDone {id : Nat} {r : SrcRead} {d : List Byte} {s : State} :
    (digestDone id r d s).bne.hashBytes = s.bne.hashBytes := by
  unfold digestDone
  dsimp only
  split
  · exact (hashBytes_of_shell shell_issueResult).trans rfl
  · exact (hashBytes_of_shell shell_fetchRun).trans rfl
  · exact (hashBytes_of_shell shell_fetchRun).trans rfl
  · split
    · exact (hashBytes_of_shell shell_fetchRun).trans rfl
    · exact (hashBytes_of_shell shell_benchWait).trans rfl

theorem mem_of_argMin {α : Type} {key : α → Nat} {l : List α} {x : α} (h : argMin key l = some x) : x ∈ l := by
  induction l generalizing x with
  | nil => cases h
  | cons y l ih =>
    unfold argMin at h
    split at h
    · exact Option.some.inj h ▸ List.mem_cons_self
    next z hz =>
      split at h
      · exact Option.some.inj h ▸ List.mem_cons_of_mem y (ih hz)
      · exact Option.some.inj h ▸ List.mem_cons_self

/-- What a turn of the hash unit shows (R216). -/
theorem hashTurnDone_turns {s : State} {q : ReqId} {j : Job} {r : SrcRead} (hh : halted s = false)
    (hq : rrHead (syncHash s).bne.hashRr = some q)
    (hj : argMin (·.got) ((syncHash s).job.jobs.filter (fun j => hashReady j && decide (j.req = q))) = some j) (hr : j.read = some r) :
    let n := min (r.got.length - j.got) (weightOf s q * 65536)
    (hashTurnDone s).bne.hashBytes =
        s.bne.hashBytes + BitVec.ofNat 32 (n + (if j.got = 0 then (hashPrefix j r.what).length else 0)) ∧
      (j.got + n ≠ r.total → (jobOf (hashTurnDone s) j.id).map (·.got) = some (j.got + n)) := by
  dsimp only
  have hmem : j ∈ s.job.jobs := List.mem_of_mem_filter (mem_of_argMin hj)
  have hweight : weightOf (syncHash s) q = weightOf s q := rfl
  unfold hashTurnDone
  rw [if_neg (by rw [hh]; decide)]
  dsimp only
  rw [hq]
  dsimp only
  rw [hj]
  dsimp only
  rw [hr]
  dsimp only
  rw [hweight]
  generalize min (r.got.length - j.got) (weightOf s q * 65536) = n
  split
  next hend => exact ⟨hashBytes_digestDone, fun hne => absurd hend hne⟩
  next hend =>
    refine ⟨rfl, fun _ => ?_⟩
    obtain ⟨k, hk⟩ := Option.isSome_iff_exists.mp (List.find?_isSome.mpr ⟨j, hmem, decide_eq_true rfl⟩ : (jobOf s j.id).isSome = true)
    have hk' : ∀ x, jobOf { syncHash s with bne := x } j.id = some k := fun _ => hk
    rw [jobOf_updJob_some (fun _ => by rfl) (hk' _)]
    rfl

/-! ### Verdicts -/

section
variable {n : Nat} {b : Bench} {j : Job} {s : State} (hb : benchOf s n = some b) (hbj : b.job = some j.id)
  (hj : jobOf s j.id = some j) (hstop : j.stop = none)
include hb hbj hj hstop

/-- A job that ends on its bench: its record, and the bench that clears. -/
theorem verdictEnd_ends (status : BitVec 8) (count : Nat) (confirmed : Bool) :
    (benchOf (verdictEnd n j.id status count confirmed s) n).map (fun x => (x.st, x.job)) = some (.zero, none) ∧
      (jobOf (verdictEnd n j.id status count confirmed s) j.id).map (fun x => (x.stop, x.count, x.confirmed)) =
        some (some status, count, confirmed) := by
  have hset := jobOf_updJob_some (f := fun x : Job => { x with count := count, confirmed := confirmed }) (fun _ => rfl) hj
  have hend : benchEnd n (updJob j.id (fun x => { x with count := count, confirmed := confirmed }) s) =
      updJob j.id (fun x => { x with bench := none }) (updBench n (fun x => { x with
        st := .zero, job := none, phase := 6
        zeroAll := wholeClear (updJob j.id (fun x => { x with count := count, confirmed := confirmed }) s) j.id })
        (updJob j.id (fun x => { x with count := count, confirmed := confirmed }) s)) := by
    have hb' : benchOf (updJob j.id (fun x => { x with count := count, confirmed := confirmed }) s) n = some b := hb
    rw [benchEnd, hb']
    dsimp only
    rw [hbj]
  have hbench := (benchOf_updBench_self (n := n) (f := fun x : Bench => { x with
        st := .zero, job := none, phase := 6
        zeroAll := wholeClear (updJob j.id (fun x => { x with count := count, confirmed := confirmed }) s) j.id })
        (s := updJob j.id (fun x => { x with count := count, confirmed := confirmed }) s)).trans (congrArg (Option.map _) hb)
  have hjob := jobOf_updJob_some (f := fun x : Job => { x with bench := none }) (s := updBench n (fun x => { x with
        st := .zero, job := none, phase := 6
        zeroAll := wholeClear (updJob j.id (fun x => { x with count := count, confirmed := confirmed }) s) j.id })
        (updJob j.id (fun x => { x with count := count, confirmed := confirmed }) s)) (fun _ => rfl) hset
  unfold verdictEnd
  rw [hend]
  generalize hu : updBench n _ _ = u at hbench hjob
  have hbench' : benchOf (updJob j.id (fun x => { x with bench := none }) u) n = _ := hbench
  constructor
  · rcases benchOf_stopJob (id := j.id) (n := n) (status := status) (why := none)
      (s := updJob j.id (fun x => { x with bench := none }) u) with h | ⟨whole, h⟩
    · rw [h, hbench']
      rfl
    · rw [h, hbench']
      rfl
  · have hface := congrArg (Option.map fun x : Job => (x.stop, x.count, x.confirmed))
      (jobOf_stopJob (status := status) (why := none) hjob hstop)
    rw [Option.map_map] at hface
    exact hface

theorem mismatch_ends :
    (benchOf (mismatch n j.id s) n).map (fun x => (x.st, x.job)) = some (.zero, none) ∧
      (jobOf (mismatch n j.id s) j.id).map (fun x => (x.stop, x.count, x.confirmed)) = some (some vMismatch, 0, false) := by
  obtain ⟨hbench, hjob⟩ := verdictEnd_ends hb hbj hj hstop vMismatch 0 false
  unfold mismatch
  rw [hb]
  dsimp only
  generalize verdictEnd n j.id vMismatch 0 false s = u at *
  refine ⟨?_, ?_⟩
  · rw [benchOf_of_bne post_bne, benchOf_updBench_self, Option.map_map]
    exact hbench
  · rw [jobOf_congr post_job]
    exact hjob

theorem benchVerdict_verify {agree : Bool} (hst : b.st = .busy) (hop : j.op = 0x20) (hread : j.read = none) (hnext : nextRead j = none) :
    (benchOf (benchVerdict n agree s) n).map (fun x => (x.st, x.job)) = some (.zero, none) ∧
      (jobOf (benchVerdict n agree s) j.id).map (fun x => (x.stop, x.count, x.confirmed)) =
        some (if verifyCode j ≠ vPass then (some (verifyCode j), 1, false)
          else if agree then (some stOk, 1, true) else (some vMismatch, 0, false)) := by
  have hverify : benchVerdict n agree s = verifyVerdict n j.id j agree s := by
    have hbind : b.job.bind (jobOf s) = some j := by rw [hbj]; exact hj
    unfold benchVerdict
    rw [hb]
    dsimp only
    rw [hbind]
    dsimp only
    rw [if_neg (by simp [hst, hstop, hread, hnext]), if_pos hop]
  rw [hverify, verifyVerdict]
  split
  next hpass =>
    rw [if_neg (not_not.mpr hpass)]
    cases agree with
    | true => exact verdictEnd_ends hb hbj hj hstop stOk 1 true
    | false => exact mismatch_ends hb hbj hj hstop
  next =>
    exact verdictEnd_ends hb hbj hj hstop _ 1 false

end

/-- Settles O45: a start puts its job on the bench that was picked and what it fetches keeps it there, a verdict ends the job with its code,
and a turn counts the bytes that it absorbs. -/
theorem benchJobs : Obligations.BenchJobs := by
  intro s hup
  have hrun := running_of_upAnd hup
  refine ⟨fun j n hh hpick => effects_of_act exec_benchJobStart hrun (benchJobStart_onBench hh hpick),
    fun n b j agree hb hst hbj hj hop hstop hread hnext => effects_of_act exec_benchVerdict hrun ?_, fun n b hb => ⟨fun hst => ?_, fun hst => ?_⟩,
    fun q j r hh hq hj hr => effects_of_act exec_hashTurnDone hrun (hashTurnDone_turns hh hq hj hr)⟩
  · exact benchVerdict_verify hb hbj hj hstop hst hop hread hnext
  · exact effects_of_act exec_benchClearDone hrun (benchClearDone_clears hb hst)
  · exact next_of_act_same hrun exec_benchClearDone (benchClearDone_of_not_zero hb hst)

end Sys2Proof.Machine

/-! PROOFS. Grants of queues (R138, R139, R14, R152). -/

namespace Sys2Proof.Machine

/-! ### The consumers that wait, while words move -/

/-- The consumers that wait on each queue. -/
def waitLists (s : State) : List (List Waiter) := s.stk.queues.map (·.waits)

theorem waits_of_waitLists {s t : State} (h : waitLists t = waitLists s) (q : Nat) :
    (queueOf t q).map (·.waits) = (queueOf s q).map (·.waits) := by
  have hq := congrArg (fun l : List (List Waiter) => l[q]?) h
  simp only [waitLists, List.getElem?_map] at hq
  exact hq

theorem waitLists_of_stk {s t : State} (h : t.stk = s.stk) : waitLists t = waitLists s := by rw [waitLists, h, waitLists]

theorem waitLists_updQ_at {q : Nat} {f : DQueue → DQueue} {s : State} (h : ∀ d, queueOf s q = some d → (f d).waits = d.waits) :
    waitLists (updQ q f s) = waitLists s := map_upd_at h

theorem waitLists_updQ {q : Nat} {f : DQueue → DQueue} {s : State} (h : ∀ d, (f d).waits = d.waits) : waitLists (updQ q f s) = waitLists s :=
  waitLists_updQ_at fun d _ => h d

theorem waitLists_foldl {α : Type} {g : State → α → State} {l : List α} {s : State} (h : ∀ u x, waitLists (g u x) = waitLists u) :
    waitLists (l.foldl g s) = waitLists s := by
  induction l generalizing s with
  | nil => rfl
  | cons x l ih => exact ih.trans (h s x)

theorem waitLists_watermarkEvent {q : Nat} {high : Bool} {s : State} : waitLists (watermarkEvent q high s) = waitLists s := by
  unfold watermarkEvent
  split
  · rfl
  · dsimp only
    rw [apply_ite waitLists, waitLists_of_stk post_stk, waitLists_updQ fun _ => by rfl, ite_self]

theorem waitLists_relevel {q : Nat} {f : DQueue → DQueue} {s : State} (h : ∀ d, (f d).waits = d.waits) :
    waitLists (relevel q f s) = waitLists s := by
  have hev : ∀ (b high : Bool) (u : State), waitLists (onlyIf b (watermarkEvent q high) u) = waitLists u := fun b high u => by
    cases b
    · rfl
    · exact waitLists_watermarkEvent
  unfold relevel
  split
  · rfl
  next d hd =>
    refine (hev _ _ _).trans ((hev _ _ _).trans (waitLists_updQ_at fun x hx => ?_))
    obtain rfl : d = x := Option.some.inj (hd.symm.trans hx)
    exact h d

theorem waitLists_toFlight {refs : List (Nat × Nat)} {s : State} : waitLists (toFlight refs s) = waitLists s := by
  unfold toFlight
  refine Eq.trans (waitLists_foldl fun _ _ => ?_) (Eq.refl (waitLists s))
  exact waitLists_relevel fun _ => rfl

theorem waitLists_finishSlots {refs : List (Nat × Nat)} {s : State} : waitLists (finishSlots refs s) = waitLists s :=
  waitLists_foldl fun _ _ => waitLists_relevel fun _ => rfl

theorem waitLists_passWords {ws : List AWord} {s : State} : waitLists (passWords ws s) = waitLists s :=
  waitLists_finishSlots.trans (Eq.trans rfl waitLists_toFlight)

theorem waitLists_syncQ {q : Nat} {s : State} : waitLists (syncQ q s) = waitLists s := waitLists_updQ fun _ => rfl

/-! ### Words that pass to a consumer -/

theorem passWords_delivered {ws : List AWord} {s : State} :
    (passWords ws s).tal.books.delivered = s.tal.books.delivered + BitVec.ofNat 64 ws.length := by
  have hfly : (toFlight (awRefs ws) s).tal.books.delivered = s.tal.books.delivered :=
    delivered_of_shell (shell_of_outer outer_toFlight)
  unfold passWords
  rw [deliverWords_tal, ← hfly]
  rfl

theorem outer_ageScrub {q : Nat} {s : State} : outer (ageScrub q s) = outer s := by
  unfold ageScrub
  split
  · rfl
  · split
    · rw [outer_updQ, outer_kerfQueue]
    · rfl

theorem outer_readWords_good {q key fuel : Nat} {s : State} : outer (readWords q key fuel [] s) = outer s := by
  induction fuel generalizing s with
  | zero => rfl
  | succ fuel ih =>
    unfold readWords
    split
    · split
      · rfl
      · split
        · rfl
        · exact ih
    · rfl

theorem length_wordsToBytes (ws : List Word) : (wordsToBytes ws).length = 8 * ws.length := by
  induction ws with
  | nil => rfl
  | cons w ws ih =>
    have hw : (bytesLE 8 w.toNat).length = 8 := by simp [bytesLE]
    rw [wordsToBytes, List.flatMap_cons, List.length_append, hw, ← wordsToBytes, ih, List.length_cons]
    omega

/-! ### Grants -/

theorem grantAllot_of_halted {q : Nat} {e : GrantEcc} {s : State} (h : halted s = true) : grantAllot q e s = s := by
  unfold grantAllot
  exact if_pos h

section
variable {q : Nat} {d : DQueue} {w : Waiter} {s : State} (hh : halted s = false) (hd : queueOf (syncQ q (ageScrub q s)) q = some d)
  (hw : nextWaiter (syncQ q (ageScrub q s)) q d = some w)
include hh hd hw

/-- A grant for which too few words are there. -/
theorem grantAllot_underruns {e : GrantEcc} (hfew : d.st ≠ .on ∨ unallotted d + w.held.length < w.need) :
    (queueOf (grantAllot q e s) q).map (fun x => (x.underrun, x.waits)) = some (true, d.waits) ∧
      (grantAllot q e s).tal.books.delivered = s.tal.books.delivered := by
  unfold grantAllot
  rw [if_neg (by rw [hh]; decide)]
  dsimp only
  rw [hd]
  dsimp only
  rw [hw]
  dsimp only
  rw [if_pos hfew, queueOf_updQ_self, hd]
  exact ⟨rfl, delivered_of_shell (shell_of_outer outer_ageScrub)⟩

/-- The state in which a complete grant has been taken from the queue. -/
def grantTaken (q : Nat) (w v : Waiter) (s t : State) : State :=
  updQ q (fun x => { x with rr := rrUse (weightOf s v.req) x.rr, waits := x.waits.filter (fun y => decide (y.key ≠ w.key)) }) t

theorem grantAllot_completes {v : Waiter} (hon : d.st = .on) (hneed : w.need ≤ unallotted d) (hheld : w.held = [])
    (hv : waitOf (readWords q w.key (d.ents.length + 1) [] (syncQ q (ageScrub q s))) q w.key = some v) (hlen : v.held.length = v.need) :
    grantAllot q [] s = syncQ q (giveWords v v.held
      (grantTaken q w v s (readWords q w.key (d.ents.length + 1) [] (syncQ q (ageScrub q s))))) := by
  unfold grantAllot
  rw [if_neg (by rw [hh]; decide)]
  dsimp only
  rw [hd]
  dsimp only
  rw [hw]
  dsimp only
  rw [if_neg (by rw [hheld]; simp [hon]; omega), hv]
  dsimp only
  rw [if_neg (by omega)]
  rfl

section
variable {a : Acc} {len : Nat} {v : Waiter} (hon : d.st = .on) (hneed : w.need ≤ unallotted d) (hheld : w.held = [])
  (hwhat : v.what = .read a len) (ha : a.path = .core)
  (hv : waitOf (readWords q w.key (d.ents.length + 1) [] (syncQ q (ageScrub q s))) q w.key = some v)
include hon hneed hheld hwhat ha hv

/-- A complete grant answers the read of the control core with its words. -/
theorem grantAllot_answers (hlen : v.held.length = v.need) : grantAllot q [] s =
    syncQ q (coreAnswer 0 ((wordsToBytes (v.held.map (·.v))).take len) (decide (awMarked v.held ≠ 0)) (passWords v.held
      (grantTaken q w v s (readWords q w.key (d.ents.length + 1) [] (syncQ q (ageScrub q s)))))) := by
  rw [grantAllot_completes hh hd hw hon hneed hheld hv hlen, giveWords, hwhat]
  dsimp only
  unfold endRead readDone
  rw [ha]
  rfl

theorem grantAllot_data (hlen : v.held.length = v.need) :
    (grantAllot q [] s).core.data = (wordsToBytes (v.held.map (·.v))).take len := by
  rw [grantAllot_answers hh hd hw hon hneed hheld hwhat ha hv hlen]
  rfl

theorem grantAllot_reads (hle : len ≤ 8 * w.need) (hvl : v.held.length = w.need) (hvn : v.need = w.need) :
    (grantAllot q [] s).core.waiting = false ∧ (grantAllot q [] s).core.status = 0 ∧ (grantAllot q [] s).core.data.length = len ∧
      (grantAllot q [] s).tal.books.delivered = s.tal.books.delivered + BitVec.ofNat 64 w.need ∧
      (queueOf (grantAllot q [] s) q).map (fun x => x.waits.any (fun y => decide (y.key = w.key))) = some false := by
  rw [grantAllot_answers hh hd hw hon hneed hheld hwhat ha hv (hvl.trans hvn.symm)]
  have hout : outer (readWords q w.key (d.ents.length + 1) [] (syncQ q (ageScrub q s))) = outer s :=
    outer_readWords_good.trans (outer_syncQ.trans outer_ageScrub)
  generalize readWords q w.key (d.ents.length + 1) [] (syncQ q (ageScrub q s)) = t at *
  obtain ⟨x, hx⟩ : ∃ x, queueOf t q = some x := by
    cases hx : queueOf t q with
    | none => rw [waitOf, hx] at hv; cases hv
    | some x => exact ⟨x, rfl⟩
  refine ⟨rfl, rfl, ?_, ?_, ?_⟩
  · show ((wordsToBytes (v.held.map (·.v))).take len).length = len
    rw [List.length_take, length_wordsToBytes, List.length_map, hvl]
    omega
  · show (passWords v.held (grantTaken q w v s t)).tal.books.delivered = _
    rw [passWords_delivered, hvl, show (grantTaken q w v s t).tal = t.tal from rfl, delivered_of_shell (shell_of_outer hout)]
  · have hwaits : (queueOf (syncQ q (coreAnswer 0 ((wordsToBytes (v.held.map (·.v))).take len) (decide (awMarked v.held ≠ 0))
        (passWords v.held (grantTaken q w v s t)))) q).map (·.waits) = some (x.waits.filter (fun y => decide (y.key ≠ w.key))) := by
      have hpass := waits_of_waitLists (waitLists_passWords (ws := v.held) (s := grantTaken q w v s t)) q
      rw [waits_of_waitLists waitLists_syncQ]
      refine hpass.trans ?_
      rw [grantTaken, queueOf_updQ_self, hx]
      rfl
    have hany := congrArg (Option.map fun l : List Waiter => l.any (fun y => decide (y.key = w.key))) hwaits
    rw [Option.map_map] at hany
    refine hany.trans (congrArg some ?_)
    rw [List.any_eq_false]
    intro y hy
    simpa using (List.mem_filter.mp hy).2

end

end

/-- Settles O37: a grant without enough words sets the flag alone, and one that its words complete is answered and leaves the queue. -/
theorem grantAllotted : Obligations.GrantAllotted := by
  intro s q hup
  have hrun := running_of_upAnd hup
  refine ⟨fun e hh => next_of_act_same hrun exec_grantAllot (grantAllot_of_halted hh), fun d w e hh hd hw => ⟨fun hfew => ?_,
    fun a len v hon hneed hheld hwhat ha _ hle hv hvl hvn hvw => ?_⟩⟩
  · exact effects_of_act exec_grantAllot hrun (grantAllot_underruns hh hd hw hfew)
  · exact effects_of_act exec_grantAllot hrun (grantAllot_reads hh hd hw hon hneed hheld (hvw.trans hwhat) ha hv hle hvl hvn)

end Sys2Proof.Machine

/-! PROOFS. Control instructions and words that are no instruction, as the parser takes them (R157, R158, R162, R163, R191, R193). -/

namespace Sys2Proof.Machine

/-! ### One requester's stream -/

theorem req_of_streamOf {r : ReqId} {x : Stream} {s : State} (h : streamOf s r = some x) : x.req = r := by
  unfold streamOf at h
  simpa using List.find?_some h

/-- The stream of a requester, the only one that it has. -/
structure Sole (s : State) (r : ReqId) (x : Stream) : Prop where
  unique : streamsUnique s = true
  stream : streamOf s r = some x

/-- A stream that is not forgotten: it has words, or something waits in it. -/
def streamKept (x : Stream) : Bool := !x.words.isEmpty || x.discard.isSome || x.atHead.isSome || !x.fences.isEmpty

theorem streams_syncParser {s : State} : (syncParser s).job.streams = s.job.streams.filter streamKept := rfl

theorem unique_syncParser {s : State} (h : streamsUnique s = true) : streamsUnique (syncParser s) = true := by
  have hnd : (s.job.streams.map (·.req)).Nodup := of_decide_eq_true h
  exact decide_eq_true (hnd.sublist (List.Sublist.map _ List.filter_sublist))

/-- A requester's stream after the streams without content have been forgotten. -/
theorem streamOf_syncParser {r : ReqId} {x : Stream} {s : State} (h : Sole s r x) :
    streamOf (syncParser s) r = if streamKept x then some x else none := by
  split
  next hk => exact find?_filter_of_kept h.stream hk
  next hk =>
    have hnd : (s.job.streams.map (·.req)).Nodup := of_decide_eq_true h.unique
    show (s.job.streams.filter streamKept).find? _ = none
    rw [List.find?_eq_none]
    intro y hy
    obtain ⟨hmem, hky⟩ := List.mem_filter.mp hy
    have hxr : x.req = r := req_of_streamOf h.stream
    intro hyr
    have hyx : y = x := List.inj_on_of_nodup_map hnd hmem (List.mem_of_find?_eq_some h.stream) ((of_decide_eq_true hyr).trans hxr.symm)
    rw [hyx] at hky
    exact hk hky

theorem Sole.syncParser {r : ReqId} {x : Stream} {s : State} (h : Sole s r x) (hk : streamKept x = true) : Sole (syncParser s) r x :=
  ⟨unique_syncParser h.unique, by rw [streamOf_syncParser h, if_pos hk]⟩

theorem Sole.updStream {r : ReqId} {x : Stream} {s : State} {f : Stream → Stream} (h : Sole s r x) (hf : ∀ y, (f y).req = y.req) :
    Sole (updStream r f s) r (f x) := by
  refine ⟨?_, by rw [streamOf_updStream_self hf, h.stream]; rfl⟩
  have hreq : ∀ y : Stream, (if y.req = r then f y else y).req = y.req := fun y => by
    split
    · exact hf y
    · rfl
  have hlist : (Machine.updStream r f s).job.streams.map (·.req) = s.job.streams.map (·.req) := by
    show (s.job.streams.map _).map _ = _
    rw [List.map_map]
    exact List.map_congr_left fun y _ => hreq y
  unfold streamsUnique
  rw [hlist]
  exact h.unique

/-- A new job leaves the streams alone. -/
theorem Sole.addJob {r : ReqId} {x : Stream} {s : State} {j : Job} (h : Sole s r x) : Sole (addJob j s) r x := ⟨h.unique, h.stream⟩

theorem jobs_addJob {j : Job} {s : State} : (addJob j s).job.jobs = s.job.jobs ++ [j] := rfl

/-! ### The parser's turn -/

/-- The parser's turn of the stream that it comes to is used. -/
def turnUsed (r : ReqId) (s : State) : State := { s with job := { s.job with rr := rrUse (weightOf s r) s.job.rr } }

section
variable {s : State} {r : ReqId} {x : Stream} {h : SWord} {t : List SWord} (hp : parserAt s r x h t)
include hp

theorem words_of_parserAt : ∃ l, x.words = h :: l := by
  obtain ⟨-, -, -, -, -, -, hnext⟩ := hp
  unfold nextWords at hnext
  cases hw : x.words with
  | nil => rw [hw] at hnext; cases hnext
  | cons y l =>
    rw [hw] at hnext
    cases hn : instrLen ((List.head? (y :: l)).map (·.w) |>.getD 0) with
    | zero => rw [hn] at hnext; cases hnext
    | succ n =>
      rw [hn] at hnext
      obtain ⟨rfl, -⟩ := List.cons.inj hnext
      exact ⟨l, rfl⟩

theorem sole_of_parserAt : Sole (syncParser s) r x := by
  obtain ⟨l, hl⟩ := words_of_parserAt hp
  obtain ⟨-, -, -, hu, -, hs, -⟩ := hp
  exact (Sole.mk hu hs).syncParser (by simp [streamKept, hl])

/-- A row of the parser whose test the head word meets takes the instruction. -/
theorem parseIf_eq {p : Word → Bool} (hh : p h.w = true) :
    parseIf p s = syncParser (turnUsed r (parseOne r (syncParser s))) := by
  obtain ⟨l, hl⟩ := words_of_parserAt hp
  have hsole := sole_of_parserAt hp
  obtain ⟨-, hhalt, hstop, -, hrr, hs, -⟩ := hp
  have hreq : x.req = r := req_of_streamOf hs
  unfold parseIf
  rw [if_neg (by simp [hhalt, hstop])]
  dsimp only
  rw [hrr, Option.bind_some, hsole.stream]
  dsimp only
  rw [hl]
  dsimp only
  rw [if_pos hh, hreq]
  rfl

end

/-- What is left of a turn: the stream, unless nothing is left in it, and the jobs. -/
theorem turn_leaves {r : ReqId} {y : Stream} {s : State} (h : Sole s r y) :
    streamOf (syncParser (turnUsed r s)) r = (if streamKept y then some y else none) ∧
      (syncParser (turnUsed r s)).job.jobs = s.job.jobs :=
  ⟨streamOf_syncParser (s := turnUsed r s) ⟨h.unique, h.stream⟩, rfl⟩

/-- The words left in a stream, forgotten or not. -/
theorem buffered_of_left {r : ReqId} {y : Stream} {u : State} (h : streamOf u r = if streamKept y then some y else none) :
    buffered u r = y.words.length := by
  unfold buffered
  rw [h]
  split
  · rfl
  next hk =>
    have : y.words = [] := by
      simp only [streamKept, Bool.or_eq_true, not_or, Bool.not_eq_true'] at hk
      simpa using hk.1.1.1
    rw [this]
    rfl

theorem fences_of_left {r : ReqId} {y : Stream} {u : State} (h : streamOf u r = if streamKept y then some y else none) :
    ((streamOf u r).map (·.fences)).getD [] = y.fences := by
  rw [h]
  split
  · rfl
  next hk =>
    have : y.fences = [] := by
      simp only [streamKept, Bool.or_eq_true, not_or, Bool.not_eq_true'] at hk
      simpa using hk.2
    rw [this]
    rfl

theorem atHead_of_left {r : ReqId} {y : Stream} {u : State} (h : streamOf u r = if streamKept y then some y else none)
    (hy : y.atHead = none) : (streamOf u r).bind (·.atHead) = none := by
  rw [h]
  split
  · exact hy
  · rfl

/-! ### Records of the program -/

/-- A program record among the jobs of the engine. -/
def HasProgram (r : ReqId) (n : Nat) (l : List Job) : Prop :=
  ∃ j ∈ l, j.prog = true ∧ j.req = r ∧ j.tag = 0xFFF ∧ j.stop = some stBadInstr ∧ j.count = n

theorem hasProgram_progRecord {r : ReqId} {path : Path} {n : Nat} {s : State} : HasProgram r n (progRecord r path n s).job.jobs :=
  ⟨_, List.mem_append_right _ (List.mem_singleton.mpr rfl), rfl, rfl, rfl, rfl, rfl⟩

theorem HasProgram.append {r : ReqId} {n : Nat} {l m : List Job} (h : HasProgram r n l) : HasProgram r n (l ++ m) := by
  obtain ⟨j, hj, hrest⟩ := h
  exact ⟨j, List.mem_append_left _ hj, hrest⟩

theorem Sole.progRecord {r q : ReqId} {path : Path} {n : Nat} {x : Stream} {s : State} (h : Sole s r x) :
    Sole (progRecord q path n s) r x := h.addJob

theorem dropAt_of_none {r : ReqId} {x : Stream} {s : State} (h : Sole s r x) (ha : x.atHead = none) : dropAt r s = s := by
  unfold dropAt
  rw [h.stream]
  exact if_neg (by rw [ha]; decide)

theorem dropAt_of_some {r : ReqId} {x : Stream} {w : BitVec 32} {s : State} (h : Sole s r x) (ha : x.atHead = some w) :
    dropAt r s = progRecord r x.atPath 1 (Machine.updStream r (fun y => { y with atHead := none }) s) := by
  unfold dropAt
  rw [h.stream]
  exact if_pos (by rw [ha]; rfl)

/-! ### One instruction -/

/-- The stream without the words of an instruction. -/
def taken (n : Nat) (x : Stream) : Stream := { x with words := x.words.drop n }

section
variable {s : State} {r : ReqId} {x : Stream} {h : SWord} {t : List SWord} (hs : Sole s r x) (hn : nextWords x = h :: t)
include hs hn

omit hn in
theorem sole_taken : Sole (updStream r (taken (t.length + 1)) s) r (taken (t.length + 1) x) := hs.updStream fun _ => rfl

theorem parseOne_control (hk : isControl (hOp h.w) = true) : parseOne r s =
    (let s2 := dropAt r (updStream r (taken (t.length + 1)) s)
     if controlBad h.w then progRecord r h.path (t.length + 1) s2
     else if hOp h.w = 0x10 then parsePeg r h.w s2
     else if hOp h.w = 0x11 then updStream r (fun y => { y with atHead := some (h.w.setWidth 32), atPath := h.path }) s2
     else s2) := by
  have hknown : knownOp h.w = true := by simp [knownOp, hk]
  unfold parseOne
  rw [hs.stream]
  dsimp only
  rw [hn]
  dsimp only
  rw [if_neg (by rw [hknown]; decide), if_neg (by rw [hk]; simp), if_pos hk]
  rfl

theorem parseOne_unknown (hk : knownOp h.w = false) : parseOne r s =
    discardRun r (updStream r (fun y => { y with discard := some 0, discardPath := h.path, words := x.words })
      (dropAt r (updStream r (taken (t.length + 1)) s))) := by
  unfold parseOne
  rw [hs.stream]
  dsimp only
  rw [hn]
  dsimp only
  rw [if_pos (by rw [hk]; rfl)]
  rfl

theorem parseOne_fullTag (hk : knownOp h.w = true) (hc : isControl (hOp h.w) = false) (htag : hTag h.w = 0xFFF) : parseOne r s =
    progRecord r h.path (t.length + 1) (dropAt r (updStream r (taken (t.length + 1)) s)) := by
  unfold parseOne
  rw [hs.stream]
  dsimp only
  rw [hn]
  dsimp only
  rw [if_neg (by rw [hk]; decide), if_pos ⟨htag, by rw [hc]; rfl⟩]
  rfl

end

/-! ### O41 -/

theorem instrLen_of_control {h : Word} (hc : isControl (hOp h) = true) : instrLen h = 1 := by
  have hop : hOp h = 0x10 ∨ hOp h = 0x11 ∨ hOp h = 0x3F := by simpa [isControl, or_assoc] using hc
  unfold instrLen jobWords
  rcases hop with h | h | h <;> rw [h] <;> rfl

/-- What a control instruction leaves in its stream. -/
theorem length_of_control {x : Stream} {h : SWord} {t : List SWord} (hn : nextWords x = h :: t) (hc : isControl (hOp h.w) = true) :
    t = [] := by
  unfold nextWords at hn
  cases hw : x.words with
  | nil => rw [hw] at hn; cases hn
  | cons y l =>
    rw [hw] at hn
    have hy : y = h := by
      cases hlen : instrLen ((List.head? (y :: l)).map (·.w) |>.getD 0) with
      | zero => rw [hlen] at hn; cases hn
      | succ n => rw [hlen] at hn; exact (List.cons.inj hn).1
    subst hy
    have hone : instrLen ((List.head? (y :: l)).map (·.w) |>.getD 0) = 1 := instrLen_of_control hc
    rw [hone] at hn
    exact (List.cons.inj hn).2.symm

section
variable {s : State} {r : ReqId} {x : Stream} {h : SWord} {t : List SWord} (hp : parserAt s r x h t)
include hp

/-- A row of the parser, by what its instruction leaves. -/
theorem parseIf_effects {c : Instr} {p : Word → Bool} (hexec : exec c s = .next (act (parseIf p) s)) (hh : p h.w = true) {y : Stream}
    {P : State → Prop} (hy : Sole (parseOne r (syncParser s)) r y)
    (hP : ∀ u, streamOf u r = (if streamKept y then some y else none) → u.job.jobs = (parseOne r (syncParser s)).job.jobs → P u) :
    Effects c s P := by
  have hup : upAnd s = true := hp.1
  refine effects_of_act hexec (running_of_upAnd hup) ?_
  rw [parseIf_eq hp hh]
  obtain ⟨hst, hjobs⟩ := turn_leaves hy
  exact hP _ hst hjobs

theorem nextWords_of_parserAt : nextWords x = h :: t := by
  obtain ⟨-, -, -, -, -, -, hn⟩ := hp
  exact hn

/-- An instruction that an AT waited for ends the AT. -/
theorem endMark_drops {w : BitVec 32} (ha : x.atHead = some w) (hop : hOp h.w = 0x3F) (hgood : controlBad h.w = false) :
    Effects .endMark s (fun u => HasProgram r 1 u.job.jobs ∧ (streamOf u r).bind (·.atHead) = none) := by
  have hs := sole_of_parserAt hp
  have hn := nextWords_of_parserAt hp
  have hone := parseOne_control hs hn (by rw [hop]; decide)
  have hdrop := dropAt_of_some (sole_taken (t := t) hs) (w := w) ha
  dsimp only at hone
  rw [hgood, hop, hdrop] at hone
  have hleft : Sole (parseOne r (syncParser s)) r { taken (t.length + 1) x with atHead := none } := by
    rw [hone]
    exact ((sole_taken (t := t) hs).updStream (f := fun y => { y with atHead := none }) fun _ => rfl).progRecord
  refine parseIf_effects hp (exec_endMark ..) (decide_eq_true hop) hleft fun u hst hjobs => ⟨?_, atHead_of_left hst rfl⟩
  rw [hjobs, hone]
  exact hasProgram_progRecord

section
variable (ha : x.atHead = none)
include ha

theorem parseOne_plainControl (hc : isControl (hOp h.w) = true) : parseOne r (syncParser s) =
    (if controlBad h.w then progRecord r h.path (t.length + 1) (updStream r (taken (t.length + 1)) (syncParser s))
     else if hOp h.w = 0x10 then parsePeg r h.w (updStream r (taken (t.length + 1)) (syncParser s))
     else if hOp h.w = 0x11 then
       updStream r (fun y => { y with atHead := some (h.w.setWidth 32), atPath := h.path }) (updStream r (taken (t.length + 1)) (syncParser s))
     else updStream r (taken (t.length + 1)) (syncParser s)) := by
  have hs := sole_of_parserAt hp
  have hone := parseOne_control hs (nextWords_of_parserAt hp) hc
  have hdrop := dropAt_of_none (sole_taken (t := t) hs) ha
  dsimp only at hone
  rw [hdrop] at hone
  exact hone

theorem peg_fences (hgood : controlBad h.w = false) (hop : hOp h.w = 0x10) : Effects .peg s (fun u =>
    buffered u r = x.words.length - 1 ∧
      (s.job.jobs.any (fun j => j.accepted && decide (j.req = r) && decide (j.op ≠ 0x38)) = true →
        (streamOf u r).map (fun y => y.fences) = some (x.fences ++ [⟨pegScope h.w, s.clk.ord⟩])) ∧
      (s.job.jobs.any (fun j => j.accepted && decide (j.req = r) && decide (j.op ≠ 0x38)) = false →
        ((streamOf u r).map (·.fences)).getD [] = x.fences)) := by
  have hs := sole_of_parserAt hp
  have hc : isControl (hOp h.w) = true := by rw [hop]; decide
  have ht : t = [] := length_of_control (nextWords_of_parserAt hp) hc
  have hone := parseOne_plainControl hp ha hc
  rw [hgood, if_neg (by decide), if_pos hop, ht] at hone
  have hsole := sole_taken (t := []) hs
  by_cases hany : s.job.jobs.any (fun j => j.accepted && decide (j.req = r) && decide (j.op ≠ 0x38)) = true
  · rw [parsePeg, if_pos (by exact hany)] at hone
    have hleft : Sole (parseOne r (syncParser s)) r { taken 1 x with fences := x.fences ++ [⟨pegScope h.w, s.clk.ord⟩] } := by
      rw [hone]
      have hf := hsole.updStream (f := fun y => { y with fences := y.fences ++ [⟨pegScope h.w, s.clk.ord⟩] }) fun _ => rfl
      exact ⟨hf.unique, hf.stream⟩
    refine parseIf_effects hp (exec_peg ..) (decide_eq_true hop) hleft fun u hst _ => ⟨?_, fun _ => ?_, fun hno => ?_⟩
    · exact (buffered_of_left hst).trans List.length_drop
    · rw [hst, if_pos (by simp [streamKept])]
      rfl
    · rw [hany] at hno
      cases hno
  · rw [parsePeg, if_neg (by exact hany)] at hone
    have hleft : Sole (parseOne r (syncParser s)) r (taken 1 x) := by
      rw [hone]
      exact hsole
    refine parseIf_effects hp (exec_peg ..) (decide_eq_true hop) hleft fun u hst _ => ⟨?_, fun hyes => absurd hyes hany, fun _ => ?_⟩
    · exact (buffered_of_left hst).trans List.length_drop
    · exact fences_of_left (y := taken 1 x) hst

theorem atInstr_waits (hgood : controlBad h.w = false) (hop : hOp h.w = 0x11) : Effects .atInstr s (fun u =>
    buffered u r = x.words.length - 1 ∧ (streamOf u r).map (·.atHead) = some (some (h.w.setWidth 32))) := by
  have hs := sole_of_parserAt hp
  have hc : isControl (hOp h.w) = true := by rw [hop]; decide
  have ht : t = [] := length_of_control (nextWords_of_parserAt hp) hc
  have hone := parseOne_plainControl hp ha hc
  rw [hgood, if_neg (by decide), if_neg (by rw [hop]; decide), if_pos hop, ht] at hone
  have hleft : Sole (parseOne r (syncParser s)) r { taken 1 x with atHead := some (h.w.setWidth 32), atPath := h.path } := by
    rw [hone]
    exact (sole_taken (t := []) hs).updStream fun _ => rfl
  refine parseIf_effects hp (exec_atInstr ..) (decide_eq_true hop) hleft fun u hst _ => ⟨?_, ?_⟩
  · exact (buffered_of_left hst).trans List.length_drop
  · rw [hst, if_pos (by simp [streamKept])]
    rfl

theorem endMark_idle (hgood : controlBad h.w = false) (hop : hOp h.w = 0x3F) : Effects .endMark s (fun u =>
    buffered u r = x.words.length - 1 ∧ u.job.jobs = s.job.jobs) := by
  have hs := sole_of_parserAt hp
  have hc : isControl (hOp h.w) = true := by rw [hop]; decide
  have ht : t = [] := length_of_control (nextWords_of_parserAt hp) hc
  have hone := parseOne_plainControl hp ha hc
  rw [hgood, if_neg (by decide), if_neg (by rw [hop]; decide), if_neg (by rw [hop]; decide), ht] at hone
  have hleft : Sole (parseOne r (syncParser s)) r (taken 1 x) := by
    rw [hone]
    exact sole_taken (t := []) hs
  refine parseIf_effects hp (exec_endMark ..) (decide_eq_true hop) hleft fun u hst hjobs => ⟨?_, ?_⟩
  · exact (buffered_of_left hst).trans List.length_drop
  · rw [hjobs, hone]
    rfl

/-- A malformed control instruction, or one with the tag of the program, makes a program record. -/
theorem unknownOpcode_records (hk : knownOp h.w = true) (hbad : badHead h.w = true) : Effects .unknownOpcode s (fun u =>
    HasProgram r (nextWords x).length u.job.jobs ∧ buffered u r = x.words.length - (nextWords x).length) := by
  have hs := sole_of_parserAt hp
  have hn := nextWords_of_parserAt hp
  have hone : parseOne r (syncParser s) = progRecord r h.path (t.length + 1) (updStream r (taken (t.length + 1)) (syncParser s)) := by
    cases hc : isControl (hOp h.w) with
    | true =>
      have hcb : controlBad h.w = true := by simpa [badHead, hk, hc] using hbad
      rw [parseOne_plainControl hp ha hc, if_pos hcb]
    | false =>
      have htag : hTag h.w = 0xFFF := by simpa [badHead, hk, hc] using hbad
      rw [parseOne_fullTag hs hn hk hc htag, dropAt_of_none (sole_taken (t := t) hs) ha]
  have hleft : Sole (parseOne r (syncParser s)) r (taken (t.length + 1) x) := by
    rw [hone]
    exact (sole_taken hs).progRecord
  have hlen : (nextWords x).length = t.length + 1 := by rw [hn]; rfl
  refine parseIf_effects hp (exec_unknownOpcode ..) hbad hleft fun u hst hjobs => ⟨?_, ?_⟩
  · rw [hjobs, hone, hlen]
    exact hasProgram_progRecord
  · rw [hlen]
    exact (buffered_of_left hst).trans List.length_drop

/-- An unknown opcode discards the words up to END, or all there are. -/
theorem unknownOpcode_discards (hk : knownOp h.w = false) : Effects .unknownOpcode s (fun u =>
    match x.words.findIdx? (fun w => decide (w.w = 0x3F00000000000000)) with
    | some i => HasProgram r (i + 1) u.job.jobs ∧ buffered u r = x.words.length - (i + 1)
    | none => (streamOf u r).map (fun y => (y.words, y.discard)) = some ([], some x.words.length)) := by
  have hs := sole_of_parserAt hp
  have hn := nextWords_of_parserAt hp
  have hbad : badHead h.w = true := by simp [badHead, hk]
  have hone := parseOne_unknown hs hn hk
  rw [dropAt_of_none (sole_taken (t := t) hs) ha] at hone
  have hsole := (sole_taken (t := t) hs).updStream (f := fun y => { y with discard := some 0, discardPath := h.path, words := x.words })
    fun _ => rfl
  generalize updStream r (fun y => { y with discard := some 0, discardPath := h.path, words := x.words })
    (updStream r (taken (t.length + 1)) (syncParser s)) = v at hone hsole
  unfold discardRun at hone
  rw [hsole.stream] at hone
  dsimp only at hone
  cases hi : x.words.findIdx? (fun w => decide (w.w = 0x3F00000000000000)) with
  | some i =>
    rw [hi] at hone
    dsimp only at hone
    rw [Nat.zero_add] at hone
    have hleft : Sole (parseOne r (syncParser s)) r { taken (t.length + 1) x with
        discard := none, discardPath := h.path, words := x.words.drop (i + 1) } := by
      rw [hone]
      exact (hsole.updStream (f := fun y => { y with words := y.words.drop (i + 1), discard := none }) fun _ => rfl).progRecord
    refine parseIf_effects hp (exec_unknownOpcode ..) hbad hleft fun u hst hjobs => ⟨?_, ?_⟩
    · rw [hjobs, hone]
      exact hasProgram_progRecord
    · exact (buffered_of_left hst).trans List.length_drop
  | none =>
    rw [hi] at hone
    dsimp only at hone
    have hleft : Sole (parseOne r (syncParser s)) r { taken (t.length + 1) x with
        discard := some (0 + x.words.length), discardPath := h.path, words := [] } := by
      rw [hone]
      exact hsole.updStream (f := fun y => { y with words := [], discard := some (0 + y.words.length) }) fun _ => rfl
    refine parseIf_effects hp (exec_unknownOpcode ..) hbad hleft fun u hst _ => ?_
    rw [hst, if_pos (by simp [streamKept]), Nat.zero_add]
    rfl

end

end

/-- Settles O41: the parser's turn drops the instruction's words, and each control instruction then acts on its own stream alone. -/
theorem controlInstructionParsed : Obligations.ControlInstructionParsed := by
  intro s r x h t hp
  refine ⟨fun w ha hop hgood => endMark_drops hp ha hop hgood, fun ha hgood => ⟨fun hop => peg_fences hp ha hgood hop,
    fun hop => atInstr_waits hp ha hgood hop, fun hop => endMark_idle hp ha hgood hop⟩, fun ha hbad => ?_⟩
  cases hk : knownOp h.w with
  | true => exact unknownOpcode_records hp ha hk hbad
  | false => exact unknownOpcode_discards hp ha hk

end Sys2Proof.Machine

/-! PROOFS. What the start and the course of jobs leave of every job, of the streams, of fabric time and of the flash bus. -/

namespace Sys2Proof.Machine

/-! ### The relation -/

/-- What names a job, and how it launched. -/
def jobPass (j : Job) : Nat × Bool × ReqId × BitVec 12 × BitVec 8 × Bool × Option (BitVec 32 × BitVec 8) × Nat :=
  (j.id, j.accepted, j.req, j.tag, j.op, j.late, j.timeFix, j.launched)

/-- A job goes on: it keeps its name, and none is held that was not. -/
def Runs (j k : Job) : Prop := jobPass k = jobPass j ∧ (k.phase = .held → j.phase = .held)

theorem Runs.refl (j : Job) : Runs j j := ⟨rfl, fun h => h⟩

theorem Runs.trans {j k l : Job} (h : Runs j k) (g : Runs k l) : Runs j l := ⟨g.1.trans h.1, h.2 ∘ g.2⟩

/-- A use of the flash bus that reads for a job. -/
def readsForJob (o : XipOp) : Prop := o.write = false ∧ o.what ≠ .raw

/-- Only reads for jobs join the flash bus. -/
def BusGrows (x y : Lsp) : Prop := ∃ l e, y = { x with ops := x.ops ++ l, mstErr := e } ∧ ∀ o ∈ l, readsForJob o

theorem BusGrows.refl (x : Lsp) : BusGrows x x := ⟨[], x.mstErr, by rw [List.append_nil], by simp⟩

theorem BusGrows.trans {x y z : Lsp} (h : BusGrows x y) (g : BusGrows y z) : BusGrows x z := by
  obtain ⟨l, e, rfl, hl⟩ := h
  obtain ⟨m, f, rfl, hm⟩ := g
  refine ⟨l ++ m, f, by simp [List.append_assoc], fun o ho => ?_⟩
  obtain ho | ho := List.mem_append.mp ho
  · exact hl o ho
  · exact hm o ho

/-- The launches that were late, and those that were rejected. -/
def launchCounts (x : Tim) : BitVec 16 × BitVec 16 := (x.launchLate, x.launchRej)

/-- Every job goes on, and the streams, the counts of launches and the flash bus stay, but for reads that jobs ask for. -/
structure Goes (s t : State) : Prop where
  jobs : List.Forall₂ Runs s.job.jobs t.job.jobs
  streams : t.job.streams = s.job.streams
  tim : launchCounts t.tim = launchCounts s.tim
  bus : BusGrows s.lsp t.lsp

theorem forall₂_runs_refl (l : List Job) : List.Forall₂ Runs l l := List.forall₂_same.mpr fun j _ => Runs.refl j

theorem forall₂_runs_trans {a b c : List Job} (h : List.Forall₂ Runs a b) (g : List.Forall₂ Runs b c) : List.Forall₂ Runs a c := by
  induction h generalizing c with
  | nil => exact g
  | cons hd _ ih =>
    obtain ⟨_, _, hd', htl, rfl⟩ := List.forall₂_cons_left_iff.mp g
    exact .cons (hd.trans hd') (ih htl)

theorem Goes.refl (s : State) : Goes s s := ⟨forall₂_runs_refl _, rfl, rfl, .refl _⟩

theorem Goes.trans {s t u : State} (h : Goes s t) (g : Goes t u) : Goes s u :=
  ⟨forall₂_runs_trans h.jobs g.jobs, g.streams.trans h.streams, g.tim.trans h.tim, h.bus.trans g.bus⟩

theorem Goes.after {s t u : State} (g : Goes t u) (h : Goes s t) : Goes s u := h.trans g

theorem Goes.of_same {s t : State} (hj : t.job = s.job) (ht : launchCounts t.tim = launchCounts s.tim) (hl : t.lsp = s.lsp) : Goes s t := by
  refine ⟨?_, by rw [hj], ht, ?_⟩
  · rw [hj]
    exact forall₂_runs_refl _
  · rw [hl]
    exact .refl _

theorem runs_of_face {j k : Job} (h : jobFace k = jobFace j) : Runs j k := by
  have hphase : k.phase = j.phase := (congrArg Job.phase h :)
  exact ⟨(congrArg jobPass h :), fun hk => hphase ▸ hk⟩

theorem Goes.of_outer {s t : State} (h : outer t = outer s) : Goes s t := by
  refine ⟨?_, (congrArg (fun u : State => u.job.streams) h :), (congrArg (fun u : State => launchCounts u.tim) h :), ?_⟩
  · have hfaces : s.job.jobs.map jobFace = t.job.jobs.map jobFace := (congrArg (fun u : State => u.job.jobs) h :).symm
    have hall := List.forall₂_eq_eq_eq ▸ hfaces
    rw [List.forall₂_map_left_iff, List.forall₂_map_right_iff] at hall
    exact hall.imp fun j k hjk => runs_of_face hjk.symm
  · have hlsp : t.lsp = s.lsp := (congrArg State.lsp h :)
    rw [hlsp]
    exact .refl _

theorem Goes.ite {c : Prop} [Decidable c] {s t u : State} (h : Goes s t) (g : Goes s u) : Goes s (if c then t else u) := by
  split
  · exact h
  · exact g

theorem Goes.onlyIf {c : Bool} {f : State → State} {s : State} (h : Goes s (f s)) : Goes s (onlyIf c f s) := .ite h (.refl s)

theorem Goes.foldl {α : Type} {g : State → α → State} {l : List α} {s : State} (h : ∀ u x, Goes u (g u x)) : Goes s (l.foldl g s) := by
  induction l generalizing s with
  | nil => exact .refl s
  | cons x xs ih => exact (h s x).trans ih

theorem goes_updJob {id : Nat} {f : Job → Job} {s : State} (h : ∀ j, Runs j (f j)) : Goes s (updJob id f s) := by
  refine ⟨?_, rfl, rfl, .refl _⟩
  show List.Forall₂ Runs s.job.jobs (s.job.jobs.map _)
  rw [List.forall₂_map_right_iff]
  refine List.forall₂_same.mpr fun j _ => ?_
  split
  · exact h j
  · exact .refl j

theorem Goes.updJob {id : Nat} {f : Job → Job} {s t : State} (hs : Goes s t) (h : ∀ j, Runs j (f j)) : Goes s (updJob id f t) :=
  hs.trans (goes_updJob h)

/-! ### The end of a job -/

theorem goes_releaseUnits {id : Nat} {s : State} : Goes s (releaseUnits id s) := .of_same rfl rfl rfl

theorem goes_ended {id : Nat} {status : BitVec 8} {s : State} : Goes s (ended id status s) :=
  goes_releaseUnits.after (goes_updJob fun _ => ⟨rfl, nofun⟩)

theorem goes_stopJob {id : Nat} {status : BitVec 8} {why : Option WordKerf} {s : State} : Goes s (stopJob id status why s) := by
  by_cases h : ∀ j, jobOf s id = some j → j.stop.isSome = true
  · rw [stopJob_of_stopped h]
    exact .refl s
  · simp only [not_forall] at h
    obtain ⟨j, hj, hs⟩ := h
    exact goes_ended.trans (.of_outer (outer_stopJob hj (by simpa using hs)))

theorem goes_beaconFlushed {id : Nat} {s : State} : Goes s (beaconFlushed id s) := by
  unfold beaconFlushed
  split
  · exact .refl s
  next j =>
    have hcut : ∀ (c : Bool) l gs, Goes s (updJob id (fun x => { x with grants := gs }) (onlyIf c (kerfWords .reject l) s)) := fun c l gs =>
      (Goes.onlyIf (.of_outer outer_kerfWords)).updJob fun _ => ⟨rfl, fun h => h⟩
    dsimp only
    exact .ite ((hcut _ _ _).trans goes_stopJob) ((hcut _ _ _).updJob fun _ => ⟨rfl, fun h => h⟩)

/-! ### Words and reads -/

theorem goes_jobAsk {id : Nat} {s : State} : Goes s (jobAsk id s) := by
  unfold jobAsk
  split
  · exact .refl s
  · dsimp only
    split
    · exact .refl s
    · split
      · exact .refl s
      · split
        · exact .refl s
        · split
          · exact .ite goes_beaconFlushed goes_stopJob
          · have hask : ∀ q w a b, Goes s (addWaiter q w (updJob id (fun x => { x with
                qfirst := a, qord := b, qdone := false, phase := .waiting }) s)) := fun q w a b =>
              (Goes.of_outer outer_addWaiter).after (goes_updJob fun _ => ⟨rfl, nofun⟩)
            exact .ite ((hask _ _ _ _).trans (.of_outer outer_prPlace)) (hask _ _ _ _)

theorem goes_readFailed {id : Nat} {s : State} : Goes s (readFailed id s) := by
  unfold readFailed
  split
  · exact .refl s
  · exact goes_stopJob.after (goes_updJob fun _ => ⟨rfl, fun h => h⟩)

theorem goes_mstErr {b : Nat} {s : State} : Goes s (mstErr b s) := by
  refine ⟨forall₂_runs_refl _, rfl, rfl, [], s.lsp.mstErr ||| BitVec.ofNat 5 (2 ^ b), ?_, by simp⟩
  rw [List.append_nil]
  rfl

theorem goes_issueRead {id : Nat} {s : State} : Goes s (issueRead id s) := by
  unfold issueRead
  split
  · exact .refl s
  · split
    · exact .refl s
    · have hread : ∀ r a b, Goes s (updJob id (fun x => { x with read := r, waitTick := a, waitSlow := b }) s) := fun r a b =>
        goes_updJob fun _ => ⟨rfl, fun h => h⟩
      dsimp only
      split
      · exact .refl s
      · split
        · exact goes_mstErr.trans goes_readFailed
        · split
          · exact (hread _ _ _).trans ⟨forall₂_runs_refl _, rfl, rfl, _, _, rfl, fun o ho => by
              rw [List.mem_singleton.mp ho]
              exact ⟨rfl, nofun⟩⟩
          · exact (hread _ _ _).trans (.of_outer outer_sendRequest)

theorem goes_readKeep {id : Nat} {r : SrcRead} {s : State} : Goes s (readKeep id r s) := by
  unfold readKeep
  dsimp only
  split
  · exact goes_updJob fun _ => ⟨rfl, fun h => h⟩
  · exact goes_updJob fun _ => ⟨rfl, fun h => h⟩
  · exact goes_updJob fun _ => ⟨rfl, fun h => h⟩
  · exact .ite goes_stopJob (goes_updJob fun _ => ⟨rfl, fun h => h⟩)
  · exact goes_updJob fun _ => ⟨rfl, fun h => h⟩
  · exact goes_updJob fun _ => ⟨rfl, fun h => h⟩
  · exact .refl s
  · exact .refl s
  · exact .refl s

theorem goes_readBegin {id : Nat} {what : ReadFor} {addr total : Nat} {s : State} : Goes s (readBegin id what addr total s) := by
  unfold readBegin
  split
  · exact .refl s
  · dsimp only
    split
    · exact goes_updJob fun _ => ⟨rfl, fun h => h⟩
    · split
      · split
        · exact goes_stopJob
        · exact .ite (goes_updJob fun _ => ⟨rfl, fun h => h⟩) goes_stopJob
      · exact .ite (goes_updJob fun _ => ⟨rfl, fun h => h⟩) goes_stopJob

theorem goes_batchGo {id : Nat} {s : State} : Goes s (batchGo id s) := by
  have hdrop : Goes s (prDrop id s) := .of_outer outer_prDrop
  unfold batchGo
  split
  · exact .refl s
  · split
    · exact .refl s
    · split
      · exact .refl s
      · split
        · exact goes_jobAsk.after (goes_updJob fun _ => ⟨rfl, fun h => h⟩)
        · split
          · exact goes_jobAsk
          · dsimp only
            split
            · exact hdrop.trans (goes_jobAsk.after (goes_updJob fun _ => ⟨rfl, fun h => h⟩))
            · exact hdrop.trans ((Goes.of_outer outer_syncAll).after (goes_updJob fun _ => ⟨rfl, nofun⟩))

theorem goes_fetchRun {id fuel : Nat} {s : State} : Goes s (fetchRun id fuel s) := by
  fun_induction fetchRun id fuel s
  case case4 => exact goes_issueRead
  case case5 ih => exact goes_readKeep.trans ih
  case case6 => exact goes_issueRead
  case case7 => exact goes_batchGo
  case case8 ih => exact (ih.after goes_readBegin).after (goes_updJob fun _ => ⟨rfl, fun h => h⟩)
  case case9 => exact goes_updJob fun _ => ⟨rfl, nofun⟩
  case case10 ih => exact goes_readBegin.trans ih
  all_goals exact .refl _

theorem goes_hashNext {n : Nat} {s : State} : Goes s (hashNext n s) := by
  induction n generalizing s with
  | zero => exact .refl s
  | succ n ih =>
    unfold hashNext
    split
    · split
      · exact .refl s
      · exact goes_fetchRun.trans ih
    · exact .refl s

/-! ### The distribution unit -/

theorem goes_permDone {id : Nat} {s : State} : Goes s (permDone id s) := by
  unfold permDone
  split
  · exact .refl s
  · refine Goes.trans ?_ (.of_outer (outer_resultIssue.trans outer_prDrop))
    exact Goes.updJob (.of_same rfl rfl rfl) fun _ => ⟨rfl, nofun⟩

theorem goes_permStart {id : Nat} {s : State} : Goes s (permStart id s) := by
  unfold permStart
  split
  · exact .refl s
  next j =>
    have hbuild : ∀ l n, Goes s (updJob id (fun x => { x with perm := l, permI := n }) { s with stk := { s.stk with building := some id } }) :=
      fun l n => Goes.updJob (.of_same rfl rfl rfl) fun _ => ⟨rfl, fun h => h⟩
    exact .ite ((hbuild _ _).trans goes_permDone) ((hbuild _ _).trans goes_jobAsk)

theorem goes_permNext {n : Nat} {s : State} : Goes s (permNext n s) := by
  induction n generalizing s with
  | zero => exact .refl s
  | succ n ih =>
    unfold permNext
    split
    · exact .refl s
    · split
      · exact .refl s
      · exact goes_permStart.trans ih

end Sys2Proof.Machine

/-! PROOFS. What the sources, the boards and their planes leave alone. -/

namespace Sys2Proof.Machine

/-- Only the sources, planes and books, the health registers, records and their frames, and the mask key are new, and under tamper hold not
even the mask key. -/
def PlanesOnly (s t : State) : Prop :=
  ∃ g p a h c e r k y, t = { s with
    grn := g, pln := p, tal := a, hlt := h, clk := c, evt := e, ring := r, stk := { s.stk with maskKey := k, keyReady := y } } ∧
    (s.sys.tamper = true → k = s.stk.maskKey)

theorem PlanesOnly.intro {s : State} (g : Grn) (p : Pln) (a : Tal) (h : Hlt) (c : Clk) (e : Evt) (r : Ring) :
    PlanesOnly s { s with grn := g, pln := p, tal := a, hlt := h, clk := c, evt := e, ring := r } :=
  ⟨g, p, a, h, c, e, r, s.stk.maskKey, s.stk.keyReady, rfl, fun _ => rfl⟩

theorem PlanesOnly.refl (s : State) : PlanesOnly s s := .intro s.grn s.pln s.tal s.hlt s.clk s.evt s.ring

theorem PlanesOnly.trans {s t u : State} (h : PlanesOnly s t) (g : PlanesOnly t u) : PlanesOnly s u := by
  obtain ⟨g1, p1, a1, h1, c1, e1, r1, k1, y1, rfl, hk1⟩ := h
  obtain ⟨g2, p2, a2, h2, c2, e2, r2, k2, y2, rfl, hk2⟩ := g
  exact ⟨g2, p2, a2, h2, c2, e2, r2, k2, y2, rfl, fun ht => (hk2 ht).trans (hk1 ht)⟩

theorem PlanesOnly.ite {c : Prop} [Decidable c] {s t u : State} (h : PlanesOnly s t) (g : PlanesOnly s u) :
    PlanesOnly s (if c then t else u) := by
  split
  · exact h
  · exact g

theorem PlanesOnly.foldl {α : Type} {g : State → α → State} {l : List α} {s : State} (h : ∀ u x, PlanesOnly u (g u x)) :
    PlanesOnly s (l.foldl g s) := by
  induction l generalizing s with
  | nil => exact .refl s
  | cons x xs ih => exact (h s x).trans ih

theorem planesOnly_updGrn {f : Grn → Grn} {s : State} : PlanesOnly s (updGrn f s) := .intro _ s.pln s.tal s.hlt s.clk s.evt s.ring

theorem planesOnly_updPlane {b : Nat} {f : Plane → Plane} {s : State} : PlanesOnly s (updPlane b f s) :=
  .intro s.grn _ s.tal s.hlt s.clk s.evt s.ring

theorem planesOnly_updBooks {f : Books → Books} {s : State} : PlanesOnly s (updBooks f s) :=
  .intro s.grn s.pln _ s.hlt s.clk s.evt s.ring

theorem planesOnly_post {code idx detail : Nat} {s : State} : PlanesOnly s (post code idx detail s) :=
  .intro s.grn s.pln s.tal s.hlt s.clk _ _

theorem planesOnly_bumpOrd {s : State} : PlanesOnly s (bumpOrd s) := .intro s.grn s.pln s.tal s.hlt _ s.evt s.ring

theorem planesOnly_hlt {h : Hlt} {s : State} : PlanesOnly s { s with hlt := h } := .intro s.grn s.pln s.tal h s.clk s.evt s.ring

theorem planesOnly_raiseFatal {cause idx : Nat} {s : State} : PlanesOnly s (raiseFatal cause idx s) :=
  .ite (.refl s) (planesOnly_hlt.trans planesOnly_post)

/-! ### Planes -/

theorem planesOnly_closeBlock {b : Nat} {s : State} : PlanesOnly s (closeBlock b s) := planesOnly_updPlane.trans planesOnly_bumpOrd

theorem planesOnly_blockCheck {b : Nat} {s : State} : PlanesOnly s (blockCheck b s) := by
  unfold blockCheck
  split
  · exact .ite (.ite planesOnly_closeBlock planesOnly_updPlane) (.refl s)
  · exact .refl s

theorem planesOnly_deliverSample {b pos : Nat} {bit : Bool} {s : State} : PlanesOnly s (deliverSample b pos bit s) := by
  have hwit : PlanesOnly s (takeWitBit b bit s) := planesOnly_updPlane.trans planesOnly_blockCheck
  have hcell : PlanesOnly s (takeCellBit b pos bit s) := (planesOnly_updPlane.trans planesOnly_updBooks).trans planesOnly_blockCheck
  unfold deliverSample
  split
  · exact .refl s
  · split
    · exact .ite hwit hcell
    · exact .ite hwit (.refl s)
    · exact .ite planesOnly_updPlane (.refl s)
    · exact .refl s

theorem planesOnly_startBlock {b : Nat} {s : State} : PlanesOnly s (startBlock b s) := by
  unfold startBlock
  split
  · exact .refl s
  · exact planesOnly_updPlane.trans (.foldl fun _ _ => planesOnly_deliverSample)

theorem planesOnly_bumpDisc {why : CreditKerf} {b : Nat} {s : State} : PlanesOnly s (bumpDisc why b s) := by
  unfold bumpDisc
  split
  · exact planesOnly_hlt
  · exact planesOnly_hlt
  · exact .refl s

theorem planesOnly_kerfBlock {why : CreditKerf} {b : Nat} {s : State} : PlanesOnly s (kerfBlock why b s) := by
  unfold kerfBlock
  split
  · exact .refl s
  · exact (planesOnly_updPlane.trans planesOnly_updBooks).trans planesOnly_bumpDisc

theorem planesOnly_kerfSeed {why : CreditKerf} {b : Nat} {s : State} : PlanesOnly s (kerfSeed why b s) := by
  unfold kerfSeed
  split
  · exact .refl s
  · exact (planesOnly_updPlane.trans planesOnly_updBooks).trans planesOnly_bumpDisc

theorem planesOnly_haltPlane {why : CreditKerf} {b : Nat} {s : State} : PlanesOnly s (haltPlane why b s) := by
  unfold haltPlane
  split
  · exact .refl s
  · exact .ite (.refl s) ((planesOnly_kerfBlock.trans planesOnly_kerfSeed).trans planesOnly_updPlane)

theorem planesOnly_planeOnBoard {b : Nat} {s : State} : PlanesOnly s (planeOnBoard b s) := by
  unfold planeOnBoard
  split
  · exact .refl s
  · split
    · split
      · split
        · exact planesOnly_updPlane
        · exact planesOnly_startBlock
      · exact .refl s
    · exact .ite planesOnly_updPlane (.refl s)
    · exact .refl s

theorem planesOnly_retireBoard {b cause : Nat} {s : State} : PlanesOnly s (retireBoard b cause s) := by
  have hret : ∀ g, PlanesOnly s (haltPlane .retire b (post 0x03 b cause (setSum 3 (updGrn g s)))) := fun g =>
    ((planesOnly_updGrn.trans planesOnly_hlt).trans planesOnly_post).trans planesOnly_haltPlane
  unfold retireBoard
  exact .ite (.refl s) (.ite ((hret _).trans planesOnly_raiseFatal) (hret _))

/-! ### Sources and calibration -/

theorem planesOnly_boardRefresh {left : Bool} {b : Nat} {s : State} : PlanesOnly s (boardRefresh left b s) := by
  obtain h | ⟨st, h⟩ := boardRefresh_cases left b s
  · rw [h]
    exact .refl s
  · rw [h]
    exact planesOnly_updGrn.trans planesOnly_planeOnBoard

theorem planesOnly_keyCheck {s : State} : PlanesOnly s (keyCheck s) := by
  unfold keyCheck
  split
  next h =>
    refine ⟨s.grn, s.pln, s.tal, s.hlt, s.clk, s.evt, s.ring, _, true, rfl, fun ht => ?_⟩
    rw [ht] at h
    simp at h
  · exact .refl s

theorem planesOnly_goSrc {code : Nat} {f : Source → Source} {s : State} : PlanesOnly s (goSrc code f s) :=
  (planesOnly_updGrn.trans planesOnly_boardRefresh).trans planesOnly_keyCheck

/-- A RESTORE's work outside the job engine. -/
theorem calRestoreGroups_keeps {req : ReqId} {groups : BitVec 4} {s : State} :
    ∃ u c n, PlanesOnly { s with cal := c } u ∧
      calRestoreGroups req groups s = post 0x72 req.toNat groups.toNat { u with tim := { u.tim with inc := n } } := by
  have hfold : ∀ c (l : List Nat), PlanesOnly { s with cal := c } (l.foldl (fun t code => calRestart code t) { s with cal := c }) := fun c l =>
    .foldl fun u code => .ite planesOnly_goSrc (.refl u)
  unfold calRestoreGroups calApply
  dsimp only
  split
  · exact ⟨_, _, _, hfold _ _, rfl⟩
  · exact ⟨_, _, _, hfold _ _, rfl⟩

/-- A commanded run of planes asks its boards alone. -/
theorem planesOnly_plnRun {mask : Nat} {who : KatWho} {s : State} : PlanesOnly s (plnRun mask who s) := by
  refine PlanesOnly.trans ?_ (.foldl fun _ _ => planesOnly_updPlane)
  exact .intro s.grn _ s.tal s.hlt s.clk s.evt s.ring

theorem planesOnly_plnTest {id mask : Nat} {s : State} : PlanesOnly s (plnTest id mask s) :=
  .ite (.intro s.grn _ s.tal s.hlt s.clk s.evt s.ring) planesOnly_plnRun

end Sys2Proof.Machine

/-! PROOFS. The start of a job, whatever its kind, and what it does to lanes, planes and benches. -/

namespace Sys2Proof.Machine

theorem goes_of_planesOnly {s t : State} (h : PlanesOnly s t) : Goes s t := by
  obtain ⟨g, p, a, x, c, e, r, k, y, rfl, -⟩ := h
  exact .of_same rfl rfl rfl

theorem goes_post {code idx detail : Nat} {s : State} : Goes s (post code idx detail s) := .of_same rfl rfl rfl

/-! ### Lanes -/

theorem goes_updLane {n : Nat} {f : Lane → Lane} {s : State} : Goes s (updLane n f s) := .of_same rfl rfl rfl

theorem goes_laneWait {n : Nat} {s : State} : Goes s (laneWait n s) := .of_outer outer_laneWait

theorem goes_makeDue {n : Nat} {s : State} : Goes s (makeDue n s) := goes_updLane.trans goes_laneWait

theorem goes_endIfDone {id : Nat} {s : State} : Goes s (endIfDone id s) := by
  unfold endIfDone
  split
  · exact .ite (goes_stopJob.after (goes_updJob fun _ => ⟨rfl, fun h => h⟩)) (.refl s)
  · exact .refl s

theorem goes_testUnitDone {id unit : Nat} {ok : Bool} {s : State} : Goes s (testUnitDone id unit ok s) :=
  goes_endIfDone.after (goes_updJob fun _ => ⟨rfl, fun h => h⟩)

theorem goes_reseedJobs {n : Nat} {sat : Bool} {s : State} : Goes s (reseedJobs n sat s) := by
  refine .foldl fun u j => ?_
  have hdrop : Goes u (updJob j.id (fun x => { x with
      mask := x.mask &&& ~~~(BitVec.ofNat 16 (2 ^ n)), passed := x.passed + b2n sat }) u) := goes_updJob fun _ => ⟨rfl, fun h => h⟩
  exact hdrop.trans (.onlyIf goes_endIfDone)

theorem goes_mixCheck {id : Nat} {s : State} : Goes s (mixCheck id s) := by
  unfold mixCheck
  split
  · exact .ite (goes_stopJob.after (goes_updJob fun _ => ⟨rfl, fun h => h⟩)) (.refl s)
  · exact .refl s

theorem goes_mixLeave {n : Nat} {s : State} : Goes s (mixLeave n s) := by
  refine .foldl fun u id => ?_
  dsimp only
  exact goes_mixCheck.after (goes_updJob fun _ => ⟨rfl, fun h => h⟩)

theorem goes_mixFeed {n fuel : Nat} {s : State} : Goes s (mixFeed n fuel s) := by
  induction fuel generalizing s with
  | zero => exact .refl s
  | succ fuel ih =>
    unfold mixFeed
    split
    · exact .refl s
    · split
      · exact .refl s
      · split
        · exact .refl s
        · split
          · exact .refl s
          · split
            · exact .refl s
            · exact (ih.after goes_updLane).after (goes_updJob fun _ => ⟨rfl, fun h => h⟩)

theorem goes_placeOrphans {s : State} : Goes s (placeOrphans s) := by
  refine .foldl fun t q => ?_
  split
  · exact .refl t
  · exact .foldl fun u w => .of_outer outer_prPlace

theorem goes_placeRefresh {s : State} : Goes s (placeRefresh s) := by
  unfold placeRefresh
  split
  · split
    · exact .refl s
    next n hn => exact Goes.trans (t := { s with stk := { s.stk with cmpLane := some n } }) (.of_same rfl rfl rfl) (.of_outer outer_prAdd)
  · exact .refl s

theorem goes_rebindAll {n : Nat} {s : State} : Goes s (rebindAll n s) := by
  refine .foldl fun t q => ?_
  unfold rebindQueue
  split
  · split
    · exact .refl t
    · exact .of_same rfl rfl rfl
  · exact .refl t

theorem goes_laneLeave {n : Nat} {st : LaneState} {s : State} : Goes s (laneLeave n st s) := by
  unfold laneLeave
  split
  · exact .refl s
  next =>
    refine Goes.trans ?_ (((goes_reseedJobs.trans goes_mixLeave).trans goes_rebindAll).trans (goes_placeOrphans.trans goes_placeRefresh))
    exact .of_same rfl rfl rfl

theorem goes_laneBoundary {n : Nat} {s : State} : Goes s (laneBoundary n s) := by
  unfold laneBoundary
  split
  · exact .refl s
  · exact .ite (.refl s) (.ite goes_laneLeave (.ite (goes_laneLeave.trans (.onlyIf goes_updLane)) (.refl s)))

theorem goes_askLaneKat {n : Nat} {who : KatWho} {s : State} : Goes s (askLaneKat n who s) := goes_updLane.trans goes_laneBoundary

/-! ### The start of each kind of job -/

theorem goes_issueResult {id : Nat} {bytes : List Byte} {status : BitVec 8} {s : State} : Goes s (issueResult id bytes status s) :=
  (Goes.of_outer outer_issueWrite).after (goes_updJob fun _ => ⟨rfl, nofun⟩)

theorem goes_benchWait {id : Nat} {s : State} : Goes s (benchWait id s) := by
  unfold benchWait
  split
  · exact .refl s
  · exact .ite goes_stopJob (.ite goes_stopJob (goes_updJob fun _ => ⟨rfl, nofun⟩))

theorem goes_runFetch {id fuel : Nat} {s : State} : Goes s (fetchRun id fuel (updJob id (fun x => { x with phase := .running }) s)) :=
  goes_fetchRun.after (goes_updJob fun _ => ⟨rfl, nofun⟩)

theorem goes_verifyStart {id : Nat} {j : Job} {s : State} : Goes s (verifyStart id j s) :=
  .ite goes_stopJob (.ite goes_benchWait (.ite goes_stopJob goes_runFetch))

theorem goes_tallyStart {id : Nat} {s : State} : Goes s (tallyStart id s) :=
  goes_issueResult.after (.of_same takeSnapshot_job (congrArg launchCounts takeSnapshot_tim) takeSnapshot_lsp)

theorem goes_benchKat {n : Nat} {who : KatWho} {s : State} : Goes s (benchKat n who s) := .of_same rfl rfl rfl

theorem goes_hashKat {who : KatWho} {s : State} : Goes s (hashKat who s) := .of_same rfl rfl rfl

theorem goes_testStart {id : Nat} {j : Job} {s : State} : Goes s (testStart id j s) := by
  unfold testStart
  dsimp only
  refine .ite goes_stopJob (goes_endIfDone.after ?_)
  have hrun : ∀ m, Goes s (updJob id (fun x => { x with phase := .running, mask := m }) s) := fun m => goes_updJob fun _ => ⟨rfl, nofun⟩
  refine .ite (hrun _) (.ite ((hrun _).trans (goes_of_planesOnly planesOnly_plnTest)) (.ite ?_ (.ite ?_ ?_)))
  · exact (Goes.foldl fun _ _ => goes_askLaneKat).after ((hrun _).trans (.of_same rfl rfl rfl))
  · exact (Goes.foldl fun _ _ => goes_benchKat).after ((hrun _).trans (.of_same rfl rfl rfl))
  · exact (Goes.foldl fun _ _ => goes_hashKat).after ((hrun _).trans (.of_same rfl rfl rfl))

theorem goes_mixStart {id : Nat} {j : Job} {s : State} : Goes s (mixStart id j s) :=
  (goes_mixCheck.after (.foldl fun _ _ => goes_mixFeed)).after (goes_updJob fun _ => ⟨rfl, nofun⟩)

theorem goes_reseedStart {id : Nat} {j : Job} {s : State} : Goes s (reseedStart id j s) :=
  .ite goes_stopJob ((goes_endIfDone.after (.foldl fun _ _ => goes_makeDue)).after (goes_updJob fun _ => ⟨rfl, nofun⟩))

theorem goes_restoreStart {id : Nat} {j : Job} {s : State} : Goes s (restoreStart id j s) := by
  refine .ite goes_stopJob (goes_stopJob.after ?_)
  obtain ⟨u, c, n, hu, h⟩ := calRestoreGroups_keeps (req := j.req) (groups := 0xF) (s := s)
  rw [h]
  have hcal : Goes s { s with cal := c } := .of_same rfl rfl rfl
  have hinc : Goes u { u with tim := { u.tim with inc := n } } := .of_same rfl rfl rfl
  exact ((hcal.trans (goes_of_planesOnly hu)).trans hinc).trans goes_post

theorem goes_voidVerdict {v : Nat} {k : Job} {s : State} : Goes s (voidVerdict v k s) :=
  .ite ((Goes.of_outer outer_dropUnsent).after (goes_updJob fun _ => ⟨rfl, fun h => h⟩)) (.refl s)

theorem goes_leaveLine {v : Nat} {s : State} : Goes s (leaveLine v s) :=
  .ite (Goes.updJob (.of_same rfl rfl rfl) fun _ => ⟨rfl, fun h => h⟩) (.refl s)

theorem goes_abortTarget {v : Nat} {s : State} : Goes s (abortTarget v s) := by
  unfold abortTarget
  split
  · exact .refl s
  · refine .ite (goes_voidVerdict.after (goes_updJob fun _ => ⟨rfl, fun h => h⟩)) ?_
    exact (Goes.foldl fun _ _ => goes_mixFeed).after (goes_voidVerdict.after (goes_stopJob.after (goes_leaveLine.updJob fun _ => ⟨rfl, fun h => h⟩)))

theorem goes_abortStart {id : Nat} {j : Job} {s : State} : Goes s (abortStart id j s) := by
  unfold abortStart
  dsimp only
  split
  · exact goes_stopJob
  · exact goes_stopJob.after (goes_abortTarget.updJob fun _ => ⟨rfl, fun h => h⟩)

/-- A job's start lets every job go on. -/
theorem goes_startJob {id : Nat} {s : State} : Goes s (startJob id s) := by
  have hwait : Goes s (updJob id (fun x => { x with phase := .waiting }) s) := goes_updJob fun _ => ⟨rfl, nofun⟩
  unfold startJob
  split
  · exact .refl s
  · dsimp only
    refine .ite goes_jobAsk (.ite (hwait.trans goes_permNext) (.ite goes_mixStart (.ite goes_reseedStart (.ite hwait ?_))))
    refine .ite goes_verifyStart (.ite goes_benchWait (.ite goes_runFetch (.ite goes_tallyStart (.ite goes_testStart ?_))))
    exact .ite (goes_stopJob.after (goes_updJob fun _ => ⟨rfl, fun h => h⟩)) (.ite goes_abortStart goes_restoreStart)

end Sys2Proof.Machine

/-! PROOFS. Job instructions as the parser takes them (R157, R161, R169, R198). -/

namespace Sys2Proof.Machine

/-! ### A job instruction's checks -/

theorem jobChecks_addJob {j k : Job} {s : State} (h : k.accepted = false) : jobChecks (addJob k s) j = jobChecks s j := by
  have hany : (addJob k s).job.jobs.any (fun x => x.accepted && decide (x.req = j.req) && decide (x.tag = j.tag)) =
      s.job.jobs.any (fun x => x.accepted && decide (x.req = j.req) && decide (x.tag = j.tag)) := by
    rw [jobs_addJob, List.any_append, List.any_cons, h, List.any_nil]
    exact Bool.or_false _
  unfold jobChecks
  rw [hany]
  rfl

theorem checkWords_addJob {r : ReqId} {ws : List Word} {path : Path} {j : Job} {s : State} (h : j.accepted = false) :
    checkWords (addJob j s) r ws path = checkWords s r ws path := by
  unfold checkWords
  rw [jobChecks_addJob h]
  rfl

theorem checkWords_dropAt {r q : ReqId} {ws : List Word} {path : Path} {s : State} :
    checkWords (dropAt q s) r ws path = checkWords s r ws path := by
  unfold dropAt
  split
  · split
    · rw [progRecord, checkWords_addJob rfl]
      rfl
    · rfl
  · rfl

/-! ### The instruction leaves its stream -/

/-- The parser has taken a job instruction of n words out of its stream, with the AT that held it; an ABORT drops its AT. -/
def jobTaken (n : Nat) (r : ReqId) (abort : Bool) (s : State) : State :=
  updStream r (fun y => { y with atHead := none }) (onlyIf abort (dropAt r) (updStream r (taken n) s))

theorem Sole.dropAt {r : ReqId} {x : Stream} {s : State} (h : Sole s r x) :
    Sole (dropAt r s) r { x with atHead := none, atPath := x.atPath } := by
  cases ha : x.atHead with
  | none =>
    rw [dropAt_of_none h ha, ← ha]
    exact h
  | some w =>
    rw [dropAt_of_some h ha]
    exact (h.updStream (f := fun y => { y with atHead := none }) fun _ => rfl).progRecord

theorem sole_jobTaken {n : Nat} {r : ReqId} {abort : Bool} {x : Stream} {s : State} (h : Sole s r x) :
    Sole (jobTaken n r abort s) r { taken n x with atHead := none } := by
  have ht : Sole (updStream r (taken n) s) r (taken n x) := h.updStream fun _ => rfl
  cases abort with
  | false => exact ht.updStream (f := fun y => { y with atHead := none }) fun _ => rfl
  | true => exact ht.dropAt.updStream (f := fun y => { y with atHead := none }) fun _ => rfl

theorem checkWords_jobTaken {n : Nat} {r : ReqId} {abort : Bool} {ws : List Word} {path : Path} {s : State} :
    checkWords (jobTaken n r abort s) r ws path = checkWords s r ws path := by
  cases abort with
  | false => rfl
  | true => exact checkWords_dropAt (s := updStream r (taken n) s)

theorem ord_dropAt {r : ReqId} {s : State} : s.clk.ord ≤ (dropAt r s).clk.ord := by
  unfold dropAt
  split
  · split
    · exact Nat.le_succ _
    · exact le_rfl
  · exact le_rfl

theorem ord_jobTaken {n : Nat} {r : ReqId} {abort : Bool} {s : State} : s.clk.ord ≤ (jobTaken n r abort s).clk.ord := by
  cases abort with
  | false => exact le_rfl
  | true => exact ord_dropAt (s := updStream r (taken n) s)

/-! ### The job -/

theorem exists_runs_of_mem {l m : List Job} {j : Job} (h : List.Forall₂ Runs l m) (hj : j ∈ l) : ∃ k ∈ m, Runs j k := by
  induction h with
  | nil => cases hj
  | cons hd _ ih =>
    rcases List.mem_cons.mp hj with rfl | hj
    · exact ⟨_, List.mem_cons_self, hd⟩
    · obtain ⟨k, hk, hr⟩ := ih hj
      exact ⟨k, List.mem_cons_of_mem _ hk, hr⟩

theorem Sole.of_streams {r : ReqId} {x : Stream} {s t : State} (h : Sole s r x) (ht : t.job.streams = s.job.streams) : Sole t r x := by
  obtain ⟨hu, hx⟩ := h
  unfold streamsUnique at hu
  unfold streamOf at hx
  exact ⟨by rw [streamsUnique, ht]; exact hu, by rw [streamOf, ht]; exact hx⟩

/-- An accepted instruction is among the jobs, whatever its start does. -/
theorem acceptJob_accepts {j : Job} {at_ : Option (BitVec 32)} {s : State} :
    (acceptJob j at_ s).job.streams = s.job.streams ∧
      ∃ k ∈ (acceptJob j at_ s).job.jobs, k.accepted = true ∧ k.op = j.op ∧ k.req = j.req ∧ k.tag = j.tag ∧ k.id = j.id := by
  have hdone : ∀ (k : Job) (u : State), Goes { addJob k s with job := { (addJob k s).job with
      peak := max (addJob k s).job.peak (inflightAll (addJob k s)) } } u → k.accepted = true ∧ k.op = j.op ∧ k.req = j.req ∧
      k.tag = j.tag ∧ k.id = j.id → u.job.streams = s.job.streams ∧
      ∃ k ∈ u.job.jobs, k.accepted = true ∧ k.op = j.op ∧ k.req = j.req ∧ k.tag = j.tag ∧ k.id = j.id := by
    rintro k u hu ⟨hacc, hop, hreq, htag, hid⟩
    refine ⟨hu.streams, ?_⟩
    obtain ⟨l, hl, hpass, -⟩ := exists_runs_of_mem hu.jobs (j := k) (List.mem_append_right _ (List.mem_singleton.mpr rfl))
    unfold jobPass at hpass
    simp only [Prod.mk.injEq] at hpass
    obtain ⟨h1, h2, h3, h4, h5, -⟩ := hpass
    exact ⟨l, hl, h2.trans hacc, h5.trans hop, h3.trans hreq, h4.trans htag, h1.trans hid⟩
  unfold acceptJob
  dsimp only
  split
  · exact hdone _ _ (.refl _) ⟨rfl, rfl, rfl, rfl, rfl⟩
  · exact hdone _ _ goes_startJob ⟨rfl, rfl, rfl, rfl, rfl⟩

/-! ### O40 -/

section
variable {s : State} {r : ReqId} {x : Stream} {h : SWord} {t : List SWord} (hs : Sole s r x) (hn : nextWords x = h :: t)
  (hknown : knownOp h.w = true) (hc : isControl (hOp h.w) = false) (htag : hTag h.w ≠ 0xFFF)
include hs hn hknown hc htag

theorem parseOne_rejected {c : BitVec 8} (hcheck : checkWords s r ((nextWords x).map (·.w)) h.path = some c) :
    ∃ s3, s3 = jobTaken (t.length + 1) r (decide (hOp h.w = 0x38)) s ∧
      parseOne r s = rejectJob (instrJob s3 r ((nextWords x).map (·.w)) h.path) c s3 := by
  have hcheck' : checkWords (jobTaken (t.length + 1) r (decide (hOp h.w = 0x38)) s) r (h.w :: t.map (·.w)) h.path = some c := by
    rw [checkWords_jobTaken, ← hcheck, hn]
    rfl
  refine ⟨_, rfl, ?_⟩
  unfold parseOne
  rw [hs.stream]
  dsimp only
  rw [hn]
  dsimp only
  rw [if_neg (by rw [hknown]; decide), if_neg (fun hh => htag hh.1), if_neg (by rw [hc]; decide)]
  unfold jobTaken at hcheck'
  erw [hcheck']
  rfl

theorem parseOne_accepted (hcheck : checkWords s r ((nextWords x).map (·.w)) h.path = none) :
    ∃ s3 at_, s3 = jobTaken (t.length + 1) r (decide (hOp h.w = 0x38)) s ∧
      parseOne r s = acceptJob (instrJob s3 r ((nextWords x).map (·.w)) h.path) at_ s3 := by
  have hcheck' : checkWords (jobTaken (t.length + 1) r (decide (hOp h.w = 0x38)) s) r (h.w :: t.map (·.w)) h.path = none := by
    rw [checkWords_jobTaken, ← hcheck, hn]
    rfl
  refine ⟨_, if decide (hOp h.w = 0x38) then none else x.atHead, rfl, ?_⟩
  unfold parseOne
  rw [hs.stream]
  dsimp only
  rw [hn]
  dsimp only
  rw [if_neg (by rw [hknown]; decide), if_neg (fun hh => htag hh.1), if_neg (by rw [hc]; decide)]
  unfold jobTaken at hcheck'
  erw [hcheck']
  rfl

end

/-- An instruction has become a job, accepted or ended as its check says. -/
def Becomes (r : ReqId) (h : Word) (ord : Nat) (c : Option (BitVec 8)) (l : List Job) : Prop :=
  ∃ j ∈ l, j.op = hOp h ∧ j.req = r ∧ j.tag = hTag h ∧ ord ≤ j.id ∧
    (match c with
     | some st => j.accepted = false ∧ j.stop = some st
     | none => j.accepted = true)

theorem parseOne_becomes {s : State} {r : ReqId} {x : Stream} {h : SWord} {t : List SWord} (hs : Sole s r x) (hn : nextWords x = h :: t)
    (hknown : knownOp h.w = true) (hc : isControl (hOp h.w) = false) (htag : hTag h.w ≠ 0xFFF) :
    Sole (parseOne r s) r { taken (t.length + 1) x with atHead := none } ∧
      Becomes r h.w s.clk.ord (checkWords s r ((nextWords x).map (·.w)) h.path) (parseOne r s).job.jobs := by
  have hord : s.clk.ord ≤ (jobTaken (t.length + 1) r (decide (hOp h.w = 0x38)) s).clk.ord := ord_jobTaken
  have hsole := sole_jobTaken (n := t.length + 1) (abort := decide (hOp h.w = 0x38)) hs
  have hhead : ((nextWords x).map (·.w)).headD 0 = h.w := by rw [hn]; rfl
  have hjob : ∀ s3 : State, (instrJob s3 r ((nextWords x).map (·.w)) h.path).op = hOp h.w ∧
      (instrJob s3 r ((nextWords x).map (·.w)) h.path).tag = hTag h.w := fun s3 => by
    rw [← hhead]
    exact ⟨rfl, rfl⟩
  cases hcheck : checkWords s r ((nextWords x).map (·.w)) h.path with
  | some c =>
    obtain ⟨s3, rfl, hone⟩ := parseOne_rejected hs hn hknown hc htag hcheck
    rw [hone]
    obtain ⟨hop, htg⟩ := hjob (jobTaken (t.length + 1) r (decide (hOp h.w = 0x38)) s)
    exact ⟨hsole.addJob, _, List.mem_append_right _ (List.mem_singleton.mpr rfl), hop, rfl, htg, hord, rfl, rfl⟩
  | none =>
    obtain ⟨s3, at_, rfl, hone⟩ := parseOne_accepted hs hn hknown hc htag hcheck
    rw [hone]
    obtain ⟨hst, k, hk, hacc, hop, hreq, htg, hid⟩ := acceptJob_accepts
      (j := instrJob (jobTaken (t.length + 1) r (decide (hOp h.w = 0x38)) s) r ((nextWords x).map (·.w)) h.path) (at_ := at_)
    exact ⟨hsole.of_streams hst, k, hk, hop.trans (hjob _).1, hreq, htg.trans (hjob _).2, hord.trans_eq hid.symm, hacc⟩

theorem jobWords_of_row {c : Instr} {h : Word}
    (hrow : (c, hOp h) ∈ ([(.draw, 0x01), (.drawn, 0x02), (.drawp, 0x03), (.mix, 0x08), (.reseed, 0x09), (.beacon, 0x12),
      (.verify, 0x20), (.batch, 0x21), (.digest, 0x22), (.tally, 0x30), (.test, 0x31), (.note, 0x32), (.abort, 0x38), (.restore, 0x3E)] :
      List (Instr × BitVec 8))) :
    knownOp h = true ∧ isControl (hOp h) = false ∧ ∀ s, exec c s = .next (act (parseOp (hOp h)) s) := by
  simp only [List.mem_cons, List.not_mem_nil, or_false, Prod.mk.injEq] at hrow
  unfold knownOp jobWords
  rcases hrow with ⟨rfl, h⟩ | ⟨rfl, h⟩ | ⟨rfl, h⟩ | ⟨rfl, h⟩ | ⟨rfl, h⟩ | ⟨rfl, h⟩ | ⟨rfl, h⟩ | ⟨rfl, h⟩ | ⟨rfl, h⟩ | ⟨rfl, h⟩ | ⟨rfl, h⟩ |
    ⟨rfl, h⟩ | ⟨rfl, h⟩ | ⟨rfl, h⟩
  all_goals
    rw [h]
    exact ⟨rfl, rfl, fun _ => rfl⟩

/-- Settles O40: the instruction's words leave the stream, and its job goes on through whatever its start does. -/
theorem jobInstructionParsed : Obligations.JobInstructionParsed := by
  intro c op hrow s r x h t hp hop htag
  subst hop
  obtain ⟨hknown, hc, hexec⟩ := jobWords_of_row hrow
  obtain ⟨hleft, hjob⟩ := parseOne_becomes (sole_of_parserAt hp) (nextWords_of_parserAt hp) hknown hc htag
  refine parseIf_effects hp (hexec s) (decide_eq_true rfl) hleft fun u hst hjobs => ⟨?_, ?_⟩
  · exact (buffered_of_left hst).trans List.length_drop
  · rw [hjobs]
    exact hjob

end Sys2Proof.Machine

/-! PROOFS. Launches, fences and the grants of beacons (R170, R173, R174, R191, R284, R285). -/

namespace Sys2Proof.Machine

/-! ### Waits of a job -/

theorem raiseRequest_stk {n : Nat} {s : State} : (raiseRequest n s).stk = s.stk := rfl

theorem laneWait_stk {n : Nat} {s : State} : (laneWait n s).stk = s.stk := by
  unfold laneWait
  split
  · rfl
  · split <;> rfl

theorem prPlace_stk {q key accepted : Nat} {s : State} : (prPlace q key accepted s).stk = s.stk := by
  unfold prPlace prAdd
  split
  · rfl
  · split
    · rfl
    · rw [bumpFree_stk]
      split
      · rfl
      · unfold onlyIf
        split
        · exact laneWait_stk
        · rfl

theorem queueOf_of_stk {s t : State} (h : t.stk = s.stk) (q : Nat) : queueOf t q = queueOf s q := congrArg (fun x : Stk => x.queues[q]?) h

/-- A job waits on its queue for what it needs. -/
def WaitsFor (id need : Nat) (req : ReqId) (q : Nat) (s : State) : Prop :=
  ∃ x w, queueOf s q = some x ∧ w ∈ x.waits ∧ w.key = id ∧ w.what = .job id ∧ w.need = need ∧ w.req = req

theorem jobAsk_waits {id : Nat} {s : State} {j : Job} {d : DQueue} (hj : jobOf s id = some j) (hn : jobNeed s j ≠ 0)
    (hq : queueOf s (jobSq j) = some d) (hno : ∀ w ∈ d.waits, w.key ≠ id) (hon : d.st = .on) :
    WaitsFor id (jobNeed s j) j.req (jobSq j) (jobAsk id s) := by
  have hany : d.waits.any (fun w => decide (w.key = id)) = false := by
    rw [List.any_eq_false]
    exact fun w hw he => hno w hw (of_decide_eq_true he)
  have hadd : ∀ (w : Waiter) (f : Job → Job), w.key = id → w.what = .job id → w.need = jobNeed s j → w.req = j.req →
      WaitsFor id (jobNeed s j) j.req (jobSq j) (addWaiter (jobSq j) w (updJob id f s)) := fun w f h1 h2 h3 h4 => by
    have hq' : queueOf (updJob id f s) (jobSq j) = some d := hq
    obtain ⟨x, hx, hw⟩ := queueOf_addWaiter (w := w) hq'
    exact ⟨x, w, hx, by rw [hw]; simp, h1, h2, h3, h4⟩
  have hplace : ∀ (c : Bool) t, WaitsFor id (jobNeed s j) j.req (jobSq j) t →
      WaitsFor id (jobNeed s j) j.req (jobSq j) (if c then prPlace (jobSq j) id id t else t) := fun c t ⟨x, w, hx, h⟩ => by
    cases c with
    | false => exact ⟨x, w, hx, h⟩
    | true => exact ⟨x, w, (queueOf_of_stk prPlace_stk _).trans hx, h⟩
  unfold jobAsk
  rw [hj]
  dsimp only
  rw [if_neg hn, hq]
  dsimp only
  rw [if_neg (by rw [hany]; decide), if_neg (fun h => h hon)]
  refine hplace _ _ (hadd _ _ ?_ ?_ ?_ ?_)
  · split <;> rfl
  · split <;> rfl
  · split <;> rfl
  · split <;> rfl

/-- A job has asked as often as before. -/
def SameAsked (id : Nat) (s t : State) : Prop := (jobOf t id).map (·.asked) = (jobOf s id).map (·.asked)

theorem SameAsked.ite {id : Nat} {c : Prop} [Decidable c] {s t u : State} (h : SameAsked id s t) (g : SameAsked id s u) :
    SameAsked id s (if c then t else u) := by
  split
  · exact h
  · exact g

theorem sameAsked_of_face {id : Nat} {s t : State} (h : (jobOf t id).map jobFace = (jobOf s id).map jobFace) : SameAsked id s t := by
  have hasked := congrArg (Option.map Job.asked) h
  rw [Option.map_map, Option.map_map] at hasked
  exact hasked

theorem sameAsked_of_outer {id : Nat} {s t : State} (h : outer t = outer s) : SameAsked id s t :=
  sameAsked_of_face (jobOf_face_congr h id)

theorem SameAsked.updJob {id : Nat} {f : Job → Job} {s t : State} (hs : SameAsked id s t) (hid : ∀ j, (f j).id = j.id)
    (hf : ∀ j, (f j).asked = j.asked) : SameAsked id s (updJob id f t) := by
  unfold SameAsked
  rw [jobOf_updJob_self hid, Option.map_map, ← hs]
  exact congrArg (fun g => (jobOf t id).map g) (funext hf)

theorem SameAsked.stopJob {id : Nat} {status : BitVec 8} {why : Option WordKerf} {s t : State} (hs : SameAsked id s t) :
    SameAsked id s (stopJob id status why t) := by
  by_cases h : ∀ j, jobOf t id = some j → j.stop.isSome = true
  · rw [stopJob_of_stopped h]
    exact hs
  · simp only [not_forall] at h
    obtain ⟨j, hj, hstop⟩ := h
    have hasked := congrArg (Option.map Job.asked) (jobOf_stopJob (status := status) (why := why) hj (by simpa using hstop))
    rw [Option.map_map] at hasked
    unfold SameAsked
    rw [← hs, hj]
    exact hasked

theorem sameAsked_beaconFlushed {id : Nat} {s : State} : SameAsked id s (beaconFlushed id s) := by
  have hcut : ∀ (c : Bool) l gs, SameAsked id s (updJob id (fun x => { x with grants := gs }) (onlyIf c (kerfWords .reject l) s)) :=
    fun c l gs => (sameAsked_of_outer (outer_onlyIf fun _ => outer_kerfWords)).updJob (fun _ => rfl) fun _ => rfl
  unfold beaconFlushed
  split
  · rfl
  · exact .ite (hcut _ _ _).stopJob ((hcut _ _ _).updJob (fun _ => rfl) fun _ => rfl)

theorem sameAsked_jobAsk {id : Nat} {s : State} : SameAsked id s (jobAsk id s) := by
  unfold jobAsk
  split
  · rfl
  · dsimp only
    split
    · rfl
    · split
      · rfl
      · split
        · rfl
        · split
          · exact .ite sameAsked_beaconFlushed (SameAsked.stopJob rfl)
          · have hask : ∀ q w a b, SameAsked id s (addWaiter q w (updJob id (fun x => { x with
                qfirst := a, qord := b, qdone := false, phase := .waiting }) s)) := fun q w a b =>
              SameAsked.updJob rfl (fun _ => rfl) fun _ => rfl
            exact .ite ((sameAsked_of_outer outer_prPlace).trans (hask _ _ _ _)) (hask _ _ _ _)

/-! ### The job of a launch -/

theorem exists_jobOf_runs {l m : List Job} {id : Nat} {j : Job} (h : List.Forall₂ Runs l m)
    (hj : l.find? (fun x => decide (x.id = id)) = some j) : ∃ k, m.find? (fun x => decide (x.id = id)) = some k ∧ Runs j k := by
  induction h with
  | nil => cases hj
  | cons hd _ ih =>
    have hid : _ = _ := congrArg Prod.fst hd.1
    dsimp only [jobPass] at hid
    rw [List.find?_cons] at hj ⊢
    rw [hid]
    split at hj
    · obtain rfl := Option.some.inj hj
      exact ⟨_, rfl, hd⟩
    · exact ih hj

theorem Goes.jobOf {s t : State} {id : Nat} {j : Job} (h : Goes s t) (hj : Machine.jobOf s id = some j) :
    ∃ k, Machine.jobOf t id = some k ∧ Runs j k := exists_jobOf_runs h.jobs hj

theorem Runs.late {j k : Job} (h : Runs j k) : k.late = j.late := (congrArg (fun x => x.2.2.2.2.2.1) h.1 :)

theorem Runs.timeFix {j k : Job} (h : Runs j k) : k.timeFix = j.timeFix := (congrArg (fun x => x.2.2.2.2.2.2.1) h.1 :)

/-! ### AT -/

/-- A held job as it launches. -/
def launched (late : Bool) (s : State) (x : Job) : Job := { x with late := late, timeFix := some (stampNow s), phase := .waiting }

section
variable {s : State} {id : Nat} {j : Job} {due : BitVec 48} (hh : halted s = false) (hj : jobOf s id = some j) (ht : j.target = some due)
  (hheld : j.phase = .held) (hclk : s.tim.clkOk = true) (hreach : reached s due = true) (hfree : startHeld s j.req id = false)
include hh hj ht hheld hclk hreach hfree

theorem atLaunch_launches (hok : (!onTime s due && !inLateWindow s due) = false) :
    atLaunch id s = startJob id (countLaunch (!onTime s due) false (updJob id (launched (!onTime s due) s) s)) := by
  unfold atLaunch
  rw [hj]
  dsimp only
  rw [ht]
  dsimp only
  rw [if_neg (by rw [hh, hheld, hclk, hreach, hfree]; decide), if_neg (by rw [hok]; decide)]
  rfl

theorem atLaunch_rejects (hlate : (!onTime s due && !inLateWindow s due) = true) : atLaunch id s = rejectLaunch id s := by
  unfold atLaunch
  rw [hj]
  dsimp only
  rw [ht]
  dsimp only
  rw [if_neg (by rw [hh, hheld, hclk, hreach, hfree]; decide), if_pos hlate]

end

/-- A rejected launch ends its job and is counted. -/
theorem rejectLaunch_ends {id : Nat} {s : State} {j : Job} (hj : jobOf s id = some j) (hs : j.stop = none) :
    (jobOf (rejectLaunch id s) id).map (·.stop) = some (some stLate) ∧ (rejectLaunch id s).tim.launchRej = s.tim.launchRej + 1 := by
  unfold rejectLaunch
  rw [hj]
  dsimp only
  generalize hv : countLaunch false true (updJob id (fun x => { x with
    timeFix := if j.launched = 0 then some (stampNow s) else x.timeFix }) s) = v
  have hjv : jobOf v id = some { j with timeFix := if j.launched = 0 then some (stampNow s) else j.timeFix } := by
    rw [← hv]
    exact jobOf_updJob_some (fun _ => rfl) hj
  refine ⟨stop_of_stopJob hjv hs, ?_⟩
  have htim := (goes_stopJob (id := id) (status := stLate) (why := some .reject) (s := v)).tim
  refine (congrArg Prod.snd htim).trans ?_
  rw [← hv]
  rfl

end Sys2Proof.Machine

/-! PROOFS. The obligation of launches and fences. -/

namespace Sys2Proof.Machine

/-! ### AT -/

theorem startJob_of_draw {id : Nat} {s : State} {j : Job} (hj : jobOf s id = some j) (hop : j.op = 0x01) : startJob id s = jobAsk id s := by
  unfold startJob
  rw [hj]
  dsimp only
  rw [if_pos (by rw [hop]; decide)]

theorem startJob_of_note {id : Nat} {s : State} {j : Job} (hj : jobOf s id = some j) (hop : j.op = 0x32) :
    startJob id s = stopJob id stOk none (updJob id (fun x => { x with count := fldW j.head 0 24 }) s) := by
  unfold startJob
  rw [hj]
  dsimp only
  rw [hop]
  rfl

theorem atLaunch_effects {s : State} {id : Nat} {j : Job} {due : BitVec 48} (hup : upAnd s = true) (hh : halted s = false)
    (hj : jobOf s id = some j) (ht : j.target = some due) (hheld : j.phase = .held) (hclk : s.tim.clkOk = true)
    (hreach : reached s due = true) (hfree : startHeld s j.req id = false) (hs : j.stop = none) :
    Effects (.atLaunch id) s (fun u =>
      (onTime s due = true ∨ inLateWindow s due = true →
        (jobOf u id).map (fun x => (decide (x.phase = .held), x.timeFix)) = some (false, some (nowNs s, s.tim.steps.setWidth 8)) ∧
        (j.op = 0x32 → (jobOf u id).map (·.stop) = some (some stOk)) ∧
        (∀ d, j.op = 0x01 → queueOf s (jobSq j) = some d → d.st = .on → 0 < jobNeed s j → (∀ w ∈ d.waits, w.key ≠ id) →
          WaitsFor id (jobNeed s j) j.req (jobSq j) u)) ∧
      if onTime s due = true then
        (jobOf u id).map (·.late) = some false ∧ u.tim.launchLate = s.tim.launchLate ∧ u.tim.launchRej = s.tim.launchRej
      else if inLateWindow s due = true then
        (jobOf u id).map (·.late) = some true ∧ u.tim.launchLate = s.tim.launchLate + 1 ∧ u.tim.launchRej = s.tim.launchRej
      else (jobOf u id).map (·.stop) = some (some stLate) ∧ u.tim.launchRej = s.tim.launchRej + 1) := by
  refine effects_of_act exec_atLaunch (running_of_upAnd hup) ?_
  cases hok : (!onTime s due && !inLateWindow s due) with
  | true =>
    obtain ⟨hon, hin⟩ : onTime s due = false ∧ inLateWindow s due = false := by simpa using hok
    rw [atLaunch_rejects hh hj ht hheld hclk hreach hfree hok, hon, hin]
    exact ⟨fun h => by simp at h, rejectLaunch_ends hj hs⟩
  | false =>
    rw [atLaunch_launches hh hj ht hheld hclk hreach hfree hok]
    generalize hv : countLaunch (!onTime s due) false (updJob id (launched (!onTime s due) s) s) = v
    have hjv : jobOf v id = some (launched (!onTime s due) s j) := by
      rw [← hv]
      exact jobOf_updJob_some (fun _ => rfl) hj
    obtain ⟨k, hk, hr⟩ := goes_startJob.jobOf hjv
    have hcounts := (goes_startJob (id := id) (s := v)).tim
    rw [← hv] at hcounts
    rw [hv] at hcounts
    have hlate : k.late = !onTime s due := hr.late
    have htime : k.timeFix = some (stampNow s) := hr.timeFix
    refine ⟨fun _ => ⟨?_, fun hop => ?_, fun d hop hq hon hn hno => ?_⟩, ?_⟩
    · have hph : k.phase ≠ .held := fun h => nomatch hr.2 h
      rw [hk, Option.map_some, htime, decide_eq_false hph]
      rfl
    · rw [startJob_of_note hjv hop]
      exact stop_of_stopJob (jobOf_updJob_some (fun _ => rfl) hjv) hs
    · rw [startJob_of_draw hjv hop]
      have hqv : queueOf v (jobSq j) = some d := by rw [← hv]; exact hq
      have hneed : jobNeed v (launched (!onTime s due) s j) = jobNeed s j := by rw [← hv]; rfl
      rw [← hneed]
      exact jobAsk_waits hjv (by omega) hqv hno hon
    · have hlateCount : (startJob id v).tim.launchLate = if !onTime s due then s.tim.launchLate + 1 else s.tim.launchLate := by
        refine (congrArg Prod.fst hcounts).trans ?_
        rw [← hv]
        rfl
      have hrejCount : (startJob id v).tim.launchRej = s.tim.launchRej := by
        refine (congrArg Prod.snd hcounts).trans ?_
        rw [← hv]
        rfl
      rw [hk, Option.map_some, hlate, hlateCount, hrejCount]
      cases hon : onTime s due with
      | true => exact ⟨rfl, rfl, rfl⟩
      | false =>
        rw [hon] at hok
        have hin : inLateWindow s due = true := by simpa using hok
        rw [hin]
        exact ⟨rfl, rfl, rfl⟩

/-! ### Fences -/

theorem fenceRelease_effects {s : State} {r : ReqId} {x : Stream} (hup : upAnd s = true) (hh : halted s = false)
    (hx : streamOf s r = some x) :
    Effects (.fenceRelease r) s (fun u => (streamOf u r).map (·.fences) = some (x.fences.filter (fun f => !fenceMet s r f))) := by
  refine effects_of_act exec_fenceRelease (running_of_upAnd hup) ?_
  unfold fenceRelease
  rw [if_neg (by rw [hh]; decide), hx]
  dsimp only
  generalize hv : updStream r (fun y => { y with fences := x.fences.filter (fun f => !fenceMet s r f) }) s = v
  have hstreams : (startFree r v).job.streams = v.job.streams := (Goes.foldl fun _ _ => goes_startJob).streams
  have hsame : streamOf (startFree r v) r = streamOf v r := congrArg (fun l : List Stream => l.find? (fun y : Stream => decide (y.req = r))) hstreams
  rw [hsame, ← hv, streamOf_updStream_self fun _ => by rfl, hx]
  rfl

/-! ### Beacons -/

theorem beaconGrantRequest_effects {s : State} {id : Nat} {j : Job} (hup : upAnd s = true) (hj : jobOf s id = some j)
    (hruns : beaconRuns s j = true) (hv : j.verdict = none) (hlt : j.asked < fldW (jobWord j 0) 32 8)
    (hreach : reached s (beaconDue j j.asked - 200000) = true) :
    Effects (.beaconGrantRequest id) s (fun u =>
      (jobOf u id).map (·.asked) = some (j.asked + 1) ∧
      (∀ d, queueOf s (jobSq j) = some d → d.st = .on → (∀ w ∈ d.waits, w.key ≠ id) → shortGrant j = 0 →
        j.launched + j.grants.length ≤ j.asked → 0 < fldW (jobWord j 1) 0 6 →
        WaitsFor id (fldW (jobWord j 1) 0 6) j.req (jobSq j) u)) := by
  refine effects_of_act exec_beaconGrantRequest (running_of_upAnd hup) ?_
  have hask : beaconAsk id s = jobAsk id (updJob id (fun x => { x with asked := x.asked + 1 }) s) := by
    unfold beaconAsk
    rw [hj]
    dsimp only
    rw [if_pos (by rw [hruns, hv, decide_eq_true hlt, hreach]; rfl)]
  have hjv : jobOf (updJob id (fun x => { x with asked := x.asked + 1 }) s) id = some { j with asked := j.asked + 1 } :=
    jobOf_updJob_some (fun _ => rfl) hj
  rw [hask]
  refine ⟨?_, fun d hq hon hno hshort hle hpos => ?_⟩
  · rw [sameAsked_jobAsk, hjv]
    rfl
  · obtain ⟨⟨⟨⟨⟨hop, -⟩, hs⟩, -⟩, -⟩, -⟩ : ((((j.op = 0x12 ∧ j.accepted = true) ∧ j.stop = none) ∧ j.phase ≠ .held) ∧ j.phase ≠ .fenced) ∧
        halted s = false := by
      simpa [beaconRuns, and_assoc] using hruns
    have hneed : jobNeed (updJob id (fun x => { x with asked := x.asked + 1 }) s) { j with asked := j.asked + 1 } =
        fldW (jobWord j 1) 0 6 := by
      unfold jobNeed
      dsimp only
      rw [hs, hop]
      show (if shortGrant j ≠ 0 then _ else if j.launched + j.grants.length < j.asked + 1 ∧ j.verdict.isNone then _ else _) = _
      rw [if_neg (by rw [hshort]; decide), if_pos ⟨by omega, by rw [hv]; rfl⟩]
      rfl
    rw [← hneed]
    exact jobAsk_waits hjv (by omega) hq hno hon

/-! ### Frames of beacons -/

/-- What waits in the ports of a node still waits in another one, in front. -/
def Waits (s t : State) : Prop := Queued s.ring t.ring

theorem Waits.of_ring {s t : State} (h : t.ring = s.ring) : Waits s t := by
  unfold Waits
  rw [h]
  exact .refl

theorem Waits.trans {s t u : State} (h : Waits s t) (g : Waits t u) : Waits s u := Queued.trans h g

theorem Waits.foldl {α : Type} {g : State → α → State} {l : List α} {s : State} (h : ∀ u x, Waits u (g u x)) : Waits s (l.foldl g s) := by
  induction l generalizing s with
  | nil => exact .of_ring rfl
  | cons x xs ih => exact (h s x).trans ih

theorem Waits.ite {c : Prop} [Decidable c] {s t u : State} (h : Waits s t) (g : Waits s u) : Waits s (if c then t else u) := by
  split
  · exact h
  · exact g

theorem Waits.onlyIf {c : Bool} {f : State → State} {s : State} (h : Waits s (f s)) : Waits s (onlyIf c f s) := by
  cases c with
  | false => exact .of_ring rfl
  | true => exact h

theorem waits_post {code idx detail : Nat} {s : State} : Waits s (post code idx detail s) := by
  obtain ⟨e, r, h, hpass⟩ := post_eq (c := code) (i := idx) (d := detail) (s := s)
  rw [h]
  exact hpass.queued

theorem waits_watermarkEvent {q : Nat} {high : Bool} {s : State} : Waits s (watermarkEvent q high s) := by
  unfold watermarkEvent
  split
  · exact .of_ring rfl
  · refine .ite (Waits.trans ?_ waits_post) (.of_ring rfl)
    exact .of_ring rfl

theorem waits_relevel {q : Nat} {f : DQueue → DQueue} {s : State} : Waits s (relevel q f s) := by
  unfold relevel
  split
  · exact .of_ring rfl
  · dsimp only
    refine Waits.trans ?_ (.onlyIf waits_watermarkEvent)
    refine Waits.trans ?_ (.onlyIf waits_watermarkEvent)
    exact .of_ring rfl

theorem waits_kerfStack {why : WordKerf} {refs : List (Nat × Nat)} {s : State} : Waits s (kerfStack why refs s) := by
  refine Waits.trans ?_ (.foldl fun _ _ => waits_relevel)
  exact .of_ring rfl

theorem waits_kerfQueue {q : Nat} {why : WordKerf} {p : DQueue → QEntry → Bool} {s : State} : Waits s (kerfQueue q why p s) := by
  unfold kerfQueue
  split
  · exact .of_ring rfl
  · dsimp only
    split
    · exact .of_ring rfl
    · exact waits_kerfStack.trans (.of_ring rfl)

theorem putBack_ring {q : Nat} {v : AWord} {s : State} : (putBack q v s).ring = s.ring := by
  unfold putBack
  split
  · dsimp only
    split <;> rfl
  · rfl

theorem waits_releaseAllot {q key : Nat} {s : State} : Waits s (releaseAllot q key s) := by
  unfold releaseAllot
  split
  · exact .of_ring rfl
  · split
    · exact .of_ring rfl
    next w _ _ =>
      refine Waits.trans ?_ waits_kerfQueue
      refine Waits.trans (t := w.held.foldl (fun t v => putBack q v t) s) (.foldl fun _ _ => .of_ring putBack_ring) ?_
      exact .of_ring rfl

theorem laneWait_ring {n : Nat} {s : State} : (laneWait n s).ring = s.ring := by
  unfold laneWait
  split
  · rfl
  · split <;> rfl

theorem waits_prDrop {key : Nat} {s : State} : Waits s (prDrop key s) := by
  refine Waits.trans ?_ (.foldl fun t n => ?_)
  · exact .of_ring rfl
  · split
    · split
      · exact .of_ring laneWait_ring
      · exact .of_ring rfl
    · exact .of_ring rfl

theorem waits_syncAll {s : State} : Waits s (syncAll s) := .foldl fun _ _ => .of_ring rfl

theorem waits_dropWaits {id : Nat} {s : State} : Waits s (dropWaits id s) := by
  unfold dropWaits
  refine Waits.trans ?_ waits_prDrop
  refine Waits.trans ?_ waits_syncAll
  have hfold : Waits s ((List.range 16).foldl (fun t q => releaseAllot q id t) s) := .foldl fun _ _ => waits_releaseAllot
  generalize (List.range 16).foldl (fun t q => releaseAllot q id t) s = v at hfold
  exact hfold.trans (.of_ring rfl)

theorem waits_updJob {id : Nat} {f : Job → Job} {s : State} : Waits s (updJob id f s) := .of_ring rfl

theorem waits_releaseUnits {id : Nat} {s : State} : Waits s (releaseUnits id s) := .of_ring rfl

/-- The end of a job that makes no data writes takes no frame out of a port. -/
theorem waits_stopJob {id : Nat} {status : BitVec 8} {s : State} {j : Job} (hj : jobOf s id = some j) (hop : j.op = 0x12) :
    Waits s (stopJob id status none s) := by
  unfold stopJob
  rw [hj]
  dsimp only
  split
  · exact .of_ring rfl
  · rw [if_neg (by rw [hop]; decide), if_neg (by rw [hop]; decide)]
    refine Waits.trans ?_ waits_releaseUnits
    refine Waits.trans ?_ (.onlyIf waits_syncAll)
    exact waits_dropWaits.trans waits_updJob

theorem setWidth_packed (a b c d : Nat) :
    (BitVec.ofNat 64 (a <<< 56 + b <<< 48 + c <<< 40 + d % 2 ^ 32)).setWidth 32 = BitVec.ofNat 32 d := by
  apply BitVec.eq_of_toNat_eq
  rw [BitVec.toNat_setWidth, BitVec.toNat_ofNat, BitVec.toNat_ofNat, Nat.shiftLeft_eq, Nat.shiftLeft_eq, Nat.shiftLeft_eq]
  omega

theorem beaconFrame_h2 {s : State} {j : Job} {ws : List AWord} {late : Bool} :
    (beaconFrame s j ws late).h2.setWidth 32 = ((beaconDue j j.launched).setWidth 32 : BitVec 32) :=
  setWidth_packed _ _ _ _

/-- A launch of a beacon has gone out. -/
def BeaconOut (s : State) (j : Job) (ws : List AWord) (late : Bool) (u : State) : Prop :=
  ∃ p l x, (portAt u p).txq = (portAt s p).txq ++ l ∧ x ∈ l ∧ x.f.type = 0x06 ∧ x.f.vc = 2 ∧ x.f.dst = 0xFFF ∧ x.f.late = late ∧
    x.f.payload = wordsToBytes (ws.map (·.v)) ∧ x.f.h2.setWidth 32 = ((beaconDue j j.launched).setWidth 32 : BitVec 32) ∧
    x.words = ws.length

/-- A beacon's job after a launch. -/
def beaconCounted (late : Bool) (ws : List AWord) (gs : List (List AWord)) (s : State) (x : Job) : Job :=
  { x with
    grants := gs, launched := x.launched + 1, late := x.late || late, timeFix := some (stampNow s)
    first := if x.first.isNone then ws.head?.map (·.tag) else x.first
    writes := x.writes ++ [⟨x.writes.length, x.writes.length, 0, .sent, none, false⟩] }

/-- The frame of a launch as its port keeps it. -/
def beaconTx (id : Nat) (s : State) (j : Job) (ws : List AWord) (late : Bool) : TxFrame :=
  ⟨beaconFrame s j ws late, .beacon id, awRefs ws, ws.length, awMarked ws, ws.length, false, 0, 0, 0, 0⟩

/-- The node after a launch, before its series may end. -/
def beaconSent (id : Nat) (late : Bool) (j : Job) (ws : List AWord) (gs : List (List AWord)) (s : State) : State :=
  let s1 := countLaunch late false (updJob id (beaconCounted late ws gs s) s)
  { s1 with ring := sendTx (beaconTx id s j ws late) s1.ring }

section
variable {s : State} {id : Nat} {j : Job} {ws : List AWord} {gs : List (List AWord)} (hj : jobOf s id = some j)
include hj

theorem beaconSent_shows {late : Bool} (hop : j.op = 0x12) {u : State}
    (hu : u = beaconSent id late j ws gs s ∨ ∃ st, u = stopJob id st none (beaconSent id late j ws gs s)) :
    (jobOf u id).map (·.launched) = some (j.launched + 1) ∧ (jobOf u id).map (·.late) = some (j.late || late) ∧
      BeaconOut s j ws late u := by
  have hjs : jobOf (beaconSent id late j ws gs s) id = some (beaconCounted late ws gs s j) := jobOf_updJob_some (fun _ => rfl) hj
  have hsend : Sends (beaconTx id s j ws late) s.ring (beaconSent id late j ws gs s).ring := sends_sendTx
  obtain ⟨hgo, hwait⟩ : Goes (beaconSent id late j ws gs s) u ∧ Waits (beaconSent id late j ws gs s) u := by
    rcases hu with rfl | ⟨st, rfl⟩
    · exact ⟨.refl _, .of_ring rfl⟩
    · exact ⟨goes_stopJob, waits_stopJob hjs hop⟩
  obtain ⟨k, hk, hr⟩ := hgo.jobOf hjs
  have hlaunched : k.launched = j.launched + 1 := (congrArg (fun x => x.2.2.2.2.2.2.2) hr.1 :)
  refine ⟨by rw [hk, ← hlaunched]; rfl, ?_, ?_⟩
  · rw [hk, Option.map_some, hr.late]
    rfl
  · obtain ⟨p, l, hl, hx⟩ := hsend.then_queued hwait
    exact ⟨p, l, _, hl, hx, rfl, rfl, rfl, rfl, rfl, beaconFrame_h2, rfl⟩

section
variable (hruns : beaconRuns s j = true) (hgs : j.grants = ws :: gs) (hclk : s.tim.clkOk = true)
  (hreach : reached s (beaconDue j j.launched) = true) (hport : portUp s = true) (hlen : fldW (jobWord j 1) 0 6 ≤ ws.length)
include hruns hgs hclk hreach hport hlen

theorem beaconLaunch_rejects (hlate : (!onTime s (beaconDue j j.launched) && !inLateWindow s (beaconDue j j.launched)) = true) :
    beaconLaunch id s = rejectLaunch id s := by
  unfold beaconLaunch
  rw [hj]
  dsimp only
  rw [hgs]
  dsimp only
  rw [if_neg (by rw [hruns, hclk, hreach, hport, decide_eq_false (by omega)]; decide), if_pos hlate]

theorem beaconLaunch_sends (hok : (!onTime s (beaconDue j j.launched) && !inLateWindow s (beaconDue j j.launched)) = false) :
    beaconLaunch id s = beaconSent id (!onTime s (beaconDue j j.launched)) j ws gs s ∨
      ∃ st, beaconLaunch id s = stopJob id st none (beaconSent id (!onTime s (beaconDue j j.launched)) j ws gs s) := by
  unfold beaconLaunch
  rw [hj]
  dsimp only
  rw [hgs]
  dsimp only
  rw [if_neg (by rw [hruns, hclk, hreach, hport, decide_eq_false (by omega)]; decide), if_neg (by rw [hok]; decide)]
  split
  · exact .inr ⟨_, rfl⟩
  · split
    · split
      · exact .inr ⟨_, rfl⟩
      · exact .inl rfl
    · exact .inl rfl

end

theorem beaconLaunch_effects (hup : upAnd s = true) (hruns : beaconRuns s j = true) (hgs : j.grants = ws :: gs) (hclk : s.tim.clkOk = true)
    (hreach : reached s (beaconDue j j.launched) = true) (hport : portUp s = true) (hlen : fldW (jobWord j 1) 0 6 ≤ ws.length) :
    Effects (.beaconLaunch id) s (fun u =>
      if onTime s (beaconDue j j.launched) = true ∨ inLateWindow s (beaconDue j j.launched) = true then
        (jobOf u id).map (·.launched) = some (j.launched + 1) ∧
        (jobOf u id).map (·.late) = some (j.late || !onTime s (beaconDue j j.launched)) ∧
        BeaconOut s j ws (!onTime s (beaconDue j j.launched)) u
      else (jobOf u id).map (·.stop) = some (some stLate) ∧ u.tim.launchRej = s.tim.launchRej + 1) := by
  obtain ⟨⟨⟨⟨⟨hop, -⟩, hs⟩, -⟩, -⟩, -⟩ : ((((j.op = 0x12 ∧ j.accepted = true) ∧ j.stop = none) ∧ j.phase ≠ .held) ∧ j.phase ≠ .fenced) ∧
      halted s = false := by
    simpa [beaconRuns, and_assoc] using hruns
  refine effects_of_act exec_beaconLaunch (running_of_upAnd hup) ?_
  cases hok : (!onTime s (beaconDue j j.launched) && !inLateWindow s (beaconDue j j.launched)) with
  | true =>
    obtain ⟨hon, hin⟩ : onTime s (beaconDue j j.launched) = false ∧ inLateWindow s (beaconDue j j.launched) = false := by simpa using hok
    rw [beaconLaunch_rejects hj hruns hgs hclk hreach hport hlen hok, if_neg (by rw [hon, hin]; decide)]
    exact rejectLaunch_ends hj hs
  | false =>
    have hin : onTime s (beaconDue j j.launched) = true ∨ inLateWindow s (beaconDue j j.launched) = true := by
      cases hon : onTime s (beaconDue j j.launched) with
      | true => exact .inl rfl
      | false =>
        rw [hon] at hok
        exact .inr (by simpa using hok)
    rw [if_pos hin]
    exact beaconSent_shows hj hop (beaconLaunch_sends hj hruns hgs hclk hreach hport hlen hok)

end

/-- Settles O42: launches and fences start jobs, which keep how they launched whatever their start does. -/
theorem launchesAndFences : Obligations.LaunchesAndFences := by
  intro s hup hh
  refine ⟨fun id j due hj ht hheld hclk hreach hfree hs => atLaunch_effects hup hh hj ht hheld hclk hreach hfree hs,
    fun r x hx => fenceRelease_effects hup hh hx, fun id j hj hruns hv hlt hreach => ?_,
    fun id j ws gs hj hruns hgs hclk hreach hport hlen => beaconLaunch_effects hj hup hruns hgs hclk hreach hport hlen⟩
  obtain ⟨u, he, hasked, hwait⟩ := beaconGrantRequest_effects hup hj hruns hv hlt hreach
  refine ⟨u, he, hasked, fun d hq hon hno hshort hle hpos => ?_⟩
  obtain ⟨x, w, hx, hw, hkey, hwhat, hneed, -⟩ := hwait d hq hon hno hshort hle hpos
  exact ⟨x, w, hx, hw, hkey, hwhat, hneed⟩

end Sys2Proof.Machine

/-! PROOFS. The flash bus: accesses to the windows, raw commands, transactions and polls (R5, R303 to R306, R343, R350). -/

namespace Sys2Proof.Machine

/-! ### The queue of the bus -/

theorem xipStart_map {β : Type} {f : XipOp → β} {s : State} (hf : ∀ o, f { o with started := true } = f o) :
    (xipStart s).lsp.ops.map f = s.lsp.ops.map f := by
  unfold xipStart
  cases hops : s.lsp.ops with
  | nil => exact congrArg (List.map f) hops
  | cons o rest =>
    dsimp only
    by_cases h1 : o.started = true
    · rw [if_pos h1, hops]
    · rw [if_neg h1]
      have hcons : (({ o with started := true } : XipOp) :: rest).map f = (o :: rest).map f := by rw [List.map_cons, hf, List.map_cons]
      by_cases h2 : (decide (o.what = .raw) && decide (fld o.cmd 28 2 = 3)) = true
      · rw [onlyIf, if_pos h2]
        exact hcons
      · rw [onlyIf, if_neg h2]
        exact hcons

theorem xipQueue_map {β : Type} {f : XipOp → β} {o : XipOp} {s : State} (hf : ∀ o, f { o with started := true } = f o) :
    (xipQueue o s).lsp.ops.map f = s.lsp.ops.map f ++ [f o] := by
  rw [xipQueue, xipStart_map hf, List.map_append]
  rfl

/-- All of the port but the queue of the bus, what is on its wires and which bank is selected. -/
def busRest (s : State) : Lsp := { s.lsp with ops := [], bus := [], bankOut := 0, slavePend := false }

theorem xipStart_eq {s : State} :
    ∃ k l b, xipStart s = { s with clk := k, lsp := { s.lsp with ops := l, bus := b } } := by
  unfold xipStart
  cases s.lsp.ops with
  | nil => exact ⟨_, _, _, rfl⟩
  | cons o rest =>
    dsimp only
    by_cases h1 : o.started = true
    · rw [if_pos h1]
      exact ⟨_, _, _, rfl⟩
    rw [if_neg h1, onlyIf]
    by_cases h2 : (decide (o.what = .raw) && decide (fld o.cmd 28 2 = 3)) = true
    · rw [if_pos h2]
      exact ⟨_, _, _, rfl⟩
    · rw [if_neg h2]
      exact ⟨_, _, _, rfl⟩

theorem dselSync_eq {s : State} : ∃ x, dselSync s = { s with lsp := { s.lsp with bankOut := x } } := by
  unfold dselSync
  dsimp only
  split
  · split
    · exact ⟨_, rfl⟩
    · exact ⟨_, rfl⟩
  · split
    · exact ⟨_, rfl⟩
    · exact ⟨_, rfl⟩

@[simp] theorem busRest_xipStart {s : State} : busRest (xipStart s) = busRest s := by
  obtain ⟨k, l, b, h⟩ := xipStart_eq (s := s)
  rw [h]
  rfl

@[simp] theorem xipStart_core {s : State} : (xipStart s).core = s.core := by
  obtain ⟨k, l, b, h⟩ := xipStart_eq (s := s)
  rw [h]

@[simp] theorem xipStart_evt {s : State} : (xipStart s).evt = s.evt := by
  obtain ⟨k, l, b, h⟩ := xipStart_eq (s := s)
  rw [h]

@[simp] theorem busRest_dselSync {s : State} : busRest (dselSync s) = busRest s := by
  obtain ⟨x, h⟩ := dselSync_eq (s := s)
  rw [h]
  rfl

@[simp] theorem dselSync_ops {s : State} : (dselSync s).lsp.ops = s.lsp.ops := by
  obtain ⟨x, h⟩ := dselSync_eq (s := s)
  rw [h]

@[simp] theorem dselSync_core {s : State} : (dselSync s).core = s.core := by
  obtain ⟨x, h⟩ := dselSync_eq (s := s)
  rw [h]

/-- The uses that wait stay the same when the next one begins. -/
theorem xipNext_waiting {s : State} : (xipNext s).lsp.ops.map (·.what) = s.lsp.ops.map (·.what) := by
  rw [xipNext, xipStart_map fun _ => rfl, dselSync_ops]

@[simp] theorem busRest_xipNext {s : State} : busRest (xipNext s) = busRest s := by
  rw [xipNext, busRest_xipStart, busRest_dselSync]
  rfl

@[simp] theorem xipNext_core {s : State} : (xipNext s).core = s.core := by
  rw [xipNext, xipStart_core, dselSync_core]

/-! ### Accesses to a window -/

section
variable {a : Acc} {w off len : Nat} {data : List Byte} {write : Bool} {s : State}

/-- The record of a write that the OGN-832 discards (R5). -/
def dropNoted (w : Nat) (write : Bool) (s : State) : State := onlyIf (write && s.pwr.is832) (post 0x28 w 0) s

theorem dropNoted_lsp : (dropNoted w write s).lsp = s.lsp := by
  unfold dropNoted onlyIf
  split
  · exact post_lsp
  · rfl

theorem dropNoted_seq : (dropNoted w true s).evt.seq = if s.pwr.is832 && eventEnabled s.evt 0x28 then s.evt.seq + 1 else s.evt.seq := by
  unfold dropNoted onlyIf
  rw [Bool.true_and]
  cases s.pwr.is832 with
  | true => rw [if_pos rfl, post_evt_seq, Bool.true_and]
  | false => rfl

/-- The error bits of a refused access (R290, R303, R307). -/
def accessErrors (bad slave locked : Bool) (s : State) : State :=
  onlyIf locked (mstErr 2) (onlyIf bad (mstErr 0) (onlyIf slave (mstErr 1) s))

theorem accessErrors_ops {bad slave locked : Bool} : (accessErrors bad slave locked s).lsp.ops = s.lsp.ops := by
  cases bad <;> cases slave <;> cases locked <;> rfl

theorem accessErrors_evt {bad slave locked : Bool} : (accessErrors bad slave locked s).evt = s.evt := by
  cases bad <;> cases slave <;> cases locked <;> rfl

theorem accessErrors_bit {bad slave locked : Bool} :
    (accessErrors bad slave locked s).lsp.mstErr.getLsbD 2 = (s.lsp.mstErr.getLsbD 2 || locked) := by
  cases bad <;> cases slave <;> cases locked <;>
    simp [accessErrors, onlyIf, mstErr]

/-- The cases of an access to a window. -/
theorem xipAccess_eq : xipAccess a w write off len data s =
    if halted s then answer a write 8 [] false (dropNoted w write s)
    else if permits s a.req (if write then .xipWr else .xipRd) = false then answer a write 2 [] false (dropNoted w write s)
    else if s.lsp.role = true ∨ (len = 0 ∨ 256 < len ∨ 0x1000000 < off + len) ∨ (write && s.pwr.is832) = true ∨ (write && xipLocked s w) = true then
      answer a write 3 [] false (accessErrors (decide (len = 0) || decide (256 < len) || decide (16777216 < off + len)) s.lsp.role
        (write && xipLocked s w) (dropNoted w write s))
    else xipQueue ⟨.access a, w, write, off, len, data, 0, false, 0, 0, false, 0⟩ s := by
  unfold xipAccess
  dsimp only
  by_cases hh : halted s = true
  · rw [if_pos hh, if_pos hh]
    rfl
  rw [if_neg hh, if_neg hh]
  by_cases hp : permits s a.req (if write then .xipWr else .xipRd) = false
  · rw [if_pos hp, if_pos (by rw [hp]; rfl)]
    rfl
  rw [if_neg hp, if_neg (by rw [Bool.not_eq_true', ]; exact hp)]
  simp only [Bool.or_eq_true, decide_eq_true_eq, or_assoc, accessErrors, dropNoted]

end

/-- Each refusal of an access to a window is answered with its status. -/
theorem core_of_refused {a : Acc} {s : State} {write : Bool} {st : Nat} {u : State} :
    a.path = .core → (answer (norm s a) write st [] false u).core.status = BitVec.ofNat 4 st := fun hp =>
  answer_core_status (norm_path.trans hp)

section
variable {a : Acc} {w off : Nat} {s : State} (hw : w < 2) (ho : off < 0x1000000) (he : enters a s = true)
include hw ho he

theorem xipRow_entered {write : Bool} {len : Nat} {data : List Byte} :
    ∃ r, xipRow a w write off len data s = xipAccess (norm s a) w write off len data { s with ring := r } := by
  obtain ⟨r, hr⟩ := entered_ring (a := a) (hold := false) (s := s)
  exact ⟨r, by rw [xipRow, if_pos ⟨hw, ho⟩, arrive_of_enters he, hr]⟩

theorem xipRead_effects (len : Nat) : Effects (.xipRead a w off len) s (fun u =>
    if halted s then u.lsp.ops = s.lsp.ops ∧ (a.path = .core → u.core.status = BitVec.ofNat 4 8)
    else if permits s (who a s) .xipRd = false then u.lsp.ops = s.lsp.ops ∧ (a.path = .core → u.core.status = BitVec.ofNat 4 2)
    else if s.lsp.role = true ∨ (len = 0 ∨ 256 < len ∨ 0x1000000 < off + len) then
      u.lsp.ops = s.lsp.ops ∧ (a.path = .core → u.core.status = BitVec.ofNat 4 3)
    else u.lsp.ops.map (fun o => (o.what, o.win, o.write, o.off, o.len)) =
      s.lsp.ops.map (fun o => (o.what, o.win, o.write, o.off, o.len)) ++ [(.access (norm s a), w, false, off, len)]) := by
  refine effects_of_act exec_xipRead (running_of_enters he) ?_
  obtain ⟨r, hr⟩ := xipRow_entered hw ho he (write := false) (len := len) (data := [])
  rw [hr, xipAccess_eq]
  have hhalt : halted { s with ring := r } = halted s := rfl
  have hperm : permits { s with ring := r } (norm s a).req .xipRd = permits s (who a s) .xipRd := rfl
  rw [hhalt]
  by_cases hh : halted s = true
  · rw [if_pos hh, if_pos hh, answer_lsp, dropNoted_lsp]
    exact ⟨rfl, core_of_refused⟩
  rw [if_neg hh, if_neg hh]
  simp only [Bool.false_eq_true, if_false, hperm, Bool.false_and, or_false]
  by_cases hp : permits s (who a s) .xipRd = false
  · rw [if_pos hp, if_pos hp, answer_lsp, dropNoted_lsp]
    exact ⟨rfl, core_of_refused⟩
  rw [if_neg hp, if_neg hp]
  by_cases hb : s.lsp.role = true ∨ (len = 0 ∨ 256 < len ∨ 0x1000000 < off + len)
  · rw [if_pos hb, if_pos hb, answer_lsp, accessErrors_ops, dropNoted_lsp]
    exact ⟨rfl, core_of_refused⟩
  · rw [if_neg hb, if_neg hb]
    exact xipQueue_map fun _ => rfl

theorem xipWrite_effects (bytes : List Byte) : Effects (.xipWrite a w off bytes) s (fun u =>
    u.evt.seq = (if s.pwr.is832 && eventEnabled s.evt 0x28 then s.evt.seq + 1 else s.evt.seq) ∧
    if halted s then u.lsp.ops = s.lsp.ops ∧ (a.path = .core → u.core.status = BitVec.ofNat 4 8)
    else if permits s (who a s) .xipWr = false then u.lsp.ops = s.lsp.ops ∧ (a.path = .core → u.core.status = BitVec.ofNat 4 2)
    else if s.lsp.role = true ∨ (bytes.length = 0 ∨ 256 < bytes.length ∨ 0x1000000 < off + bytes.length) ∨ s.pwr.is832 = true ∨
        xipLocked s w = true then
      (u.lsp.ops = s.lsp.ops ∧ (a.path = .core → u.core.status = BitVec.ofNat 4 3)) ∧
        u.lsp.mstErr.getLsbD 2 = (s.lsp.mstErr.getLsbD 2 || xipLocked s w)
    else u.lsp.ops.map (fun o => (o.what, o.win, o.write, o.off, o.len, o.data)) =
      s.lsp.ops.map (fun o => (o.what, o.win, o.write, o.off, o.len, o.data)) ++
        [(.access (norm s a), w, true, off, bytes.length, bytes)]) := by
  refine effects_of_act exec_xipWrite (running_of_enters he) ?_
  obtain ⟨r, hr⟩ := xipRow_entered hw ho he (write := true) (len := bytes.length) (data := bytes)
  rw [hr, xipAccess_eq]
  have hhalt : halted { s with ring := r } = halted s := rfl
  have hperm : permits { s with ring := r } (norm s a).req .xipWr = permits s (who a s) .xipWr := rfl
  have hlock : xipLocked { s with ring := r } w = xipLocked s w := rfl
  rw [hhalt]
  by_cases hh : halted s = true
  · rw [if_pos hh, if_pos hh, answer_lsp, answer_evt, dropNoted_lsp, dropNoted_seq]
    exact ⟨rfl, rfl, core_of_refused⟩
  rw [if_neg hh, if_neg hh]
  simp only [if_true, hperm, hlock, Bool.true_and]
  by_cases hp : permits s (who a s) .xipWr = false
  · rw [if_pos hp, if_pos hp, answer_lsp, answer_evt, dropNoted_lsp, dropNoted_seq]
    exact ⟨rfl, rfl, core_of_refused⟩
  rw [if_neg hp, if_neg hp]
  by_cases hb : s.lsp.role = true ∨ (bytes.length = 0 ∨ 256 < bytes.length ∨ 0x1000000 < off + bytes.length) ∨ s.pwr.is832 = true ∨
      xipLocked s w = true
  · rw [if_pos hb, if_pos hb, answer_lsp, answer_evt, accessErrors_ops, accessErrors_evt, accessErrors_bit, dropNoted_lsp, dropNoted_seq]
    exact ⟨rfl, ⟨rfl, core_of_refused⟩, rfl⟩
  · rw [if_neg hb, if_neg hb]
    refine ⟨?_, xipQueue_map fun _ => rfl⟩
    have h832 : s.pwr.is832 = false := by
      cases h : s.pwr.is832 with
      | false => rfl
      | true => exact absurd (.inr (.inr (.inl h))) hb
    rw [h832, Bool.false_and, if_neg Bool.false_ne_true, xipQueue, xipStart_evt]

end

end Sys2Proof.Machine

/-! PROOFS. The flash bus: raw commands, the ends of transactions and polls of a write (R304 to R306). -/

namespace Sys2Proof.Machine

/-! ### Raw commands -/

theorem startWord_fields (v : W32) : bitAt (v ||| 0x80000000) 31 = true ∧ (v ||| 0x80000000) &&& 0x7FFFFF7F = v &&& 0x7FFFFF7F := by
  constructor
  · simp [bitAt]
  · apply BitVec.eq_of_getLsbD_eq
    intro i hi
    simp only [BitVec.getLsbD_and, BitVec.getLsbD_or]
    interval_cases i <;> simp

theorem rawCommand_of_refused {v : W32} {s : State} (h : rawRefused s v = true) :
    ∃ e, rawCommand v s = { s with lsp := { s.lsp with mstErr := e } } := by
  rw [rawCommand, if_pos h]
  cases xipLocked s (fld v 30 1) <;> cases s.lsp.role <;> cases rawIllegal s v <;> exact ⟨_, rfl⟩

theorem rawCommand_of_taken {v : W32} {s : State} (h : rawRefused s v = false) :
    (rawCommand v s).lsp.ops.map (·.what) = s.lsp.ops.map (·.what) ++ [.raw] ∧
      busRest (rawCommand v s) = { busRest s with mstBusy := true, mstDone := false } := by
  rw [rawCommand, if_neg (by rw [h]; exact Bool.false_ne_true)]
  refine ⟨xipQueue_map fun _ => rfl, ?_⟩
  rw [xipQueue, busRest_xipStart]
  rfl

theorem rawCommand_effects {a : Acc} {v : W32} {s : State} (h : completes a 0xD088 (v ||| 0x80000000) s = true) :
    Effects (.rawCommand a v) s (fun u =>
      if rawRefused s (v ||| 0x80000000) then
        u.sys.gRefused = true ∧ u.lsp.mstCmd = s.lsp.mstCmd ∧ u.lsp.ops = s.lsp.ops ∧ u.lsp.mstBusy = s.lsp.mstBusy
      else u.lsp.mstBusy = true ∧ u.lsp.mstDone = false ∧ u.lsp.mstCmd = v &&& 0x7FFFFF7F ∧
        u.lsp.ops.map (·.what) = s.lsp.ops.map (·.what) ++ [.raw]) := by
  obtain ⟨t, ⟨r, y, rfl, hy⟩, he⟩ := pairRow_reaches h (by decide)
  obtain ⟨hstart, hmask⟩ := startWord_fields v
  refine effects_of_act exec_rawCommand (running_of_completes h) ?_
  rw [he, answer_lsp, answer_sys]
  have hsame : ∀ y', rawRefused { s with ring := r, sys := y' } (v ||| 0x80000000) = rawRefused s (v ||| 0x80000000) := fun _ => rfl
  have hrefuses : guardRefuses { s with ring := r, sys := y } 0xD088 (v ||| 0x80000000) = rawRefused s (v ||| 0x80000000) := by
    show (bitAt _ 31 && rawRefused _ _) = _
    rw [hstart, Bool.true_and, hsame]
  rw [guardComplete, hrefuses]
  by_cases hr : rawRefused s (v ||| 0x80000000) = true
  · rw [if_pos hr, if_pos hr]
    have hnote : ∀ z, ∃ e, guardRefusal 0xD088 (v ||| 0x80000000) { s with ring := r, sys := z } =
        { s with ring := r, sys := z, lsp := { s.lsp with mstErr := e } } := fun z => rawCommand_of_refused hr
    obtain ⟨e, hraw⟩ := hnote { y with gRefused := true, gReq := who a s, gOff := BitVec.ofNat 16 0xD088 }
    show (guardRefusal 0xD088 (v ||| 0x80000000) { s with ring := r, sys :=
      { y with gRefused := true, gReq := who a s, gOff := BitVec.ofNat 16 0xD088 } }).sys.gRefused = true ∧ _
    have hsame' : guardRefusal 0xD088 (v ||| 0x80000000) (guardNote (who a s) 0xD088
        { s with ring := r, sys := { y with gRefused := true } }) = _ := hraw
    dsimp only
    rw [hraw, hsame']
    exact ⟨rfl, rfl, rfl, rfl⟩
  · rw [if_neg hr, if_neg hr]
    have happly : guardApply (who a s) 0xD088 (v ||| 0x80000000) { s with ring := r, sys := y } =
        mstCmdPair (v ||| 0x80000000) { s with ring := r, sys := y } := rfl
    obtain ⟨hops, hrest⟩ := rawCommand_of_taken (s := { s with ring := r, sys := y }) (v := v ||| 0x80000000)
      (by rw [hsame, Bool.eq_false_iff]; exact hr)
    rw [happly, mstCmdPair, if_pos hstart]
    exact ⟨(congrArg Lsp.mstBusy hrest :), (congrArg Lsp.mstDone hrest :), hmask, hops⟩

/-! ### The first use of the bus -/

section
variable {o : XipOp} {rest : List XipOp} {s : State} (hu : upAnd s = true) (hops : s.lsp.ops = o :: rest)

/-- The end of an access by the control core. -/
theorem xipReply_access {b : Acc} {st : Nat} {data : List Byte} {u : State} (hw : o.what = .access b) :
    (xipReply o st data u).lsp = u.lsp ∧
      (b.path = .core → (xipReply o st data u).core.status = BitVec.ofNat 4 st ∧ (xipReply o st data u).core.data = data) := by
  rw [xipReply, hw]
  exact ⟨answer_lsp, fun hp => ⟨answer_core_status hp, answer_core_data hp⟩⟩

theorem ended_access {b : Acc} {st : Nat} {data : List Byte} {u : State} (hw : o.what = .access b) (hu : u.lsp.ops = rest) :
    (xipNext (xipReply o st data u)).lsp.ops.map (·.what) = rest.map (·.what) ∧
      (b.path = .core → (xipNext (xipReply o st data u)).core.status = BitVec.ofNat 4 st ∧
        (xipNext (xipReply o st data u)).core.data = data) := by
  obtain ⟨hl, hc⟩ := xipReply_access (o := o) (st := st) (data := data) (u := u) hw
  rw [xipNext_waiting, xipNext_core, hl, hu]
  exact ⟨rfl, hc⟩

include hops

theorem xipDone_of_begun {data : List Byte} (hs : o.started = true) (hp : o.polling = false) (hd : data.length = xipReads o) :
    xipDone data s =
      if o.write then dselSync { s with lsp := { s.lsp with
        ops := { o with polling := true, pollTick := s.clk.ticks, progTick := s.clk.ticks } :: rest } }
      else xipNext (xipComplete o data { s with lsp := { s.lsp with ops := rest } }) := by
  unfold xipDone
  rw [hops]
  dsimp only
  rw [if_neg (by rw [hs]; decide), if_pos (by rw [hp]; rfl), if_neg (not_not_intro hd)]

theorem xipDone_of_waiting {data : List Byte} (hs : o.started = false) : xipDone data s = s := by
  unfold xipDone
  rw [hops]
  dsimp only
  rw [if_pos (by rw [hs]; rfl)]

include hu

theorem readDone_effects {b : Acc} {data : List Byte} (hs : o.started = true) (hp : o.polling = false) (hw : o.what = .access b)
    (hr : o.write = false) (hd : data.length = o.len) : Effects (.xipTransactionDone data) s (fun u =>
      u.lsp.ops.map (·.what) = rest.map (·.what) ∧ (b.path = .core → u.core.status = 0 ∧ u.core.data = data)) := by
  refine effects_of_act exec_xipTransactionDone (running_of_upAnd hu) ?_
  rw [xipDone_of_begun hops hs hp (by rw [xipReads, hw, hr]; exact hd), if_neg (by rw [hr]; exact Bool.false_ne_true)]
  have hcomp : ∀ u, xipComplete o data u = xipReply o 0 data u := fun u => by rw [xipComplete, hw]
  rw [hcomp]
  exact ended_access hw rfl

theorem rawDone_effects {data : List Byte} (hs : o.started = true) (hp : o.polling = false) (hw : o.what = .raw)
    (hr : o.write = false) (hd : data.length = fld o.cmd 0 7) : Effects (.xipTransactionDone data) s (fun u =>
      u.lsp.ops.map (·.what) = rest.map (·.what) ∧ u.lsp.mstBusy = false ∧ u.lsp.mstDone = true ∧
        u.lsp.buf = bytesToW32 (data ++ (w32ToBytes s.lsp.buf).drop data.length)) := by
  refine effects_of_act exec_xipTransactionDone (running_of_upAnd hu) ?_
  rw [xipDone_of_begun hops hs hp (by rw [xipReads, hw]; exact hd), if_neg (by rw [hr]; exact Bool.false_ne_true)]
  have hcomp : ∀ u : State, xipComplete o data u = { u with lsp := { u.lsp with
      buf := bytesToW32 (data ++ (mstBytes u).drop data.length), mstBusy := false, mstDone := true } } := fun u => by
    rw [xipComplete, hw]
    dsimp only
    rw [xipReply, hw]
    rfl
  rw [hcomp]
  have hrest := busRest_xipNext (s := { { s with lsp := { s.lsp with ops := rest } } with lsp := { s.lsp with
    ops := rest, buf := bytesToW32 (data ++ (mstBytes s).drop data.length), mstBusy := false, mstDone := true } })
  exact ⟨xipNext_waiting, (congrArg Lsp.mstBusy hrest :), (congrArg Lsp.mstDone hrest :), (congrArg Lsp.buf hrest :)⟩

theorem programDone_effects {b : Acc} (hs : o.started = true) (hp : o.polling = false) (hw : o.what = .access b)
    (hr : o.write = true) : Effects (.xipTransactionDone []) s (fun u =>
      u.lsp.ops = { o with polling := true, pollTick := s.clk.ticks, progTick := s.clk.ticks } :: rest) := by
  refine effects_of_act exec_xipTransactionDone (running_of_upAnd hu) ?_
  rw [xipDone_of_begun hops hs hp (by rw [xipReads, hw, hr]; rfl), if_pos hr, dselSync_ops]

theorem earlyDone {data : List Byte} (hs : o.started = false) : exec (.xipTransactionDone data) s = .next (finishUp s) := by
  rw [exec_xipTransactionDone, act, if_pos (running_of_upAnd hu), xipDone_of_waiting hops hs]

/-! ### Polls of a write -/

end

/-- The settings of a window once a poll has read its status byte. -/
theorem xipCfg_updXip {w : Nat} {f : XipCfg → XipCfg} {u : State} : xipCfg (updXip w f u) w = f (xipCfg u w) := by
  unfold xipCfg updXip
  by_cases h : w = 0
  · simp only [if_pos h]
  · simp only [if_neg h]

theorem updXip_rest {w : Nat} {f : XipCfg → XipCfg} {u : State} :
    (updXip w f u).lsp.ops = u.lsp.ops ∧ (updXip w f u).core = u.core := by
  unfold updXip
  by_cases h : w = 0
  · simp only [if_pos h, and_self]
  · simp only [if_neg h, and_self]

theorem busRest_of_lsp {u v : State} (h : u.lsp = v.lsp) : busRest u = busRest v := by rw [busRest, busRest, h]

theorem xipCfg_of_busRest {w : Nat} {u v : State} (h : busRest u = busRest v) : xipCfg u w = xipCfg v w := by
  have h0 : u.lsp.w0 = v.lsp.w0 := (congrArg Lsp.w0 h :)
  have h1 : u.lsp.w1 = v.lsp.w1 := (congrArg Lsp.w1 h :)
  rw [xipCfg, xipCfg, h0, h1]

section
variable {o : XipOp} {rest : List XipOp} {s : State} {b : Acc} (hu : upAnd s = true) (hops : s.lsp.ops = o :: rest)
  (hw : o.what = .access b) (hp : o.polling = true)
/-- The state in which a poll has read the status byte of the flash. -/
def polled (sr : Byte) (o : XipOp) (rest : List XipOp) (s : State) : State :=
  updXip o.win (fun x => { x with lastSr := sr }) { s with lsp := { s.lsp with
    ops := { o with pollTick := s.clk.ticks } :: rest, bus := [xipTx s o.win (xipCfg s o.win).rdsrOp [] 0 [] 1] } }

theorem polled_sr {sr : Byte} : (xipCfg (polled sr o rest s) o.win).lastSr = sr := by
  rw [polled, xipCfg_updXip]

theorem polled_piece {sr : Byte} : pieceLen (xipCfg (polled sr o rest s) o.win) { o with pollTick := s.clk.ticks } =
    pieceLen (xipCfg s o.win) o := by
  rw [polled, xipCfg_updXip]
  rfl

include hops

include hu in
theorem earlyTimeout (ho : pollOver s o = false) : exec .pollTimeout s = .next (finishUp s) := by
  have h : pollTimeout s = s := by
    unfold pollTimeout
    rw [hops]
    dsimp only
    rw [if_neg (by rw [ho, Bool.and_false]; exact Bool.false_ne_true)]
  rw [exec_pollTimeout, act, if_pos (running_of_upAnd hu), h]

include hp

theorem flashPoll_of_due {sr : Byte} (ho : pollOver s o = false)
    (hd : usTicks (xipCfg s o.win).intervalUs.toNat ≤ s.clk.ticks - o.pollTick) : flashPoll sr s =
      if sr.getLsbD (xipCfg s o.win).busyBit.toNat = (xipCfg s o.win).busyPol then
        writeOn { o with pollTick := s.clk.ticks } rest (polled sr o rest s)
      else polled sr o rest s := by
  unfold flashPoll
  rw [hops]
  dsimp only
  rw [if_neg (by rw [hp, ho]; simpa using hd)]
  rfl

theorem pollTimeout_of_over (ho : pollOver s o = true) :
    pollTimeout s = xipNext (xipReply o 3 [] (mstErr 3 { s with lsp := { s.lsp with ops := rest } })) := by
  unfold pollTimeout
  rw [hops]
  dsimp only
  rw [if_pos (by rw [hp, ho]; rfl)]

include hu hw

theorem pollTimeout_effects (ho : pollOver s o = true) : Effects .pollTimeout s (fun u =>
    u.lsp.ops.map (·.what) = rest.map (·.what) ∧ u.lsp.mstErr.getLsbD 3 = true ∧ (b.path = .core → u.core.status = 3)) := by
  refine effects_of_act exec_pollTimeout (running_of_upAnd hu) ?_
  rw [pollTimeout_of_over hops hp ho]
  obtain ⟨hops', hcore⟩ := ended_access (o := o) (b := b) (st := 3) (data := []) (rest := rest)
    (u := mstErr 3 { s with lsp := { s.lsp with ops := rest } }) hw rfl
  refine ⟨hops', ?_, fun hc => (hcore hc).1⟩
  generalize hv : mstErr 3 { s with lsp := { s.lsp with ops := rest } } = v
  have hbit : v.lsp.mstErr.getLsbD 3 = true := by
    rw [← hv]
    show (s.lsp.mstErr ||| _).getLsbD 3 = true
    rw [BitVec.getLsbD_or]
    simp
  have hrest : busRest (xipNext (xipReply o 3 [] v)) = busRest v := busRest_xipNext.trans (busRest_of_lsp (xipReply_access hw).1)
  rw [show (xipNext (xipReply o 3 [] v)).lsp.mstErr = v.lsp.mstErr from (congrArg Lsp.mstErr hrest :)]
  exact hbit

theorem flashPoll_effects {sr : Byte} (ho : pollOver s o = false)
    (hd : usTicks (xipCfg s o.win).intervalUs.toNat ≤ s.clk.ticks - o.pollTick) : Effects (.flashPoll sr) s (fun u =>
      (xipCfg u o.win).lastSr = sr ∧
      (if sr.getLsbD (xipCfg s o.win).busyBit.toNat ≠ (xipCfg s o.win).busyPol then
          u.lsp.ops = { o with pollTick := s.clk.ticks } :: rest
        else if o.len ≤ o.done + pieceLen (xipCfg s o.win) o then
          u.lsp.ops.map (·.what) = rest.map (·.what) ∧ (b.path = .core → u.core.status = 0)
        else u.lsp.ops = { o with
          pollTick := s.clk.ticks, done := o.done + pieceLen (xipCfg s o.win) o, polling := false } :: rest)) := by
  refine effects_of_act exec_flashPoll (running_of_upAnd hu) ?_
  rw [flashPoll_of_due hops hp ho hd]
  by_cases hb : sr.getLsbD (xipCfg s o.win).busyBit.toNat = (xipCfg s o.win).busyPol
  · rw [if_pos hb, if_neg (not_not_intro hb)]
    unfold writeOn
    dsimp only
    rw [polled_piece]
    by_cases hl : o.len ≤ o.done + pieceLen (xipCfg s o.win) o
    · rw [if_pos hl, if_pos hl]
      generalize hv : ({ polled sr o rest s with lsp := { (polled sr o rest s).lsp with ops := rest } } : State) = v
      have hcfg : xipCfg v o.win = xipCfg (polled sr o rest s) o.win := by rw [← hv]; rfl
      have hrest : v.lsp.ops = rest := by rw [← hv]
      obtain ⟨hops', hcore⟩ := ended_access (o := { o with pollTick := s.clk.ticks }) (b := b) (st := 0) (data := []) hw hrest
      refine ⟨?_, hops', fun hc => (hcore hc).1⟩
      have hlsp := (xipReply_access (o := { o with pollTick := s.clk.ticks }) (b := b) (st := 0) (data := []) (u := v) hw).1
      rw [xipCfg_of_busRest busRest_xipNext, xipCfg_of_busRest (busRest_of_lsp hlsp), hcfg, polled_sr]
    · rw [if_neg hl, if_neg hl]
      exact ⟨polled_sr, rfl⟩
  · rw [if_neg hb, if_pos hb]
    exact ⟨polled_sr, updXip_rest.1⟩

end

end Sys2Proof.Machine

/-! PROOFS. The flash bus at the end of a step: only reads that jobs ask for join it; the locks of the flash (R305, R307). -/

namespace Sys2Proof.Machine

/-! ### Uses that join the bus -/

/-- What a use of the bus is for. -/
def busKey (o : XipOp) : XipFor × Nat × Bool := (o.what, o.win, o.write)

/-- Only reads for jobs join the flash bus, at its end. -/
def Joins (s t : State) : Prop := ∃ l : List XipOp, (∀ o ∈ l, readsForJob o) ∧ t.lsp.ops.map busKey = s.lsp.ops.map busKey ++ l.map busKey

theorem joins_of_ops {s t : State} (h : t.lsp.ops.map busKey = s.lsp.ops.map busKey) : Joins s t :=
  ⟨[], by simp, by rw [h, List.map_nil, List.append_nil]⟩

theorem joins_of_lsp {s t : State} (h : t.lsp = s.lsp) : Joins s t := joins_of_ops (by rw [h])

theorem joins_of_goes {s t : State} (h : Goes s t) : Joins s t := by
  obtain ⟨l, e, hl, hall⟩ := h.bus
  exact ⟨l, hall, by rw [hl, List.map_append]⟩

theorem Joins.trans {s t u : State} (h : Joins s t) (g : Joins t u) : Joins s u := by
  obtain ⟨l, hl, hs⟩ := h
  obtain ⟨m, hm, ht⟩ := g
  refine ⟨l ++ m, fun o ho => ?_, by rw [ht, hs, List.map_append, List.append_assoc]⟩
  obtain ho | ho := List.mem_append.mp ho
  · exact hl o ho
  · exact hm o ho

theorem Joins.after {s t u : State} (g : Joins t u) (h : Joins s t) : Joins s u := h.trans g

/-- What holds of the uses that wait and of every read for a job, holds of the uses that wait after others joined. -/
theorem Joins.tail {s t : State} {P : XipFor × Nat × Bool → Prop} (h : Joins s t) (hread : ∀ o, readsForJob o → P (busKey o))
    (hs : ∀ o ∈ s.lsp.ops.tail, P (busKey o)) : ∀ o ∈ t.lsp.ops.tail, P (busKey o) := by
  obtain ⟨l, hl, heq⟩ := h
  have hkeys : ∀ k ∈ (s.lsp.ops.map busKey ++ l.map busKey).tail, P k := by
    cases hops : s.lsp.ops with
    | nil =>
      intro k hk
      obtain ⟨o, ho, rfl⟩ := List.mem_map.mp (List.mem_of_mem_tail hk)
      exact hread o (hl o ho)
    | cons x xs =>
      intro k hk
      obtain hk | hk := List.mem_append.mp hk
      · obtain ⟨o, ho, rfl⟩ := List.mem_map.mp hk
        exact hs o (by rw [hops]; exact ho)
      · obtain ⟨o, ho, rfl⟩ := List.mem_map.mp hk
        exact hread o (hl o ho)
  intro o ho
  refine hkeys _ ?_
  rw [← heq, ← List.map_tail]
  exact List.mem_map_of_mem ho

/-! ### The end of a step -/

theorem lsp_of_outer {s t : State} (h : outer t = outer s) : t.lsp = s.lsp := (congrArg State.lsp h :)

theorem lsp_foldl {α : Type} {g : State → α → State} {l : List α} {s : State} (h : ∀ u x, (g u x).lsp = u.lsp) :
    (l.foldl g s).lsp = s.lsp :=
  foldl_keeps (P := fun t => t.lsp = s.lsp) (fun t x ht => (h t x).trans ht) rfl

theorem goes_benchSettle {s : State} : Goes s (benchSettle s) := by
  have hdeny : ∀ u, Goes u (denyOrphans u) := fun u => .foldl fun _ _ => goes_stopJob
  have hstarve : ∀ u, Goes u (starveWaiters u) := fun u => .ite (.refl u) (.foldl fun _ _ => goes_stopJob)
  exact (hstarve _).after ((hdeny _).after (.of_same rfl rfl rfl))

theorem goes_settleJobs {s : State} : Goes s (settleJobs s) := by
  have hsync : ∀ u, Goes u (syncHash (syncBench u)) := fun u => .of_same rfl rfl rfl
  unfold settleJobs
  dsimp only
  split
  · exact .refl s
  · exact (hsync _).after (goes_benchSettle.after (goes_hashNext.after goes_permNext))

theorem writeRecord_lsp {j : Job} {s : State} : (writeRecord j s).lsp = s.lsp := by
  unfold writeRecord
  dsimp only
  split
  · exact (lsp_of_outer outer_sendRequest).trans updJob_lsp
  · split
    · unfold completeJob
      split
      · rfl
      · rfl
    · rfl

theorem recordSweep_lsp {n : Nat} {s : State} : (recordSweep n s).lsp = s.lsp := by
  induction n generalizing s with
  | zero => rfl
  | succ n ih =>
    rw [recordSweep]
    split
    next t ht =>
      obtain ⟨j, -, rfl⟩ := Option.map_eq_some_iff.mp ht
      exact ih.trans writeRecord_lsp
    · rfl

theorem sweepRecords_lsp {s : State} : (sweepRecords s).lsp = s.lsp := by
  unfold sweepRecords
  split
  · exact recordSweep_lsp
  · rfl

theorem lspFill_ops {s : State} : (lspFill s).lsp.ops = s.lsp.ops := by
  unfold lspFill
  split
  · rfl
  · dsimp only
    split
    · rfl
    · rw [lsp_of_outer outer_toFlight]

theorem sendAt_lsp {p : PortId} {i : Nat} {s : State} : (sendAt p i s).lsp = s.lsp := by
  have hsent : ∀ (t : TxFrame) (u : State), (noteSent p t u).lsp = u.lsp := fun t u => by
    unfold noteSent
    cases t.kind <;> rfl
  have hbcast : ∀ (t : TxFrame) (u : State), (noteBcast p t u).lsp = u.lsp := fun t u => by
    unfold noteBcast
    split
    · rfl
    · rfl
  have hfree : ∀ (t : TxFrame) (u : State), (freeTransit t u).lsp = u.lsp := fun t u => by
    unfold freeTransit
    split
    · exact giveCredit_lsp
    · rfl
  have hfly : ∀ (c : Bool) (t : TxFrame) (u : State), (onlyIf c (toFlight t.refs) u).lsp = u.lsp := fun c t u => by
    unfold onlyIf
    split
    · exact lsp_of_outer outer_toFlight
    · rfl
  unfold sendAt
  dsimp only
  split
  · rfl
  · split
    · rw [hfree, hbcast, hsent, onPort_lsp]
    · rw [hfly, hfree, hbcast, hsent, onPort_lsp]

theorem pumpPort_lsp {p : PortId} {n : Nat} {s : State} : (pumpPort p n s).lsp = s.lsp := by
  induction n generalizing s with
  | zero => rfl
  | succ n ih =>
    rw [pumpPort]
    split
    · rfl
    · exact ih.trans sendAt_lsp

theorem settleRing_lsp {s : State} : (settleRing s).lsp = s.lsp := by
  have hlink : ∀ p (u : State), (linkSend p u).lsp = u.lsp := fun p u => by
    unfold linkSend
    dsimp only
    split
    · exact onPort_lsp
    · rfl
  have hpump : ∀ u : State, (pump u).lsp = u.lsp := fun u => by
    unfold pump creditWait
    dsimp only
    rw [onPort_lsp, onPort_lsp, pumpPort_lsp, pumpPort_lsp]
  have hroute : ∀ p (u : State), (reroute p u).lsp = u.lsp := fun p u => by
    unfold reroute
    dsimp only
    split
    · rfl
    · split
      · exact onPort_lsp
      · rw [onPort_lsp, onPort_lsp]
  have hnote : (notePath s).lsp = s.lsp := by
    unfold notePath
    split
    · rfl
    · rfl
  rw [settleRing, hlink, hlink, hpump, hroute, hroute, hnote]

theorem passVoid_lsp {q n : Nat} {s : State} : (passVoid q n s).lsp = s.lsp := by
  induction n generalizing s with
  | zero => rfl
  | succ n ih =>
    rw [passVoid]
    split
    · rfl
    · dsimp only
      split
      · exact ih
      · rfl

theorem passVoids_lsp {s : State} : (passVoids s).lsp = s.lsp := by
  unfold passVoids
  split
  · exact lsp_foldl fun _ _ => passVoid_lsp
  · rfl

theorem goes_laneDemand {n : Nat} {s : State} : Goes s (laneDemand n s) := by
  unfold laneDemand
  split
  · exact .refl s
  next l =>
    dsimp only
    exact .ite (.ite (.of_same rfl rfl rfl) (.ite goes_laneWait (.ite (.of_same rfl rfl rfl) (.refl s)))) (.refl s)

theorem goes_settleLanes {s : State} : Goes s (settleLanes s) :=
  (Goes.foldl fun _ _ => goes_laneDemand).after (goes_placeOrphans.trans goes_placeRefresh)

theorem joins_xipStart {s : State} : Joins s (xipStart s) := joins_of_ops (xipStart_map fun _ => rfl)

/-- The end of a step that raised no alarm lets only reads for jobs join the bus. -/
theorem joins_finishUp {s : State} (h : s.hlt.alarm = false) : Joins s (finishUp s) := by
  have halarm : alarmSettle s = s := by rw [alarmSettle, h]; rfl
  rw [finishUp, halarm]
  have hlast : ∀ u : State, Joins u (settleLanes (passVoids (settleRing u))) := fun u =>
    (joins_of_goes goes_settleLanes).after (joins_of_lsp (passVoids_lsp.trans settleRing_lsp))
  have hbus : ∀ u : State, Joins u (dselSync (xipStart (lspFill u))) := fun u =>
    (joins_of_ops (by rw [dselSync_ops])).after (joins_xipStart.after (joins_of_ops (by rw [lspFill_ops])))
  have hrecords : ∀ u : State, Joins u (syncParser (sweepRecords (idleTouch u))) := fun u =>
    joins_of_lsp (show (sweepRecords (idleTouch u)).lsp = u.lsp from sweepRecords_lsp)
  exact (hlast _).after ((hbus _).after ((hrecords _).after (joins_of_goes goes_settleJobs)))

/-! ### The locks -/

theorem goes_answer {a : Acc} {w : Bool} {st : Nat} {d : List Byte} {u : Bool} {s : State} : Goes s (answer a w st d u s) :=
  .of_same answer_job (by rw [answer_tim]) answer_lsp

theorem joins_xipReply_failed {o : XipOp} {st : Nat} {s : State} (hst : st ≠ 0) : Joins s (xipReply o st [] s) := by
  unfold xipReply
  split
  · exact joins_of_goes goes_answer
  · rw [if_neg hst]
    exact joins_of_goes goes_readFailed
  · exact joins_of_ops rfl

/-- Once waiting uses ended, none of them waits. -/
theorem xipEndWaiting_tail {p : XipOp → Bool} {P : XipFor × Nat × Bool → Prop} {bit : Nat} {s : State}
    (hread : ∀ o, readsForJob o → P (busKey o)) (hp : ∀ o, p o = false → P (busKey o)) :
    ∀ o ∈ (xipEndWaiting p 3 (mstErr bit) s).lsp.ops.tail, P (busKey o) := by
  unfold xipEndWaiting
  dsimp only
  refine foldl_keeps (P := fun t => ∀ o ∈ t.lsp.ops.tail, P (busKey o)) (fun t x ht => ?_) ?_
  · exact ((joins_xipReply_failed (by decide)).after (joins_of_goes goes_mstErr)).tail hread ht
  · cases hops : s.lsp.ops with
    | nil => simp
    | cons y ys =>
      intro o ho
      refine hp o ?_
      simpa using (List.mem_filter.mp ho).2

/-- A write or a raw command that waits does so on an open window. -/
def OpenWindow (l0 l1 : Bool) (k : XipFor × Nat × Bool) : Prop := (k.2.2 = true ∨ k.1 = .raw) → (if k.2.1 = 0 then l0 else l1) = false

theorem flashLock_tail {l0 l1 : Bool} {s : State} : ∀ o ∈ (flashLock l0 l1 s).lsp.ops.tail, OpenWindow l0 l1 (busKey o) := by
  refine xipEndWaiting_tail (fun o ho h => ?_) (fun o ho h => ?_)
  · obtain h | h := h
    · exact absurd (ho.1.symm.trans h) Bool.false_ne_true
    · exact absurd h ho.2
  · have hlock : (o.write || decide (o.what = .raw)) = true := by
      obtain h | h := h
      · rw [show o.write = true from h, Bool.true_or]
      · rw [show o.what = .raw from h, decide_eq_true rfl, Bool.or_true]
    rw [hlock, Bool.true_and] at ho
    exact ho

theorem lockWord_bits (l0 l1 pin : Bool) :
    bitAt (lockWord l0 l1 pin) 0 = l0 ∧ bitAt (lockWord l0 l1 pin) 1 = l1 ∧ bitAt (lockWord l0 l1 pin) 31 = pin := by
  revert l0 l1 pin
  decide

end Sys2Proof.Machine

/-! PROOFS. The pair of LSP_FLASH_LOCK, and the flash bus (R5, R303 to R307, R322, R350). -/

namespace Sys2Proof.Machine

/-- What a completed pair of LSP_FLASH_LOCK leaves. -/
def Locked (l0 l1 pin : Bool) (t : State) : Prop :=
  t.lsp.lock0 = l0 ∧ t.lsp.lock1 = l1 ∧ t.lsp.lockPin = pin ∧ ∀ o ∈ t.lsp.ops.tail, OpenWindow l0 l1 (busKey o)

theorem lspSettings_of_settings {s t : State} (h : settings t = settings s) : lspSettings t.lsp = lspSettings s.lsp :=
  (congrArg Settings.lsp h :)

theorem Locked.of_joins {l0 l1 pin : Bool} {s t : State} (h : Locked l0 l1 pin s) (hset : lspSettings t.lsp = lspSettings s.lsp)
    (hj : Joins s t) : Locked l0 l1 pin t := by
  obtain ⟨h0, h1, hp, htail⟩ := h
  have e0 : t.lsp.lock0 = s.lsp.lock0 := (congrArg LspSettings.lock0 hset :)
  have e1 : t.lsp.lock1 = s.lsp.lock1 := (congrArg LspSettings.lock1 hset :)
  have ep : t.lsp.lockPin = s.lsp.lockPin := (congrArg LspSettings.lockPin hset :)
  refine ⟨e0.trans h0, e1.trans h1, ep.trans hp, hj.tail (fun o ho hw => ?_) htail⟩
  obtain hw | hw := hw
  · exact absurd (ho.1.symm.trans hw) Bool.false_ne_true
  · exact absurd hw ho.2

theorem Locked.answer {l0 l1 pin : Bool} {u : State} (h : Locked l0 l1 pin u) {a : Acc} {w : Bool} {st : Nat} {d : List Byte} {un : Bool} :
    Locked l0 l1 pin (Machine.answer a w st d un u) := by
  unfold Locked
  rw [answer_lsp]
  exact h

theorem Locked.finishUp {l0 l1 pin : Bool} {u : State} (h : Locked l0 l1 pin u) (hcalm : u.hlt.alarm = false) :
    Locked l0 l1 pin (Machine.finishUp u) :=
  h.of_joins (lspSettings_of_settings settings_finishUp) (joins_finishUp hcalm)

theorem flashLock_settings {l0 l1 : Bool} {s : State} :
    settings (flashLock l0 l1 s) = settings { s with lsp := { s.lsp with lock0 := l0, lock1 := l1 } } := by
  have hreply : ∀ (o : XipOp) (u : State), settings (xipReply o 3 [] (mstErr 2 u)) = settings u := fun o u => by
    rw [settings_xipReply, settings_mstErr]
  unfold flashLock xipEndWaiting
  dsimp only
  exact foldl_keeps (P := fun t => settings t = settings { s with lsp := { s.lsp with lock0 := l0, lock1 := l1 } })
    (fun t o ht => (hreply o t).trans ht) rfl

theorem xipReply_failed_hlt {o : XipOp} {st : Nat} {s : State} (hst : st ≠ 0) : (xipReply o st [] s).hlt = s.hlt := by
  unfold xipReply
  split
  · exact answer_hlt
  · rw [if_neg hst]
    exact (congrArg State.hlt shell_readFailed :)
  · rfl

theorem flashLock_hlt {l0 l1 : Bool} {s : State} : (flashLock l0 l1 s).hlt = s.hlt := by
  unfold flashLock xipEndWaiting
  dsimp only
  exact foldl_keeps (P := fun t => t.hlt = s.hlt) (fun t o ht => (xipReply_failed_hlt (by decide)).trans ht) rfl

theorem flashLockPair_hlt {v : W32} {s : State} : (flashLockPair v s).hlt = s.hlt := by
  unfold flashLockPair
  exact flashLock_hlt

theorem locked_flashLockPair {l0 l1 pin : Bool} {s : State} : Locked l0 l1 pin (flashLockPair (lockWord l0 l1 pin) s) := by
  obtain ⟨h0, h1, hp⟩ := lockWord_bits l0 l1 pin
  have hset := lspSettings_of_settings (flashLock_settings (l0 := l0) (l1 := l1) (s := s))
  unfold flashLockPair
  rw [h0, h1, hp]
  exact ⟨(congrArg LspSettings.lock0 hset :), (congrArg LspSettings.lock1 hset :), rfl, flashLock_tail⟩

theorem flashLock_locks {a : Acc} {l0 l1 pin : Bool} {s : State} (h : completes a 0xD098 (lockWord l0 l1 pin) s = true) :
    Locked l0 l1 pin (finishUp (pairRow a 0xD098 (lockWord l0 l1 pin) s)) := by
  obtain ⟨t, ⟨r, y, rfl, -⟩, he⟩ := pairRow_reaches h (by decide)
  have happly : ∀ u, guardComplete (who a s) 0xD098 (lockWord l0 l1 pin) u = flashLockPair (lockWord l0 l1 pin) u := fun _ => rfl
  rw [he, happly]
  have hpair : Locked l0 l1 pin (flashLockPair (lockWord l0 l1 pin) { s with ring := r, sys := y }) := locked_flashLockPair
  have ha : s.hlt.alarm = false := settled_of_completes h
  have hcalm : (flashLockPair (lockWord l0 l1 pin) { s with ring := r, sys := y }).hlt.alarm = false := by
    rw [flashLockPair_hlt]
    exact ha
  generalize flashLockPair (lockWord l0 l1 pin) { s with ring := r, sys := y } = u at hpair hcalm ⊢
  exact hpair.answer.finishUp (by rw [answer_hlt]; exact hcalm)

/-- Settles O56: the accesses to the windows, the raw commands, the locks of the flash, and the ends of transactions and polls. -/
theorem flashBus : Obligations.FlashBus := by
  intro s
  refine ⟨fun a w off hw ho he _ => ⟨fun len => xipRead_effects hw ho he len, fun bytes => xipWrite_effects hw ho he bytes⟩,
    fun a v h => rawCommand_effects h, fun a l0 l1 pin => ⟨fun h => ?_, fun h => ?_⟩, fun o rest hu hops => ⟨fun hs hp => ?_, ?_⟩⟩
  · exact answers_of_act exec_flashLock (running_of_completes h) (flashLock_locks h)
  · obtain ⟨h0, h1, hp, -⟩ := flashLock_locks h
    exact answers_of_act exec_flashLockPin (running_of_completes h) ⟨h0, h1, hp, hp⟩
  · exact ⟨fun b data hw hr hd => readDone_effects hu hops hs hp hw hr hd, fun data hw hr hd => rawDone_effects hu hops hs hp hw hr hd,
      fun b hw hr => programDone_effects hu hops hs hp hw hr⟩
  · exact ⟨fun data hs => earlyDone hu hops hs, fun b hw hp => ⟨fun sr hover hdue => flashPoll_effects hu hops hw hp hover hdue,
      fun hover => pollTimeout_effects hu hops hw hp hover, fun hover => earlyTimeout hu hops hover⟩⟩

end Sys2Proof.Machine

/-! PROOFS. The compatibility window: reads of CMP_DATA and CMP_FAIL_CNT, writes of CMP_CELL_EN and CMP_REFRESH (R51, R72, R123, R153,
R315, R327). -/

namespace Sys2Proof.Machine

/-! ### A read that waits for its grant -/

theorem enters_of_mayFetch {a : Acc} {s : State} (h : mayFetch a s = true) : enters a s = true := by
  simp only [mayFetch, Bool.and_eq_true] at h
  exact h.1.1

theorem heldKeys_of_passed {r r' : Ring} (h : Passed r r') (p : PortId) : (portOf r' p).heldKeys = (portOf r p).heldKeys := by
  have ha : portCore r'.pa = portCore r.pa := congrArg Ring.pa h.core
  have hb : portCore r'.pb = portCore r.pb := congrArg Ring.pb h.core
  cases p with
  | a => exact (congrArg Port.heldKeys ha :)
  | b => exact (congrArg Port.heldKeys hb :)

theorem slotFree_of_passed {s : State} {r : Ring} {y : Sys} {a : Acc} (h : Passed s.ring r) :
    slotFree { s with ring := r, sys := y } a = slotFree s a := by
  unfold slotFree
  dsimp only
  split
  next p _ => rw [heldKeys_of_passed h]
  · rfl

theorem takeSlot_core {a : Acc} {key : Nat} {s : State} (h : a.path = .core) : (takeSlot a key s).core.waiting = true := by
  unfold takeSlot pathPort
  rw [h]
  rfl

/-- A slot changes nothing of the node but who waits for an answer. -/
theorem takeSlot_eq {a : Acc} {key : Nat} {s : State} :
    ∃ r c w, takeSlot a key s = { s with ring := r, core := c, lsp := { s.lsp with waiting := w } } := by
  unfold takeSlot
  split
  · exact ⟨_, s.core, s.lsp.waiting, rfl⟩
  · split
    · exact ⟨s.ring, _, s.lsp.waiting, rfl⟩
    · exact ⟨s.ring, s.core, _, rfl⟩

theorem prPlace_core {q key accepted : Nat} {s : State} : (prPlace q key accepted s).core = s.core :=
  (congrArg State.core (outer_prPlace (q := q) (key := key) (accepted := accepted) (s := s)) :)

theorem laneWait_tal {n : Nat} {s : State} : (laneWait n s).tal = s.tal := by
  unfold laneWait
  split
  · rfl
  · split
    · rfl
    · rfl

theorem prAdd_tal {n : Nat} {p : PrReq} {s : State} : (prAdd n p s).tal = s.tal := by
  unfold prAdd
  split
  · rfl
  · unfold onlyIf
    split
    · exact laneWait_tal
    · rfl

theorem prPlace_tal {q key accepted : Nat} {s : State} : (prPlace q key accepted s).tal = s.tal := by
  unfold prPlace
  split
  · rfl
  · split
    · rfl
    · exact prAdd_tal

/-- What a read that begins to wait leaves: the books as they were, and with no refresh pending a wait on its queue. -/
theorem readWait_shows {a : Acc} {q len : Nat} {what : WaitFor} {d : DQueue} {s : State} (hd : queueOf s q = some d) :
    (readWait a q len what true s).tal = s.tal ∧ (a.path = .core → (readWait a q len what true s).core.waiting = true) ∧
      (s.stk.cmpAcc = none → ∃ w x, queueOf (readWait a q len what true s) q = some x ∧ x.waits = d.waits ++ [w] ∧ w.req = a.req ∧
        w.need = (len + 7) / 8 ∧ w.what = what ∧ w.pr = false) := by
  generalize hw : mkWaiter s s.clk.ord a.req ((len + 7) / 8) what s.clk.ord false (true && s.stk.cmpAcc.isSome) q = w
  obtain ⟨r, c, y, hslot⟩ := takeSlot_eq (a := a) (key := s.clk.ord) (s := s)
  have hdirect : ∀ pr b : Bool, (!pr || b) = true → pr = (true && s.stk.cmpAcc.isSome) → b = s.stk.cmpBit →
      readWait a q len what true s = addWaiter q w (takeSlot a s.clk.ord s) := fun pr b hb hpr hbit => by
    unfold readWait
    dsimp only
    rw [hw, ← hpr, ← hbit, if_pos hb]
  have htal : (addWaiter q w (takeSlot a s.clk.ord s)).tal = s.tal := by
    rw [hslot]
    rfl
  have hcore : a.path = .core → (addWaiter q w (takeSlot a s.clk.ord s)).core.waiting = true := fun hp => takeSlot_core (key := s.clk.ord) hp
  refine ⟨?_, fun hp => ?_, fun hacc => ?_⟩
  · unfold readWait
    dsimp only
    rw [hw]
    split
    · exact htal
    · split
      · exact prPlace_tal.trans htal
      · exact htal
  · unfold readWait
    dsimp only
    rw [hw]
    split
    · exact hcore hp
    · split
      · rw [prPlace_core]
        exact hcore hp
      · exact hcore hp
  · rw [hdirect false s.stk.cmpBit (by simp) (by rw [hacc]; rfl) rfl]
    have hq : queueOf (takeSlot a s.clk.ord s) q = some d := by
      rw [hslot]
      exact hd
    obtain ⟨x, hx, hwaits⟩ := queueOf_addWaiter (w := w) hq
    refine ⟨w, x, hx, hwaits, ?_⟩
    rw [← hw, hacc]
    exact ⟨rfl, rfl, rfl, rfl⟩

/-! ### CMP_DATA -/

theorem stallingRead_waits {a : Acc} {q len : Nat} {what : WaitFor} {cmp : Bool} {s : State} (hslot : slotFree s a = true)
    (hends : readEnds s a q len = none) : stallingRead a q len what true cmp s = readWait a q len what cmp s := by
  unfold stallingRead
  rw [if_neg (by simp), if_neg (by rw [hslot]; decide), hends]

theorem readsCmp_data {s : State} : readsCmp s 0xF000 1 = s.sys.compatEn := by
  have hin : (decide (0xF000 ≤ 0xF000) && decide (0xF000 < 0xF000 + 4 * 1)) = true := by decide
  rw [readsCmp, Bool.and_assoc, hin, Bool.and_true]

section
variable {a : Acc} {s : State} (h : mayFetch a s = true)
include h

theorem regEnds_of_mayFetch : regEnds s (norm s a).req false 0xF000 1 = none := by
  simp only [mayFetch, Bool.and_eq_true] at h
  unfold regEnds
  rw [if_neg (by decide), if_neg (by decide), if_neg Bool.false_ne_true]
  exact if_pos h.1.2

/-- A read of CMP_DATA in compatibility mode waits for a word of queue 0. -/
theorem cmpData_waits {d : DQueue} (hc : s.sys.compatEn = true) (hslot : slotFree s (norm s a) = true)
    (hends : readEnds s (norm s a) 0 4 = none) (hd : queueOf s 0 = some d) : Effects (.cmpDataRead a) s (fun u =>
      u.tal = s.tal ∧ (a.path = .core → u.core.waiting = true) ∧
      (s.stk.cmpAcc = none → ∃ w x, queueOf u 0 = some x ∧ x.waits = d.waits ++ [w] ∧ w.req = who a s ∧ w.need = 1 ∧
        w.what = .read (norm s a) 4 ∧ w.pr = false)) := by
  refine effects_of_act exec_cmpDataRead (running_of_mayFetch h) ?_
  obtain ⟨r, hr, hpass⟩ := passes_entered (a := a) (hold := true) (s := s)
  rw [cmpData, readsCmp_data, if_pos hc, arrive_of_enters_held (enters_of_mayFetch h) fun _ => hslot, hr]
  have hsame : regEnds { s with ring := r } (norm s a).req false 0xF000 1 = none :=
    (regEnds_congr (s := s) rfl).trans (regEnds_of_mayFetch h)
  rw [hsame]
  dsimp only
  obtain ⟨z, hz, hrest⟩ := breakArm_sysOnly (norm s a).req { s with ring := r }
  have hfree : slotFree { s with ring := r, sys := z } (norm s a) = true := (slotFree_of_passed hpass).trans hslot
  have htamper : z.tamper = s.sys.tamper := (congrArg Sys.tamper hrest :)
  have hhalt : halted { s with ring := r, sys := z } = halted s := by
    show (s.hlt.fatal || z.tamper) = (s.hlt.fatal || s.sys.tamper)
    rw [htamper]
  have hends' : readEnds { s with ring := r, sys := z } (norm s a) 0 4 = none := by
    unfold readEnds
    rw [hhalt]
    exact hends
  rw [cmpRead, if_pos rfl, deliveryRead, hz]
  erw [stallingRead_waits (s := { s with ring := r, sys := z }) hfree hends']
  obtain ⟨htal, hcore, hwait⟩ := readWait_shows (a := norm s a) (q := 0) (len := 4) (what := .read (norm s a) 4)
    (s := { s with ring := r, sys := z }) hd
  exact ⟨htal, fun hp => hcore (norm_path.trans hp), hwait⟩

/-- With the mode off the register reads zero. -/
theorem cmpData_zero (hc : s.sys.compatEn = false) : Effects (.cmpDataRead a) s (fun u =>
    u.tal = s.tal ∧ u.stk = s.stk ∧ (a.path = .core → u.core.status = 0 ∧ u.core.data = [0, 0, 0, 0])) := by
  refine effects_of_act exec_cmpDataRead (running_of_mayFetch h) ?_
  have hafter : ∀ q u, (readOne q 0xF000 u).2 = breakArm q u := fun _ _ => rfl
  have hval : ∀ q u, regVal u q 0xF000 = cmpVal u 0xF000 := fun _ _ => rfl
  have hoff : ∀ u : State, u.sys.compatEn = false → cmpVal u 0xF000 = 0 := fun u hu => by
    unfold cmpVal
    dsimp only
    rw [hu]
    rfl
  rw [cmpData, readsCmp_data, hc, if_neg Bool.false_ne_true, readAccess_of_mayFetch h (by decide) (by decide), hafter,
    readOne_val (by decide), hval, hoff _ (by rw [entered_sys]; exact hc)]
  refine ⟨?_, ?_, fun hp => ⟨answer_core_status (norm_path.trans hp), answer_core_data (norm_path.trans hp)⟩⟩
  · rw [answer_tal, breakArm_tal, entered_tal]
  · rw [answer_stk, breakArm_stk, entered_stk]

/-- A read of CMP_FAIL_CNT gives the count and clears it. -/
theorem cmpFail_reads : Effects (.cmpFailCntRead a) s (fun u =>
    u.hlt = (if s.sys.compatEn then { s.hlt with cmpFail := 0 } else s.hlt) ∧
    (a.path = .core → u.core.data = w32ToBytes [if s.sys.compatEn then s.hlt.cmpFail.setWidth 32 else 0])) := by
  refine effects_of_act exec_cmpFailCntRead (running_of_mayFetch h) ?_
  have hafter : ∀ q u, (readOne q 0xF01C u).2 = breakArm q (onlyIf u.sys.compatEn (fun t => { t with hlt := { t.hlt with cmpFail := 0 } }) u) :=
    fun _ _ => rfl
  have hval : ∀ q u, regVal u q 0xF01C = cmpVal u 0xF01C := fun _ _ => rfl
  have hcount : ∀ u : State, cmpVal u 0xF01C = if u.sys.compatEn then u.hlt.cmpFail.setWidth 32 else 0 := fun u => by
    unfold cmpVal
    dsimp only
    cases u.sys.compatEn with
    | true =>
      show packR [(0, u.hlt.cmpFail.toNat)] = _
      apply BitVec.eq_of_toNat_eq
      simp [packR]
    | false => rfl
  rw [readAccess_of_mayFetch h (by decide) (by decide), hafter, readOne_val (by decide), hval, hcount, entered_sys, entered_hlt]
  refine ⟨?_, fun hp => answer_core_data (norm_path.trans hp)⟩
  rw [answer_hlt, breakArm_hlt]
  cases s.sys.compatEn with
  | true => exact congrArg (fun x : Hlt => { x with cmpFail := 0 }) entered_hlt
  | false => exact entered_hlt

end

end Sys2Proof.Machine

/-! PROOFS. The compatibility window: its writes, and a grant for CMP_DATA (R51, R123, R153, R327). -/

namespace Sys2Proof.Machine

/-! ### CMP_CELL_EN -/

/-- The GRN block after its board was looked at again rests on the GRN block. -/
theorem boardRefresh_grn_congr {left : Bool} {b : Nat} {s t : State} (h : t.grn = s.grn) :
    (boardRefresh left b t).grn = (boardRefresh left b s).grn := by
  have hgo : ∀ st : BoardState, (planeOnBoard b (setBoard b st t)).grn = (planeOnBoard b (setBoard b st s)).grn := fun st => by
    rw [planeOnBoard_grn, planeOnBoard_grn]
    exact congrArg (fun g : Grn => { g with boards := upd g.boards b (fun x => { x with st := st }) }) h
  unfold boardRefresh
  dsimp only
  rw [h]
  cases boardSt s.grn b with
  | seasoning =>
    dsimp only
    split
    · exact hgo .live
    · split
      · exact hgo .held
      · exact h
  | live =>
    dsimp only
    split
    · exact h
    · exact hgo .held
  | held =>
    dsimp only
    split
    · exact hgo .live
    · exact h
  | retired => exact h

theorem goSrc_grn_congr {code : Nat} {f : Source → Source} {s t : State} (h : t.grn = s.grn) :
    (goSrc code f t).grn = (goSrc code f s).grn := by
  have hupd : (updGrn (updSrc code f) t).grn = (updGrn (updSrc code f) s).grn := congrArg (updSrc code f) h
  unfold goSrc
  dsimp only
  rw [keyCheck_grn, keyCheck_grn, hupd, h]
  exact boardRefresh_grn_congr hupd

theorem foldl_goSrc_grn_congr {i : Nat → Nat} {f : Nat → Source → Source} {l : List Nat} {s t : State} (h : t.grn = s.grn) :
    (l.foldl (fun u p => goSrc (i p) (f p) u) t).grn = (l.foldl (fun u p => goSrc (i p) (f p) u) s).grn := by
  induction l generalizing s t with
  | nil => exact h
  | cons p l ih => exact ih (goSrc_grn_congr h)

theorem grnEnWrite_grn_congr {b : Nat} {v : W32} {s t : State} (h : t.grn = s.grn) : (grnEnWrite b v t).grn = (grnEnWrite b v s).grn := by
  unfold grnEnWrite
  dsimp only
  rw [h]
  split
  · exact congrArg (fun g : Grn => { g with err := g.err ||| BitVec.ofNat 4 (2 ^ 0) }) h
  · exact foldl_goSrc_grn_congr (congrArg (fun g : Grn => { g with en := upd g.en b (fun _ => v.setWidth 8) }) h)

theorem cmpCellEn_answers {a : Acc} {v : W32} {s : State} (h : mayWrite a 0xF008 s = true) :
    Answers (.cmpCellEnWrite a v) s (fun t => if s.sys.compatEn then t.grn = (grnEnWrite 0 v s).grn else t.grn = s.grn) := by
  obtain ⟨t, ⟨r, y, rfl, hy⟩, he⟩ := writeAccess_reaches (v := v) h (by decide) (by decide) (by decide) (by decide)
  have hen : y.compatEn = s.sys.compatEn := (congrArg Sys.compatEn hy :)
  refine answers_of_act exec_cmpCellEnWrite (running_of_enters (enters_of_mayWrite h)) ?_
  have hplain : ∀ q u, plainWrite q 0xF008 v u = if !u.sys.compatEn then u else grnEnWrite 0 v u := fun _ _ => rfl
  rw [he, hplain, finishUp_grn, answer_grn, hen]
  cases s.sys.compatEn with
  | true => exact grnEnWrite_grn_congr rfl
  | false => rfl

/-! ### CMP_REFRESH -/

theorem argMin_mem {α : Type} {key : α → Nat} {l : List α} (h : l ≠ []) : ∃ x ∈ l, argMin key l = some x := by
  induction l with
  | nil => exact absurd rfl h
  | cons x xs ih =>
    unfold argMin
    cases hm : argMin key xs with
    | none => exact ⟨x, List.mem_cons_self, rfl⟩
    | some y =>
      have hy : y ∈ xs := by
        obtain ⟨z, hz, hzm⟩ := ih fun he => by rw [he] at hm; cases hm
        rw [hzm] at hm
        exact Option.some.inj hm ▸ hz
      dsimp only
      split
      · exact ⟨y, List.mem_cons_of_mem _ hy, rfl⟩
      · exact ⟨x, List.mem_cons_self, rfl⟩

/-- While a lane bound to the queue is in service, one of them is chosen. -/
theorem prChoose_mem {q : Nat} {s : State} (h : boundInService s q ≠ []) : ∃ n ∈ boundInService s q, prChoose s q = some n := by
  unfold prChoose
  dsimp only
  obtain ⟨x, hx, hmin⟩ := argMin_mem (key := fun n => ((laneOf s n).map (·.pr.length)).getD 0) h
  rw [hmin]
  generalize hc : (boundInService s q).filter (fun n => decide (some (((laneOf s n).map (·.pr.length)).getD 0) =
    (some x).map fun n => ((laneOf s n).map (·.pr.length)).getD 0)) = c
  have hsub : ∀ n ∈ c, n ∈ boundInService s q := fun n hn => by
    rw [← hc] at hn
    exact (List.mem_filter.mp hn).1
  have hne : 0 < c.length := by
    have hxc : x ∈ c := by
      rw [← hc]
      exact List.mem_filter.mpr ⟨hx, by simp⟩
    exact List.length_pos_of_mem hxc
  cases hf : c.find? (fun n => ((laneOf s n).map atBoundary).getD false) with
  | some n => exact ⟨n, hsub n (List.mem_of_find?_eq_some hf), rfl⟩
  | none =>
    have hlt := Nat.mod_lt (Config.freeWord s.clk.free).toNat hne
    exact ⟨c.get ⟨(Config.freeWord s.clk.free).toNat % c.length, hlt⟩, hsub _ (List.get_mem _ _), List.getElem?_eq_getElem hlt⟩

theorem laneOf_laneWait_pr {n : Nat} {s : State} {l : Lane} (hl : laneOf s n = some l) : ∃ m, laneOf (laneWait n s) n = some m ∧ m.pr = l.pr := by
  unfold laneWait
  rw [hl]
  dsimp only
  split
  · have hb : ∀ t, laneOf (bumpOrd t) n = laneOf t n := fun _ => rfl
    rw [raiseRequest, hb, laneOf_updLane, laneOf_updLane, hl]
    exact ⟨_, rfl, rfl⟩
  · exact ⟨l, hl, rfl⟩

theorem laneOf_prAdd_self {n : Nat} {p : PrReq} {s : State} {l : Lane} (hl : laneOf s n = some l) :
    ∃ m, laneOf (prAdd n p s) n = some m ∧ p ∈ m.pr := by
  have hadd : laneOf (updLane n (fun x => { x with pr := l.pr ++ [p] }) s) n = some { l with pr := l.pr ++ [p] } := by
    rw [laneOf_updLane, hl]
    rfl
  have hmem : p ∈ l.pr ++ [p] := List.mem_append_right _ List.mem_cons_self
  unfold prAdd
  rw [hl]
  dsimp only
  unfold onlyIf
  split
  · obtain ⟨m, hm, hpr⟩ := laneOf_laneWait_pr hadd
    exact ⟨m, hm, by rw [hpr]; exact hmem⟩
  · exact ⟨_, hadd, hmem⟩

theorem prAdd_stk {n : Nat} {p : PrReq} {s : State} : (prAdd n p s).stk = s.stk := by
  unfold prAdd
  split
  · rfl
  · unfold onlyIf
    split
    · exact laneWait_stk
    · rfl

theorem laneOf_of_boundInService {n q : Nat} {s : State} (h : n ∈ boundInService s q) : ∃ l, laneOf s n = some l := by
  have hin : inService s n = true := (List.mem_filter.mp h).2
  unfold inService at hin
  cases hl : laneOf s n with
  | none => rw [hl] at hin; cases hin
  | some l => exact ⟨l, rfl⟩

theorem placeRefresh_tal {s : State} : (placeRefresh s).tal = s.tal := by
  unfold placeRefresh
  split
  · split
    · rfl
    · exact prAdd_tal
  · rfl

theorem placeRefresh_bit {s : State} : (placeRefresh s).stk.cmpBit = s.stk.cmpBit := by
  unfold placeRefresh
  split
  · split
    · rfl
    · show (prAdd _ _ _).stk.cmpBit = _
      rw [prAdd_stk]
  · rfl

/-- What a refresh leaves when lanes bound to queue 0 are in service: one of them serves it. -/
theorem cmpRefresh_serves {s : State} (hbit : s.stk.cmpBit = false) (hb : boundInService s 0 ≠ []) :
    ∃ n l, n ∈ boundInService s 0 ∧ (cmpRefresh s).stk.cmpLane = some n ∧ laneOf (cmpRefresh s) n = some l ∧
      ∃ p ∈ l.pr, p.key = 0 ∧ p.seeded = false ∧ (cmpRefresh s).stk.cmpAcc = some p.accepted ∧ s.clk.ord ≤ p.accepted := by
  generalize hs1 : ({ s with stk := { s.stk with cmpBit := true, cmpLane := none, cmpAcc := some s.clk.ord } } : State) = s1
  have hbound : boundInService s1 0 = boundInService s 0 := by rw [← hs1]; rfl
  obtain ⟨n, hn, hc⟩ := prChoose_mem (s := s1) (q := 0) (by rw [hbound]; exact hb)
  obtain ⟨l, hl⟩ := laneOf_of_boundInService hn
  have hplace : cmpRefresh s = bumpOrd (bumpFree (prAdd n ⟨0, s.clk.ord, false⟩ { s1 with stk := { s1.stk with cmpLane := some n } })) := by
    have hcond : (s1.stk.cmpBit && s1.stk.cmpLane.isNone) = true := by rw [← hs1]; rfl
    have hacc : s1.stk.cmpAcc.getD s1.clk.ord = s.clk.ord := by rw [← hs1]; rfl
    rw [cmpRefresh, if_neg (by rw [hbit]; exact Bool.false_ne_true), hs1, placeRefresh, if_pos hcond, hc, ← hacc]
  obtain ⟨m, hm, hmem⟩ := laneOf_prAdd_self (n := n) (p := ⟨0, s.clk.ord, false⟩)
    (s := { s1 with stk := { s1.stk with cmpLane := some n } }) (l := l) hl
  have hstk : (cmpRefresh s).stk = { s1.stk with cmpLane := some n } := by
    rw [hplace]
    exact prAdd_stk
  refine ⟨n, m, hbound ▸ hn, by rw [hstk], by rw [hplace]; exact hm, ⟨0, s.clk.ord, false⟩, hmem, rfl, rfl, ?_, Nat.le_refl _⟩
  rw [hstk, ← hs1]

theorem cmpRefresh_effects {a : Acc} {s : State} (h : mayWrite a 0xF024 s = true) : Effects (.cmpRefresh a) s (fun u =>
    u.tal.books.delivered = s.tal.books.delivered ∧
    (if s.sys.compatEn then
      u.stk.cmpBit = true ∧
      (s.stk.cmpBit = false → boundInService s 0 ≠ [] → ∃ n l, n ∈ boundInService s 0 ∧ u.stk.cmpLane = some n ∧ laneOf u n = some l ∧
        ∃ p ∈ l.pr, p.key = 0 ∧ p.seeded = false ∧ u.stk.cmpAcc = some p.accepted ∧ s.clk.ord ≤ p.accepted)
     else u.stk = s.stk ∧ u.lan = s.lan)) := by
  obtain ⟨t, ⟨r, y, rfl, hy⟩, he⟩ := writeAccess_reaches (v := 1) h (by decide) (by decide) (by decide) (by decide)
  have hen : y.compatEn = s.sys.compatEn := (congrArg Sys.compatEn hy :)
  refine effects_of_act exec_cmpRefresh (running_of_enters (enters_of_mayWrite h)) ?_
  have hplain : ∀ q u, plainWrite q 0xF024 1 u = if !u.sys.compatEn then u else cmpRefresh u := fun _ _ => rfl
  have hlane : ∀ (u : State) n, laneOf (answer (norm s a) true 0 [] false u) n = laneOf u n := fun u n => by
    rw [laneOf, answer_lan, laneOf]
  rw [he, hplain, answer_tal, answer_stk, answer_lan, hen]
  simp only [hlane]
  cases s.sys.compatEn with
  | false => exact ⟨rfl, rfl, rfl⟩
  | true =>
    refine ⟨?_, ?_, fun hbit hb => ?_⟩
    · show (cmpRefresh _).tal.books.delivered = _
      unfold cmpRefresh
      split
      · rfl
      · exact congrArg (fun x : Tal => x.books.delivered) placeRefresh_tal
    · show (cmpRefresh _).stk.cmpBit = true
      unfold cmpRefresh
      split
      next hset => exact hset
      · exact placeRefresh_bit
    · exact cmpRefresh_serves (s := { s with ring := r, sys := y }) hbit hb

/-! ### The grant of CMP_DATA -/

/-- The first four bytes of a word are those of its low half. -/
theorem take_wordsToBytes (x : Word) : (wordsToBytes [x]).take 4 = w32ToBytes [x.setWidth 32] := by
  have hlow : ∀ k ∈ [8, 16, 24], (BitVec.ofNat 8 (x.toNat >>> k) : Byte) = BitVec.ofNat 8 ((x.toNat % 4294967296) >>> k) := fun k hk => by
    apply BitVec.eq_of_toNat_eq
    simp only [List.mem_cons, List.not_mem_nil, or_false] at hk
    obtain rfl | rfl | rfl := hk <;> simp only [BitVec.toNat_ofNat, Nat.shiftRight_eq_div_pow] <;> omega
  simp [wordsToBytes, w32ToBytes, bytesLE, List.range_succ, hlow]

theorem cmpGrant_effects {s : State} {a : Acc} {d : DQueue} {w v : Waiter} {x : AWord} (hup : upAnd s = true) (hh : halted s = false)
    (hd : queueOf (syncQ 0 (ageScrub 0 s)) 0 = some d) (hw : nextWaiter (syncQ 0 (ageScrub 0 s)) 0 d = some w) (hon : d.st = .on)
    (hun : 1 ≤ unallotted d) (hheld : w.held = []) (hwhat : w.what = .read a 4) (ha : a.path = .core) (hneed : w.need = 1)
    (hv : waitOf (readWords 0 w.key (d.ents.length + 1) [] (syncQ 0 (ageScrub 0 s))) 0 w.key = some v) (hvh : v.held = [x])
    (hvn : v.need = 1) (hvw : v.what = w.what) : Effects (.grantAllot 0 []) s (fun u =>
      u.core.status = 0 ∧ u.core.data = w32ToBytes [x.v.setWidth 32] ∧ u.tal.books.delivered = s.tal.books.delivered + 1) := by
  refine effects_of_act exec_grantAllot (running_of_upAnd hup) ?_
  have hlen : v.held.length = w.need := by rw [hvh, hneed]; rfl
  obtain ⟨-, hstatus, -, hdel, -⟩ := grantAllot_reads hh hd hw hon (by omega) hheld (hvw.trans hwhat) ha hv (by omega) hlen
    (hvn.trans hneed.symm)
  refine ⟨hstatus, ?_, by rw [hdel, hneed]; rfl⟩
  rw [grantAllot_data hh hd hw hon (by omega) hheld (hvw.trans hwhat) ha hv (hvn.symm ▸ hvh ▸ rfl), hvh]
  exact take_wordsToBytes x.v

/-- Settles O60: the reads of CMP_DATA and CMP_FAIL_CNT, the two writes, and the grant for CMP_DATA. -/
theorem compatibilityWindow : Obligations.CompatibilityWindow := by
  intro s a
  refine ⟨fun h => ⟨fun d hc hslot hends hd => cmpData_waits h hc hslot hends hd, fun hc => cmpData_zero h hc, cmpFail_reads h⟩,
    fun v h => cmpCellEn_answers h, fun h => cmpRefresh_effects h,
    fun d w v x hup hh hd hw hon hun hheld hwhat ha hneed hv hvh hvn hvw =>
      cmpGrant_effects hup hh hd hw hon hun hheld hwhat ha hneed hv hvh hvn hvw⟩

end Sys2Proof.Machine

/-! PROOFS. Candidates of the distribution unit (R149, R151). -/

namespace Sys2Proof.Machine

/-! ### Words rejected, while a job goes on -/

/-- The words that went to kerf as rejected (R151). -/
def rejects (s : State) : BitVec 64 := s.tal.books.wkReject

theorem rejects_of_tal {s t : State} (h : t.tal = s.tal) : rejects t = rejects s := by rw [rejects, h, rejects]

theorem ite_tal {c : Prop} [Decidable c] {s t u : State} (h : t.tal = s.tal) (g : u.tal = s.tal) : (if c then t else u).tal = s.tal := by
  split
  · exact h
  · exact g

theorem rejects_ite {c : Prop} [Decidable c] {s t u : State} (h : rejects t = rejects s) (g : rejects u = rejects s) :
    rejects (if c then t else u) = rejects s := by
  split
  · exact h
  · exact g

theorem rejects_foldl {α : Type} {g : State → α → State} {l : List α} {s : State} (h : ∀ u x, rejects (g u x) = rejects u) :
    rejects (l.foldl g s) = rejects s :=
  foldl_keeps (P := fun t => rejects t = rejects s) (fun t x ht => (h t x).trans ht) rfl

theorem toFlight_tal {refs : List (Nat × Nat)} {s : State} : (toFlight refs s).tal = (updBooks (bkToFlight refs.length) s).tal :=
  foldl_keeps (P := fun t => t.tal = (updBooks (bkToFlight refs.length) s).tal) (fun _ _ ht => relevel_tal.trans ht) rfl

theorem kerfStack_tal {why : WordKerf} {refs : List (Nat × Nat)} {s : State} :
    (kerfStack why refs s).tal = (updBooks (bkKerf why true refs.length) s).tal := finishSlots_tal

theorem kerfFlight_tal {why : WordKerf} {refs : List (Nat × Nat)} {n : Nat} {s : State} :
    (kerfFlight why refs n s).tal = (updBooks (bkKerf why false n) s).tal := finishSlots_tal

theorem rejects_kerfQueue {q : Nat} {why : WordKerf} {p : DQueue → QEntry → Bool} {s : State} (hw : why ≠ .reject) :
    rejects (kerfQueue q why p s) = rejects s := by
  have hkerf : ∀ l, rejects (kerfStack why l s) = rejects s := fun l => by
    rw [rejects, kerfStack_tal]
    exact if_neg hw
  unfold kerfQueue
  split
  · rfl
  · dsimp only
    split
    · rfl
    · exact hkerf _

theorem rejects_putBack {q : Nat} {v : AWord} {s : State} : rejects (putBack q v s) = rejects s := by
  unfold putBack
  split
  · dsimp only
    split
    · rfl
    · rfl
  · rfl

theorem rejects_releaseAllot {q key : Nat} {s : State} : rejects (releaseAllot q key s) = rejects s := by
  unfold releaseAllot
  split
  · rfl
  · split
    · rfl
    · rw [rejects_kerfQueue (by decide)]
      exact rejects_foldl fun _ _ => rejects_putBack

theorem laneWait_ite_tal {c : Bool} {n : Nat} {s : State} : (if c then laneWait n s else s).tal = s.tal := by
  split
  · exact laneWait_tal
  · rfl

theorem prDrop_tal {key : Nat} {s : State} : (prDrop key s).tal = s.tal := by
  unfold prDrop
  refine foldl_keeps (P := fun t => t.tal = s.tal) (fun t n ht => ?_) rfl
  split
  · exact laneWait_ite_tal.trans ht
  · exact ht

theorem syncAll_tal {s : State} : (syncAll s).tal = s.tal :=
  foldl_keeps (P := fun t => t.tal = s.tal) (fun _ _ ht => ht) rfl

theorem rejects_dropWaits {id : Nat} {s : State} : rejects (dropWaits id s) = rejects s := by
  have hall : rejects ((List.range 16).foldl (fun t q => releaseAllot q id t) s) = rejects s := rejects_foldl fun _ _ => rejects_releaseAllot
  unfold dropWaits
  dsimp only
  generalize (List.range 16).foldl (fun t q => releaseAllot q id t) s = v at hall ⊢
  refine (rejects_of_tal prDrop_tal).trans ((rejects_of_tal syncAll_tal).trans ?_)
  exact hall

theorem issueWrite_tal {id off : Nat} {bytes : List Byte} {ws : List AWord} {random : Bool} {tag : Option Tag} {s : State} :
    (issueWrite id off bytes ws random tag s).tal = s.tal := by
  unfold issueWrite
  split
  · rfl
  · rfl

theorem resultIssue_tal {id fuel : Nat} {last : Bool} {s : State} : (resultIssue id last fuel s).tal = s.tal := by
  induction fuel generalizing s with
  | zero => rfl
  | succ fuel ih =>
    unfold resultIssue
    split
    · rfl
    · split
      · split
        · exact ih.trans issueWrite_tal
        · rfl
      · dsimp only
        exact ite_tal rfl (ih.trans issueWrite_tal)

theorem drawIssue_tal {id fuel : Nat} {s : State} : (drawIssue id fuel s).tal = s.tal := by
  induction fuel generalizing s with
  | zero => rfl
  | succ fuel ih =>
    unfold drawIssue
    split
    · rfl
    · dsimp only
      split
      · exact ih.trans issueWrite_tal
      · split
        · split
          · split
            · rfl
            · rfl
          · exact ih.trans issueWrite_tal
        · rfl

theorem rejects_stopJob {id : Nat} {status : BitVec 8} {s : State} : rejects (stopJob id status none s) = rejects s := by
  unfold stopJob
  split
  · rfl
  next j hj =>
    have hstop : ∀ (b : Bool) (f : Job → Job), rejects (releaseUnits id (onlyIf b syncAll (updJob id f (dropWaits id s)))) = rejects s :=
      fun b f => by
        have hwaits := rejects_dropWaits (id := id) (s := s)
        have hunits : ∀ u, rejects (releaseUnits id u) = rejects u := fun _ => rfl
        have hsync : ∀ u, rejects (onlyIf b syncAll u) = rejects u := fun u => rejects_ite (rejects_of_tal syncAll_tal) rfl
        rw [hunits, hsync, rejects_of_tal updJob_tal, hwaits]
    dsimp only
    generalize hv : releaseUnits id (onlyIf j.qord syncAll (updJob id _ (dropWaits id s))) = v
    have hs : rejects v = rejects s := by rw [← hv]; exact hstop _ _
    have hcut : ∀ f, rejects (updJob id f v) = rejects s := fun f => (rejects_of_tal updJob_tal).trans hs
    have hdraw : ∀ n, rejects (drawIssue id n v) = rejects s := fun n => (rejects_of_tal drawIssue_tal).trans hs
    have hresult : ∀ n f, rejects (resultIssue id true n (updJob id f v)) = rejects s := fun n f =>
      (rejects_of_tal resultIssue_tal).trans (hcut f)
    split
    · rfl
    · split
      · exact hdraw _
      · split
        · split
          · exact hresult _ _
          · exact hcut _
        · exact hs

/-- A job that asks for words, and is no BEACON, rejects none. -/
theorem rejects_jobAsk {id : Nat} {s : State} (h : ∀ j, jobOf s id = some j → j.op ≠ 0x12) : rejects (jobAsk id s) = rejects s := by
  unfold jobAsk
  split
  · rfl
  next j hj =>
    dsimp only
    refine rejects_ite rfl ?_
    split
    · rfl
    · have hend : rejects (if j.op = 0x12 then beaconFlushed id s else stopJob id stFlushed none s) = rejects s := by
        rw [if_neg (h j hj)]
        exact rejects_stopJob
      have hwait : ∀ q (w : Waiter) (f : Job → Job) b, rejects (if b = true then prPlace q id id (addWaiter q w (updJob id f s))
          else addWaiter q w (updJob id f s)) = rejects s := fun q w f b => rejects_ite (rejects_of_tal prPlace_tal) rfl
      exact rejects_ite rfl (rejects_ite hend (hwait _ _ _ _))

/-! ### The distribution unit -/

/-- What becomes of a job once its word has been tested: the integer or the swap, and its next words (R149, R150). -/
def distGoes (id c : Nat) (ok : Bool) (tag : Tag) (j : Job) (s : State) : State :=
  let s3 := if !ok then s
    else if j.op = 0x02 then resultGo id (acceptInt id c tag s)
    else if j.stop.isNone then acceptSwap id c s
    else s
  if j.stop.isSome then onlyIf (j.op = 0x02) (distEnd id) s3
  else if j.op = 0x03 ∧ ok ∧ j.permI = 1 then permDone id s3
  else jobAsk id (wordsDone id s3)

theorem shell_branch {c : Prop} [Decidable c] {s t u : State} (h : shell t = shell s) (g : shell u = shell s) :
    shell (if c then t else u) = shell s := by
  split
  · exact h
  · exact g

theorem shell_distGoes {id c : Nat} {ok : Bool} {tag : Tag} {j : Job} {s : State} : shell (distGoes id c ok tag j s) = shell s := by
  have hmade : shell (if !ok then s else if j.op = 0x02 then resultGo id (acceptInt id c tag s)
      else if j.stop.isNone then acceptSwap id c s else s) = shell s :=
    shell_branch rfl (shell_branch (by rw [shell_resultGo, shell_acceptInt]) (shell_branch shell_acceptSwap rfl))
  unfold distGoes
  dsimp only
  generalize (if !ok then s else if j.op = 0x02 then resultGo id (acceptInt id c tag s)
      else if j.stop.isNone then acceptSwap id c s else s) = v at hmade ⊢
  refine (shell_branch ?_ (shell_branch ?_ ?_)).trans hmade
  · exact shell_onlyIf fun _ => shell_distEnd
  · exact shell_permDone
  · rw [shell_jobAsk, shell_wordsDone]

/-- A job's name and kind stay while it goes on. -/
theorem jobOf_card_congr {s t : State} (h : shell t = shell s) (id : Nat) : (jobOf t id).map jobCard = (jobOf s id).map jobCard := by
  have hcards : t.job.jobs.map jobCard = s.job.jobs.map jobCard := (congrArg (fun u : State => u.job.jobs) h :)
  have hfind : ∀ l : List Job, (l.find? (fun j => decide (j.id = id))).map jobCard = (l.map jobCard).find? (fun j => decide (j.id = id)) :=
    fun l => by
      rw [List.find?_map]
      rfl
  rw [jobOf, jobOf, hfind, hfind, hcards]

theorem acceptInt_tal {id v : Nat} {tag : Tag} {s : State} : (acceptInt id v tag s).tal = s.tal := by
  unfold acceptInt
  split
  · rfl
  · dsimp only
    exact ite_tal updJob_tal updJob_tal

theorem resultGo_tal {id : Nat} {s : State} : (resultGo id s).tal = s.tal := by
  unfold resultGo
  split
  · exact resultIssue_tal
  · rfl

theorem distEnd_tal {id : Nat} {s : State} : (distEnd id s).tal = s.tal := by
  unfold distEnd
  split
  · exact ite_tal resultIssue_tal rfl
  · rfl

theorem permDone_tal {id : Nat} {s : State} : (permDone id s).tal = s.tal := by
  unfold permDone
  split
  · rfl
  · rw [resultIssue_tal, prDrop_tal, updJob_tal]

theorem wordsDone_tal {id : Nat} {s : State} : (wordsDone id s).tal = s.tal := by
  unfold wordsDone
  split
  · rfl
  · refine ite_tal ?_ rfl
    rw [prDrop_tal, syncAll_tal, updJob_tal]

/-- Once its word has been tested a job rejects none. -/
theorem rejects_distGoes {id c : Nat} {ok : Bool} {tag : Tag} {j : Job} {s : State} (h : ∀ k, jobOf s id = some k → k.op ≠ 0x12) :
    rejects (distGoes id c ok tag j s) = rejects s := by
  have hshell : shell (if !ok then s else if j.op = 0x02 then resultGo id (acceptInt id c tag s)
      else if j.stop.isNone then acceptSwap id c s else s) = shell s :=
    shell_branch rfl (shell_branch (by rw [shell_resultGo, shell_acceptInt]) (shell_branch shell_acceptSwap rfl))
  have htal : (if !ok then s else if j.op = 0x02 then resultGo id (acceptInt id c tag s)
      else if j.stop.isNone then acceptSwap id c s else s).tal = s.tal :=
    ite_tal rfl (ite_tal (resultGo_tal.trans acceptInt_tal) (ite_tal updJob_tal rfl))
  unfold distGoes
  dsimp only
  generalize (if !ok then s else if j.op = 0x02 then resultGo id (acceptInt id c tag s)
      else if j.stop.isNone then acceptSwap id c s else s) = v at hshell htal ⊢
  have hop : ∀ k, jobOf (wordsDone id v) id = some k → k.op ≠ 0x12 := fun k hk hk12 => by
    have hcard := jobOf_card_congr (shell_wordsDone.trans hshell : shell (wordsDone id v) = shell s) id
    rw [hk] at hcard
    obtain ⟨k', hk', hc⟩ := Option.map_eq_some_iff.mp hcard.symm
    have hsame : k'.op = k.op := (congrArg Job.op hc :)
    exact h k' hk' (hsame.trans hk12)
  have hend : rejects (onlyIf (j.op = 0x02) (distEnd id) v) = rejects s :=
    (rejects_of_tal (ite_tal distEnd_tal rfl)).trans (rejects_of_tal htal)
  have hask : rejects (jobAsk id (wordsDone id v)) = rejects s :=
    (rejects_jobAsk hop).trans ((rejects_of_tal wordsDone_tal).trans (rejects_of_tal htal))
  exact rejects_ite hend (rejects_ite ((rejects_of_tal permDone_tal).trans (rejects_of_tal htal)) hask)

section
variable {s : State} {id : Nat} {j : Job} {w : AWord} {ws : List AWord} {gs : List (List AWord)} (hj : jobOf s id = some j)
  (hop : j.op = 0x02 ∨ j.op = 0x03) (hgrants : j.grants = (w :: ws) :: gs)
include hj hgrants

/-- The bound of a candidate (R149, R150). -/
def distBound (j : Job) : Nat := if j.op = 0x02 then fldW (jobWord j 0) 0 32 else j.permI

/-- The state in which a word has been tested and counted. -/
def distCounted (id : Nat) (w : AWord) (ws : List AWord) (gs : List (List AWord)) (ok : Bool) (s : State) : State :=
  let s1 := updJob id (fun x => { x with
    grants := if ws.isEmpty then gs else ws :: gs
    first := if x.first.isNone then some w.tag else x.first
    unchecked := x.unchecked || (ok && w.tag.marked) })
    { s with stk := { s.stk with cand := s.stk.cand + 1, rej := if ok then s.stk.rej else s.stk.rej + 1 } }
  if ok then passWords [w] s1 else kerfFlight .reject (awRefs [w]) 1 (toFlight (awRefs [w]) s1)

theorem distTest_eq : distTest id s = distGoes id (candidateOf (distBound j) w.v) (decide (candidateOf (distBound j) w.v ≤ distBound j)) w.tag j
    (distCounted id w ws gs (decide (candidateOf (distBound j) w.v ≤ distBound j)) s) := by
  unfold distTest
  rw [hj]
  dsimp only
  rw [hgrants]
  rfl

end

/-- Words that leave the stack at once change the books alone. -/
theorem finish_toFlight {refs : List (Nat × Nat)} {f : Books → Books} {s : State} :
    let u := finishSlots refs (updBooks f (toFlight refs s))
    u.stk.cand = s.stk.cand ∧ u.stk.rej = s.stk.rej ∧ (∀ id, (jobOf u id).map (·.op) = (jobOf s id).map (·.op)) ∧
      u.tal.books = f (bkToFlight refs.length s.tal.books) := by
  have hfinish : outer (finishSlots refs (updBooks f (toFlight refs s))) = outer (updBooks f (toFlight refs s)) := outer_finishSlots
  have hfly : outer (toFlight refs s) = outer s := outer_toFlight
  have hjobs : ∀ x y : State, outer x = outer y → ∀ id, (jobOf x id).map (·.op) = (jobOf y id).map (·.op) := fun x y hxy id => by
    have hf := congrArg (Option.map Job.op) (jobOf_face_congr hxy id)
    rw [Option.map_map, Option.map_map] at hf
    exact hf
  refine ⟨?_, ?_, fun id => ?_, ?_⟩
  · exact (congrArg (fun x : State => x.stk.cand) hfinish :).trans (congrArg (fun x : State => x.stk.cand) hfly :)
  · exact (congrArg (fun x : State => x.stk.rej) hfinish :).trans (congrArg (fun x : State => x.stk.rej) hfly :)
  · exact (hjobs _ _ hfinish id).trans (hjobs _ _ hfly id)
  · rw [finishSlots_tal]
    exact congrArg (fun x : Tal => f x.books) toFlight_tal

theorem ops_updJob {id : Nat} {f : Job → Job} {s : State} (hf : ∀ j, (f j).id = j.id ∧ (f j).op = j.op) :
    (jobOf (updJob id f s) id).map (·.op) = (jobOf s id).map (·.op) := by
  rw [jobOf_updJob_self fun j => (hf j).1, Option.map_map]
  exact congrArg (fun g => Option.map g (jobOf s id)) (funext fun j => (hf j).2)

/-- The state in which a word was tested: its counts, and its jobs. -/
theorem distCounted_shows {id : Nat} {w : AWord} {ws : List AWord} {gs : List (List AWord)} {ok : Bool} {s : State} :
    let u := distCounted id w ws gs ok s
    u.stk.cand = s.stk.cand + 1 ∧ u.stk.rej = (if ok then s.stk.rej else s.stk.rej + 1) ∧
      u.tal.books.delivered = (if ok then s.tal.books.delivered + 1 else s.tal.books.delivered) ∧
      rejects u = (if ok then rejects s else rejects s + 1) ∧
      (jobOf u id).map (·.op) = (jobOf s id).map (·.op) := by
  dsimp only
  unfold distCounted
  dsimp only
  generalize hs1 : updJob id _ ({ s with stk := _ } : State) = s1
  have hcand : s1.stk.cand = s.stk.cand + 1 := by rw [← hs1]; rfl
  have hrej : s1.stk.rej = (if ok then s.stk.rej else s.stk.rej + 1) := by rw [← hs1]; rfl
  have htal : s1.tal = s.tal := by rw [← hs1]; rfl
  have hops : (jobOf s1 id).map (·.op) = (jobOf s id).map (·.op) := by
    rw [← hs1]
    exact ops_updJob fun _ => ⟨rfl, rfl⟩
  cases ok with
  | true =>
    obtain ⟨hc, hr, ho, hb⟩ := finish_toFlight (refs := awRefs [w]) (f := bkDelivered 1 (awMarked [w])) (s := s1)
    refine ⟨hc.trans hcand, hr.trans hrej, ?_, ?_, (ho id).trans hops⟩
    · exact (congrArg Books.delivered hb).trans (congrArg (fun x : Tal => x.books.delivered + 1) htal)
    · exact (congrArg Books.wkReject hb).trans (congrArg (fun x : Tal => x.books.wkReject) htal)
  | false =>
    obtain ⟨hc, hr, ho, hb⟩ := finish_toFlight (refs := awRefs [w]) (f := bkKerf .reject false 1) (s := s1)
    refine ⟨hc.trans hcand, hr.trans hrej, ?_, ?_, (ho id).trans hops⟩
    · exact (congrArg Books.delivered hb).trans (congrArg (fun x : Tal => x.books.delivered) htal)
    · exact (congrArg Books.wkReject hb).trans (congrArg (fun x : Tal => x.books.wkReject + 1) htal)

theorem distTest_effects {s : State} {id : Nat} {j : Job} {w : AWord} {ws : List AWord} {gs : List (List AWord)} (hup : upAnd s = true)
    (hj : jobOf s id = some j) (hop : j.op = 0x02 ∨ j.op = 0x03) (hgrants : j.grants = (w :: ws) :: gs) :
    Effects (.distCandidate id) s (fun u =>
      let ok : Bool := decide (w.v.toNat % 2 ^ bitLen (distBound j) ≤ distBound j)
      u.stk.cand = s.stk.cand + 1 ∧ u.stk.rej = (if ok then s.stk.rej else s.stk.rej + 1) ∧
      u.tal.books.delivered = (if ok then s.tal.books.delivered + 1 else s.tal.books.delivered) ∧
      u.tal.books.wkReject = (if ok then s.tal.books.wkReject else s.tal.books.wkReject + 1)) := by
  refine effects_of_act exec_distCandidate (running_of_upAnd hup) ?_
  rw [distTest_eq hj hgrants]
  have hcand : candidateOf (distBound j) w.v = w.v.toNat % 2 ^ bitLen (distBound j) := rfl
  rw [hcand]
  dsimp only
  generalize decide (w.v.toNat % 2 ^ bitLen (distBound j) ≤ distBound j) = ok
  obtain ⟨hc, hr, hd, hk, ho⟩ := distCounted_shows (id := id) (w := w) (ws := ws) (gs := gs) (ok := ok) (s := s)
  generalize distCounted id w ws gs ok s = u at hc hr hd hk ho ⊢
  have hkind : ∀ k, jobOf u id = some k → k.op ≠ 0x12 := fun k hk' => by
    rw [hk', hj] at ho
    have hsame : k.op = j.op := Option.some.inj ho
    obtain h2 | h3 := hop
    · rw [hsame, h2]; decide
    · rw [hsame, h3]; decide
  have hshell := shell_distGoes (id := id) (c := w.v.toNat % 2 ^ bitLen (distBound j)) (ok := ok) (tag := w.tag) (j := j) (s := u)
  refine ⟨?_, ?_, (delivered_of_shell hshell).trans hd, (rejects_distGoes hkind).trans hk⟩
  · exact (congrArg (fun x : State => x.stk.cand) hshell :).trans hc
  · exact (congrArg (fun x : State => x.stk.rej) hshell :).trans hr

end Sys2Proof.Machine

/-! PROOFS. The words of a queue: those that go to kerf (R126, R142, R145), and what the patrol finds (R125 to R127). -/

namespace Sys2Proof.Machine

/-! ### The words of a queue and the consumers that wait on it -/

/-- A queue without its levels and counters. -/
def queueBody (d : DQueue) : QState × Bool × Nat × List QEntry × List Waiter := (d.st, d.ordered, d.wptr, d.ents, d.waits)

/-- A queue of the node without its levels and counters. -/
def bodyOf (s : State) (q : Nat) : Option (QState × Bool × Nat × List QEntry × List Waiter) := (queueOf s q).map queueBody

theorem bodyOf_of_stk {s t : State} (h : t.stk = s.stk) (q : Nat) : bodyOf t q = bodyOf s q := by rw [bodyOf, queueOf_of_stk h, bodyOf]

theorem queueOf_updQ_ne {q k : Nat} {f : DQueue → DQueue} {s : State} (h : q ≠ k) : queueOf (updQ q f s) k = queueOf s k := getElem?_upd_ne h

/-- A change of one queue that leaves its words and its waits. -/
theorem bodyOf_updQ {q k : Nat} {f : DQueue → DQueue} {s : State} (h : ∀ d, queueBody (f d) = queueBody d) :
    bodyOf (updQ q f s) k = bodyOf s k := by
  by_cases hq : q = k
  · subst hq
    rw [bodyOf, queueOf_updQ_self, Option.map_map, bodyOf]
    exact congrArg (fun g => Option.map g (queueOf s q)) (funext h)
  · rw [bodyOf, queueOf_updQ_ne hq, bodyOf]

theorem bodyOf_watermarkEvent {q k : Nat} {high : Bool} {s : State} : bodyOf (watermarkEvent q high s) k = bodyOf s k := by
  unfold watermarkEvent
  split
  · rfl
  · dsimp only
    rw [apply_ite (fun u => bodyOf u k), bodyOf_of_stk post_stk, bodyOf_updQ fun _ => by rfl, ite_self]

theorem bodyOf_crossings {q k : Nat} {up down : Bool} {s : State} :
    bodyOf (onlyIf down (watermarkEvent q false) (onlyIf up (watermarkEvent q true) s)) k = bodyOf s k := by
  have hev : ∀ (c high : Bool) (u : State), bodyOf (onlyIf c (watermarkEvent q high) u) k = bodyOf u k := fun c high u => by
    cases c
    · rfl
    · exact bodyOf_watermarkEvent
  rw [hev, hev]

/-- A queue after a change of its words. -/
theorem bodyOf_relevel_self {q : Nat} {f : DQueue → DQueue} {s : State} :
    bodyOf (relevel q f s) q = (queueOf s q).map (fun d => queueBody (f d)) := by
  unfold relevel
  split
  next h => rw [bodyOf, h]; rfl
  next d h =>
    dsimp only
    rw [bodyOf_crossings, bodyOf, queueOf_updQ_self, h]
    rfl

theorem bodyOf_relevel_ne {q k : Nat} {f : DQueue → DQueue} {s : State} (h : q ≠ k) : bodyOf (relevel q f s) k = bodyOf s k := by
  unfold relevel
  split
  · rfl
  · dsimp only
    rw [bodyOf_crossings, bodyOf, queueOf_updQ_ne h, bodyOf]

/-! ### Words that go to kerf -/

theorem setEnts_slots {slots : List Nat} {st : EntSt} {d : DQueue} {e : QEntry} (h : e ∈ (setEnts slots st d).ents) :
    e.st = st ∨ e ∈ d.ents ∧ e.slot ∉ slots := by
  obtain ⟨x, hx, rfl⟩ := List.mem_map.mp h
  by_cases hs : slots.contains x.slot = true
  · rw [if_pos hs]
    exact .inl rfl
  · rw [if_neg hs]
    exact .inr ⟨hx, fun hc => hs (List.contains_iff_mem.mpr hc)⟩

/-- The entries of a queue after a finish: finished ones, and those of other slots. -/
theorem finished_ents {slots : List Nat} {d : DQueue} {e : QEntry} (h : e ∈ (advanceMark (setEnts slots .done d)).ents) :
    e.st = .done ∨ e ∈ d.ents ∧ e.slot ∉ slots :=
  setEnts_slots ((List.dropWhile_sublist _).subset h)

theorem slotsIn_own {q : Nat} {l : List Nat} : slotsIn q (l.map fun k => (q, k)) = l := by
  simp [slotsIn, List.filter_map, Function.comp_def]

theorem refQueues_own {q : Nat} {l : List Nat} (h : l ≠ []) : refQueues (l.map fun k => (q, k)) = [q] := by
  obtain ⟨x, xs, rfl⟩ := List.exists_cons_of_ne_nil h
  have hrest : xs.filter (fun _ => !(q == q)) = [] := by simp
  simp [refQueues, List.eraseDups_cons, Function.comp_def]

theorem finishSlots_own {q : Nat} {l : List Nat} {s : State} (h : l ≠ []) :
    finishSlots (l.map fun k => (q, k)) s = relevel q (fun d => advanceMark (setEnts l .done d)) s := by
  rw [finishSlots, refQueues_own h, List.foldl_cons, List.foldl_nil, slotsIn_own]

/-- The slots of the words that a test picks among those not yet allotted. -/
def pickedSlots (p : QEntry → Bool) (d : DQueue) : List Nat := (d.ents.filter (fun e => decide (e.st = .res) && p e)).map (·.slot)

theorem kerfQueue_eq {q : Nat} {why : WordKerf} {p : DQueue → QEntry → Bool} {s : State} {d : DQueue} (hd : queueOf s q = some d) :
    kerfQueue q why p s =
      if pickedSlots (p d) d = [] then s
      else countQKerf q (pickedSlots (p d) d).length
        (relevel q (fun x => advanceMark (setEnts (pickedSlots (p d) d) .done x))
          (updBooks (bkKerf why true (pickedSlots (p d) d).length) s)) := by
  have hrefs : (d.ents.filter (fun e => decide (e.st = .res) && p d e)).map (fun e => (q, e.slot)) =
      (pickedSlots (p d) d).map fun k => (q, k) := by rw [pickedSlots, List.map_map]; rfl
  unfold kerfQueue
  rw [hd]
  dsimp only
  rw [hrefs]
  by_cases h : pickedSlots (p d) d = []
  · rw [h]
    rfl
  · rw [if_neg h, if_neg (by simpa using h), kerfStack, finishSlots_own h, List.length_map]

/-- None of the words that a test picks is left, and no word is there that was not. -/
theorem kerfQueue_body {q : Nat} {why : WordKerf} {p : DQueue → QEntry → Bool} {s : State} {d : DQueue} (hd : queueOf s q = some d) :
    ∃ x, queueOf (kerfQueue q why p s) q = some x ∧ x.waits = d.waits ∧
      ∀ e ∈ x.ents, e.st = .done ∨ e ∈ d.ents ∧ ¬ (e.st = .res ∧ p d e = true) := by
  rw [kerfQueue_eq hd]
  have hpick : ∀ e ∈ d.ents, e.slot ∉ pickedSlots (p d) d → ¬ (e.st = .res ∧ p d e = true) := fun e he hs ⟨hr, hp⟩ =>
    hs (List.mem_map_of_mem (List.mem_filter.mpr ⟨he, by rw [hr, hp]; rfl⟩))
  by_cases h : pickedSlots (p d) d = []
  · rw [if_pos h]
    exact ⟨d, hd, rfl, fun e he => .inr ⟨he, hpick e he (by rw [h]; exact List.not_mem_nil)⟩⟩
  · rw [if_neg h]
    have hbody : bodyOf (countQKerf q (pickedSlots (p d) d).length (relevel q (fun x => advanceMark (setEnts (pickedSlots (p d) d) .done x))
        (updBooks (bkKerf why true (pickedSlots (p d) d).length) s))) q =
        some (queueBody (advanceMark (setEnts (pickedSlots (p d) d) .done d))) := by
      rw [countQKerf, bodyOf_updQ fun _ => by rfl, bodyOf_relevel_self, show queueOf (updBooks _ s) q = some d from hd]
      rfl
    obtain ⟨x, hx, hb⟩ := Option.map_eq_some_iff.mp hbody
    have hents : x.ents = (advanceMark (setEnts (pickedSlots (p d) d) .done d)).ents := (congrArg (fun b => b.2.2.2.1) hb :)
    have hwaits : x.waits = d.waits := (congrArg (fun b => b.2.2.2.2) hb :)
    refine ⟨x, hx, hwaits, fun e he => ?_⟩
    rw [hents] at he
    obtain hdone | ⟨hin, hs⟩ := finished_ents he
    · exact .inl hdone
    · exact .inr ⟨hin, hpick e hin hs⟩

/-! ### Old words -/

/-- A word not yet allotted that has reached the age limit (R142). -/
def isOld (s : State) (e : QEntry) : Bool := decide (e.st = .res) && tooOld s e.tag.t

theorem pickedSlots_old {s : State} {d : DQueue} : (pickedSlots (fun e => tooOld s e.tag.t) d).length = countP (isOld s) d.ents := by
  rw [pickedSlots, List.length_map]
  rfl

section
variable {s : State} {q : Nat} {d : DQueue} (hd : queueOf s q = some d)
include hd

theorem ageScrub_scrubs (ho : d.ents.any (isOld s) = true) :
    (queueOf (ageScrub q s) q).map (fun x => (x.aged, x.ents.any (isOld s))) = some (true, false) ∧
      (ageScrub q s).tal.books.wkAge = s.tal.books.wkAge + BitVec.ofNat 64 (countP (isOld s) d.ents) := by
  have hscrub : ageScrub q s = updQ q (fun x => { x with aged := true }) (kerfQueue q .age (fun _ e => tooOld s e.tag.t) s) := by
    unfold ageScrub
    rw [hd]
    exact if_pos ho
  rw [hscrub]
  obtain ⟨x, hx, -, hents⟩ := kerfQueue_body (why := .age) (p := fun _ e => tooOld s e.tag.t) hd
  refine ⟨?_, ?_⟩
  · rw [queueOf_updQ_self, hx, Option.map_some, Option.map_some, Option.some.injEq, Prod.mk.injEq]
    refine ⟨rfl, List.any_eq_false.mpr fun e he hold => ?_⟩
    simp only [isOld, Bool.and_eq_true, decide_eq_true_eq] at hold
    obtain hdone | ⟨-, hn⟩ := hents e he
    · rw [hdone] at hold
      exact absurd hold.1 (by decide)
    · exact hn hold
  · have hne : pickedSlots (fun e => tooOld s e.tag.t) d ≠ [] := fun hc => by
      obtain ⟨e, he, hold⟩ := List.any_eq_true.mp ho
      have hmem : e.slot ∈ pickedSlots (fun e => tooOld s e.tag.t) d := List.mem_map_of_mem (List.mem_filter.mpr ⟨he, hold⟩)
      rw [hc] at hmem
      exact List.not_mem_nil hmem
    rw [kerfQueue_eq hd, if_neg hne]
    show (relevel _ _ _).tal.books.wkAge = _
    rw [relevel_tal, pickedSlots_old]
    rfl

theorem ageScrub_keeps (ho : d.ents.any (isOld s) = false) : ageScrub q s = s := by
  unfold ageScrub
  rw [hd]
  exact if_neg (by rw [Bool.not_eq_true]; exact ho)

end

end Sys2Proof.Machine

/-! PROOFS. What becomes of a queue's words and of the consumers that wait on it, while jobs end and lanes leave service. -/

namespace Sys2Proof.Machine

/-! ### The relation -/

/-- No word of the queue is left to allot, and no consumer that waits on it holds one. -/
def Emptied (d : DQueue) : Prop := (∀ e ∈ d.ents, e.st ≠ .res) ∧ ∀ w ∈ d.waits, w.held = []

/-- A queue keeps its order rule and its write pointer; it stays in its state, or has drained; and an empty one stays empty. -/
structure Stays (d x : DQueue) : Prop where
  ordered : x.ordered = d.ordered
  wptr : x.wptr = d.wptr
  st : x.st = d.st ∨ d.st = .draining ∧ x.st = .off
  empty : d.ents = [] → x.ents = []

/-- A queue stays, and while nothing is left to allot no word comes back and no consumer begins to wait. -/
structure Ebbs (d x : DQueue) : Prop extends Stays d x where
  quiet : Emptied d → Emptied x
  waits : Emptied d → ∀ w ∈ x.waits, w ∈ d.waits

/-- The regions of the array, the counts of its errors, and STK_ERR. -/
def wear (s : State) : List Region × W32 × BitVec 16 × BitVec 5 := (s.stk.regions, s.stk.ce, s.stk.ue, s.stk.err)

/-- The array stays as it is, and every queue ebbs. -/
structure Falls (s t : State) : Prop where
  wear : wear t = wear s
  queues : ∀ k d, queueOf s k = some d → ∃ x, queueOf t k = some x ∧ Ebbs d x

theorem Stays.refl (d : DQueue) : Stays d d := ⟨rfl, rfl, .inl rfl, fun h => h⟩

theorem Stays.trans {d x y : DQueue} (h : Stays d x) (g : Stays x y) : Stays d y where
  ordered := g.ordered.trans h.ordered
  wptr := g.wptr.trans h.wptr
  st := by
    obtain hst | ⟨hd, hx⟩ := h.st
    · rw [← hst]
      exact g.st
    · obtain gst | ⟨gx, -⟩ := g.st
      · exact .inr ⟨hd, gst.trans hx⟩
      · exact absurd (hx.symm.trans gx) (by decide)
  empty hd := g.empty (h.empty hd)

theorem Ebbs.refl (d : DQueue) : Ebbs d d := ⟨.refl d, fun h => h, fun _ _ h => h⟩

theorem Ebbs.trans {d x y : DQueue} (h : Ebbs d x) (g : Ebbs x y) : Ebbs d y :=
  ⟨h.toStays.trans g.toStays, fun hd => g.quiet (h.quiet hd), fun hd w hw => h.waits hd w (g.waits (h.quiet hd) w hw)⟩

/-- A change of a queue that leaves its words and its waits. -/
theorem ebbs_of_body {d x : DQueue} (h : queueBody x = queueBody d) : Ebbs d x := by
  have hst : x.st = d.st := (congrArg (fun b => b.1) h :)
  have hord : x.ordered = d.ordered := (congrArg (fun b => b.2.1) h :)
  have hptr : x.wptr = d.wptr := (congrArg (fun b => b.2.2.1) h :)
  have hents : x.ents = d.ents := (congrArg (fun b => b.2.2.2.1) h :)
  have hwaits : x.waits = d.waits := (congrArg (fun b => b.2.2.2.2) h :)
  refine ⟨⟨hord, hptr, .inl hst, fun hd => hents.trans hd⟩, fun hq => ?_, fun _ w hw => by rw [← hwaits]; exact hw⟩
  unfold Emptied
  rw [hents, hwaits]
  exact hq

theorem Falls.refl (s : State) : Falls s s := ⟨rfl, fun _ d h => ⟨d, h, .refl d⟩⟩

theorem Falls.trans {s t u : State} (h : Falls s t) (g : Falls t u) : Falls s u where
  wear := g.wear.trans h.wear
  queues k d hd := by
    obtain ⟨x, hx, hdx⟩ := h.queues k d hd
    obtain ⟨y, hy, hxy⟩ := g.queues k x hx
    exact ⟨y, hy, hdx.trans hxy⟩

theorem Falls.after {s t u : State} (g : Falls t u) (h : Falls s t) : Falls s u := h.trans g

theorem Falls.of_stk {s t : State} (h : t.stk = s.stk) : Falls s t :=
  ⟨by rw [Machine.wear, h, Machine.wear], fun k d hd => ⟨d, by rw [queueOf_of_stk h]; exact hd, .refl d⟩⟩

theorem Falls.ite {c : Prop} [Decidable c] {s t u : State} (h : Falls s t) (g : Falls s u) : Falls s (if c then t else u) := by
  split
  · exact h
  · exact g

theorem Falls.onlyIf {c : Bool} {f : State → State} {s : State} (h : Falls s (f s)) : Falls s (onlyIf c f s) := .ite h (.refl s)

theorem Falls.foldl {α : Type} {g : State → α → State} {l : List α} {s : State} (h : ∀ u x, Falls u (g u x)) : Falls s (l.foldl g s) := by
  induction l generalizing s with
  | nil => exact .refl s
  | cons x xs ih => exact (h s x).trans ih

/-- One queue changes. -/
theorem falls_updQ {q : Nat} {f : DQueue → DQueue} {s : State} (h : ∀ d, queueOf s q = some d → Ebbs d (f d)) : Falls s (updQ q f s) := by
  refine ⟨rfl, fun k d hd => ?_⟩
  by_cases hq : q = k
  · subst hq
    exact ⟨f d, by rw [queueOf_updQ_self, hd]; rfl, h d hd⟩
  · exact ⟨d, by rw [queueOf_updQ_ne hq]; exact hd, .refl d⟩

/-! ### The levels and the words of a queue -/

theorem falls_post {code idx detail : Nat} {s : State} : Falls s (post code idx detail s) := .of_stk post_stk

theorem falls_watermarkEvent {q : Nat} {high : Bool} {s : State} : Falls s (watermarkEvent q high s) := by
  unfold watermarkEvent
  split
  · exact .refl s
  · dsimp only
    refine .ite (falls_post.after (falls_updQ fun _ _ => ebbs_of_body rfl)) (.refl s)

theorem falls_relevel {q : Nat} {f : DQueue → DQueue} {s : State} (h : ∀ d, Ebbs d (f d)) : Falls s (relevel q f s) := by
  unfold relevel
  split
  · exact .refl s
  next d hd =>
    dsimp only
    refine .trans (.trans (falls_updQ fun x hx => ?_) (.onlyIf falls_watermarkEvent)) (.onlyIf falls_watermarkEvent)
    obtain rfl : d = x := Option.some.inj (hd.symm.trans hx)
    exact (h d).trans (ebbs_of_body rfl)

theorem ebbs_setEnts {slots : List Nat} {st : EntSt} {d : DQueue} (h : st ≠ .res) : Ebbs d (setEnts slots st d) where
  ordered := rfl
  wptr := rfl
  st := .inl rfl
  empty hd := by rw [setEnts, hd]; rfl
  quiet hd := by
    refine ⟨fun e he => ?_, hd.2⟩
    obtain hst | ⟨hin, -⟩ := setEnts_slots he
    · rw [hst]
      exact h
    · exact hd.1 e hin
  waits _ _ hw := hw

theorem ebbs_advanceMark {d : DQueue} : Ebbs d (advanceMark d) where
  ordered := rfl
  wptr := rfl
  st := by
    by_cases h : d.st = .draining ∧ d.ents.dropWhile (fun e => decide (e.st = .done)) = []
    · exact .inr ⟨h.1, if_pos h⟩
    · exact .inl (if_neg h)
  empty hd := by rw [advanceMark, hd]; rfl
  quiet hd := ⟨fun e he => hd.1 e ((List.dropWhile_sublist _).subset he), hd.2⟩
  waits _ _ hw := hw

theorem falls_books {f : Books → Books} {s : State} : Falls s (updBooks f s) := .of_stk rfl

theorem falls_finishSlots {refs : List (Nat × Nat)} {s : State} : Falls s (finishSlots refs s) :=
  .foldl fun _ _ => falls_relevel fun _ => (ebbs_setEnts (by decide)).trans ebbs_advanceMark

theorem falls_toFlight {refs : List (Nat × Nat)} {s : State} : Falls s (toFlight refs s) :=
  .trans falls_books (.foldl fun _ _ => falls_relevel fun _ => ebbs_setEnts (by decide))

theorem falls_kerfStack {why : WordKerf} {refs : List (Nat × Nat)} {s : State} : Falls s (kerfStack why refs s) :=
  falls_finishSlots.after falls_books

theorem falls_kerfFlight {why : WordKerf} {refs : List (Nat × Nat)} {n : Nat} {s : State} : Falls s (kerfFlight why refs n s) :=
  falls_finishSlots.after falls_books

theorem falls_kerfWords {why : WordKerf} {ws : List AWord} {s : State} : Falls s (kerfWords why ws s) := falls_books.after falls_kerfStack

theorem falls_passWords {ws : List AWord} {s : State} : Falls s (passWords ws s) :=
  falls_finishSlots.after (falls_books.after falls_toFlight)

theorem falls_kerfQueue {q : Nat} {why : WordKerf} {p : DQueue → QEntry → Bool} {s : State} : Falls s (kerfQueue q why p s) := by
  unfold kerfQueue
  split
  · exact .refl s
  · dsimp only
    exact .ite (.refl s) (.trans falls_kerfStack (falls_updQ fun _ _ => ebbs_of_body rfl))

/-! ### Words read for a consumer -/

/-- Words that are resident again leave the regions, and their queue stays. -/
theorem putBack_stays {q : Nat} {v : AWord} {s : State} : wear (putBack q v s) = wear s ∧
    (∀ k, k ≠ q → queueOf (putBack q v s) k = queueOf s k) ∧
    ∀ d, queueOf s q = some d → ∃ x, queueOf (putBack q v s) q = some x ∧ Stays d x := by
  unfold putBack
  split
  next r d hr hd =>
    have hset : ∀ k, queueOf (if regionVoid s (regionAt (slotAddr d r.2)) then updQ q (setEnts [r.2] .res) s
        else arrayWrite (slotAddr d r.2) v.v (updQ q (setEnts [r.2] .res) s)) k = queueOf (updQ q (setEnts [r.2] .res) s) k := fun k => by
      split
      · rfl
      · rfl
    have hwear : wear (if regionVoid s (regionAt (slotAddr d r.2)) then updQ q (setEnts [r.2] .res) s
        else arrayWrite (slotAddr d r.2) v.v (updQ q (setEnts [r.2] .res) s)) = wear s := by
      split
      · rfl
      · rfl
    dsimp only
    refine ⟨hwear, fun k hk => (hset k).trans (queueOf_updQ_ne hk.symm), fun d' hd' => ⟨_, (hset q).trans (by rw [queueOf_updQ_self, hd']; rfl), ?_⟩⟩
    exact ⟨rfl, rfl, .inl rfl, fun he => by rw [setEnts, he]; rfl⟩
  · exact ⟨rfl, fun _ _ => rfl, fun d hd => ⟨d, hd, .refl d⟩⟩

theorem putBacks_stay {q : Nat} {l : List AWord} {s : State} : wear (l.foldl (fun t v => putBack q v t) s) = wear s ∧
    (∀ k, k ≠ q → queueOf (l.foldl (fun t v => putBack q v t) s) k = queueOf s k) ∧
    ∀ d, queueOf s q = some d → ∃ x, queueOf (l.foldl (fun t v => putBack q v t) s) q = some x ∧ Stays d x := by
  induction l generalizing s with
  | nil => exact ⟨rfl, fun _ _ => rfl, fun d hd => ⟨d, hd, .refl d⟩⟩
  | cons v l ih =>
    obtain ⟨hw, hne, hself⟩ := putBack_stays (q := q) (v := v) (s := s)
    obtain ⟨iw, ine, iself⟩ := ih (s := putBack q v s)
    refine ⟨iw.trans hw, fun k hk => (ine k hk).trans (hne k hk), fun d hd => ?_⟩
    obtain ⟨x, hx, hdx⟩ := hself d hd
    obtain ⟨y, hy, hxy⟩ := iself x hx
    exact ⟨y, hy, hdx.trans hxy⟩

/-- A consumer that holds words makes its queue less than quiet, so what comes back does not matter to the relation. -/
theorem falls_releaseAllot {q key : Nat} {s : State} : Falls s (releaseAllot q key s) := by
  unfold releaseAllot
  split
  · exact .refl s
  next w hw =>
    by_cases hh : w.held.isEmpty = true
    · rw [if_pos hh]
      exact .refl s
    · rw [if_neg hh]
      refine .trans ?_ falls_kerfQueue
      obtain ⟨hwear, hne, hself⟩ := putBacks_stay (q := q) (l := w.held) (s := s)
      refine ⟨hwear, fun k d hd => ?_⟩
      by_cases hk : k = q
      · subst hk
        obtain ⟨x, hx, hdx⟩ := hself d hd
        have hloud : ¬ Emptied d := fun hq => by
          rw [waitOf, hd] at hw
          have hheld := hq.2 w (List.mem_of_find?_eq_some hw)
          rw [hheld] at hh
          exact hh rfl
        refine ⟨_, (queueOf_updQ_self).trans (congrArg (Option.map _) hx), ⟨⟨hdx.ordered, hdx.wptr, hdx.st, hdx.empty⟩, ?_, ?_⟩⟩
        · exact fun hq => absurd hq hloud
        · exact fun hq => absurd hq hloud
      · exact ⟨d, by rw [updWait, queueOf_updQ_ne (Ne.symm hk), hne k hk]; exact hd, .refl d⟩

theorem ebbs_filterWaits {p : Waiter → Bool} {d : DQueue} : Ebbs d { d with waits := d.waits.filter p } :=
  ⟨⟨rfl, rfl, .inl rfl, fun h => h⟩, fun hd => ⟨hd.1, fun w hw => hd.2 w (List.mem_filter.mp hw).1⟩, fun _ _ hw => (List.mem_filter.mp hw).1⟩

theorem falls_syncQ {q : Nat} {s : State} : Falls s (syncQ q s) := falls_updQ fun _ _ => ebbs_of_body rfl

theorem falls_syncAll {s : State} : Falls s (syncAll s) := .foldl fun _ _ => falls_syncQ

theorem falls_dropWaiter {q key : Nat} {s : State} : Falls s (dropWaiter q key s) := falls_syncQ.after (falls_updQ fun _ _ => ebbs_filterWaits)

theorem falls_prDrop {key : Nat} {s : State} : Falls s (prDrop key s) := by
  unfold prDrop
  refine Falls.after (.foldl fun t n => ?_) (.of_stk rfl)
  split
  · exact .ite (.of_stk laneWait_stk) (.refl t)
  · exact .refl t

/-- Every queue loses some of its waits. -/
theorem falls_filterAll {p : Waiter → Bool} {s : State} :
    Falls s { s with stk := { s.stk with queues := s.stk.queues.map (fun d => { d with waits := d.waits.filter p }) } } := by
  refine ⟨rfl, fun k d hd => ⟨{ d with waits := d.waits.filter p }, ?_, ebbs_filterWaits⟩⟩
  show (s.stk.queues.map _)[k]? = _
  rw [List.getElem?_map, show s.stk.queues[k]? = some d from hd]
  rfl

theorem falls_dropWaits {id : Nat} {s : State} : Falls s (dropWaits id s) := by
  have hall : Falls s ((List.range 16).foldl (fun t q => releaseAllot q id t) s) := .foldl fun _ _ => falls_releaseAllot
  unfold dropWaits
  dsimp only
  generalize (List.range 16).foldl (fun t q => releaseAllot q id t) s = v at hall ⊢
  exact falls_prDrop.after (falls_syncAll.after (falls_filterAll.after hall))

end Sys2Proof.Machine

/-! PROOFS. The array and the queues while jobs end, waits end, and lanes leave service (R115, R116, R133, R145). -/

namespace Sys2Proof.Machine

/-! ### The end of a job -/

theorem Falls.of_queues {s t : State} (hw : Machine.wear t = Machine.wear s) (hq : t.stk.queues = s.stk.queues) : Falls s t := by
  refine ⟨hw, fun k d hd => ⟨d, ?_, .refl d⟩⟩
  rw [queueOf, hq]
  exact hd

theorem falls_updJob {id : Nat} {f : Job → Job} {s : State} : Falls s (updJob id f s) := .of_stk rfl

theorem falls_updLane {n : Nat} {f : Lane → Lane} {s : State} : Falls s (updLane n f s) := .of_stk rfl

theorem falls_issueWrite {id off : Nat} {bytes : List Byte} {ws : List AWord} {random : Bool} {tag : Option Tag} {s : State} :
    Falls s (issueWrite id off bytes ws random tag s) := by
  unfold issueWrite
  split
  · exact .refl s
  · exact .of_stk rfl

theorem falls_resultIssue {id fuel : Nat} {last : Bool} {s : State} : Falls s (resultIssue id last fuel s) := by
  induction fuel generalizing s with
  | zero => exact .refl s
  | succ fuel ih =>
    unfold resultIssue
    split
    · exact .refl s
    · split
      · exact .ite (ih.after (falls_issueWrite.after falls_updJob)) (.refl s)
      · dsimp only
        exact .ite (.refl s) (ih.after (falls_issueWrite.after falls_updJob))

theorem falls_drawIssue {id fuel : Nat} {s : State} : Falls s (drawIssue id fuel s) := by
  induction fuel generalizing s with
  | zero => exact .refl s
  | succ fuel ih =>
    unfold drawIssue
    split
    · exact .refl s
    · dsimp only
      split
      · exact ih.after (falls_issueWrite.after falls_updJob)
      · split
        · split
          · exact .ite falls_updJob (.refl s)
          · exact ih.after (falls_issueWrite.after falls_updJob)
        · exact .refl s

theorem falls_kerfFrames {why : WordKerf} {l : List TxFrame} {s : State} : Falls s (kerfFrames why l s) :=
  .foldl fun _ _ => .ite falls_kerfFlight falls_kerfStack

theorem falls_dropUnsent {why : WordKerf} {id : Nat} {s : State} : Falls s (dropUnsent why id s) := by
  have hpull : ∀ b u, Falls u (pullUnsent id b u) := fun _ _ => .of_stk rfl
  unfold dropUnsent
  split
  · exact .refl s
  · exact falls_kerfWords.after (falls_kerfFrames.after ((hpull _ _).after falls_updJob))

theorem falls_releaseUnits {id : Nat} {s : State} : Falls s (releaseUnits id s) := .of_queues rfl rfl

theorem falls_stopJob {id : Nat} {status : BitVec 8} {why : Option WordKerf} {s : State} : Falls s (stopJob id status why s) := by
  unfold stopJob
  split
  · exact .refl s
  next j hj =>
    have hstop : ∀ (b : Bool) (f : Job → Job), Falls s (releaseUnits id (onlyIf b syncAll (updJob id f (dropWaits id s)))) := fun b f =>
      falls_releaseUnits.after ((Falls.onlyIf falls_syncAll).after (falls_updJob.after falls_dropWaits))
    dsimp only
    generalize hv : releaseUnits id (onlyIf j.qord syncAll (updJob id _ (dropWaits id s))) = v
    have hs : Falls s v := by rw [← hv]; exact hstop _ _
    have hdraw : ∀ n, Falls s (drawIssue id n v) := fun n => falls_drawIssue.after hs
    have hresult : ∀ n f, Falls s (resultIssue id true n (updJob id f v)) := fun n f => falls_resultIssue.after (falls_updJob.after hs)
    refine .ite (.refl s) ?_
    split
    · exact falls_dropUnsent.after hs
    · exact .ite (hdraw _) (.ite (.ite (hresult _ _) (falls_updJob.after hs)) hs)

theorem falls_beaconFlushed {id : Nat} {s : State} : Falls s (beaconFlushed id s) := by
  unfold beaconFlushed
  split
  · exact .refl s
  next j =>
    have hcut : ∀ (c : Bool) l f, Falls s (updJob id f (onlyIf c (kerfWords .reject l) s)) := fun c l f =>
      falls_updJob.after (.onlyIf falls_kerfWords)
    dsimp only
    exact .ite (falls_stopJob.after (hcut _ _ _)) (falls_updJob.after (hcut _ _ _))

/-! ### The end of a wait -/

theorem falls_readDone {key : Nat} {a : Acc} {lead status : Nat} {data : List Byte} {ws : List AWord} {s : State} :
    Falls s (readDone key a lead status data ws s) := by
  have heng : ∀ un, Falls s (engRespondAt lead status (bytesToW32 data) un ws s) := fun un => by
    unfold engRespondAt
    split
    · exact .refl s
    · exact .of_stk rfl
  have hcore : ∀ un u, Falls u (coreAnswer status data un u) := fun _ _ => .of_stk rfl
  unfold readDone
  dsimp only
  split
  · exact .of_stk rfl
  · exact .ite (heng _) ((hcore _ _).after falls_passWords)

theorem falls_endRead {key : Nat} {a : Acc} {len status : Nat} {ws : List AWord} {s : State} : Falls s (endRead key a len status ws s) :=
  falls_readDone

theorem falls_peerSkipped {s : State} : Falls s (peerSkipped s) := .of_stk rfl

/-- A consumer that a flush ends. -/
theorem falls_flushWaiter {q : Nat} {w : Waiter} {s : State} : Falls s (flushWaiter q w s) := by
  have hdrop : Falls s (dropWaiter q w.key (releaseAllot q w.key s)) := falls_dropWaiter.after falls_releaseAllot
  unfold flushWaiter
  dsimp only
  generalize dropWaiter q w.key (releaseAllot q w.key s) = v at hdrop ⊢
  split
  · exact falls_prDrop.after (falls_endRead.after hdrop)
  · exact falls_prDrop.after (falls_endRead.after hdrop)
  · exact falls_peerSkipped.after hdrop
  · split
    · exact .ite (falls_beaconFlushed.after hdrop) (falls_stopJob.after hdrop)
    · exact hdrop

theorem falls_beaconCuts {q : Nat} {s : State} : Falls s ((s.job.jobs.filter (beaconCut q)).foldl (fun t j => beaconFlushed j.id t) s) :=
  .foldl fun _ _ => falls_beaconFlushed

theorem falls_flushWaiters {q : Nat} {s : State} : Falls s (flushWaiters q s) := by
  unfold flushWaiters
  split
  · exact .refl s
  · exact falls_beaconCuts.after (.foldl fun _ _ => falls_flushWaiter)

theorem falls_queueFlush {q : Nat} {s : State} : Falls s (queueFlush q s) := by
  unfold queueFlush
  split
  · exact .refl s
  next d _ =>
    have hrelease : Falls s (d.waits.foldl (fun t w => releaseAllot q w.key t) s) := .foldl fun _ _ => falls_releaseAllot
    exact falls_flushWaiters.after (falls_kerfQueue.after hrelease)

/-! ### Lanes that leave service -/

theorem falls_endIfDone {id : Nat} {s : State} : Falls s (endIfDone id s) := by
  unfold endIfDone
  split
  · exact .ite (falls_stopJob.after falls_updJob) (.refl s)
  · exact .refl s

theorem falls_reseedJobs {n : Nat} {sat : Bool} {s : State} : Falls s (reseedJobs n sat s) :=
  .foldl fun _ _ => (Falls.onlyIf falls_endIfDone).after falls_updJob

theorem falls_mixCheck {id : Nat} {s : State} : Falls s (mixCheck id s) := by
  unfold mixCheck
  split
  · exact .ite (falls_stopJob.after falls_updJob) (.refl s)
  · exact .refl s

theorem falls_mixLeave {n : Nat} {s : State} : Falls s (mixLeave n s) := .foldl fun _ _ => falls_mixCheck.after falls_updJob

theorem falls_rebindAll {n : Nat} {s : State} : Falls s (rebindAll n s) := by
  refine .foldl fun u q => ?_
  unfold rebindQueue
  refine .ite ?_ (.refl u)
  split
  · exact .refl u
  · exact falls_post.after (.of_stk rfl)

theorem falls_prPlace {q key accepted : Nat} {s : State} : Falls s (prPlace q key accepted s) := .of_stk prPlace_stk

theorem falls_placeOrphans {s : State} : Falls s (placeOrphans s) := by
  refine .foldl fun u q => ?_
  split
  · exact .refl u
  · exact .foldl fun _ _ => falls_prPlace

theorem falls_placeRefresh {s : State} : Falls s (placeRefresh s) := by
  unfold placeRefresh
  refine .ite ?_ (.refl s)
  split
  · exact .refl s
  next n _ =>
    have hlane : ∀ p u, Falls u (bumpFree (prAdd n p u)) := fun _ _ => .of_stk prAdd_stk
    exact (hlane _ _).after (.of_queues rfl rfl)

theorem falls_laneLeave {n : Nat} {st : LaneState} {s : State} : Falls s (laneLeave n st s) := by
  unfold laneLeave
  split
  · exact .refl s
  · refine falls_placeRefresh.after (falls_placeOrphans.after (falls_rebindAll.after (falls_mixLeave.after (falls_reseedJobs.after ?_))))
    exact .of_queues rfl rfl

theorem falls_laneBoundary {n : Nat} {s : State} : Falls s (laneBoundary n s) := by
  unfold laneBoundary
  split
  · exact .refl s
  · exact .ite (.refl s) (.ite falls_laneLeave (.ite ((Falls.onlyIf falls_updLane).after falls_laneLeave) (.refl s)))

theorem falls_laneDemand {n : Nat} {s : State} : Falls s (laneDemand n s) := by
  unfold laneDemand
  split
  · exact .refl s
  · dsimp only
    exact .ite (.ite (.of_stk rfl) (.ite (.of_stk laneWait_stk) (.ite (.of_stk rfl) (.refl s)))) (.refl s)

theorem falls_dropSegments {q : Nat} {why : WordKerf} {s : State} : Falls s (dropSegments q why s) := by
  refine .foldl fun t n => ?_
  split
  · exact .refl t
  · refine .ite (.refl t) (falls_laneBoundary.after (falls_laneDemand.after (falls_updLane.after ?_)))
    exact falls_books.after falls_books

/-! ### Queues that lose their capacity -/

theorem wear_queueVoid {q : Nat} {s : State} : wear (queueVoid q s) = wear s := by
  unfold queueVoid
  split
  · rfl
  · split
    · exact (falls_post.after (falls_dropSegments.after (falls_kerfQueue.after falls_flushWaiters))).wear
    · rfl

theorem wear_voidCheck {qs : List Nat} {s : State} : wear (voidCheck qs s) = wear s := by
  have hvoid : wear (qs.foldl (fun t q => queueVoid q t) s) = wear s :=
    foldl_keeps (P := fun t => wear t = wear s) (fun _ _ ht => wear_queueVoid.trans ht) rfl
  have hraise : ∀ u : State, wear (raiseFatal 0x08 1 u) = wear u := fun u => by
    rw [wear, raiseFatal_stk, wear]
  unfold voidCheck
  dsimp only
  split
  · exact hvoid
  · exact (hraise _).trans hvoid

/-! ### The patrol -/

section
variable {addr : Nat} {s : State}

theorem patrolRead_of_unread {e : EccResult} (h : halted s = true ∨ regionVoid s (regionAt addr) = true ∨
    (∀ d ∈ s.stk.queues, occupies d = true → addr < d.base.toNat * 512 ∨ d.base.toNat * 512 + depth d ≤ addr)) :
    patrolRead addr e s = s := by
  unfold patrolRead
  refine if_pos ?_
  obtain h | h | h := h
  · rw [h]
    rfl
  · rw [h, Bool.or_true]
  · have hnone : s.stk.queues.any (fun d => occupies d && decide (d.base.toNat * 512 ≤ addr) && decide (addr < d.base.toNat * 512 + depth d)) =
        false := List.any_eq_false.mpr fun d hd hc => by
      simp only [Bool.and_eq_true, decide_eq_true_eq] at hc
      obtain ⟨⟨hocc, hlo⟩, hhi⟩ := hc
      have := h d hd hocc
      omega
    rw [hnone, Bool.not_false, Bool.or_true, Bool.true_or]

/-- The state in which the patrol reads a word: a pass may have ended. -/
def patrolAt (addr : Nat) (s : State) : State :=
  if addr + 1 = patrolEnd s then { s with stk := { s.stk with passes := s.stk.passes + 1 } } else s

theorem wear_patrolAt : wear (patrolAt addr s) = wear s := by
  unfold patrolAt
  split
  · rfl
  · rfl

theorem patrolRead_of_read {e : EccResult} (hh : halted s = false)
    (hq : ∃ d ∈ s.stk.queues, occupies d = true ∧ d.base.toNat * 512 ≤ addr ∧ addr < d.base.toNat * 512 + depth d)
    (hv : regionVoid s (regionAt addr) = false) : patrolRead addr e s = match e with
      | .ok => patrolAt addr s
      | .corrected => countCe addr (patrolAt addr s)
      | .uncorrectable => handleUe addr (patrolAt addr s) := by
  have hany : s.stk.queues.any (fun d => occupies d && decide (d.base.toNat * 512 ≤ addr) && decide (addr < d.base.toNat * 512 + depth d)) =
      true := by
    obtain ⟨d, hd, hocc, hlo, hhi⟩ := hq
    exact List.any_eq_true.mpr ⟨d, hd, by simp [hocc, hlo, hhi]⟩
  unfold patrolRead
  rw [if_neg (by rw [hh, hany, hv]; decide)]
  rfl

end

end Sys2Proof.Machine

/-! PROOFS. A region that retires, and what the patrol, the age limit and the distribution unit do (R125 to R127, R133, R142, R149 to R152). -/

namespace Sys2Proof.Machine

/-! ### A region that retires -/

/-- A region is retired. -/
def RetiredAt (l : List Region) (p : Nat) : Prop := ∃ x, l[p]? = some x ∧ x.retired = true

theorem RetiredAt.upd {l : List Region} {p k : Nat} {f : Region → Region} (h : RetiredAt l p) (hf : ∀ x, (f x).retired = x.retired) :
    RetiredAt (Machine.upd l k f) p := by
  obtain ⟨x, hx, hr⟩ := h
  by_cases hk : k = p
  · subst hk
    exact ⟨f x, by rw [getElem?_upd_self, hx]; rfl, (hf x).trans hr⟩
  · exact ⟨x, by rw [getElem?_upd_ne hk, hx], hr⟩

theorem retiredAt_upd_self {l : List Region} {p : Nat} {f : Region → Region} (hp : p < l.length) (hf : ∀ x, (f x).retired = true) :
    RetiredAt (upd l p f) p :=
  ⟨f l[p], by rw [getElem?_upd_self, List.getElem?_eq_getElem hp]; rfl, hf _⟩

theorem regionOf_retired {s : State} {p : Nat} (h : RetiredAt s.stk.regions p) : (regionOf s p).retired = true := by
  obtain ⟨x, hx, hr⟩ := h
  rw [regionOf, List.getD_eq_getElem?_getD, hx]
  exact hr

/-- The counts of errors of the array, and STK_ERR. -/
def wearCounts (s : State) : W32 × BitVec 16 × BitVec 5 := (s.stk.ce, s.stk.ue, s.stk.err)

theorem wearCounts_of_wear {s t : State} (h : wear t = wear s) : wearCounts t = wearCounts s := congrArg (fun x => x.2) h

/-- The links of a region that retired: its substitute, if there is one. -/
def linked (r : Nat) (sp : Option Nat) (s : State) : State :=
  let s3 := { s with stk := { s.stk with regions := upd s.stk.regions r (fun x => { x with link := sp }) } }
  match sp with
  | some k => { s3 with stk := { s3.stk with regions := upd s3.stk.regions k (fun x => { x with subOf := some r }) } }
  | none => s3

theorem linked_retired {r p : Nat} {sp : Option Nat} {s : State} (h : RetiredAt s.stk.regions p) :
    RetiredAt (linked r sp s).stk.regions p := by
  have h3 := h.upd (k := r) (f := fun x => { x with link := sp }) fun _ => rfl
  cases sp with
  | none => exact h3
  | some k => exact h3.upd fun _ => rfl

theorem linked_counts {r : Nat} {sp : Option Nat} {s : State} : wearCounts (linked r sp s) = wearCounts s := by
  cases sp with
  | none => rfl
  | some k => rfl

/-- The words of a region that fails go to kerf. -/
def regionKerfed (r : Nat) (s : State) : State :=
  (queuesUsing s r).foldl (fun t q => kerfQueue q .fault (fun d e => decide (regionAt (slotAddr d e.slot) = r)) t) s

/-- A region of the array is marked retired. -/
def regionMarked (p : Nat) (s : State) : State :=
  { s with stk := { s.stk with regions := upd s.stk.regions p (fun x => { x with retired := true, subOf := none }) } }

theorem retireRegion_eq {r : Nat} {s : State} : retireRegion r s =
    let s2 := regionMarked (physRegion s r) (regionKerfed r s)
    let s5 := post 0x18 (physRegion s r) ((queuesUsing s r).headD 0 + 256 * b2n (spares s2).head?.isSome) (linked r (spares s2).head? s2)
    if (spares s2).head?.isSome then s5 else voidCheck (queuesUsing s r) s5 := rfl

theorem retireRegion_retires {r : Nat} {s : State} (hp : physRegion s r < s.stk.regions.length) :
    RetiredAt (retireRegion r s).stk.regions (physRegion s r) ∧ wearCounts (retireRegion r s) = wearCounts s := by
  have hkerf : wear (regionKerfed r s) = wear s := (Falls.foldl fun _ _ => falls_kerfQueue).wear
  have hregions : (regionKerfed r s).stk.regions = s.stk.regions := congrArg (fun x => x.1) hkerf
  have h2 : RetiredAt (regionMarked (physRegion s r) (regionKerfed r s)).stk.regions (physRegion s r) :=
    retiredAt_upd_self (by rw [hregions]; exact hp) fun _ => rfl
  have hc2 : wearCounts (regionMarked (physRegion s r) (regionKerfed r s)) = wearCounts s :=
    (wearCounts_of_wear hkerf : wearCounts (regionKerfed r s) = wearCounts s)
  rw [retireRegion_eq]
  dsimp only
  generalize regionMarked (physRegion s r) (regionKerfed r s) = s2 at h2 hc2 ⊢
  have hlast : ∀ u : State, wear u = wear (linked r (spares s2).head? s2) → RetiredAt u.stk.regions (physRegion s r) ∧
      wearCounts u = wearCounts s := fun u hu => by
    have hu1 : u.stk.regions = (linked r (spares s2).head? s2).stk.regions := congrArg (fun x => x.1) hu
    exact ⟨by rw [hu1]; exact linked_retired h2, (wearCounts_of_wear hu).trans (linked_counts.trans hc2)⟩
  split
  · exact hlast _ rfl
  · exact hlast _ (wear_voidCheck.trans rfl)

theorem handleUe_retires {addr : Nat} {s : State} (hp : physRegion s (regionAt addr) < s.stk.regions.length) :
    RetiredAt (handleUe addr s).stk.regions (physRegion s (regionAt addr)) ∧
      wearCounts (handleUe addr s) = (s.stk.ce, if s.stk.ue = 0xFFFF then s.stk.ue else s.stk.ue + 1, s.stk.err) := by
  unfold handleUe
  exact retireRegion_retires (s := { s with stk := { s.stk with ue := if s.stk.ue = 0xFFFF then s.stk.ue else s.stk.ue + 1 } }) hp

theorem patrolRead_effects {s : State} {addr : Nat} {e : EccResult} (hup : upAnd s = true) (hh : halted s = false)
    (hq : ∃ d ∈ s.stk.queues, occupies d = true ∧ d.base.toNat * 512 ≤ addr ∧ addr < d.base.toNat * 512 + depth d)
    (hv : regionVoid s (regionAt addr) = false) (hp : physRegion s (regionAt addr) < s.stk.regions.length) :
    Effects (.patrolRead addr e) s (fun u =>
      match e with
      | .ok => u.stk.ce = s.stk.ce ∧ u.stk.ue = s.stk.ue ∧ u.stk.regions = s.stk.regions
      | .corrected => u.stk.ce = s.stk.ce + 1 ∧ u.stk.ue = s.stk.ue
      | .uncorrectable =>
        u.stk.ce = s.stk.ce ∧ u.stk.ue = (if s.stk.ue = 0xFFFF then s.stk.ue else s.stk.ue + 1) ∧
        (regionOf u (physRegion s (regionAt addr))).retired = true) := by
  refine effects_of_act exec_patrolRead (running_of_upAnd hup) ?_
  rw [patrolRead_of_read hh hq hv]
  have hat := wear_patrolAt (addr := addr) (s := s)
  have hr : (patrolAt addr s).stk.regions = s.stk.regions := congrArg (fun x => x.1) hat
  have hce : (patrolAt addr s).stk.ce = s.stk.ce := congrArg (fun x => x.2.1) hat
  have hue : (patrolAt addr s).stk.ue = s.stk.ue := congrArg (fun x => x.2.2.1) hat
  have hphys : physRegion (patrolAt addr s) (regionAt addr) = physRegion s (regionAt addr) := by
    rw [physRegion, regionOf, hr, physRegion, regionOf]
  cases e with
  | ok => exact ⟨hce, hue, hr⟩
  | corrected => exact ⟨congrArg (· + 1) hce, hue⟩
  | uncorrectable =>
    obtain ⟨hret, hcounts⟩ := handleUe_retires (s := patrolAt addr s) (addr := addr) (by rw [hphys, hr]; exact hp)
    rw [hphys] at hret
    rw [hce, hue] at hcounts
    exact ⟨congrArg (fun x => x.1) hcounts, congrArg (fun x => x.2.1) hcounts, regionOf_retired hret⟩

theorem clearDone_shows {s : State} : (clearDone s).stk.clearing = false ∧
    (clearDone s).stk.array = (if s.stk.clearing then [] else s.stk.array) ∧ (clearDone s).tal = s.tal := by
  unfold clearDone
  cases h : s.stk.clearing with
  | true => exact ⟨rfl, rfl, rfl⟩
  | false => exact ⟨h, rfl, rfl⟩

/-- Settles O32: the reads of the patrol, the age limit, the end of the overwrite, and the tests of the distribution unit. -/
theorem patrolAgeAndDistribution : Obligations.PatrolAgeAndDistribution := by
  intro s hup
  have hrun := running_of_upAnd hup
  refine ⟨fun addr e hh hq hv hp => patrolRead_effects hup hh hq hv hp,
    fun addr e h => next_of_act_same hrun exec_patrolRead (patrolRead_of_unread h), fun q d hd => ⟨fun ho => ?_, fun ho => ?_⟩,
    effects_of_act exec_arrayClearDone hrun clearDone_shows, fun id j w ws gs hj hop hgs => distTest_effects hup hj hop hgs⟩
  · exact effects_of_act exec_ageScrub hrun (ageScrub_scrubs hd ho)
  · exact next_of_act_same hrun exec_ageScrub (ageScrub_keeps hd ho)

end Sys2Proof.Machine


/-! PROOFS. The local serial port as a slave: what a transfer keeps, sends and takes (R292 to R299, R301). -/

namespace Sys2Proof.Machine

/-! ### What keeps the port as it is -/

theorem toFlight_lsp {refs : List (Nat × Nat)} {s : State} : (toFlight refs s).lsp = s.lsp := lsp_of_outer outer_toFlight

theorem deliverWords_lsp {refs : List (Nat × Nat)} {n m : Nat} {s : State} : (deliverWords refs n m s).lsp = s.lsp :=
  lsp_of_outer (s := updBooks (bkDelivered n m) s) outer_finishSlots

theorem stopJob_lsp {id : Nat} {status : BitVec 8} {why : Option WordKerf} {s : State} : (stopJob id status why s).lsp = s.lsp := by
  by_cases h : ∀ j, jobOf s id = some j → j.stop.isSome = true
  · rw [stopJob_of_stopped h]
  · simp only [not_forall] at h
    obtain ⟨j, hj, hs⟩ := h
    exact (congrArg State.lsp (outer_stopJob hj (by simpa using hs)) :)

theorem readFailed_lsp {id : Nat} {s : State} : (readFailed id s).lsp = s.lsp := by
  unfold readFailed
  split
  · rfl
  · exact stopJob_lsp

/-! ### What every transfer keeps -/

/-- The port's role and what a transfer counts and shows of itself. -/
def xferFace (s : State) : Bool × Bool × BitVec 16 × BitVec 8 × Bool :=
  (s.lsp.role, s.lsp.slavePend, s.lsp.transfers, s.lsp.lastStatus, s.lsp.lsbFirst)

theorem xferFace_of_lsp {s t : State} (h : t.lsp = s.lsp) : xferFace t = xferFace s :=
  congrArg (fun l : Lsp => (l.role, l.slavePend, l.transfers, l.lastStatus, l.lsbFirst)) h

theorem xferFace_slvErr {bit : Nat} {s : State} : xferFace (slvErr bit s) = xferFace s := rfl

theorem xferFace_engRespondAt {lead st : Nat} {data : List W32} {un : Bool} {rand : List AWord} {s : State} :
    xferFace (engRespondAt lead st data un rand s) = xferFace s := by
  unfold engRespondAt
  split <;> rfl

theorem xferFace_engTake {words : List (List Bool)} {s : State} : xferFace (engTake words s) = xferFace s := by
  have hformat : ∀ w u, xferFace (engFormat w u) = xferFace u := fun _ _ => xferFace_engRespondAt
  unfold engTake
  split
  · rfl
  next b bs =>
    dsimp only
    generalize decide (b.length = 32) = whole
    cases whole
    · simp only [Bool.false_and, Bool.false_eq_true, if_false, Bool.not_false, if_true]
      split
      · rfl
      · exact hformat _ _
    · simp only [Bool.true_and, if_true, Bool.not_true, Bool.false_eq_true, if_false]
      split
      · rfl
      · split
        · rfl
        · split
          · rfl
          · exact hformat _ _

theorem xferFace_lspFill {s : State} : xferFace (lspFill s) = xferFace s := by
  unfold lspFill
  split
  · rfl
  · dsimp only
    split
    · rfl
    · exact (xferFace_of_lsp toFlight_lsp).trans rfl

theorem xferFace_respShift {k : Nat} {s : State} : xferFace (respShift k s) = xferFace s := by
  unfold respShift
  split
  · rfl
  · dsimp only
    split
    · rfl
    · exact xferFace_lspFill.trans ((xferFace_of_lsp (deliverWords_lsp.trans toFlight_lsp)).trans rfl)

theorem xferFace_engSlots {ready : Bool} {words : List (List Bool)} {s : State} :
    xferFace (engSlots ready words s).2 = xferFace s := by
  refine xferFace_engTake.trans ?_
  cases ready
  · rfl
  · exact xferFace_respShift

theorem xferFace_rawSlot {b : List Bool} {s : State} : xferFace (rawSlot b s).2 = xferFace s := by
  unfold rawSlot
  dsimp only
  generalize hu : (if s.lsp.tx.isEmpty then slvErr 1 s else { s with lsp := { s.lsp with tx := s.lsp.tx.tail } }) = u
  have hlink : xferFace u = xferFace s := by
    rw [← hu]
    split <;> rfl
  split
  · exact hlink
  · exact hlink

theorem xferFace_rawSlots {words : List (List Bool)} {s : State} : xferFace (rawSlots words s).2 = xferFace s := by
  induction words generalizing s with
  | nil => rfl
  | cons b bs ih => exact ih.trans xferFace_rawSlot

theorem xferFace_shortWord {words : List (List Bool)} {s : State} : xferFace (shortWord words s) = xferFace s := by
  unfold shortWord
  split
  · split <;> rfl
  · rfl

/-! ### One transfer -/

theorem engineSwitch_stays {s : State} (h : s.lsp.engine = s.lsp.engEff) : engineSwitch s = s := by
  unfold engineSwitch
  rw [decide_eq_true h, Bool.true_or]
  rfl

/-- A stored change of ENGINE changes only the side in effect and the FIFOs. -/
theorem engineSwitch_eq {s : State} :
    ∃ e r t, engineSwitch s = { s with lsp := { s.lsp with engEff := e, rx := r, tx := t } } := by
  unfold engineSwitch
  split
  · exact ⟨_, _, _, rfl⟩
  · exact ⟨_, _, _, rfl⟩

theorem xferFace_engineSwitch {s : State} : xferFace (engineSwitch s) = xferFace s := by
  obtain ⟨e, r, t, h⟩ := engineSwitch_eq (s := s)
  rw [h]
  rfl

/-- The first eight bits of a transfer shift the status byte out. -/
def statusBits (mosi : List Bool) (s : State) : List Bool :=
  (bitsOf s.lsp.lsbFirst 8 (statusByte (engineSwitch s)).toNat).take mosi.length

/-- A transfer has begun: it is counted, and its status byte kept. -/
def begun (s : State) : State :=
  { engineSwitch s with lsp := { (engineSwitch s).lsp with
    transfers := (engineSwitch s).lsp.transfers + 1, lastStatus := statusByte (engineSwitch s) } }

/-- The status byte has gone out whole: the conditions that it showed are cleared. -/
def statusShown (s : State) : State :=
  { begun s with lsp := { (begun s).lsp with
    errPend := (begun s).lsp.errPend && !(statusByte (engineSwitch s)).getLsbD 4
    short := (begun s).lsp.short && !(statusByte (engineSwitch s)).getLsbD 3 } }

/-- The words of a transfer that follow its status byte. -/
def wordsOf (mosi : List Bool) (s : State) : List (List Bool) := chunks (effLen (statusShown s)) (mosi.drop 8)

/-- What the word slots of a transfer send, and the state after them. -/
def wordSlots (mosi : List Bool) (s : State) : List Bool × State :=
  if (statusShown s).lsp.engEff then engSlots ((statusByte (engineSwitch s)).getLsbD 7) (wordsOf mosi s) (statusShown s)
  else rawSlots (wordsOf mosi s) (statusShown s)

/-- The bits sent are kept. -/
def sent (bits : List Bool) (s : State) : State := { s with lsp := { s.lsp with miso := bits } }

theorem lspTransfer_ignored {mosi : List Bool} {s : State} (h : s.lsp.role = false ∨ s.lsp.slavePend = true) :
    lspTransfer mosi s = s := by
  refine if_pos ?_
  obtain h | h := h
  · rw [h]
    rfl
  · rw [h, Bool.or_true]

theorem lspTransfer_eq {mosi : List Bool} {s : State} (hrole : s.lsp.role = true) (hpend : s.lsp.slavePend = false) :
    lspTransfer mosi s =
      if mosi.length < 8 then sent (statusBits mosi s) (begun s)
      else sent (statusBits mosi s ++ (wordSlots mosi s).1) (shortWord (wordsOf mosi s) (wordSlots mosi s).2) := by
  refine (if_neg ?_).trans rfl
  rw [hrole, hpend]
  decide

theorem lspTransfer_short {mosi : List Bool} {s : State} (hrole : s.lsp.role = true) (hpend : s.lsp.slavePend = false)
    (h : mosi.length < 8) : lspTransfer mosi s = sent (statusBits mosi s) (begun s) := by
  rw [lspTransfer_eq hrole hpend, if_pos h]

theorem lspTransfer_words {mosi : List Bool} {s : State} (hrole : s.lsp.role = true) (hpend : s.lsp.slavePend = false)
    (h : 8 ≤ mosi.length) :
    lspTransfer mosi s =
      sent (statusBits mosi s ++ (wordSlots mosi s).1) (shortWord (wordsOf mosi s) (wordSlots mosi s).2) := by
  rw [lspTransfer_eq hrole hpend, if_neg (Nat.not_lt.mpr h)]

theorem xferFace_begun {s : State} :
    xferFace (begun s) = (s.lsp.role, s.lsp.slavePend, s.lsp.transfers + 1, statusByte (engineSwitch s), s.lsp.lsbFirst) := by
  obtain ⟨e, r, t, h⟩ := engineSwitch_eq (s := s)
  unfold begun
  rw [h]
  rfl

theorem xferFace_wordSlots {mosi : List Bool} {s : State} : xferFace (wordSlots mosi s).2 = xferFace (begun s) := by
  unfold wordSlots
  split
  · exact xferFace_engSlots
  · exact xferFace_rawSlots

/-- A transfer is counted and keeps its status byte; nothing in it changes the role. -/
theorem lspTransfer_link {mosi : List Bool} {s : State} (hrole : s.lsp.role = true) (hpend : s.lsp.slavePend = false) :
    xferFace (lspTransfer mosi s) =
      (s.lsp.role, s.lsp.slavePend, s.lsp.transfers + 1, statusByte (engineSwitch s), s.lsp.lsbFirst) := by
  rw [lspTransfer_eq hrole hpend]
  split
  · exact xferFace_begun
  · exact xferFace_shortWord.trans (xferFace_wordSlots.trans xferFace_begun)

theorem bitsOf_length {lsb : Bool} {n v : Nat} : (bitsOf lsb n v).length = n := by
  unfold bitsOf
  cases lsb <;> simp

/-- The status byte goes out first. -/
theorem lspTransfer_status {mosi : List Bool} {s : State} (hrole : s.lsp.role = true) (hpend : s.lsp.slavePend = false) :
    (lspTransfer mosi s).lsp.miso.take 8 = statusBits mosi s := by
  have hlen : (statusBits mosi s).length = min mosi.length 8 := by rw [statusBits, List.length_take, bitsOf_length]
  rw [lspTransfer_eq hrole hpend]
  split
  · exact List.take_of_length_le (show (statusBits mosi s).length ≤ 8 by omega)
  · exact List.take_left' (show (statusBits mosi s).length = 8 by omega)

/-! ### Several low periods -/

/-- Low periods whose high period ends the transfer count two transfers, others count one. -/
theorem lspPeriods_transfers {mosi bits : List Bool} {high : Nat} {s : State} (hrole : s.lsp.role = true)
    (hpend : s.lsp.slavePend = false) (hhigh : 10 ≤ high) :
    (lspPeriods mosi [(high, bits)] s).lsp.transfers =
      s.lsp.transfers + (if 40 ≤ high ∨ Config.selectEnds s.clk.free = true then 2 else 1) := by
  have hone : ∀ {m : List Bool} {u : State}, u.lsp.role = true → u.lsp.slavePend = false →
      (lspTransfer m u).lsp.transfers = u.lsp.transfers + 1 := fun hr hp => (congrArg (·.2.2.1) (lspTransfer_link hr hp) :)
  have htwo : ∀ {m m' : List Bool} {u : State}, u.lsp.role = true → u.lsp.slavePend = false →
      (lspTransfer m (lspTransfer m' u)).lsp.transfers = u.lsp.transfers + 2 := fun {m m' u} hr hp => by
    have hlink := lspTransfer_link (mosi := m') hr hp
    rw [hone ((congrArg (·.1) hlink :).trans hr) ((congrArg (·.2.1) hlink :).trans hp), hone hr hp, BitVec.add_assoc]
    rfl
  have hfree : lspPeriods mosi [(high, bits)] s =
      if 40 ≤ high then lspTransfer bits (lspTransfer mosi s)
      else if Config.selectEnds s.clk.free then lspTransfer bits (lspTransfer mosi (bumpFree s))
      else lspTransfer (mosi ++ bits) (bumpFree s) := if_neg (Nat.not_lt.mpr hhigh)
  rw [hfree]
  by_cases h40 : 40 ≤ high
  · rw [if_pos h40, if_pos (Or.inl h40)]
    exact htwo hrole hpend
  · rw [if_neg h40]
    by_cases hends : Config.selectEnds s.clk.free = true
    · rw [if_pos hends, if_pos (Or.inr hends)]
      exact htwo hrole hpend
    · rw [if_neg hends, if_neg (by simp [h40, hends])]
      exact hone hrole hpend

end Sys2Proof.Machine


/-! PROOFS. What single transfers of the slave port send and take: responses shifted out, commands, and raw words (R14, R294 to R299). -/

namespace Sys2Proof.Machine

/-! ### Words on the wire -/

theorem chunksN_nil {α : Type} {n f : Nat} : chunksN n f ([] : List α) = [] := by
  cases f <;> rfl

theorem chunks_whole {α : Type} {n : Nat} {l : List α} (h : l.length = n) (hn : 0 < n) : chunks n l = [l] := by
  obtain ⟨m, rfl⟩ := Nat.exists_eq_succ_of_ne_zero hn.ne'
  have hne : l.isEmpty = false := by
    rw [List.isEmpty_eq_false_iff]
    rintro rfl
    cases h
  rw [chunks, h, chunksN, hne, List.take_of_length_le h.le, List.drop_of_length_le h.le, chunksN_nil]
  rfl

theorem chunksN_replicate {α : Type} {x : α} {n k f : Nat} (hn : 0 < n) (hf : k ≤ f) :
    chunksN n f (List.replicate (n * k) x) = List.replicate k (List.replicate n x) := by
  induction k generalizing f with
  | zero => exact chunksN_nil
  | succ k ih =>
    obtain ⟨g, rfl⟩ := Nat.exists_eq_succ_of_ne_zero (n := f) (by omega)
    have hne : (List.replicate (n * (k + 1)) x).isEmpty = false := by
      rw [List.isEmpty_eq_false_iff, Ne, List.replicate_eq_nil_iff]
      exact (Nat.mul_pos hn k.succ_pos).ne'
    have hsum : n * (k + 1) = n + n * k := by rw [Nat.mul_succ, Nat.add_comm]
    rw [chunksN, hne, hsum, List.take_replicate, List.drop_replicate, Nat.add_sub_cancel_left, ih (by omega),
      Nat.min_eq_left (Nat.le_add_right n _), List.replicate_succ]
    rfl

theorem chunks_replicate {α : Type} {x : α} {n k : Nat} (hn : 0 < n) :
    chunks n (List.replicate (n * k) x) = List.replicate k (List.replicate n x) :=
  chunksN_replicate hn (by rw [List.length_replicate]; exact Nat.le_mul_of_pos_left k hn)

theorem valOf_zeros {lsb : Bool} : valOf lsb (List.replicate 32 false) = 0 := by
  cases lsb <;> rfl

theorem mapIdx_replicate {α β : Type} {f : Nat → α → β} {x : α} {k : Nat} :
    (List.replicate k x).mapIdx f = (List.range k).map (fun i => f i x) :=
  List.ext_getElem (by simp) fun i h₁ h₂ => by simp

/-- READY stands in the highest bit of the status byte (Table 12-2). -/
theorem statusByte_ready {s : State} : (statusByte s).getLsbD 7 = slvReady s := by
  have hbits : ∀ a b c d e f g : Bool, (BitVec.ofNat 8 (128 * b2n a + 64 * b2n b + 32 * b2n c + 16 * b2n d + 8 * b2n e +
      4 * b2n f + b2n g)).getLsbD 7 = a := by decide
  exact hbits _ _ _ _ _ _ _

/-! ### States around a transfer -/

/-- With ENGINE in effect as stored, the status byte's passing leaves all but the counts and the conditions shown. -/
theorem statusShown_eq {s : State} (h : s.lsp.engine = s.lsp.engEff) : ∃ n st e b, statusShown s =
    { s with lsp := { s.lsp with transfers := n, lastStatus := st, errPend := e, short := b } } := by
  unfold statusShown begun
  rw [engineSwitch_stays h]
  exact ⟨_, _, _, _, rfl⟩

theorem shortWord_eq {words : List (List Bool)} {s : State} :
    ∃ n b, shortWord words s = { s with lsp := { s.lsp with shorts := n, short := b } } := by
  unfold shortWord
  split
  · split
    · exact ⟨_, _, rfl⟩
    · exact ⟨_, _, rfl⟩
  · exact ⟨_, _, rfl⟩

/-- What a transfer with the engine on ends with, apart from the bits sent and the short-word count. -/
theorem lspTransfer_engine {mosi : List Bool} {s : State} (hrole : s.lsp.role = true) (hpend : s.lsp.slavePend = false)
    (he : s.lsp.engine = true) (hf : s.lsp.engEff = true) (h : 8 ≤ mosi.length) : ∃ n st e b k c,
    lspTransfer mosi s =
      let r := engSlots (slvReady s) (chunks 32 (mosi.drop 8))
        { s with lsp := { s.lsp with transfers := n, lastStatus := st, errPend := e, short := b } }
      { r.2 with lsp := { r.2.lsp with shorts := k, short := c, miso := statusBits mosi s ++ r.1 } } := by
  obtain ⟨n, st, e, b, hshown⟩ := statusShown_eq (he.trans hf.symm)
  obtain ⟨k, c, hshort⟩ := shortWord_eq (words := wordsOf mosi s) (s := (wordSlots mosi s).2)
  refine ⟨n, st, e, b, k, c, ?_⟩
  have hwords : wordsOf mosi s = chunks 32 (mosi.drop 8) := by
    rw [wordsOf, effLen, hshown]
    exact congrArg (chunks · _) (if_pos hf)
  have hslots : wordSlots mosi s = engSlots (slvReady s) (chunks 32 (mosi.drop 8)) (statusShown s) := by
    rw [wordSlots, hwords, engineSwitch_stays (he.trans hf.symm), statusByte_ready, hshown]
    exact if_pos hf
  rw [lspTransfer_words hrole hpend h, hshort, hslots, hshown]
  rfl

/-! ### Responses shifted out -/

theorem lspFill_resp {s : State} : (lspFill s).lsp.cmd = s.lsp.cmd ∧
    (lspFill s).lsp.resp.map (fun x => (x.sent, x.words)) = s.lsp.resp.map (fun x => (x.sent, x.words)) ∧
    (lspFill s).tal.books.delivered = s.tal.books.delivered := by
  unfold lspFill
  split
  · exact ⟨rfl, rfl, rfl⟩
  next r hr =>
    dsimp only
    split
    · exact ⟨rfl, rfl, rfl⟩
    · rw [toFlight_lsp, toFlight_tal, hr]
      exact ⟨rfl, rfl, rfl⟩

theorem randDone_le {r : EngResp} {n : Nat} : randDone r n ≤ r.rand.length := by
  unfold randDone
  split
  · exact le_rfl
  · split
    · exact Nat.zero_le _
    · exact Nat.min_le_left _ _

/-- Some words of a response have been shifted out. -/
def shiftedOut (r : EngResp) (n : Nat) (s : State) : State :=
  { s with lsp := { s.lsp with
    resp := if decide (n = r.words.length) then none else some { r with sent := n, moved := max r.moved (randDone r n) }
    cmd := if decide (n = r.words.length) then none else s.lsp.cmd } }

theorem shiftedOut_shows {r : EngResp} {n : Nat} {s : State} :
    (n = r.words.length → (shiftedOut r n s).lsp.resp = none ∧ (shiftedOut r n s).lsp.cmd = none) ∧
    (n ≠ r.words.length → (shiftedOut r n s).lsp.resp.map (fun x => (x.sent, x.words)) = some (n, r.words)) := by
  unfold shiftedOut
  refine ⟨fun h => ?_, fun h => ?_⟩
  · rw [decide_eq_true h]
    exact ⟨rfl, rfl⟩
  · rw [decide_eq_false h]
    rfl

/-- The random words that are behind the first n words of a response and were not before. -/
def wordsBehind (r : EngResp) (n : Nat) : List AWord := (r.rand.drop (randDone r r.sent)).take (randDone r n - randDone r r.sent)

theorem wordsBehind_length {r : EngResp} {n : Nat} : (wordsBehind r n).length = randDone r n - randDone r r.sent := by
  have := randDone_le (r := r) (n := n)
  rw [wordsBehind, List.length_take, List.length_drop]
  omega

theorem respShift_eq {k : Nat} {r : EngResp} {s : State} (hr : s.lsp.resp = some r) :
    respShift k s =
      let n := min r.words.length (r.sent + k)
      let ws := wordsBehind r n
      if ws.isEmpty then shiftedOut r n s
      else lspFill (deliverWords (awRefs ws) ws.length (awMarked ws)
        (toFlight (awRefs ((r.rand.take (randDone r n)).drop r.moved)) (shiftedOut r n s))) := by
  unfold respShift
  rw [hr]
  rfl

/-- Words of a response are shifted out: what is left of it, and the random words that are delivered (R14, R299). -/
theorem respShift_shows {k : Nat} {r : EngResp} {s : State} (hr : s.lsp.resp = some r) :
    let n := min r.words.length (r.sent + k)
    (n = r.words.length → (respShift k s).lsp.resp = none ∧ (respShift k s).lsp.cmd = none) ∧
    (n ≠ r.words.length → (respShift k s).lsp.resp.map (fun x => (x.sent, x.words)) = some (n, r.words)) ∧
    (respShift k s).tal.books.delivered = s.tal.books.delivered + BitVec.ofNat 64 (randDone r n - randDone r r.sent) := by
  intro n
  obtain ⟨hall, hpart⟩ := shiftedOut_shows (r := r) (n := n) (s := s)
  have hlen := wordsBehind_length (r := r) (n := n)
  have htal : (shiftedOut r n s).tal = s.tal := rfl
  rw [respShift_eq hr]
  change let u := (if (wordsBehind r n).isEmpty then _ else _ : State)
    (n = r.words.length → u.lsp.resp = none ∧ u.lsp.cmd = none) ∧
    (n ≠ r.words.length → u.lsp.resp.map (fun x => (x.sent, x.words)) = some (n, r.words)) ∧
    u.tal.books.delivered = s.tal.books.delivered + BitVec.ofNat 64 (randDone r n - randDone r r.sent)
  generalize wordsBehind r n = ws at hlen ⊢
  generalize shiftedOut r n s = v at hall hpart htal ⊢
  rw [← hlen, ← htal]
  dsimp only
  split
  next hempty =>
    rw [List.isEmpty_iff.mp hempty]
    exact ⟨hall, hpart, (BitVec.add_zero _).symm⟩
  · generalize hmid : deliverWords (awRefs ws) ws.length (awMarked ws) (toFlight (awRefs ((r.rand.take (randDone r n)).drop r.moved)) v) = t
    have hlsp : t.lsp = v.lsp := by
      rw [← hmid]
      exact deliverWords_lsp.trans toFlight_lsp
    have hdel : t.tal.books.delivered = v.tal.books.delivered + BitVec.ofNat 64 ws.length := by
      rw [← hmid, deliverWords_tal]
      exact (congrArg (fun x : Tal => x.books.delivered + BitVec.ofNat 64 ws.length) toFlight_tal :)
    obtain ⟨hcmd, hresp, hbooks⟩ := lspFill_resp (s := t)
    rw [hlsp] at hcmd hresp
    refine ⟨fun h => ⟨?_, hcmd.trans (hall h).2⟩, fun h => hresp.trans (hpart h), hbooks.trans hdel⟩
    rw [(hall h).1] at hresp
    exact Option.map_eq_none_iff.mp hresp

/-- A transfer of zeros that shifts a response out. -/
theorem lspTransfer_response {k : Nat} {r : EngResp} {s : State} (hrole : s.lsp.role = true) (hpend : s.lsp.slavePend = false)
    (he : s.lsp.engine = true) (hf : s.lsp.engEff = true) (hr : s.lsp.resp = some r) (hk : 0 < k) :
    let u := lspTransfer (List.replicate (8 + 32 * k) false) s
    let n := min r.words.length (r.sent + k)
    u.lsp.miso.drop 8 =
      (List.range k).flatMap (fun i => bitsOf s.lsp.lsbFirst 32 ((r.words.drop r.sent).getD i 0).toNat) ∧
    (n = r.words.length → u.lsp.resp = none ∧ u.lsp.cmd = none) ∧
    (n ≠ r.words.length → u.lsp.resp.map (fun x => (x.sent, x.words)) = some (n, r.words)) ∧
    u.tal.books.delivered = s.tal.books.delivered + BitVec.ofNat 64 (randDone r n - randDone r r.sent) := by
  have hready : slvReady s = true := by rw [slvReady, if_pos hf, hr]; rfl
  have hchunks : chunks 32 ((List.replicate (8 + 32 * k) false).drop 8) = List.replicate k (List.replicate 32 false) := by
    rw [List.drop_replicate, Nat.add_sub_cancel_left, chunks_replicate (by decide)]
  have hhead : (statusBits (List.replicate (8 + 32 * k) false) s).length = 8 := by
    rw [statusBits, List.length_take, bitsOf_length, List.length_replicate]
    omega
  obtain ⟨n, st, e, b, j, c, heq⟩ := lspTransfer_engine (mosi := List.replicate (8 + 32 * k) false) hrole hpend he hf
    (by rw [List.length_replicate]; omega)
  rw [hready, hchunks] at heq
  generalize hu : ({ s with lsp := { s.lsp with transfers := n, lastStatus := st, errPend := e, short := b } } : State) = u at heq
  have hru : u.lsp.resp = some r := by rw [← hu]; exact hr
  have hfull : countP (fun b : List Bool => decide (b.length = 32)) (List.replicate k (List.replicate 32 false)) = k := by
    simp [countP]
  have hslots : engSlots true (List.replicate k (List.replicate 32 false)) u =
      ((List.range k).flatMap (fun i => bitsOf s.lsp.lsbFirst 32 ((r.words.drop r.sent).getD i 0).toNat), respShift k u) := by
    have htake : ∀ v : State, engTake (List.replicate k (List.replicate 32 false)) v = v := fun v => by
      obtain ⟨m, rfl⟩ := Nat.exists_eq_succ_of_ne_zero hk.ne'
      have hzero : (decide ((List.replicate 32 false).length = 32) && decide ((if decide ((List.replicate 32 false).length = 32) then
          BitVec.ofNat 32 (valOf v.lsp.lsbFirst (List.replicate 32 false)) else (Config.freeWord v.clk.free).setWidth 32) = 0)) = true := by
        rw [valOf_zeros]
        rfl
      rw [List.replicate_succ]
      exact if_pos hzero
    have hbits : u.lsp.lsbFirst = s.lsp.lsbFirst := by rw [← hu]
    unfold engSlots
    dsimp only
    rw [hfull, htake, hru, mapIdx_replicate, List.flatMap_map, hbits]
    refine Prod.ext (congrArg (fun f => (List.range k).flatMap f) (funext fun i => ?_)) rfl
    exact List.take_of_length_le (by rw [bitsOf_length, List.length_replicate])
  have hshift := respShift_shows (k := k) hru
  rw [hslots] at heq
  have htal : u.tal = s.tal := by rw [← hu]
  rw [htal] at hshift
  dsimp only at heq hshift ⊢
  rw [heq]
  exact ⟨List.drop_left' hhead, hshift⟩

/-! ### Commands -/

/-- A command word that arrives alone while nothing is pending: an empty one, a READ, or one that is malformed (R297, R298). -/
theorem engTake_word {b : List Bool} {s : State} (hb : b.length = 32) (hcmd : s.lsp.cmd = none) (hresp : s.lsp.resp = none) :
    let u := engTake [b] s
    let w : W32 := BitVec.ofNat 32 (valOf s.lsp.lsbFirst b)
    (w = 0 → u.lsp.cmd = none ∧ u.lsp.resp = none) ∧
    (fld w 29 3 = 1 → u.lsp.cmd = some ⟨w, [], false⟩ ∧ u.lsp.resp = none ∧ u.lsp.cseq = s.lsp.cseq + 1) ∧
    (w ≠ 0 → fld w 29 3 ≠ 1 → u.lsp.err.getLsbD 3 = true ∧
      u.lsp.resp.map (fun r => (r.words.length, (r.words.headD 0).toNat / 2 ^ 20 % 16)) = some (1, 9)) := by
  intro u w
  have hpend : engPending s = false := by rw [engPending, hcmd, hresp]; rfl
  have hu : u = if w = 0 then s
      else if fld w 29 3 = 1 ∨ (fld w 29 3 = 2 ∧ fld w 24 5 + 1 ≤ 0) then
        { s with lsp := { s.lsp with cmd := some ⟨w, if fld w 29 3 = 2 then [] else [], false⟩, cseq := s.lsp.cseq + 1 } }
      else engFormat w s := by
    show engTake [b] s = _
    simp [engTake, hb, hpend, w]
  refine ⟨fun h => ?_, fun h => ?_, fun h h1 => ?_⟩
  · rw [hu, if_pos h]
    exact ⟨hcmd, hresp⟩
  · rw [hu, if_neg (fun h0 => by rw [h0] at h; cases h), if_pos (Or.inl h), if_neg (by omega)]
    exact ⟨rfl, hresp, rfl⟩
  · rw [hu, if_neg h, if_neg (by omega)]
    refine ⟨?_, ?_⟩
    · show (s.lsp.err ||| 8#5).getLsbD 3 = true
      rw [BitVec.getLsbD_or]
      exact Bool.or_true _
    · show some (1, (packR [(24, w.toNat >>> 24), (20, 9), (19, 0), (0, (s.lsp.cseq + 1).toNat)]).toNat / 2 ^ 20 % 16) = _
      have hw : w.toNat >>> 24 < 256 := by
        rw [Nat.shiftRight_eq_div_pow]
        have := w.isLt
        omega
      have hc := (s.lsp.cseq + 1).isLt
      generalize w.toNat >>> 24 = x at hw
      generalize (s.lsp.cseq + 1).toNat = y at hc
      simp only [packR, List.foldl_cons, List.foldl_nil, Nat.shiftLeft_eq, BitVec.toNat_ofNat]
      congr 2
      omega

theorem lspTransfer_command {mosi : List Bool} {s : State} (hrole : s.lsp.role = true) (hpend : s.lsp.slavePend = false)
    (he : s.lsp.engine = true) (hf : s.lsp.engEff = true) (hlen : mosi.length = 40) (hcmd : s.lsp.cmd = none)
    (hresp : s.lsp.resp = none) :
    let u := lspTransfer mosi s
    let w : W32 := BitVec.ofNat 32 (valOf s.lsp.lsbFirst (mosi.drop 8))
    (w = 0 → u.lsp.cmd = none ∧ u.lsp.resp = none) ∧
    (fld w 29 3 = 1 → u.lsp.cmd = some ⟨w, [], false⟩ ∧ u.lsp.resp = none ∧ u.lsp.cseq = s.lsp.cseq + 1) ∧
    (w ≠ 0 → fld w 29 3 ≠ 1 → u.lsp.err.getLsbD 3 = true ∧
      u.lsp.resp.map (fun r => (r.words.length, (r.words.headD 0).toNat / 2 ^ 20 % 16)) = some (1, 9)) := by
  have hready : slvReady s = false := by rw [slvReady, if_pos hf, hresp]; rfl
  have hword : (mosi.drop 8).length = 32 := by rw [List.length_drop, hlen]
  obtain ⟨n, st, e, b, k, c, heq⟩ := lspTransfer_engine (mosi := mosi) hrole hpend he hf (by omega)
  rw [hready, chunks_whole hword (by decide)] at heq
  have htake := engTake_word (s := { s with lsp := { s.lsp with transfers := n, lastStatus := st, errPend := e, short := b } })
    hword hcmd hresp
  dsimp only at heq htake ⊢
  rw [heq]
  exact htake

/-! ### Raw words -/

/-- A raw word goes through both FIFOs (R296). -/
theorem rawSlot_moves {b : List Bool} {s : State} (h : s.lsp.rx.length < 64) :
    ∃ e p, (rawSlot b s).2 = { s with lsp := { s.lsp with
      err := e, errPend := p, tx := s.lsp.tx.tail
      rx := s.lsp.rx ++ [(b.length, BitVec.ofNat 32 (valOf s.lsp.lsbFirst b))] } } := by
  unfold rawSlot
  dsimp only
  cases htx : s.lsp.tx with
  | nil =>
    refine ⟨s.lsp.err ||| BitVec.ofNat 5 (2 ^ 1), true, (if_pos h).trans ?_⟩
    simp [slvErr, htx]
  | cons x xs => exact ⟨s.lsp.err, s.lsp.errPend, if_pos h⟩

theorem lspTransfer_raw {mosi : List Bool} {s : State} (hrole : s.lsp.role = true) (hpend : s.lsp.slavePend = false)
    (he : s.lsp.engine = false) (hf : s.lsp.engEff = false) (h4 : 4 ≤ s.lsp.len.toNat)
    (hlen : mosi.length = 8 + s.lsp.len.toNat) (hrx : s.lsp.rx.length < 64) :
    let u := lspTransfer mosi s
    u.lsp.rx = s.lsp.rx ++ [(s.lsp.len.toNat, BitVec.ofNat 32 (valOf s.lsp.lsbFirst (mosi.drop 8)))] ∧
    u.lsp.tx = s.lsp.tx.tail ∧ u.lsp.shorts = s.lsp.shorts := by
  obtain ⟨n, st, e, b, hshown⟩ := statusShown_eq (he.trans hf.symm)
  have hword : (mosi.drop 8).length = s.lsp.len.toNat := by rw [List.length_drop, hlen, Nat.add_sub_cancel_left]
  have heff : ∀ t : State, t.lsp.engEff = false → t.lsp.len = s.lsp.len → effLen t = s.lsp.len.toNat := fun t h h' => by
    rw [effLen, h, h']
    rfl
  have hwords : wordsOf mosi s = [mosi.drop 8] := by
    rw [wordsOf, hshown]
    erw [heff _ hf rfl]
    exact chunks_whole hword (by omega)
  have hslots : (wordSlots mosi s).2 = (rawSlot (mosi.drop 8) (statusShown s)).2 := by
    rw [wordSlots, hwords, hshown, if_neg (by simp [hf])]
    rfl
  obtain ⟨x, p, hraw⟩ := rawSlot_moves (b := mosi.drop 8) (s := statusShown s) (by rw [hshown]; exact hrx)
  have hshort : shortWord (wordsOf mosi s) (wordSlots mosi s).2 = (wordSlots mosi s).2 := by
    rw [hwords, shortWord]
    refine if_neg ?_
    rw [hslots, hraw, hshown]
    exact fun hlt => Nat.lt_irrefl _ (hlt.trans_eq ((heff _ hf rfl).trans hword.symm))
  intro u
  have hu : u = sent (statusBits mosi s ++ (wordSlots mosi s).1) (rawSlot (mosi.drop 8) (statusShown s)).2 := by
    rw [← hslots, ← hshort]
    exact lspTransfer_words hrole hpend (by omega)
  rw [hu, hraw, hshown, ← hword]
  exact ⟨rfl, rfl, rfl⟩

end Sys2Proof.Machine


/-! PROOFS. The access engine's commands, its switch, and the registers of the slave port (R290, R296, R298 to R301). -/

namespace Sys2Proof.Machine

/-! ### What a register read leaves of the port -/

/-- The pending command of the access engine and the count of commands. -/
def cmdFace (s : State) : Option EngCmd × BitVec 16 := (s.lsp.cmd, s.lsp.cseq)

theorem cmdFace_of_lsp {s t : State} (h : t.lsp = s.lsp) : cmdFace t = cmdFace s := congrArg (fun l : Lsp => (l.cmd, l.cseq)) h

theorem cmdFace_onlyIf {c : Bool} {f : State → State} {s : State} (h : ∀ u, cmdFace (f u) = cmdFace u) :
    cmdFace (onlyIf c f s) = cmdFace s := by
  cases c
  · rfl
  · exact h s

theorem cmdFace_familyReadEffect {off : Nat} {s : State} : cmdFace (familyReadEffect off s) = cmdFace s := by
  unfold familyReadEffect
  split
  · rfl
  · exact cmdFace_onlyIf fun _ => rfl
  · rfl
  · exact cmdFace_onlyIf fun _ => rfl
  · rfl

theorem cmdFace_regAfter {r : ReqId} {off : Nat} {s : State} : cmdFace (regAfter r off s) = cmdFace s := by
  unfold regAfter
  split
  case h_4 => exact cmdFace_onlyIf fun _ => rfl
  case h_20 => exact cmdFace_onlyIf fun _ => rfl
  case h_21 => exact cmdFace_familyReadEffect
  all_goals rfl

theorem cmdFace_mbxTouch {r : ReqId} {off : Nat} {s : State} : cmdFace (mbxTouch r off s) = cmdFace s := by
  have htime : cmdFace (mbxTimeout s) = cmdFace s := by
    unfold mbxTimeout
    split <;> rfl
  unfold mbxTouch
  split
  · dsimp only
    split
    · exact htime
    · exact htime
  · rfl

theorem cmdFace_readMany {r : ReqId} {off n : Nat} {s : State} : cmdFace (readMany r off n s).2 = cmdFace s := by
  induction n generalizing off s with
  | zero => rfl
  | succ n ih => exact ih.trans ((cmdFace_of_lsp breakArm_lsp).trans (cmdFace_regAfter.trans cmdFace_mbxTouch))

/-! ### Responses to commands -/

/-- The header of the response to a command (Table 12-5). -/
def respHeader (c : EngCmd) (cseq : BitVec 16) (st : Nat) : W32 :=
  packR [(24, c.word.toNat >>> 24), (20, st), (19, 0), (0, cseq.toNat)]

theorem engRespond_words {c : EngCmd} {st : Nat} {data : List W32} {s : State} (h : s.lsp.cmd = some c) :
    (engRespond st data false [] s).lsp.resp.map (·.words) =
      some (respHeader c s.lsp.cseq st :: (if st = 0 then data else [])) := by
  unfold engRespond engRespondAt
  rw [h]
  rfl

theorem engReady_cmd {s : State} {op : Nat} {c : EngCmd} (h : engReady s op = some c) : s.lsp.cmd = some c := by
  unfold engReady at h
  split at h
  next d hd =>
    split at h
    · cases h
    · exact hd.trans h
  next => cases h

theorem engRead_of_ready {s : State} {c : EngCmd} (h : engReady s 1 = some c) :
    engRead s = engReadAt (4 * fld c.word 0 24) (fld c.word 24 5 + 1) s := by
  unfold engRead
  rw [h]

theorem engWrite_of_ready {s : State} {c : EngCmd} (h : engReady s 2 = some c) :
    engWrite s = engWriteAt (4 * fld c.word 0 24) c.data s := by
  unfold engWrite
  rw [h]

theorem engRead_of_none {s : State} (h : engReady s 1 = none) : engRead s = s := by
  unfold engRead
  rw [h]

theorem engWrite_of_none {s : State} (h : engReady s 2 = none) : engWrite s = s := by
  unfold engWrite
  rw [h]

/-- An access that its checks let begin lies among the registers. -/
theorem regEnds_none_lt {s : State} {r : ReqId} {write : Bool} {off n : Nat} (h : regEnds s r write off n = none) : off < 0x10000 := by
  unfold regEnds at h
  split at h
  · cases h
  · split at h
    · cases h
    · omega

theorem engReadAt_reg {off n : Nat} {s : State} (hb : s.sys.bootDone = true) (ho : off < 0x10000)
    (hc : (readsCmp s off n && (regEnds s s.sil.lspId false off n).isNone) = false) :
    engReadAt off n s = engRespond (regRead s.sil.lspId off n s).1 (regRead s.sil.lspId off n s).2.1 false []
      (regRead s.sil.lspId off n s).2.2 := by
  have h : engReadAt off n s = if !s.sys.bootDone then _ else if off < 0x10000 then
    (if readsCmp s off n && (regEnds s s.sil.lspId false off n).isNone then _ else _) else _ := rfl
  rw [h, hb, if_neg (by decide), if_pos ho, hc, if_neg Bool.false_ne_true]

/-- A READ of registers that is performed returns their values (R298, R299). -/
theorem engReadAt_values {c : EngCmd} {off n : Nat} {s : State} (hcmd : s.lsp.cmd = some c) (hb : s.sys.bootDone = true)
    (he : regEnds s s.sil.lspId false off n = none) (hc : readsCmp s off n = false) :
    (engReadAt off n s).lsp.resp.map (·.words) = some (respHeader c s.lsp.cseq 0 :: (readMany s.sil.lspId off n s).1) := by
  have hread : regRead s.sil.lspId off n s = (0, (readMany s.sil.lspId off n s).1, (readMany s.sil.lspId off n s).2) := by
    rw [regRead, he]
  have hface := cmdFace_readMany (r := s.sil.lspId) (off := off) (n := n) (s := s)
  rw [engReadAt_reg hb (regEnds_none_lt he) (by rw [hc]; rfl), hread, engRespond_words ((congrArg Prod.fst hface).trans hcmd)]
  exact congrArg (fun q => some (respHeader c q 0 :: _)) (congrArg Prod.snd hface)

/-- A READ of registers that a check ends returns its status alone. -/
theorem engReadAt_refused {c : EngCmd} {off n st : Nat} {s : State} (hcmd : s.lsp.cmd = some c) (hb : s.sys.bootDone = true)
    (ho : off < 0x10000) (he : regEnds s s.sil.lspId false off n = some st) (hst : st ≠ 0) :
    (engReadAt off n s).lsp.resp.map (·.words) = some [respHeader c s.lsp.cseq st] ∧ settings (engReadAt off n s) = settings s := by
  have hread : regRead s.sil.lspId off n s = (st, [], s) := by rw [regRead, he]
  rw [engReadAt_reg hb ho (by rw [he]; exact Bool.and_false _), hread]
  exact ⟨(engRespond_words hcmd).trans (by rw [if_neg hst]), settings_engRespond⟩

/-- A READ of a submission window is refused (R298, R300). -/
theorem engReadAt_submit {c : EngCmd} {off n : Nat} {s : State} (hcmd : s.lsp.cmd = some c) (hb : s.sys.bootDone = true)
    (hlo : 0x200000 ≤ off) (hhi : off < 0x240000) :
    (engReadAt off n s).lsp.resp.map (·.words) =
      some [respHeader c s.lsp.cseq (if halted s then 8 else if off / 0x10000 % 4 = 2 then 3 else 1)] ∧
    settings (engReadAt off n s) = settings s := by
  have hin : inSubmit off = true := by simp [inSubmit, hlo, hhi]
  have h : engReadAt off n s = if !s.sys.bootDone then _ else if off < 0x10000 then _
    else if 0x100000 ≤ off ∧ off < 0x200000 then _ else if 0x300000 ≤ off ∧ off < 0x340000 then _
    else if 0x1000000 ≤ off ∧ off < 0x3000000 then _
    else engRespond (if !inSubmit off then 1 else if halted s then 8 else if off / 0x10000 % 4 = 2 then 3 else 1) [] false [] s := rfl
  rw [h, hb, if_neg (by decide), if_neg (by omega), if_neg (by omega), if_neg (by omega), if_neg (by omega), hin]
  refine ⟨(engRespond_words hcmd).trans ?_, settings_engRespond⟩
  rw [ite_self]
  rfl

/-- A WRITE of registers that is performed writes them (R298). -/
theorem engWriteAt_writes {off : Nat} {ws : List W32} {s : State} (hb : s.sys.bootDone = true)
    (he : regEnds s s.sil.lspId true off ws.length = none) :
    settings (engWriteAt off ws s) = settings (writeMany s.sil.lspId off ws s) ∧
      front (engWriteAt off ws s) = front (writeMany s.sil.lspId off ws s) := by
  have h : engWriteAt off ws s = if !s.sys.bootDone then _ else if off < 0x10000 then
    engAck (regWrite s.sil.lspId off ws s).1 ws.length (regWrite s.sil.lspId off ws s).2 else _ := rfl
  have hwrite : regWrite s.sil.lspId off ws s = (0, writeMany s.sil.lspId off ws s) := by rw [regWrite, he]
  rw [h, hb, if_neg (by decide), if_pos (regEnds_none_lt he), hwrite]
  exact ⟨settings_engAck, front_engAck⟩

/-! ### The switch of the engine -/

/-- A stored change of ENGINE may take effect (R301). -/
def switches (s : State) : Prop := s.lsp.engine ≠ s.lsp.engEff ∧ (s.lsp.engEff = true → engPending s = false)

theorem engineSwitch_of_switches {s : State} (h : switches s) :
    engineSwitch s = { s with lsp := { s.lsp with engEff := s.lsp.engine, rx := [], tx := [] } } := by
  refine if_neg ?_
  obtain ⟨hne, hpend⟩ := h
  rw [decide_eq_false hne, Bool.false_or, Bool.and_eq_true]
  exact fun hx => absurd hx.2 (by rw [hpend hx.1]; decide)

theorem engineSwitch_of_not {s : State} (h : ¬ switches s) : engineSwitch s = s := by
  refine if_pos ?_
  by_cases he : s.lsp.engine = s.lsp.engEff
  · rw [decide_eq_true he, Bool.true_or]
  · rw [Bool.or_eq_true]
    right
    by_contra hno
    refine h ⟨he, fun heff => ?_⟩
    rw [heff, Bool.true_and] at hno
    exact Bool.not_eq_true _ ▸ hno

/-! ### LSP_ROLE -/

/-- The port's role and the uses of its bus. -/
def roleFace (s : State) : Bool × List XipOp := (s.lsp.role, s.lsp.ops)

theorem roleFace_of_lsp {s t : State} (h : t.lsp = s.lsp) : roleFace t = roleFace s := congrArg (fun l : Lsp => (l.role, l.ops)) h

theorem roleFace_xipReply_failed {o : XipOp} {data : List Byte} {s : State} : roleFace (xipReply o 3 data s) = roleFace s := by
  unfold xipReply
  split
  · exact roleFace_of_lsp answer_lsp
  · exact roleFace_of_lsp readFailed_lsp
  · rfl

theorem roleFace_dselSync {s : State} : roleFace (dselSync s) = roleFace s := by
  obtain ⟨b, hb⟩ := dselSync_eq (s := s)
  rw [hb]
  rfl

/-- A switch to the slave's role keeps only the use of the bus that is in service (R290). -/
theorem roleFace_roleSwitch {s : State} :
    roleFace (roleSwitch s) = (true, if s.lsp.role then s.lsp.ops else s.lsp.ops.take 1) := by
  unfold roleSwitch
  cases hrole : s.lsp.role with
  | true => exact congrArg (·, s.lsp.ops) hrole
  | false =>
    rw [if_neg Bool.false_ne_true, if_neg Bool.false_ne_true]
    refine roleFace_dselSync.trans ?_
    have hfold : ∀ (l : List XipOp) (u : State), roleFace (l.foldl (fun t o => xipReply o 3 [] (mstErr 1 t)) u) = roleFace u :=
      fun l u => foldl_keeps (P := fun t => roleFace t = roleFace u) (fun t o ht => roleFace_xipReply_failed.trans ht) rfl
    refine (hfold _ _).trans ?_
    show (true, s.lsp.ops.take 1 ++ s.lsp.ops.tail.filter (fun _ => false)) = _
    rw [List.filter_eq_nil_iff.mpr fun _ _ => Bool.false_ne_true, List.append_nil]

/-- A write of LSP_ROLE sets the role in the boot phase, and is recorded after it (R290, R323). -/
theorem roleSwitch_effects {a : Acc} {v : W32} {s : State} (h : mayWrite a 0xD000 s = true) :
    Effects (.roleSwitch a v) s (fun u =>
      u.lsp.role = (s.lsp.role || (bitAt v 0 && !s.sys.bootDone)) ∧
      u.lsp.ops = (if bitAt v 0 && !s.sys.bootDone && !s.lsp.role then s.lsp.ops.take 1 else s.lsp.ops) ∧
      (s.sys.bootDone = true → u.sys.viol = true ∧ u.sys.violOff = 0xD000)) := by
  obtain ⟨t, ⟨r, y, rfl, hy⟩, he⟩ := writeAccess_reaches (v := v) h (by decide) (by decide) (by decide) (by decide)
  refine effects_of_act exec_roleSwitch (running_of_enters (enters_of_mayWrite h)) ?_
  have hplain : ∀ q u, plainWrite q 0xD000 v u = if u.sys.bootDone then lockViol q 0xD000 u else onlyIf (bitAt v 0) roleSwitch u :=
    fun _ _ => rfl
  have hboot : y.bootDone = s.sys.bootDone := congrArg (·.bootDone) hy
  rw [he, hplain, answer_lsp, answer_sys, hboot]
  cases hb : s.sys.bootDone with
  | true =>
    rw [if_pos rfl, lockViol_lsp, Bool.not_true, Bool.and_false, Bool.or_false, Bool.false_and, if_neg Bool.false_ne_true]
    refine ⟨rfl, rfl, fun _ => ?_⟩
    unfold lockViol
    dsimp only
    split
    · exact ⟨rfl, rfl⟩
    · rw [post_sys]
      exact ⟨rfl, rfl⟩
  | false =>
    rw [if_neg Bool.false_ne_true, Bool.not_false, Bool.and_true]
    cases hv : bitAt v 0 with
    | false => exact ⟨(Bool.or_false _).symm, rfl, nofun⟩
    | true =>
      have hface := roleFace_roleSwitch (s := { s with ring := r, sys := y })
      refine ⟨(congrArg Prod.fst hface).trans (Bool.or_true _).symm, (congrArg Prod.snd hface).trans ?_, nofun⟩
      show (if s.lsp.role = true then s.lsp.ops else s.lsp.ops.take 1) = _
      cases s.lsp.role <;> rfl

/-! ### The FIFOs -/

theorem lspRxDataRead_effects {a : Acc} {s : State} (h : mayFetch a s = true) :
    Effects (.lspRxDataRead a) s (fun u =>
      u.lsp = { s.lsp with rx := s.lsp.rx.tail } ∧ (a.path = .core → u.core.data = w32ToBytes [(s.lsp.rx.head?.map (·.2)).getD 0])) := by
  refine effects_of_act exec_lspRxDataRead (running_of_mayFetch h) ?_
  have hafter : ∀ q u, (readOne q 0xD018 u).2 = breakArm q { u with lsp := { u.lsp with rx := u.lsp.rx.tail } } := fun _ _ => rfl
  have hval : ∀ q u, regVal u q 0xD018 = (u.lsp.rx.head?.map (·.2)).getD 0 := fun _ _ => rfl
  rw [readAccess_of_mayFetch h (by decide) (by decide), hafter, readOne_val (by decide), hval, entered_lsp]
  refine ⟨?_, fun hp => answer_core_data (norm_path.trans hp)⟩
  rw [answer_lsp, breakArm_lsp]

theorem lspTxDataWrite_effects {a : Acc} {v : W32} {s : State} (h : mayWrite a 0xD01C s = true) :
    Effects (.lspTxDataWrite a v) s (fun u =>
      u.lsp = (if s.lsp.engEff then s.lsp
        else if 64 ≤ s.lsp.tx.length then { s.lsp with err := s.lsp.err ||| 4, errPend := true }
        else { s.lsp with tx := s.lsp.tx ++ [BitVec.ofNat 32 (v.toNat % 2 ^ s.lsp.len.toNat)] })) := by
  obtain ⟨t, ⟨r, y, rfl, -⟩, he⟩ := writeAccess_reaches (v := v) h (by decide) (by decide) (by decide) (by decide)
  refine effects_of_act exec_lspTxDataWrite (running_of_enters (enters_of_mayWrite h)) ?_
  have hplain : ∀ q u, plainWrite q 0xD01C v u = txDataWrite v u := fun _ _ => rfl
  rw [he, hplain, answer_lsp, txDataWrite]
  dsimp only
  split
  · rfl
  · split
    · rfl
    · rfl

/-! ### The obligation -/

/-- Settles O55: each transfer by the branch that its bits and the engine choose, each command by where its offset lies. -/
theorem localSerialSlave : Obligations.LocalSerialSlave := by
  refine fun s => ⟨fun hup => ⟨fun mosi hno => ?_, fun mosi high bits more hhigh => ?_, fun mosi high bits hrole hpend hhigh => ?_,
    fun k r hrole hpend he hf hr hk _ => ?_, fun mosi hrole hpend => ?_, fun c hc hb => ?_, fun c hc hb => ?_, fun hc => ?_,
    fun hc => ?_, ?_, fun hs => ?_, fun hs => ?_⟩, fun a h => lspRxDataRead_effects h, fun a v h => lspTxDataWrite_effects h,
    fun a v h => roleSwitch_effects h⟩
  all_goals have hrun := running_of_upAnd hup
  · exact next_of_act_same hrun exec_lspTransfer (lspTransfer_ignored hno)
  · rw [exec_lspTransfer, exec_lspTransfer, act, act, if_pos hrun, if_pos hrun]
    exact congrArg (fun u => Host.Outcome.next (finishUp u)) (if_pos hhigh)
  · exact effects_of_act exec_lspTransfer hrun (lspPeriods_transfers hrole hpend hhigh)
  · exact effects_of_act exec_lspTransfer hrun (lspTransfer_response hrole hpend he hf hr hk)
  · have hlink := lspTransfer_link (mosi := mosi) hrole hpend
    refine effects_of_act exec_lspTransfer hrun ⟨(congrArg (·.2.2.1) hlink :), (congrArg (·.2.2.2.1) hlink :),
      lspTransfer_status hrole hpend, fun hlen => ?_, fun he hf hlen hcmd hresp => lspTransfer_command hrole hpend he hf hlen hcmd hresp,
      fun he hf h4 _ hlen hrx => lspTransfer_raw hrole hpend he hf h4 hlen hrx⟩
    show (lspTransfer mosi s).tal = s.tal ∧ (lspTransfer mosi s).lsp.cmd = s.lsp.cmd ∧ (lspTransfer mosi s).lsp.resp = s.lsp.resp
    obtain ⟨e, r, t, hs⟩ := engineSwitch_eq (s := s)
    rw [lspTransfer_short hrole hpend hlen, begun, hs]
    exact ⟨rfl, rfl, rfl⟩
  · have hcmd := engReady_cmd hc
    refine ⟨fun he hcmp => ?_, fun hlo hhi => ?_, fun st ho he hst => ?_⟩
    · refine effects_of_act exec_engineRead hrun ?_
      rw [engRead_of_ready hc]
      exact engReadAt_values hcmd hb he hcmp
    · refine effects_of_act exec_engineRead hrun ?_
      rw [engRead_of_ready hc]
      exact engReadAt_submit hcmd hb hlo hhi
    · refine effects_of_act exec_engineRead hrun ?_
      rw [engRead_of_ready hc]
      exact engReadAt_refused hcmd hb ho he hst
  · intro off he
    refine effects_of_act exec_engineWrite hrun ?_
    rw [engWrite_of_ready hc]
    exact engWriteAt_writes hb he
  · exact next_of_act_same hrun exec_engineRead (engRead_of_none hc)
  · exact next_of_act_same hrun exec_engineWrite (engWrite_of_none hc)
  · exact next_of_act_same hrun exec_engineNop rfl
  · exact effects_of_act exec_engineSwitch hrun (congrArg State.lsp (engineSwitch_of_switches hs))
  · exact next_of_act_same hrun exec_engineSwitch (engineSwitch_of_not hs)

end Sys2Proof.Machine


/-! PROOFS. Words that come back to a queue: only the end of a job brings any back, and it leaves a mark on the job or in the event queue. -/

namespace Sys2Proof.Machine

/-! ### The relation -/

/-- Every job has ended with OK, and no event waits. -/
def Finished (s : State) : Prop := s.evt.queue = [] ∧ ∀ j ∈ s.job.jobs, j.stop = some stOk

/-- No word in a slot of a queue is left to allot. -/
def Gone (q k : Nat) (s : State) : Prop := ∀ d, queueOf s q = some d → ∀ e ∈ d.ents, e.slot = k → e.st ≠ .res

/-- A change that ends in a finished state began in one, and brought no word back. -/
def Sealed (s t : State) : Prop := Finished t → Finished s ∧ ∀ q k, Gone q k s → Gone q k t

theorem Sealed.refl (s : State) : Sealed s s := fun h => ⟨h, fun _ _ h => h⟩

theorem Sealed.trans {s t u : State} (h : Sealed s t) (g : Sealed t u) : Sealed s u := fun hu =>
  have ⟨ht, gt⟩ := g hu
  have ⟨hs, gs⟩ := h ht
  ⟨hs, fun q k hk => gt q k (gs q k hk)⟩

theorem Sealed.after {s t u : State} (g : Sealed t u) (h : Sealed s t) : Sealed s u := h.trans g

theorem Sealed.ite {c : Prop} [Decidable c] {s t u : State} (h : Sealed s t) (g : Sealed s u) : Sealed s (if c then t else u) := by
  split
  · exact h
  · exact g

theorem Sealed.onlyIf {c : Bool} {f : State → State} {s : State} (h : Sealed s (f s)) : Sealed s (onlyIf c f s) := .ite h (.refl s)

theorem Sealed.foldl {α : Type} {g : State → α → State} {l : List α} {s : State} (h : ∀ u x, Sealed u (g u x)) :
    Sealed s (l.foldl g s) := by
  induction l generalizing s with
  | nil => exact .refl s
  | cons x xs ih => exact (h s x).trans ih

/-- The events that wait, and how the jobs have stopped. -/
def endings (s : State) : List Entry × List (Option (BitVec 8)) := (s.evt.queue, s.job.jobs.map (·.stop))

theorem finished_iff {s : State} : Finished s ↔ (endings s).1 = [] ∧ ∀ x ∈ (endings s).2, x = some stOk := by
  rw [Finished, endings, List.forall_mem_map]

theorem finished_congr {s t : State} (h : endings t = endings s) : Finished t ↔ Finished s := by
  rw [finished_iff, finished_iff, h]

theorem Sealed.of_same {s t : State} (h : endings t = endings s) (hq : t.stk.queues = s.stk.queues) : Sealed s t := fun ht =>
  ⟨(finished_congr h).mp ht, fun q k hk d hd => hk d (by rw [queueOf, ← hq]; exact hd)⟩

/-- One queue changes, and none of its words comes back. -/
theorem sealed_updQ {q : Nat} {f : DQueue → DQueue} {s : State} (h : ∀ d, ∀ e ∈ (f d).ents, e.st = .res → e ∈ d.ents) :
    Sealed s (updQ q f s) := by
  refine fun ht => ⟨ht, fun k n hk d hd e he hn hres => ?_⟩
  by_cases hq : q = k
  · subst hq
    rw [queueOf_updQ_self] at hd
    obtain ⟨x, hx, rfl⟩ := Option.map_eq_some_iff.mp hd
    exact hk x hx e (h x e he hres) hn hres
  · rw [queueOf_updQ_ne hq] at hd
    exact hk d hd e he hn hres

theorem stops_updJob {id : Nat} {f : Job → Job} {s : State} (h : ∀ j, (f j).stop = j.stop) : endings (updJob id f s) = endings s := by
  refine congrArg (s.evt.queue, ·) ?_
  show (s.job.jobs.map _).map _ = _
  rw [List.map_map]
  refine List.map_congr_left fun j _ => ?_
  show Job.stop (if _ then _ else _) = _
  split
  · exact h j
  · rfl

theorem sealed_updJob {id : Nat} {f : Job → Job} {s : State} (h : ∀ j, (f j).stop = j.stop) : Sealed s (updJob id f s) :=
  .of_same (stops_updJob h) rfl

/-- A job that is made to stop otherwise than with OK is not finished; so there is none of that number. -/
theorem finished_updJob {id : Nat} {f : Job → Job} {s : State} (h : ∀ j, (f j).stop ≠ some stOk) (hf : Finished (updJob id f s)) :
    ∀ j ∈ s.job.jobs, j.id ≠ id := by
  intro j hj hid
  refine h j ?_
  have hmem : f j ∈ (updJob id f s).job.jobs := List.mem_map.mpr ⟨j, hj, if_pos hid⟩
  exact hf.2 (f j) hmem

theorem updJob_of_absent {id : Nat} {f : Job → Job} {s : State} (h : ∀ j ∈ s.job.jobs, j.id ≠ id) : endings (updJob id f s) = endings s := by
  refine congrArg (s.evt.queue, ·) ?_
  show (s.job.jobs.map _).map _ = _
  rw [List.map_map]
  refine List.map_congr_left fun j hj => ?_
  show Job.stop (if _ then _ else _) = _
  rw [if_neg (h j hj)]

theorem sealed_updJob_stops {id : Nat} {f : Job → Job} {s : State} (h : ∀ j, (f j).stop ≠ some stOk) : Sealed s (updJob id f s) := fun ht =>
  Sealed.of_same (updJob_of_absent (finished_updJob h ht)) rfl ht

/-! ### Words and waits -/

theorem sealed_post {code idx detail : Nat} {s : State} : Sealed s (post code idx detail s) := by
  intro ht
  have hevt : (post code idx detail s).evt.queue = [] → s.evt.queue = [] := fun hq => by
    change (if eventEnabled s.evt code then evtStore s.evt code _ else s.evt).queue = [] at hq
    split at hq
    · unfold evtStore at hq
      split at hq
      · exact (List.append_eq_nil_iff.mp hq).1
      · exact hq
    · exact hq
  exact ⟨⟨hevt ht.1, ht.2⟩, fun q k hk d hd => hk d hd⟩

theorem sealed_books {f : Books → Books} {s : State} : Sealed s (updBooks f s) := .of_same rfl rfl

theorem sealed_watermarkEvent {q : Nat} {high : Bool} {s : State} : Sealed s (watermarkEvent q high s) := by
  unfold watermarkEvent
  split
  · exact .refl s
  · exact .ite (Sealed.after sealed_post (sealed_updQ fun _ _ he _ => he)) (.refl s)

theorem sealed_relevel {q : Nat} {f : DQueue → DQueue} {s : State} (h : ∀ d, ∀ e ∈ (f d).ents, e.st = .res → e ∈ d.ents) :
    Sealed s (relevel q f s) := by
  unfold relevel
  split
  · exact .refl s
  next d hd =>
    refine .trans (.trans ?_ (.onlyIf sealed_watermarkEvent)) (.onlyIf sealed_watermarkEvent)
    refine fun ht => ⟨ht, fun k n hk x hx e he hn hres => ?_⟩
    by_cases hq : q = k
    · subst hq
      rw [queueOf_updQ_self, hd] at hx
      obtain rfl := Option.some.inj hx
      exact hk d hd e (h d e he hres) hn hres
    · rw [queueOf_updQ_ne hq] at hx
      exact hk x hx e he hn hres

theorem setEnts_res {slots : List Nat} {st : EntSt} {d : DQueue} {e : QEntry} (hst : st ≠ .res) (he : e ∈ (setEnts slots st d).ents)
    (hres : e.st = .res) : e ∈ d.ents := by
  obtain h | ⟨h, -⟩ := setEnts_slots he
  · exact absurd (h.symm.trans hres) hst
  · exact h

theorem sealed_finishSlots {refs : List (Nat × Nat)} {s : State} : Sealed s (finishSlots refs s) :=
  .foldl fun _ _ => sealed_relevel fun _ _ he hres => setEnts_res (by decide) ((List.dropWhile_sublist _).subset he) hres

theorem sealed_toFlight {refs : List (Nat × Nat)} {s : State} : Sealed s (toFlight refs s) :=
  Sealed.trans sealed_books (.foldl fun _ _ => sealed_relevel fun _ _ he hres => setEnts_res (by decide) he hres)

theorem sealed_kerfStack {why : WordKerf} {refs : List (Nat × Nat)} {s : State} : Sealed s (kerfStack why refs s) :=
  Sealed.after sealed_finishSlots sealed_books

theorem sealed_kerfFlight {why : WordKerf} {refs : List (Nat × Nat)} {n : Nat} {s : State} : Sealed s (kerfFlight why refs n s) :=
  Sealed.after sealed_finishSlots sealed_books

theorem sealed_kerfWords {why : WordKerf} {ws : List AWord} {s : State} : Sealed s (kerfWords why ws s) :=
  Sealed.after sealed_books sealed_kerfStack

theorem sealed_kerfFrames {why : WordKerf} {l : List TxFrame} {s : State} : Sealed s (kerfFrames why l s) :=
  .foldl fun _ _ => .ite sealed_kerfFlight sealed_kerfStack

theorem sealed_dropUnsent {why : WordKerf} {id : Nat} {s : State} : Sealed s (dropUnsent why id s) := by
  have hpull : ∀ b u, Sealed u (pullUnsent id b u) := fun _ _ => .of_same rfl rfl
  unfold dropUnsent
  split
  · exact .refl s
  · exact Sealed.after sealed_kerfWords (Sealed.after sealed_kerfFrames ((hpull _ _).after (sealed_updJob fun _ => rfl)))

theorem sealed_deliverWords {refs : List (Nat × Nat)} {n m : Nat} {s : State} : Sealed s (deliverWords refs n m s) :=
  Sealed.after sealed_finishSlots sealed_books

theorem sealed_syncQ {q : Nat} {s : State} : Sealed s (syncQ q s) := sealed_updQ fun _ _ he _ => he

theorem sealed_syncAll {s : State} : Sealed s (syncAll s) := .foldl fun _ _ => sealed_syncQ

theorem sealed_dropWaiter {q key : Nat} {s : State} : Sealed s (dropWaiter q key s) := Sealed.after sealed_syncQ (sealed_updQ fun _ _ he _ => he)

/-! ### Lanes and writes -/

theorem sealed_laneWait {n : Nat} {s : State} : Sealed s (laneWait n s) := by
  unfold laneWait
  split
  · exact .refl s
  · exact .ite (.of_same rfl rfl) (.refl s)

theorem sealed_prDrop {key : Nat} {s : State} : Sealed s (prDrop key s) := by
  unfold prDrop
  refine Sealed.after (.foldl fun t n => ?_) (.of_same rfl rfl)
  split
  · exact .ite sealed_laneWait (.refl t)
  · exact .refl t

theorem sealed_prAdd {n : Nat} {p : PrReq} {s : State} : Sealed s (prAdd n p s) := by
  unfold prAdd
  split
  · exact .refl s
  · exact (Sealed.onlyIf sealed_laneWait).after (.of_same rfl rfl)

theorem sealed_prPlace {q key accepted : Nat} {s : State} : Sealed s (prPlace q key accepted s) := by
  have hfree : ∀ u, Sealed u (bumpFree u) := fun _ => .of_same rfl rfl
  unfold prPlace
  refine .ite (.refl s) ?_
  split
  · exact .refl s
  · exact Sealed.trans sealed_prAdd (hfree _)

theorem sealed_issueWrite {id off : Nat} {bytes : List Byte} {ws : List AWord} {random : Bool} {tag : Option Tag} {s : State} :
    Sealed s (issueWrite id off bytes ws random tag s) := by
  have hsend : ∀ (t : TxFrame) type addr len fbase u, Sealed u (sendRequest type addr len bytes fbase t u) :=
    fun _ _ _ _ _ _ => .of_same rfl rfl
  unfold issueWrite
  split
  · exact .refl s
  · exact (hsend _ _ _ _ _ _).after (sealed_updJob fun _ => rfl)

theorem sealed_resultIssue {id fuel : Nat} {last : Bool} {s : State} : Sealed s (resultIssue id last fuel s) := by
  induction fuel generalizing s with
  | zero => exact .refl s
  | succ fuel ih =>
    unfold resultIssue
    split
    · exact .refl s
    · split
      · exact .ite ((ih.after sealed_issueWrite).after (sealed_updJob fun _ => rfl)) (.refl s)
      · dsimp only
        exact .ite (.refl s) ((ih.after sealed_issueWrite).after (sealed_updJob fun _ => rfl))

/-! ### The end of a job -/

theorem endings_releaseUnits {id : Nat} {s : State} : endings (releaseUnits id s) = endings s := rfl

theorem stops_of_outer {s t : State} (h : outer t = outer s) : t.job.jobs.map (·.stop) = s.job.jobs.map (·.stop) := by
  have hjobs : t.job.jobs.map jobFace = s.job.jobs.map jobFace := (congrArg (fun u : State => u.job.jobs) h :)
  have hmap := congrArg (List.map Job.stop) hjobs
  rwa [List.map_map, List.map_map] at hmap

/-- A job that stops otherwise than with OK is not finished. -/
theorem sealed_stopJob {id : Nat} {status : BitVec 8} {why : Option WordKerf} {s : State} (hst : status ≠ stOk) :
    Sealed s (stopJob id status why s) := by
  by_cases h : ∀ j, jobOf s id = some j → j.stop.isSome = true
  · rw [stopJob_of_stopped h]
    exact .refl s
  · simp only [not_forall] at h
    obtain ⟨j, hj, hs⟩ := h
    have hstops := stops_of_outer (outer_stopJob (why := why) (status := status) hj (by simpa using hs))
    refine fun ht => absurd ?_ hst
    have hall : ∀ x ∈ (ended id status s).job.jobs.map (·.stop), x = some stOk := by
      rw [← hstops, List.forall_mem_map]
      exact ht.2
    have hmem : some status ∈ (ended id status s).job.jobs.map (·.stop) := by
      refine List.mem_map.mpr ⟨_, List.mem_map.mpr ⟨j, List.mem_of_find?_eq_some hj, rfl⟩, ?_⟩
      show Job.stop (if _ then _ else _) = _
      rw [if_pos (of_decide_eq_true (List.find?_some (p := fun j : Job => decide (j.id = id)) hj))]
    exact Option.some.inj (hall _ hmem)

end Sys2Proof.Machine


/-! PROOFS. What the end of a step leaves as it is, whatever state it begins in: the tag that STK_TAG_SEL captured, the mask key, the fatal
alarm's cause, lanes and operand memories that are clear, and queues with no word left to allot. -/

namespace Sys2Proof.Machine

/-! ### The relation -/

/-- The captured tag, the mask key of the stack, the fatal alarm with its cause, the states of the lanes, and the operand memories. -/
def poise (s : State) : W32 × BitVec 256 × Bool × BitVec 8 × List Drbg × List Mem :=
  (s.stk.tagInfo, s.stk.maskKey, s.hlt.fatal, s.hlt.fatalCause, s.lan.lanes.map (·.drbg), s.bne.benches.map (·.mem))

/-- Every queue that has no word left to allot, and none held by a consumer that waits, stays so. -/
def Hushed (s t : State) : Prop := ∀ k d, queueOf s k = some d → Emptied d → ∃ x, queueOf t k = some x ∧ Emptied x

/-- A state rests: what `poise` shows stays, except that lanes and memories may be cleared, queues stay emptied, and no word comes back
unseen. -/
structure Rests (s t : State) : Prop where
  tag : t.stk.tagInfo = s.stk.tagInfo
  key : t.stk.maskKey = s.stk.maskKey
  fatal : t.hlt.fatal = s.hlt.fatal
  cause : t.hlt.fatalCause = s.hlt.fatalCause
  lanes : (∀ l ∈ s.lan.lanes, l.drbg = Drbg.zero) → ∀ l ∈ t.lan.lanes, l.drbg = Drbg.zero
  mems : (∀ b ∈ s.bne.benches, b.mem = []) → ∀ b ∈ t.bne.benches, b.mem = []
  queues : Hushed s t
  words : Sealed s t

theorem hushed_of_queues {s t : State} (h : t.stk.queues = s.stk.queues) : Hushed s t := fun k d hd he =>
  ⟨d, by rw [queueOf, h]; exact hd, he⟩

theorem hushed_of_falls {s t : State} (h : Falls s t) : Hushed s t := fun k d hd he => by
  obtain ⟨x, hx, hdx⟩ := h.queues k d hd
  exact ⟨x, hx, hdx.quiet he⟩

theorem forall_of_map_eq {α β : Type} {f : α → β} {l m : List α} {b : β} (h : m.map f = l.map f) (hl : ∀ x ∈ l, f x = b) :
    ∀ x ∈ m, f x = b := fun x hx => by
  have hmem : f x ∈ l.map f := h ▸ List.mem_map_of_mem hx
  obtain ⟨y, hy, hxy⟩ := List.mem_map.mp hmem
  exact hxy ▸ hl y hy

theorem Rests.of_poise {s t : State} (h : poise t = poise s) (hq : Hushed s t) (hw : Sealed s t) : Rests s t where
  tag := (congrArg (·.1) h :)
  key := (congrArg (·.2.1) h :)
  fatal := (congrArg (·.2.2.1) h :)
  cause := (congrArg (·.2.2.2.1) h :)
  lanes := forall_of_map_eq (congrArg (·.2.2.2.2.1) h :)
  mems := forall_of_map_eq (congrArg (·.2.2.2.2.2) h :)
  queues := hq
  words := hw

/-- Only units other than the queues changed. -/
theorem Rests.of_same {s t : State} (h : poise t = poise s) (hq : t.stk.queues = s.stk.queues) (he : endings t = endings s) :
    Rests s t := .of_poise h (hushed_of_queues hq) (.of_same he hq)

theorem poise_of_outer {s t : State} (h : outer t = outer s) : poise t = poise s := by
  have hlan : t.lan.lanes.map laneCore = s.lan.lanes.map laneCore := (congrArg (fun u : State => u.lan.lanes) h :)
  have hdrbg : t.lan.lanes.map (·.drbg) = s.lan.lanes.map (·.drbg) := by
    have hmap := congrArg (List.map Lane.drbg) hlan
    rwa [List.map_map, List.map_map] at hmap
  have htag : t.stk.tagInfo = s.stk.tagInfo := (congrArg (fun u : State => u.stk.tagInfo) h :)
  have hkey : t.stk.maskKey = s.stk.maskKey := (congrArg (fun u : State => u.stk.maskKey) h :)
  have hhlt : t.hlt = s.hlt := (congrArg State.hlt h :)
  have hbne : t.bne = s.bne := (congrArg State.bne h :)
  rw [poise, htag, hkey, hhlt, hdrbg, hbne, poise]

/-- Words and waits changed, and the queues ebb. -/
theorem Rests.of_falls {s t : State} (h : outer t = outer s) (g : Falls s t) (hw : Sealed s t) : Rests s t :=
  .of_poise (poise_of_outer h) (hushed_of_falls g) hw

theorem Rests.refl (s : State) : Rests s s := .of_same rfl rfl rfl

theorem Rests.trans {s t u : State} (h : Rests s t) (g : Rests t u) : Rests s u where
  tag := g.tag.trans h.tag
  key := g.key.trans h.key
  fatal := g.fatal.trans h.fatal
  cause := g.cause.trans h.cause
  lanes hs := g.lanes (h.lanes hs)
  mems hs := g.mems (h.mems hs)
  queues k d hd he := by
    obtain ⟨x, hx, hex⟩ := h.queues k d hd he
    exact g.queues k x hx hex
  words := h.words.trans g.words

theorem Rests.after {s t u : State} (g : Rests t u) (h : Rests s t) : Rests s u := h.trans g

theorem Rests.ite {c : Prop} [Decidable c] {s t u : State} (h : Rests s t) (g : Rests s u) : Rests s (if c then t else u) := by
  split
  · exact h
  · exact g

theorem Rests.onlyIf {c : Bool} {f : State → State} {s : State} (h : Rests s (f s)) : Rests s (onlyIf c f s) := .ite h (.refl s)

theorem Rests.foldl {α : Type} {g : State → α → State} {l : List α} {s : State} (h : ∀ u x, Rests u (g u x)) : Rests s (l.foldl g s) := by
  induction l generalizing s with
  | nil => exact .refl s
  | cons x xs ih => exact (h s x).trans ih

/-- One queue changes. -/
theorem rests_updQ {q : Nat} {f : DQueue → DQueue} {s : State} (h : ∀ d, Emptied d → Emptied (f d))
    (he : ∀ d, ∀ e ∈ (f d).ents, e.st = .res → e ∈ d.ents) : Rests s (updQ q f s) := by
  refine .of_poise rfl (fun k d hd he => ?_) (sealed_updQ he)
  by_cases hq : q = k
  · subst hq
    exact ⟨f d, by rw [queueOf_updQ_self, hd]; rfl, h d he⟩
  · exact ⟨d, by rw [queueOf_updQ_ne hq]; exact hd, he⟩

/-! ### Small operations -/

theorem rests_updJob {id : Nat} {f : Job → Job} {s : State} (h : ∀ j, (f j).stop = j.stop) : Rests s (updJob id f s) :=
  .of_same rfl rfl (stops_updJob h)

theorem rests_updJob_stops {id : Nat} {f : Job → Job} {s : State} (h : ∀ j, (f j).stop ≠ some stOk) : Rests s (updJob id f s) :=
  .of_poise rfl (hushed_of_queues rfl) (sealed_updJob_stops h)

theorem rests_updLane {n : Nat} {f : Lane → Lane} {s : State} (h : ∀ x, (f x).drbg = x.drbg) : Rests s (updLane n f s) := by
  refine .of_same ?_ rfl rfl
  show (_, _, _, _, (upd s.lan.lanes n f).map (·.drbg), _) = _
  rw [map_upd_at fun x _ => h x]
  rfl

theorem rests_onPort {p : PortId} {f : Port → Port} {s : State} : Rests s (onPort p f s) := by
  cases p <;> exact .of_same rfl rfl rfl

theorem rests_syncAll {s : State} : Rests s (syncAll s) := .of_falls outer_syncAll falls_syncAll sealed_syncAll

theorem rests_dropWaiter {q key : Nat} {s : State} : Rests s (dropWaiter q key s) := .of_falls outer_dropWaiter falls_dropWaiter sealed_dropWaiter

theorem rests_prDrop {key : Nat} {s : State} : Rests s (prDrop key s) := .of_falls outer_prDrop falls_prDrop sealed_prDrop

theorem rests_prPlace {q key accepted : Nat} {s : State} : Rests s (prPlace q key accepted s) := .of_falls outer_prPlace falls_prPlace sealed_prPlace

theorem rests_kerfWords {why : WordKerf} {ws : List AWord} {s : State} : Rests s (kerfWords why ws s) :=
  .of_falls outer_kerfWords falls_kerfWords sealed_kerfWords

theorem rests_kerfStack {why : WordKerf} {refs : List (Nat × Nat)} {s : State} : Rests s (kerfStack why refs s) :=
  .of_falls outer_kerfStack falls_kerfStack sealed_kerfStack

theorem rests_kerfFlight {why : WordKerf} {refs : List (Nat × Nat)} {n : Nat} {s : State} : Rests s (kerfFlight why refs n s) :=
  .of_falls outer_kerfFlight falls_kerfFlight sealed_kerfFlight

theorem rests_kerfFrames {why : WordKerf} {l : List TxFrame} {s : State} : Rests s (kerfFrames why l s) :=
  .of_falls outer_kerfFrames falls_kerfFrames sealed_kerfFrames

theorem rests_toFlight {refs : List (Nat × Nat)} {s : State} : Rests s (toFlight refs s) := .of_falls outer_toFlight falls_toFlight sealed_toFlight

theorem rests_deliverWords {refs : List (Nat × Nat)} {n m : Nat} {s : State} : Rests s (deliverWords refs n m s) :=
  Rests.trans (t := updBooks (bkDelivered n m) s) (.of_same rfl rfl rfl) (.of_falls outer_finishSlots falls_finishSlots sealed_finishSlots)

theorem rests_passWords {ws : List AWord} {s : State} : Rests s (passWords ws s) := Rests.trans rests_toFlight rests_deliverWords

theorem rests_dropUnsent {why : WordKerf} {id : Nat} {s : State} : Rests s (dropUnsent why id s) :=
  .of_falls outer_dropUnsent falls_dropUnsent sealed_dropUnsent

theorem rests_resultIssue {id fuel : Nat} {last : Bool} {s : State} : Rests s (resultIssue id last fuel s) :=
  .of_falls outer_resultIssue falls_resultIssue sealed_resultIssue

theorem rests_sendRequest {type addr len : Nat} {payload : List Byte} {fbase : BitVec 22} {t : TxFrame} {s : State} :
    Rests s (sendRequest type addr len payload fbase t s) := .of_same rfl rfl rfl

theorem rests_post {code idx detail : Nat} {s : State} : Rests s (post code idx detail s) :=
  .of_poise (poise_of_outer outer_post) (hushed_of_queues (congrArg Stk.queues post_stk)) sealed_post

theorem rests_books {f : Books → Books} {s : State} : Rests s (updBooks f s) := .of_same rfl rfl rfl

/-! ### The end of a job -/

theorem poise_releaseUnits {id : Nat} {s : State} : poise (releaseUnits id s) = poise s := by
  have hdrbg : (s.lan.lanes.map (fun l => { l with pieces := l.pieces.filter (fun p => decide (p.job ≠ id)) })).map (·.drbg) =
      s.lan.lanes.map (·.drbg) := List.map_map
  have hmem : (s.bne.benches.map (fun b => if b.job = some id then
      { b with job := none, phase := 6, zeroAll := wholeClear s id, st := if b.st = .busy then .zero else b.st } else b)).map (·.mem) =
      s.bne.benches.map (·.mem) := by
    rw [List.map_map]
    refine List.map_congr_left fun b _ => ?_
    show Bench.mem (if _ then _ else _) = _
    split <;> rfl
  exact congrArg₂ (fun a b => (s.stk.tagInfo, s.stk.maskKey, s.hlt.fatal, s.hlt.fatalCause, a, b)) hdrbg hmem

theorem rests_stopJob {id : Nat} {status : BitVec 8} {why : Option WordKerf} {s : State} (hst : status ≠ stOk) :
    Rests s (stopJob id status why s) := by
  by_cases h : ∀ j, jobOf s id = some j → j.stop.isSome = true
  · rw [stopJob_of_stopped h]
    exact .refl s
  · simp only [not_forall] at h
    obtain ⟨j, hj, hs⟩ := h
    have hstop := poise_of_outer (outer_stopJob (why := why) (status := status) hj (by simpa using hs))
    exact .of_poise (hstop.trans poise_releaseUnits) (hushed_of_falls falls_stopJob) (sealed_stopJob hst)

theorem rests_beaconFlushed {id : Nat} {s : State} : Rests s (beaconFlushed id s) := by
  unfold beaconFlushed
  split
  · exact .refl s
  next j =>
    have hcut : ∀ (c : Bool) l gs, Rests s (updJob id (fun x => { x with grants := gs }) (onlyIf c (kerfWords .reject l) s)) := fun c l gs =>
      Rests.after (rests_updJob fun _ => rfl) (.onlyIf rests_kerfWords)
    dsimp only
    exact .ite ((rests_stopJob (by decide)).after (hcut _ _ _)) (Rests.after (rests_updJob fun _ => rfl) (hcut _ _ _))

/-! ### Reads and answers -/

theorem rests_answer {a : Acc} {w un : Bool} {st : Nat} {data : List Byte} {s : State} : Rests s (answer a w st data un s) := by
  unfold answer
  split
  · exact .of_same rfl rfl rfl
  · split
    · exact .of_same rfl rfl rfl
    · exact .refl s

theorem rests_endRead {key len status : Nat} {a : Acc} {ws : List AWord} {s : State} : Rests s (endRead key a len status ws s) := by
  have heng : ∀ un lead data, Rests s (engRespondAt lead status data un ws s) := fun un lead data => by
    unfold engRespondAt
    split
    · exact .refl s
    · exact .of_same rfl rfl rfl
  have hcore : ∀ un data u, Rests u (coreAnswer status data un u) := fun _ _ _ => .of_same rfl rfl rfl
  unfold endRead readDone
  dsimp only
  split
  · exact .of_same rfl rfl rfl
  · split
    · exact heng _ _ _
    · exact Rests.trans rests_passWords (hcore _ _ _)

theorem rests_readFailed {id : Nat} {s : State} : Rests s (readFailed id s) := by
  unfold readFailed
  split
  · exact .refl s
  · exact (rests_stopJob (by decide)).after (rests_updJob fun _ => rfl)

theorem rests_mstErr {b : Nat} {s : State} : Rests s (mstErr b s) := .of_same rfl rfl rfl

end Sys2Proof.Machine


/-! PROOFS. The work of jobs, ports and lanes that a step does at its end leaves the node at rest. -/

namespace Sys2Proof.Machine

/-! ### Words and reads of jobs -/

theorem rests_addWaiter {q : Nat} {w : Waiter} {s : State} (h : w.held = []) : Rests s (addWaiter q w s) := by
  have hadd : Rests s (updQ q (fun d => { d with
      waits := d.waits ++ [w], underrun := d.underrun || (!w.pr && decide (unallotted d < w.need)) }) s) :=
    rests_updQ (fun d hd => ⟨hd.1, fun x hx => by
      obtain hx | hx := List.mem_append.mp hx
      · exact hd.2 x hx
      · rw [List.mem_singleton.mp hx, h]⟩) fun _ _ he _ => he
  have hord : ∀ u, Rests u (bumpOrd u) := fun _ => .of_same rfl rfl rfl
  exact (hadd.trans (.of_falls outer_syncQ falls_syncQ sealed_syncQ)).trans (hord _)

theorem rests_jobAsk {id : Nat} {s : State} : Rests s (jobAsk id s) := by
  unfold jobAsk
  split
  · exact .refl s
  next j _ =>
    dsimp only
    split
    · exact .refl s
    · split
      · exact .refl s
      · split
        · exact .refl s
        · split
          · exact .ite rests_beaconFlushed (rests_stopJob (by decide))
          · have hask : ∀ (w : Waiter) a b, w.held = [] → Rests s (addWaiter (jobSq j) (if j.qfirst.isSome then { w with ordd := j.qord } else w)
                (updJob id (fun x => { x with qfirst := a, qord := b, qdone := false, phase := .waiting }) s)) := fun w a b hw => by
              refine Rests.after (rests_addWaiter ?_) (rests_updJob fun _ => rfl)
              split
              · exact hw
              · exact hw
            exact .ite ((hask _ _ _ rfl).trans rests_prPlace) (hask _ _ _ rfl)

theorem rests_issueRead {id : Nat} {s : State} : Rests s (issueRead id s) := by
  have hops : ∀ l u, Rests u { u with lsp := { u.lsp with ops := l } } := fun _ _ => .of_same rfl rfl rfl
  unfold issueRead
  split
  · exact .refl s
  · split
    · exact .refl s
    · dsimp only
      split
      · exact .refl s
      · split
        · exact Rests.trans rests_mstErr rests_readFailed
        · split
          · exact (hops _ _).after (rests_updJob fun _ => rfl)
          · exact Rests.after rests_sendRequest (rests_updJob fun _ => rfl)

theorem rests_readKeep {id : Nat} {r : SrcRead} {s : State} : Rests s (readKeep id r s) := by
  unfold readKeep
  dsimp only
  split
  · exact rests_updJob fun _ => rfl
  · exact rests_updJob fun _ => rfl
  · exact rests_updJob fun _ => rfl
  · exact .ite (rests_stopJob (by decide)) (rests_updJob fun _ => rfl)
  · exact rests_updJob fun _ => rfl
  · exact rests_updJob fun _ => rfl
  · exact .refl s
  · exact .refl s
  · exact .refl s

theorem rests_readBegin {id : Nat} {what : ReadFor} {addr total : Nat} {s : State} : Rests s (readBegin id what addr total s) := by
  unfold readBegin
  split
  · exact .refl s
  · dsimp only
    split
    · exact rests_updJob fun _ => rfl
    · split
      · split
        · exact rests_stopJob (by decide)
        · exact .ite (rests_updJob fun _ => rfl) (rests_stopJob (by decide))
      · exact .ite (rests_updJob fun _ => rfl) (rests_stopJob (by decide))

theorem rests_batchGo {id : Nat} {s : State} : Rests s (batchGo id s) := by
  have hdrop : Rests s (prDrop id s) := rests_prDrop
  unfold batchGo
  split
  · exact .refl s
  · split
    · exact .refl s
    · split
      · exact .refl s
      · split
        · exact Rests.after rests_jobAsk (rests_updJob fun _ => rfl)
        · split
          · exact rests_jobAsk
          · dsimp only
            split
            · exact hdrop.trans (Rests.after rests_jobAsk (rests_updJob fun _ => rfl))
            · exact hdrop.trans (Rests.after rests_syncAll (rests_updJob fun _ => rfl))

theorem rests_fetchRun {id fuel : Nat} {s : State} : Rests s (fetchRun id fuel s) := by
  fun_induction fetchRun id fuel s
  case case4 => exact rests_issueRead
  case case5 ih => exact Rests.trans rests_readKeep ih
  case case6 => exact rests_issueRead
  case case7 => exact rests_batchGo
  case case8 ih => exact (ih.after rests_readBegin).after (rests_updJob fun _ => rfl)
  case case9 => exact rests_updJob fun _ => rfl
  case case10 ih => exact Rests.trans rests_readBegin ih
  all_goals exact .refl _

theorem rests_hashNext {n : Nat} {s : State} : Rests s (hashNext n s) := by
  induction n generalizing s with
  | zero => exact .refl s
  | succ n ih =>
    unfold hashNext
    split
    · split
      · exact .refl s
      · exact Rests.trans rests_fetchRun ih
    · exact .refl s

/-! ### The distribution unit -/

theorem rests_permDone {id : Nat} {s : State} : Rests s (permDone id s) := by
  unfold permDone
  split
  · exact .refl s
  next j _ =>
    have hbuilt : ∀ u, Rests u { u with stk := { u.stk with building := none } } := fun _ => .of_same rfl rfl rfl
    exact Rests.after rests_resultIssue (Rests.after rests_prDrop (Rests.after (rests_updJob fun _ => rfl) (hbuilt _)))

theorem rests_permStart {id : Nat} {s : State} : Rests s (permStart id s) := by
  unfold permStart
  split
  · exact .refl s
  next j _ =>
    have hbuild : Rests s { s with stk := { s.stk with building := some id } } := .of_same rfl rfl rfl
    exact .ite (Rests.after rests_permDone (Rests.after (rests_updJob fun _ => rfl) hbuild))
      (Rests.after rests_jobAsk (Rests.after (rests_updJob fun _ => rfl) hbuild))

theorem rests_permNext {n : Nat} {s : State} : Rests s (permNext n s) := by
  induction n generalizing s with
  | zero => exact .refl s
  | succ n ih =>
    unfold permNext
    split
    · exact .refl s
    · split
      · exact .refl s
      · exact Rests.trans rests_permStart ih

/-! ### Benches -/

theorem rests_benchSettle {s : State} : Rests s (benchSettle s) := by
  have hdeny : ∀ u, Rests u (denyOrphans u) := fun u => .foldl fun _ _ => (rests_stopJob (by decide))
  have hstarve : ∀ u, Rests u (starveWaiters u) := fun u => .ite (.refl u) (.foldl fun _ _ => (rests_stopJob (by decide)))
  have hrelease : Rests s { s with bne := { s.bne with benches := s.bne.benches.map (fun b =>
      if b.relPend && b.job.isNone then { b with owner := none, relPend := false, zeroAll := true, mem := [] } else b) } } := by
    refine ⟨rfl, rfl, rfl, rfl, fun h => h, fun h => ?_, hushed_of_queues rfl, .of_same rfl rfl⟩
    rw [List.forall_mem_map]
    intro b hb
    split
    · rfl
    · exact h b hb
  exact (hrelease.trans (hdeny _)).trans (hstarve _)

theorem rests_settleJobs {s : State} : Rests s (settleJobs s) := by
  have hsync : ∀ u, Rests u (syncHash (syncBench u)) := fun u => .of_same rfl rfl rfl
  unfold settleJobs
  dsimp only
  split
  · exact .refl s
  · exact ((Rests.trans rests_permNext rests_hashNext).trans rests_benchSettle).trans (hsync _)

theorem rests_idleTouch {s : State} : Rests s (idleTouch s) := by
  refine .of_same ?_ rfl rfl
  have hmem : (s.bne.benches.map (fun b => if b.st ≠ .idle ∨ ((b.owner.map (ownerWaits s)).getD true) then
      { b with idleSlow := s.clk.slow } else b)).map (·.mem) = s.bne.benches.map (·.mem) := by
    rw [List.map_map]
    refine List.map_congr_left fun b _ => ?_
    show Bench.mem (if _ then _ else _) = _
    split <;> rfl
  exact congrArg (fun l => (s.stk.tagInfo, s.stk.maskKey, s.hlt.fatal, s.hlt.fatalCause, s.lan.lanes.map (·.drbg), l)) hmem

/-! ### Records and the local host -/

/-- A record in the event queue completes its job: the state is not finished, for the record waits there. -/
theorem rests_completeJob {id : Nat} {q : List Entry} {n : BitVec 16} {s : State} (h : q ≠ []) :
    Rests s (completeJob id { s with evt := { s.evt with queue := q, seq := n } }) := by
  have hevt : (completeJob id { s with evt := { s.evt with queue := q, seq := n } }).evt.queue = q := by
    unfold completeJob
    split <;> rfl
  refine .of_poise ?_ (hushed_of_queues ?_) fun ht => absurd (hevt.symm.trans ht.1) h
  · unfold completeJob
    split <;> rfl
  · unfold completeJob
    split <;> rfl

theorem rests_writeRecord {j : Job} {s : State} : Rests s (writeRecord j s) := by
  have hsend : ∀ r, Rests s { s with ring := r } := fun _ => .of_same rfl rfl rfl
  unfold writeRecord
  dsimp only
  split
  · exact Rests.after rests_sendRequest (rests_updJob fun _ => rfl)
  · split
    · exact rests_completeJob (by simp)
    · exact Rests.after (rests_updJob fun _ => rfl) (hsend _)

theorem rests_recordSweep {n : Nat} {s : State} : Rests s (recordSweep n s) := by
  induction n generalizing s with
  | zero => exact .refl s
  | succ n ih =>
    rw [recordSweep]
    split
    next t ht =>
      obtain ⟨j, -, rfl⟩ := Option.map_eq_some_iff.mp ht
      exact Rests.trans rests_writeRecord ih
    · exact .refl s

theorem rests_sweepRecords {s : State} : Rests s (sweepRecords s) := by
  have hmark : ∀ u, Rests u (markWaiting u) := fun u => .of_same rfl rfl <| by
    refine congrArg (u.evt.queue, ·) ?_
    show (u.job.jobs.map _).map _ = _
    rw [List.map_map]
    refine List.map_congr_left fun j _ => ?_
    show Job.stop (if _ then _ else _) = _
    split <;> rfl
  exact .ite (Rests.trans rests_recordSweep (hmark _)) (.refl s)

theorem rests_lspFill {s : State} : Rests s (lspFill s) := by
  unfold lspFill
  split
  · exact .refl s
  next r _ =>
    have hresp : ∀ x, Rests s { s with lsp := { s.lsp with resp := x } } := fun _ => .of_same rfl rfl rfl
    exact .ite (.refl s) ((hresp _).trans rests_toFlight)

theorem rests_xipStart {s : State} : Rests s (xipStart s) := by
  unfold xipStart
  split
  · refine .ite (.refl s) ?_
    have hstart : ∀ l b, Rests s { s with lsp := { s.lsp with ops := l, bus := b } } := fun _ _ => .of_same rfl rfl rfl
    have hfree : ∀ u, Rests u (bumpFree u) := fun _ => .of_same rfl rfl rfl
    exact (hstart _ _).trans (.onlyIf (hfree _))
  · exact .refl s

theorem rests_dselSync {s : State} : Rests s (dselSync s) := by
  obtain ⟨x, h⟩ := dselSync_eq (s := s)
  rw [h]
  exact .of_same rfl rfl rfl

/-! ### The ring -/

theorem rests_sendAt {p : PortId} {i : Nat} {s : State} : Rests s (sendAt p i s) := by
  have hsent : ∀ (t : TxFrame) (u : State), Rests u (noteSent p t u) := fun t u => by
    unfold noteSent
    cases t.kind <;> exact .of_same rfl rfl rfl
  have hbcast : ∀ (t : TxFrame) (u : State), Rests u (noteBcast p t u) := fun t u => by
    unfold noteBcast
    split
    · exact .of_same rfl rfl rfl
    · exact .refl u
  have hfree : ∀ (t : TxFrame) (u : State), Rests u (freeTransit t u) := fun t u => by
    unfold freeTransit
    split
    · exact rests_onPort
    · exact .refl u
  unfold sendAt
  dsimp only
  split
  · exact .refl s
  · split
    · exact ((Rests.trans rests_onPort (hsent _ _)).trans (hbcast _ _)).trans (hfree _ _)
    · exact (((Rests.trans rests_onPort (hsent _ _)).trans (hbcast _ _)).trans (hfree _ _)).trans (.onlyIf rests_toFlight)

theorem rests_pumpPort {p : PortId} {n : Nat} {s : State} : Rests s (pumpPort p n s) := by
  induction n generalizing s with
  | zero => exact .refl s
  | succ n ih =>
    rw [pumpPort]
    split
    · exact .refl s
    · exact Rests.trans rests_sendAt ih

theorem rests_settleRing {s : State} : Rests s (settleRing s) := by
  have hlink : ∀ p (u : State), Rests u (linkSend p u) := fun p u => .ite rests_onPort (.refl u)
  have hpump : ∀ u : State, Rests u (pump u) := fun u =>
    ((Rests.trans rests_pumpPort rests_pumpPort).trans rests_onPort).trans rests_onPort
  have hroute : ∀ p (u : State), Rests u (reroute p u) := fun p u => by
    unfold reroute
    dsimp only
    split
    · exact .refl u
    · split
      · exact rests_onPort
      · exact Rests.trans rests_onPort rests_onPort
  have hnote : Rests s (notePath s) := .ite (.of_same rfl rfl rfl) (.refl s)
  exact ((((hnote.trans (hroute _ _)).trans (hroute _ _)).trans (hpump _)).trans (hlink _ _)).trans (hlink _ _)

/-! ### Queues and lanes -/

theorem rests_passVoid {q n : Nat} {s : State} : Rests s (passVoid q n s) := by
  induction n generalizing s with
  | zero => exact .refl s
  | succ n ih =>
    rw [passVoid]
    split
    · exact .refl s
    · exact .ite (ih.after (rests_updQ (fun _ hd => hd) fun _ _ he _ => he)) (.refl s)

theorem rests_passVoids {s : State} : Rests s (passVoids s) := .ite (.foldl fun _ _ => rests_passVoid) (.refl s)

theorem rests_raiseRequest {n : Nat} {f : Lane → Lane} {s : State} (h : ∀ x, (f x).drbg = x.drbg) :
    Rests s (raiseRequest n (updLane n f s)) := by
  have hord : ∀ u, Rests u (bumpOrd u) := fun _ => .of_same rfl rfl rfl
  exact (hord _).after (Rests.after (rests_updLane fun _ => rfl) (rests_updLane h))

theorem rests_laneDemand {n : Nat} {s : State} : Rests s (laneDemand n s) := by
  have hwait : Rests s (laneWait n s) := .of_falls outer_laneWait (.of_stk laneWait_stk) sealed_laneWait
  unfold laneDemand
  split
  · exact .refl s
  · exact .ite (.ite (rests_raiseRequest fun _ => rfl) (.ite hwait (.ite (rests_raiseRequest fun _ => rfl) (.refl s)))) (.refl s)

theorem rests_placeOrphans {s : State} : Rests s (placeOrphans s) := by
  refine .foldl fun u q => ?_
  split
  · exact .refl u
  · exact .foldl fun _ _ => rests_prPlace

theorem rests_placeRefresh {s : State} : Rests s (placeRefresh s) := by
  unfold placeRefresh
  refine .ite ?_ (.refl s)
  split
  · exact .refl s
  next n _ =>
    have hlane : Rests s { s with stk := { s.stk with cmpLane := some n } } := .of_same rfl rfl rfl
    have hadd : ∀ p u, Rests u (prAdd n p u) := fun _ _ => .of_falls outer_prAdd (.of_stk prAdd_stk) sealed_prAdd
    have hfree : ∀ u, Rests u (bumpFree u) := fun _ => .of_same rfl rfl rfl
    exact (hlane.trans (hadd _ _)).trans (hfree _)

theorem rests_settleLanes {s : State} : Rests s (settleLanes s) :=
  (Rests.trans rests_placeOrphans rests_placeRefresh).trans (.foldl fun _ _ => rests_laneDemand)

end Sys2Proof.Machine


/-! PROOFS. The fatal alarm's effects leave the node at rest, and clear every lane and operand memory; so does the end of every step. -/

namespace Sys2Proof.Machine

/-! ### Jobs and reads under the alarm -/

theorem rests_freezeQueues {s : State} : Rests s (freezeQueues s) := by
  refine .of_poise rfl (fun k d hd he => ⟨if d.frozen.isSome then d else { d with frozen := some (readPtr d, markPtr d) }, ?_, ?_⟩) ?_
  · show (s.stk.queues.map _)[k]? = _
    rw [List.getElem?_map, show s.stk.queues[k]? = some d from hd]
    rfl
  · split
    · exact he
    · exact he
  · refine fun ht => ⟨ht, fun q k hk x hx e he => ?_⟩
    change (s.stk.queues.map _)[q]? = some x at hx
    rw [List.getElem?_map] at hx
    obtain ⟨d, hd, rfl⟩ := Option.map_eq_some_iff.mp hx
    refine hk d hd e ?_
    split at he
    · exact he
    · exact he

theorem rests_voidVerdict {v : Nat} {k : Job} {s : State} : Rests s (voidVerdict v k s) :=
  .ite (Rests.after rests_dropUnsent (rests_updJob fun _ => rfl)) (.refl s)

theorem fatal_not_ok : (some stFatal : Option (BitVec 8)) ≠ some stOk := by decide

theorem rests_haltJobs {s : State} : Rests s (haltJobs s) := by
  refine .foldl fun t j => ?_
  refine .ite (.refl t) (.ite ?_ ?_)
  · exact Rests.after rests_voidVerdict (rests_stopJob (by decide))
  · exact (Rests.after rests_voidVerdict rests_dropUnsent).after (rests_updJob_stops fun _ => fatal_not_ok)

theorem rests_haltEngine {s : State} : Rests s (haltEngine s) := by
  unfold haltEngine
  split
  · exact .refl s
  · have hend : Rests s { s with lsp := { s.lsp with resp := none, cmd := none } } := .of_same rfl rfl rfl
    exact (hend.trans rests_kerfFlight).trans rests_kerfWords

theorem rests_haltWaits {q : Nat} {s : State} : Rests s (haltWaits q s) := by
  have hpeer : ∀ u, Rests u (peerSkipped u) := fun _ => .of_same rfl rfl rfl
  unfold haltWaits
  split
  · exact .refl s
  · refine .foldl fun t w => ?_
    dsimp only
    split
    · exact Rests.trans rests_dropWaiter rests_endRead
    · exact Rests.trans rests_dropWaiter rests_endRead
    · exact Rests.trans rests_dropWaiter (hpeer _)
    · exact rests_dropWaiter

theorem rests_haltPort {p : PortId} {s : State} : Rests s (haltPort p s) := Rests.trans rests_onPort rests_kerfFrames

theorem rests_haltQueue {q : Nat} {s : State} : Rests s (haltQueue q s) := by
  unfold haltQueue
  split
  · exact .refl s
  · exact .ite (.refl s) rests_kerfStack

/-! ### Units under the alarm -/

theorem rests_lanKatSettle {s : State} : Rests s (lanKatSettle s) := .ite (.refl s) (.of_same rfl rfl rfl)

theorem haltLane_drbg {l : Lane} : (haltLane l).drbg = Drbg.zero := by
  unfold haltLane
  split <;> rfl

theorem haltedLanes_zero {s : State} : ∀ l ∈ s.lan.lanes.map haltLane, l.drbg = Drbg.zero :=
  List.forall_mem_map.mpr fun _ _ => haltLane_drbg

theorem lanKatSettle_lanes {s : State} : (lanKatSettle s).lan.lanes = s.lan.lanes := by
  unfold lanKatSettle
  split <;> rfl

theorem haltLanes_zero {s : State} : ∀ l ∈ (haltLanes s).lan.lanes, l.drbg = Drbg.zero := by
  show ∀ l ∈ (lanKatSettle _).lan.lanes, l.drbg = Drbg.zero
  rw [lanKatSettle_lanes]
  exact haltedLanes_zero

theorem rests_haltLanes {s : State} : Rests s (haltLanes s) := by
  have hlanes : Rests s { s with lan := { s.lan with lanes := s.lan.lanes.map haltLane } } :=
    ⟨rfl, rfl, rfl, rfl, fun _ => haltedLanes_zero, fun h => h, hushed_of_queues rfl, .of_same rfl rfl⟩
  exact (hlanes.trans rests_lanKatSettle).trans rests_books

theorem rests_bumpDisc {why : CreditKerf} {b : Nat} {s : State} : Rests s (bumpDisc why b s) := by
  unfold bumpDisc
  split <;> exact .of_same rfl rfl rfl

theorem rests_haltPlane {why : CreditKerf} {b : Nat} {s : State} : Rests s (haltPlane why b s) := by
  have hplane : ∀ f u, Rests u (updPlane b f u) := fun _ _ => .of_same rfl rfl rfl
  have hblock : ∀ u, Rests u (kerfBlock why b u) := fun u => by
    unfold kerfBlock
    split
    · exact .refl u
    · exact ((hplane _ _).trans rests_books).trans rests_bumpDisc
  have hseed : ∀ u, Rests u (kerfSeed why b u) := fun u => by
    unfold kerfSeed
    split
    · exact .refl u
    · exact ((hplane _ _).trans rests_books).trans rests_bumpDisc
  unfold haltPlane
  split
  · exact .refl s
  · exact .ite (.refl s) (((hblock _).trans (hseed _)).trans (hplane _ _))

theorem rests_haltPlanes {s : State} : Rests s (haltPlanes s) := .foldl fun _ _ => rests_haltPlane

theorem rests_bneKatSettle {s : State} : Rests s (bneKatSettle s) := .ite (.refl s) (.of_same rfl rfl rfl)

theorem rests_haltBenches {s : State} : Rests s (haltBenches s) := by
  have hclear : Rests s { s with bne := { s.bne with benches := s.bne.benches.map (fun b =>
      { b with st := .halt, mem := [], job := none, kats := [], relPend := false }) } } :=
    ⟨rfl, rfl, rfl, rfl, fun h => h, fun _ => List.forall_mem_map.mpr fun _ _ => rfl, hushed_of_queues rfl, .of_same rfl rfl⟩
  exact hclear.trans rests_bneKatSettle

theorem rests_xipHalt {s : State} : Rests s (xipHalt s) := by
  have hreply : ∀ o u, Rests u (xipReply o 8 [] u) := fun o u => by
    unfold xipReply
    split
    · exact rests_answer
    · exact rests_readFailed
    · exact .of_same rfl rfl rfl
  have hops : ∀ l, Rests s { s with lsp := { s.lsp with ops := l } } := fun _ => .of_same rfl rfl rfl
  exact (hops _).trans (.foldl fun _ _ => hreply _ _)

theorem rests_alarmTx {s : State} : Rests s (alarmTx s) := .ite (.of_same rfl rfl rfl) (.ite (.of_same rfl rfl rfl) (.refl s))

/-! ### The alarm, and the end of a step -/

/-- The alarm's effects up to the lanes. -/
def alarmBegun (s : State) : State :=
  let s1 := haltJobs (freezeQueues { s with hlt := { s.hlt with alarm := false } })
  let s2 := (List.range 16).foldl (fun t q => haltWaits q t) (haltEngine (haltParser s1))
  (List.range 16).foldl (fun t q => haltQueue q t) (haltPort .b (haltPort .a s2))

/-- The alarm's effects from the lanes on. -/
def alarmEnded (s : State) : State :=
  let s4 := haltBenches (haltPlanes (haltLanes s))
  alarmTx (xipHalt { s4 with stk := { s4.stk with clearing := true, building := none, cmpLane := none, cmpAcc := none } })

theorem alarmSettle_of_alarm {s : State} (h : s.hlt.alarm = true) : alarmSettle s = alarmEnded (alarmBegun s) := by
  unfold alarmSettle alarmEnded alarmBegun
  simp only [h, Bool.not_true, Bool.false_eq_true, if_false]

theorem rests_alarmBegun {s : State} : Rests s (alarmBegun s) := by
  have hquiet : Rests s { s with hlt := { s.hlt with alarm := false } } := .of_same rfl rfl rfl
  have hparser : ∀ u, Rests u (haltParser u) := fun _ => .of_same rfl rfl rfl
  have hjobs : Rests s (haltJobs (freezeQueues { s with hlt := { s.hlt with alarm := false } })) :=
    (hquiet.trans rests_freezeQueues).trans rests_haltJobs
  have hwaits : ∀ u, Rests u ((List.range 16).foldl (fun t q => haltWaits q t) (haltEngine (haltParser u))) := fun u =>
    ((hparser u).trans rests_haltEngine).trans (.foldl fun _ _ => rests_haltWaits)
  have hqueues : ∀ u, Rests u ((List.range 16).foldl (fun t q => haltQueue q t) (haltPort .b (haltPort .a u))) := fun u =>
    (Rests.trans rests_haltPort rests_haltPort).trans (.foldl fun _ _ => rests_haltQueue)
  exact (hjobs.trans (hwaits _)).trans (hqueues _)

/-- What follows the lanes under the alarm. -/
theorem rests_alarmEnded_halted {s : State} : Rests (haltLanes s) (alarmEnded s) := by
  have hclear : ∀ u : State, Rests u { u with stk := { u.stk with clearing := true, building := none, cmpLane := none, cmpAcc := none } } :=
    fun _ => .of_same rfl rfl rfl
  exact (((Rests.trans rests_haltPlanes rests_haltBenches).trans (hclear _)).trans rests_xipHalt).trans rests_alarmTx

theorem rests_alarmSettle {s : State} : Rests s (alarmSettle s) := by
  cases h : s.hlt.alarm with
  | false =>
    rw [alarmSettle, h]
    exact .refl s
  | true =>
    rw [alarmSettle_of_alarm h]
    exact (Rests.trans rests_alarmBegun rests_haltLanes).trans rests_alarmEnded_halted

/-- The end of a step after the alarm. -/
theorem rests_afterAlarm {s : State} : Rests (alarmSettle s) (finishUp s) := by
  have hparser : ∀ u, Rests u (syncParser u) := fun _ => .of_same rfl rfl rfl
  have hjobs : ∀ u, Rests u (sweepRecords (idleTouch (settleJobs u))) := fun u =>
    (Rests.trans rests_settleJobs rests_idleTouch).trans rests_sweepRecords
  have hhost : ∀ u, Rests u (dselSync (xipStart (lspFill (syncParser u)))) := fun u =>
    (((hparser u).trans rests_lspFill).trans rests_xipStart).trans rests_dselSync
  have hlanes : ∀ u, Rests u (settleLanes (passVoids (settleRing u))) := fun u =>
    (Rests.trans rests_settleRing rests_passVoids).trans rests_settleLanes
  exact ((hjobs _).trans (hhost _)).trans (hlanes _)

/-- The end of a step leaves the node at rest. -/
theorem rests_finishUp {s : State} : Rests s (finishUp s) := Rests.trans rests_alarmSettle rests_afterAlarm

end Sys2Proof.Machine


/-! PROOFS. What a flush of a queue and a write of STK_TAG_SEL miss in states that no run reaches (R135, R145). -/

namespace Sys2Proof.Machine

/-- The control core's access. -/
def coreAccess : Acc := ⟨.core, 0xFFF, 0, false⟩

/-! ### A flush that meets a job's consumer twice -/

/-- A tag of lane 0 before its first seed. -/
def firstTag : Tag := ⟨0, 0, false, 0⟩

/-- A consumer of queue 15 that waits for one word. -/
def consumer (key job : Nat) (held : List AWord) : Waiter := ⟨key, 5, 1, .job job, 0, 0, 0, 0, false, false, false, held⟩

/-- Queue 15 with one word allotted to consumer 9, and with two consumers 9: one waits for job 7 that a consumer waits for already, the
other holds the word. -/
def knotted : DQueue :=
  { DQueue.atReset false 15 with
    ents := [⟨0, firstTag, .allot 9⟩]
    waits := [consumer 7 7 [], consumer 9 7 [], consumer 9 8 [⟨0, firstTag, some (15, 0)⟩]] }

/-- After reset with that queue, and with job 7 waiting. -/
def knot : State :=
  { State.reset with
    job := { State.reset.job with jobs := [
      { newJob State.reset 5 0x0100001000000001 [0] .portA with id := 7, accepted := true, phase := .waiting }] }
    stk := { State.reset.stk with queues := upd State.reset.stk.queues 15 (fun _ => knotted) } }

theorem knot_reads : queueOf knot 15 = some knotted ∧ mayWrite coreAccess (0x8000 + 64 * 15) knot = true := by decide +kernel

/-- The state after the flush of queue 15. -/
def afterFlush : State := act (rowWrite coreAccess (15 < 16) (0x8000 + 64 * 15) (1 ||| 0x80)) knot

theorem exec_flush_knot : exec (.queueFlush coreAccess 15 1) knot = .next afterFlush := rfl

/-- The flush ends job 7 at the first consumer, whose end puts the word of the other one back. -/
theorem afterFlush_word : (queueOf afterFlush 15).map (fun d => d.ents.any (fun e => decide (e.st = .res))) = some true := by decide +kernel

/-- Refutes O33: a flush of a queue on which one consumer number stands twice leaves a word to allot. No number is given twice while the
node runs, but the statement speaks of every state. -/
theorem not_queueControl : ¬ Obligations.QueueControl := by
  intro h
  obtain ⟨hq, hw⟩ := knot_reads
  obtain ⟨-, -, u, hu, x, hx, hdrained⟩ := h knot coreAccess 15 1 knotted (by decide) hq hw
  obtain ⟨hents, hwaits⟩ := hdrained (.inl rfl)
  obtain ⟨y, hy, hempty⟩ := rests_finishUp.queues 15 x hx ⟨hents, fun w hin => by rw [hwaits] at hin; cases hin⟩
  have hafter : afterFlush = finishUp u := Host.Outcome.next.inj (exec_flush_knot.symm.trans hu)
  have hword := afterFlush_word
  rw [hafter, hy] at hword
  obtain ⟨e, he, hres⟩ := List.any_eq_true.mp (Option.some.inj hword)
  exact hempty.1 e he (of_decide_eq_true hres)

/-! ### The tag of a lane that is not there -/

/-- Queue 0 with a word of lane 128. -/
def stranger : DQueue := { DQueue.atReset false 0 with ents := [⟨0, { firstTag with lane := 128 }, .res⟩] }

/-- After reset with that queue. -/
def strange : State := { State.reset with stk := { State.reset.stk with queues := upd State.reset.stk.queues 0 (fun _ => stranger) } }

theorem strange_reads : queueOf strange 0 = some stranger ∧ mayWrite coreAccess 0x8440 strange = true := by decide +kernel

/-- The state in which STK_TAG_SEL has captured the tag. -/
def captured : State := writeAccess coreAccess 0x8440 [0] strange

theorem exec_capture : exec (.stkTagSelWrite coreAccess 0) strange = .next (finishUp captured) := rfl

/-- The lane's number runs into the mark that a segment is there. -/
theorem captured_mark : bitAt captured.stk.tagInfo 31 = false := by decide +kernel

/-- Refutes O34: the tag of a segment of lane 128 carries into the bit that says a segment is there. No node has that many lanes, but the
statement speaks of every state. -/
theorem not_queueConfiguration : ¬ Obligations.QueueConfiguration := by
  intro h
  obtain ⟨hq, hw⟩ := strange_reads
  obtain ⟨u, hu, -, -, hmark, -⟩ := (h.1 strange coreAccess 0 0 stranger (by decide) hq).2 hw
  have hafter : finishUp captured = finishUp u := Host.Outcome.next.inj (exec_capture.symm.trans hu)
  have htag : u.stk.tagInfo = captured.stk.tagInfo := by
    rw [← rests_finishUp.tag, ← hafter, rests_finishUp.tag]
  rw [htag, captured_mark] at hmark
  exact absurd hmark (by decide +kernel)

end Sys2Proof.Machine


/-! PROOFS. Tamper hold and the release of the internal reset (R331, R348, R349, R358). -/

namespace Sys2Proof.Machine

/-! ### The alarm that tamper hold raises -/

theorem hlt_foldl {α : Type} {g : State → α → State} {l : List α} {s : State} (h : ∀ u x, (g u x).hlt = u.hlt) :
    (l.foldl g s).hlt = s.hlt :=
  foldl_keeps (P := fun t => t.hlt = s.hlt) (fun t x ht => (h t x).trans ht) rfl

theorem freeHeld_hlt {key : Nat} {s : State} : (freeHeld key s).hlt = s.hlt := by
  have hport : ∀ (p : PortId) (t : State), (if (portAt t p).heldKeys.contains key then
      giveCredit p 1 (onPort p (fun x => { x with heldKeys := x.heldKeys.filter (fun k => decide (k ≠ key)) }) t) else t).hlt = t.hlt :=
    fun p t => by split <;> rfl
  exact (hport _ _).trans (hport _ _)

theorem tamperPort_hlt {p : PortId} {s : State} : (tamperPort p s).hlt = s.hlt := by
  have hkerf : ∀ refs n u, (kerfFlight .halt refs n u).hlt = u.hlt := fun refs n u => (congrArg State.hlt outer_kerfFlight :)
  have hbeacon : ∀ id u, (endBeacon id .forced u).hlt = u.hlt := fun id u => (congrArg State.hlt outer_endBeacon :)
  refine (hlt_foldl fun t f => ?_).trans onPort_hlt
  split
  · exact freeHeld_hlt.trans (hkerf _ _ _)
  · exact (hbeacon _ _).trans (hkerf _ _ _)
  · exact hkerf _ _ _
  · rfl

/-- Tamper hold has raised the alarm, and everything that it zeroizes outside the settings and the sources is clear. -/
structure Wiped (s : State) : Prop where
  fatal : s.hlt.fatal = true
  cause : s.hlt.fatalCause = 7
  key : s.stk.maskKey = 0
  lanes : ∀ l ∈ s.lan.lanes, l.drbg = Drbg.zero
  mems : ∀ b ∈ s.bne.benches, b.mem = []

theorem Wiped.rests {s t : State} (h : Wiped s) (g : Rests s t) : Wiped t :=
  ⟨g.fatal.trans h.fatal, g.cause.trans h.cause, g.key.trans h.key, g.lanes h.lanes, g.mems h.mems⟩

theorem wiped_tamperStopped {s : State} (h : s.hlt.fatal = false) : Wiped (raiseFatal 7 0 (tamperStopped s)) := by
  have hfatal : (tamperStopped s).hlt.fatal = false := by
    show (tamperPort .b (tamperPort .a s)).hlt.fatal = false
    rw [tamperPort_hlt, tamperPort_hlt, h]
  have hraise : raiseFatal 7 0 (tamperStopped s) = post 0x0F 0 7 { tamperStopped s with
      hlt := { (tamperStopped s).hlt with fatal := true, fatalCause := 7, fatalIdx := 0, alarm := true } } := by
    unfold raiseFatal
    rw [hfatal]
    rfl
  rw [hraise]
  refine Wiped.rests ?_ rests_post
  exact ⟨rfl, rfl, rfl, List.forall_mem_map.mpr fun _ _ => rfl, List.forall_mem_map.mpr fun _ _ => rfl⟩

theorem rests_retireBoard {b cause : Nat} {s : State} (h : s.hlt.fatal = true) : Rests s (retireBoard b cause s) := by
  have hsum : ∀ f, Rests s (setSum 3 (updGrn f s)) := fun _ => .of_same rfl rfl rfl
  have hplane : ∀ f, Rests s (haltPlane .retire b (post 0x03 b cause (setSum 3 (updGrn f s)))) := fun f =>
    ((hsum f).trans rests_post).trans rests_haltPlane
  have hraise : ∀ u : State, u.hlt.fatal = true → raiseFatal 0x01 b u = u := fun u hu => if_pos hu
  unfold retireBoard
  refine .ite (.refl s) ?_
  dsimp only
  rw [hraise _ ((hplane _).fatal.trans h), ite_self]
  exact hplane _

theorem wiped_tamperAct {s : State} (ht : s.sys.tamper = false) (hf : s.hlt.fatal = false) : Wiped (tamperAct s) := by
  have hhalted : Wiped ((List.range (nBoards (tamperStopped s))).foldl (fun t b => haltPlane .halt b t)
      (raiseFatal 7 0 (tamperStopped s))) := (wiped_tamperStopped hf).rests (.foldl fun _ _ => rests_haltPlane)
  rw [tamperAct_eq ht]
  exact foldl_keeps (P := Wiped) (fun t b h => h.rests (rests_retireBoard h.fatal)) hhalted

/-! ### The sources that it stops -/

/-- The sources and the capture buffer. -/
def sourceFace (s : State) : List Source × List Source × Mem := (s.grn.cells, s.grn.wits, s.grn.cap.buf)

theorem sourceFace_of_front {s t : State} (h : front t = front s) : sourceFace t = sourceFace s :=
  congrArg (fun x => (x.2.cells, x.2.wits, x.2.cap.buf)) h

theorem sourceFace_retireBoard {b cause : Nat} {s : State} : sourceFace (retireBoard b cause s) = sourceFace s := by
  have hboards : sourceFace (post 0x03 b cause (setSum 3 (updGrn (fun g =>
      { g with boards := upd g.boards b (fun _ => ⟨.retired, BitVec.ofNat 3 cause⟩) }) s))) = sourceFace s :=
    (sourceFace_of_front front_post).trans rfl
  unfold retireBoard
  split
  · rfl
  · dsimp only
    split
    · exact ((sourceFace_of_front front_raiseFatal).trans (sourceFace_of_front front_haltPlane)).trans hboards
    · exact (sourceFace_of_front front_haltPlane).trans hboards

theorem sourceFace_tamperAct {s : State} (h : s.sys.tamper = false) : sourceFace (tamperAct s) = sourceFace (tamperStop s) := by
  have hports : front (tamperPort .b (tamperPort .a s)) = front s := front_tamperPort.trans front_tamperPort
  have hgrn : (tamperPort .b (tamperPort .a s)).grn = s.grn := (congrArg Prod.snd hports :)
  rw [tamperAct_eq h]
  have hretire : ∀ (l : List Nat) (u : State), sourceFace (l.foldl (fun t b => retireBoard b 1 t) u) = sourceFace u := fun l u =>
    foldl_keeps (P := fun t => sourceFace t = sourceFace u) (fun _ _ ht => sourceFace_retireBoard.trans ht) rfl
  rw [hretire, sourceFace_of_front (front_foldl fun _ _ => front_haltPlane), sourceFace_of_front front_raiseFatal]
  unfold sourceFace tamperStopped tamperStop
  rw [hgrn]

theorem tamperAct_sources {s : State} (h : s.sys.tamper = false) :
    (tamperAct s).grn.cap.buf = [] ∧ ∀ y ∈ allSources (tamperAct s).grn, y.st = .stopped := by
  have hface := sourceFace_tamperAct h
  have hcells : (tamperAct s).grn.cells = s.grn.cells.map (fun x => { x.leave with st := .stopped }) := (congrArg (·.1) hface :)
  have hwits : (tamperAct s).grn.wits = s.grn.wits.map (fun x => { x.leave with st := .stopped }) := (congrArg (·.2.1) hface :)
  refine ⟨(congrArg (·.2.2) hface :), fun y hy => ?_⟩
  rw [allSources, hcells, hwits, ← List.map_append] at hy
  obtain ⟨x, -, rfl⟩ := List.mem_map.mp hy
  rfl

/-! ### The obligations -/

/-- A step in which tamper hold begins. -/
theorem finishUp_tamperAct_settings {s : State} (h : s.sys.tamper = false) :
    settings (finishUp (tamperAct s)) = heldSettings (settings s) := settings_finishUp.trans (settings_tamperAct h)

/-- What such settings show of the state. -/
theorem held_shows {t : State} {y : Settings} (h : settings t = heldSettings y) :
    t.sys.tamper = true ∧ t.sys.armed = [] ∧ t.mbx.data = List.replicate 8 0 ∧ t.core.ram = [] ∧
      t.sil.stage = (if y.sys.bootDone then y.sil.stage else 8) ∧ t.sys.bootDone = y.sys.bootDone :=
  ⟨(congrArg (fun x : Settings => x.sys.tamper) h :), (congrArg (fun x : Settings => x.sys.armed) h :),
    (congrArg (fun x : Settings => x.mbx.data) h :), (congrArg (fun x : Settings => x.ram) h :),
    (congrArg (fun x : Settings => x.sil.stage) h :), (congrArg (fun x : Settings => x.sys.bootDone) h :)⟩

/-- Settles O15: the settings and the sources are as tamper hold makes them, and what else it clears stays clear to the end of the step. -/
theorem tamperHold : Obligations.TamperHold := by
  intro s ns hup
  have hrun := running_of_upAnd hup
  refine ⟨fun hns ht hf => ?_, fun hlo hhi ht => ?_, fun hns => next_of_act_same hrun exec_tamper ?_⟩
  · refine answers_of_act exec_tamper hrun ?_
    have hpulse : tamperPulse ns s = tamperAct s := if_pos hns
    obtain ⟨hhold, harmed, hdata, hram, hstage, -⟩ := held_shows (finishUp_tamperAct_settings ht)
    have hwiped := (wiped_tamperAct ht hf).rests rests_finishUp
    obtain ⟨hbuf, hsrc⟩ := tamperAct_sources ht
    rw [hpulse]
    exact ⟨hhold, hwiped.fatal, hwiped.cause, hram, harmed, hdata, by rw [finishUp_grn, hbuf], hwiped.key, hwiped.lanes, hwiped.mems, hstage,
      by rw [finishUp_grn]; exact hsrc⟩
  · refine answers_of_act exec_tamper hrun ?_
    have hpulse : tamperPulse ns s = if Config.tamperCounts s.clk.free then tamperAct (bumpFree s) else bumpFree s :=
      (if_neg (Nat.not_le.mpr hhi)).trans (if_neg (Nat.not_lt.mpr hlo))
    rw [hpulse, finishUp_sys]
    cases Config.tamperCounts s.clk.free with
    | true => exact (held_shows (settings_tamperAct (s := bumpFree s) ht)).1
    | false => exact ht
  · exact (if_neg (by omega)).trans (if_pos hns)

/-- Settles O13: a node that is released goes on as it is with TAMPER_N high, and in tamper hold with it low. -/
theorem internalResetRelease : Obligations.InternalResetRelease := by
  refine fun s x => ⟨fun hphase hjtag htest => ?_, fun hno => ?_⟩
  · have hrel : releases x s := ⟨hphase, hjtag, htest⟩
    refine ⟨releaseStep x s, rfl, ?_⟩
    cases ht : x.tamperN with
    | true =>
      rw [releaseStep_of_tamperN hrel ht]
      have hstage : ∀ t u : State, settings t = settings u → t.sil.stage = u.sil.stage := fun t u h =>
        (congrArg (fun x : Settings => x.sil.stage) h :)
      have hfatal := (rests_finishUp (s := releasedState x s)).fatal
      refine ⟨?_, ?_, ?_, ?_, ?_, ?_, ?_, nofun⟩
      · rw [running, finishUp_pwr]
        rfl
      · rw [finishUp_pwr]
        rfl
      · rw [finishUp_pwr]
        rfl
      · rw [finishUp_sys]
        rfl
      · rw [finishUp_sys]
        rfl
      · exact hfatal
      · exact hstage _ _ settings_finishUp
    | false =>
      rw [releaseStep_of_not_tamperN hrel ht]
      have hclear : (releasedState x s).sys.tamper = false := rfl
      obtain ⟨hhold, -, -, -, hstage, hboot⟩ := held_shows (finishUp_tamperAct_settings hclear)
      have hwiped := (wiped_tamperAct hclear rfl).rests rests_finishUp
      obtain ⟨-, hsrc⟩ := tamperAct_sources hclear
      refine ⟨?_, ?_, ?_, ?_, ?_, hwiped.fatal, ?_, fun _ => ⟨hwiped.cause, by rw [finishUp_grn]; exact hsrc⟩⟩
      · rw [running, finishUp_pwr, tamperAct_pwr]
        rfl
      · rw [finishUp_pwr, tamperAct_pwr]
        rfl
      · rw [finishUp_pwr, tamperAct_pwr]
        rfl
      · exact hboot
      · exact hhold
      · exact hstage
  · have hstay : ¬ releases x s := fun ⟨hphase, hjtag, htest⟩ => by
      obtain h | h | h := hno
      · exact h hphase
      · exact Bool.false_ne_true (hjtag.symm.trans h)
      · exact Bool.false_ne_true (htest.symm.trans h)
    exact congrArg Host.Outcome.next (releaseStep_of_not_releases hstay)

end Sys2Proof.Machine


/-! PROOFS. What the offer of a segment does besides in a state that no run reaches: its lane leaves service, a job ends with that, and a word
that the job holds comes back (R116, R172). -/

namespace Sys2Proof.Machine

/-- Queue 0 with one word allotted to job 8, which holds it and waits for more. -/
def pledged : DQueue :=
  { DQueue.atReset false 0 with
    ents := [⟨7, firstTag, .allot 8⟩], wptr := 8, waits := [consumer 8 8 [⟨0, firstTag, some (0, 7)⟩]] }

/-- Lane 0 with a finished segment of three words for queue 0; it is disabled and leaves service at its next boundary. -/
def leaving : Lane := { Lane.atReset with st := .run, offPend := true, seg := some ⟨[1, 2, 3], firstTag, 0⟩ }

/-- After reset with that lane and that queue; job 8 is a RESEED that lacks only lane 0, and has been given words. -/
def parting : State :=
  { State.reset with
    sil := { State.reset.sil with delivReady := true }
    job := { State.reset.job with jobs := [
      { newJob State.reset 5 0x0900000000000001 [0] .portA with
        id := 8, accepted := true, phase := .running, mask := 1, grants := [[]] }] }
    lan := { State.reset.lan with lanes := upd State.reset.lan.lanes 0 (fun _ => leaving) }
    stk := { State.reset.stk with queues := upd State.reset.stk.queues 0 (fun _ => pledged) } }

theorem parting_reads : upAnd parting = true ∧ laneOf parting 0 = some leaving ∧ queueOf parting 0 = some pledged ∧
    offerTo parting 0 leaving.nextQ 3 = some (0, [8, 9, 10], 11) := by decide +kernel

/-- The state after the offer of lane 0's segment. -/
def afterParting : State := act (segmentOffer 0) parting

theorem exec_offer_parting : exec (.segmentOffer 0) parting = .next afterParting := rfl

theorem afterParting_ends :
    (afterParting.evt.queue.isEmpty && afterParting.job.jobs.all (fun j => decide (j.stop = some stOk))) = true := by decide +kernel

theorem afterParting_word : (queueOf afterParting 0).map (fun d => d.ents.any (fun e => decide (e.slot = 7) && decide (e.st = .res))) =
    some true := by decide +kernel

theorem finished_afterParting : Finished afterParting := by
  obtain ⟨hevt, hjobs⟩ := Bool.and_eq_true_iff.mp afterParting_ends
  exact ⟨List.isEmpty_iff.mp hevt, fun j hj => of_decide_eq_true (List.all_eq_true.mp hjobs j hj)⟩

theorem not_gone_afterParting : ¬ Gone 0 7 afterParting := fun h => by
  obtain ⟨d, hd, hany⟩ := Option.map_eq_some_iff.mp afterParting_word
  obtain ⟨e, he, hres⟩ := List.any_eq_true.mp hany
  obtain ⟨hslot, hst⟩ := Bool.and_eq_true_iff.mp hres
  exact h d hd e he (of_decide_eq_true hslot) (of_decide_eq_true hst)

/-- Refutes O31: a queue takes a segment whose lane leaves service at that boundary; the RESEED that lacked only that lane ends, and the word
that it holds in the queue comes back. No RESEED holds words while the node runs, but the statement speaks of every state. -/
theorem not_mixAndSegmentOffer : ¬ Obligations.MixAndSegmentOffer := by
  intro h
  obtain ⟨hup, hlane, hqueue, hoffer⟩ := parting_reads
  obtain ⟨-, hfull, -⟩ := h parting 0 leaving hup hlane
  obtain ⟨u, hu, -, hents, -⟩ := hfull ⟨[1, 2, 3], firstTag, 0⟩ 0 [8, 9, 10] 11 rfl hoffer
  have hafter : afterParting = finishUp u := Host.Outcome.next.inj (exec_offer_parting.symm.trans hu)
  have hgone : Gone 0 7 u := fun d hd e he hslot => by
    rw [hd, hqueue] at hents
    have hlist : d.ents = _ := congrArg Prod.snd (Option.some.inj hents)
    rw [hlist] at he
    obtain he | he := List.mem_append.mp he
    · rw [List.mem_singleton.mp he]
      decide
    · obtain ⟨k, hk, rfl⟩ := List.mem_map.mp he
      cases (show k = 7 from hslot)
      exact absurd hk (by decide)
  refine not_gone_afterParting ?_
  rw [hafter]
  exact (rests_finishUp.words (hafter ▸ finished_afterParting)).2 0 7 hgone

end Sys2Proof.Machine


/-! PROOFS. The canonical form of every memory, over the record updates, the conditional effects and the folds from which commands are
made, and over the few operations that write a memory. -/

namespace Sys2Proof.Machine

/-! ### The form -/

/-- Every memory of the node has its canonical form. -/
def Canonical (s : State) : Prop :=
  memWf s.stk.array = true ∧ memWf s.grn.cap.buf = true ∧ memWf s.core.ram = true ∧ ∀ b ∈ s.bne.benches, memWf b.mem = true

theorem canonical_iff {s : State} : Canonical s ↔ memsOk s = true := by
  simp only [Canonical, memsOk, Bool.and_eq_true, List.all_eq_true, and_assoc]

/-- An update of the node that leaves the memories. -/
theorem Canonical.frame {s : State} {pwr : Pwr} {clk : Clk} {sys : Sys} {sil : Sil} {cal : Cal} {mbx : Mbx} {core : CoreIo} {grn : Grn}
    {hlt : Hlt} {pln : Pln} {tal : Tal} {lan : Lan} {stk : Stk} {job : JobEng} {evt : Evt} {bne : Bne} {ring : Ring} {tim : Tim} {lsp : Lsp}
    (h : Canonical s) (e : (stk.array, grn.cap.buf, core.ram, bne.benches.map (·.mem)) =
      (s.stk.array, s.grn.cap.buf, s.core.ram, s.bne.benches.map (·.mem))) :
    Canonical ⟨pwr, clk, sys, sil, cal, mbx, core, grn, hlt, pln, tal, lan, stk, job, evt, bne, ring, tim, lsp, s.pending⟩ := by
  obtain ⟨harray, hbuf, hram, hmems⟩ := h
  have ha : stk.array = s.stk.array := (congrArg (·.1) e :)
  have hc : grn.cap.buf = s.grn.cap.buf := (congrArg (·.2.1) e :)
  have hr : core.ram = s.core.ram := (congrArg (·.2.2.1) e :)
  have hm : bne.benches.map (·.mem) = s.bne.benches.map (·.mem) := (congrArg (·.2.2.2) e :)
  refine ⟨ha ▸ harray, hc ▸ hbuf, hr ▸ hram, fun b hb => ?_⟩
  have hin : b.mem ∈ s.bne.benches.map (·.mem) := hm ▸ List.mem_map_of_mem hb
  obtain ⟨c, hc, hbc⟩ := List.mem_map.mp hin
  exact hbc ▸ hmems c hc

theorem Canonical.ite {c : Prop} [Decidable c] {s t : State} (h : Canonical s) (g : Canonical t) : Canonical (if c then s else t) := by
  split
  · exact h
  · exact g

theorem Canonical.onlyIf {c : Bool} {f : State → State} {s : State} (h : Canonical s) (hf : ∀ u, Canonical u → Canonical (f u)) :
    Canonical (onlyIf c f s) := .ite (hf s h) h

theorem Canonical.foldl {α : Type} {g : State → α → State} {l : List α} {s : State} (h : Canonical s)
    (hg : ∀ u x, Canonical u → Canonical (g u x)) : Canonical (l.foldl g s) :=
  foldl_keeps (P := Canonical) (fun t x ht => hg t x ht) h

theorem Canonical.foldr {α : Type} {g : α → State → State} {l : List α} {s : State} (h : Canonical s)
    (hg : ∀ x u, Canonical u → Canonical (g x u)) : Canonical (l.foldr g s) := by
  induction l with
  | nil => exact h
  | cons x xs ih => exact hg x _ ih

/-! ### What writes a memory -/

/-- A bench changes, and its operand memory keeps the form. -/
theorem canonical_updBench {n : Nat} {f : Bench → Bench} {s : State} (hf : ∀ b, memWf b.mem = true → memWf (f b).mem = true)
    (h : Canonical s) : Canonical (updBench n f s) := by
  obtain ⟨harray, hbuf, hram, hmems⟩ := h
  refine ⟨harray, hbuf, hram, fun b hb => ?_⟩
  obtain ⟨k, hk⟩ := List.mem_iff_getElem?.mp hb
  have hb' : (upd s.bne.benches n f)[k]? = some b := hk
  by_cases hn : n = k
  · rw [hn, getElem?_upd_self] at hb'
    obtain ⟨c, hc, rfl⟩ := Option.map_eq_some_iff.mp hb'
    exact hf c (hmems c (List.mem_of_getElem? hc))
  · rw [getElem?_upd_ne hn] at hb'
    exact hmems b (List.mem_of_getElem? hb')

/-- The benches change together, and their operand memories keep the form. -/
theorem canonical_benches {f : Bench → Bench} {s : State} (hf : ∀ b, memWf b.mem = true → memWf (f b).mem = true) (h : Canonical s) :
    Canonical { s with bne := { s.bne with benches := s.bne.benches.map f } } := by
  obtain ⟨harray, hbuf, hram, hmems⟩ := h
  refine ⟨harray, hbuf, hram, List.forall_mem_map.mpr fun b hb => hf b (hmems b hb)⟩

/-- The GRN block changes, and the capture buffer keeps the form. -/
theorem canonical_updGrn {f : Grn → Grn} {s : State} (hf : memWf s.grn.cap.buf = true → memWf (f s.grn).cap.buf = true)
    (h : Canonical s) : Canonical (updGrn f s) := by
  obtain ⟨harray, hbuf, hram, hmems⟩ := h
  exact ⟨harray, hf hbuf, hram, hmems⟩

theorem canonical_updSrc {code : Nat} {f : Source → Source} {s : State} (h : Canonical s) : Canonical (updGrn (updSrc code f) s) :=
  canonical_updGrn (fun hbuf => by rw [updSrc_cap]; exact hbuf) h

theorem canonical_arrayWrite {a : Nat} {w : Word} {s : State} (h : Canonical s) : Canonical (arrayWrite a w s) := by
  obtain ⟨harray, hbuf, hram, hmems⟩ := h
  exact ⟨memWf_memWrite harray, hbuf, hram, hmems⟩

theorem canonical_clearDone {s : State} (h : Canonical s) : Canonical (clearDone s) := by
  obtain ⟨-, hbuf, hram, hmems⟩ := id h
  exact .ite ⟨rfl, hbuf, hram, hmems⟩ h

end Sys2Proof.Machine


/-! PROOFS. The canonical form of every memory over the operations of sources, planes, calibration, words and the stack array. -/

namespace Sys2Proof.Machine

/-! ### Counters, events and the alarm -/

theorem canonical_bumpOrd {s : State} (h : Canonical s) : Canonical (bumpOrd s) := .frame h rfl

theorem canonical_bumpFree {s : State} (h : Canonical s) : Canonical (bumpFree s) := .frame h rfl

theorem canonical_postEvent {code idx detail : Nat} {extra : Word} {s : State} (h : Canonical s) :
    Canonical (postEvent code idx detail extra s) := .frame h rfl

theorem canonical_post {code idx detail : Nat} {s : State} (h : Canonical s) : Canonical (post code idx detail s) := canonical_postEvent h

theorem canonical_updBooks {f : Books → Books} {s : State} (h : Canonical s) : Canonical (updBooks f s) := .frame h rfl

theorem canonical_raiseFatal {cause idx : Nat} {s : State} (h : Canonical s) : Canonical (raiseFatal cause idx s) :=
  .ite h (canonical_post (.frame h rfl))

theorem canonical_takeSnapshot {s : State} (h : Canonical s) : Canonical (takeSnapshot s) :=
  .ite (.frame h rfl) (canonical_raiseFatal (.frame h rfl))

/-! ### Planes -/

theorem canonical_updPlane {b : Nat} {f : Plane → Plane} {s : State} (h : Canonical s) : Canonical (updPlane b f s) := .frame h rfl

theorem canonical_closeBlock {b : Nat} {s : State} (h : Canonical s) : Canonical (closeBlock b s) :=
  canonical_bumpOrd (canonical_updPlane h)

theorem canonical_blockCheck {b : Nat} {s : State} (h : Canonical s) : Canonical (blockCheck b s) := by
  unfold blockCheck
  split
  · exact .ite (.ite (canonical_closeBlock h) (canonical_updPlane h)) h
  · exact h

theorem canonical_takeCellBit {b pos : Nat} {bit : Bool} {s : State} (h : Canonical s) : Canonical (takeCellBit b pos bit s) :=
  canonical_blockCheck (canonical_updBooks (canonical_updPlane h))

theorem canonical_takeWitBit {b : Nat} {bit : Bool} {s : State} (h : Canonical s) : Canonical (takeWitBit b bit s) :=
  canonical_blockCheck (canonical_updPlane h)

theorem canonical_deliverSample {b pos : Nat} {bit : Bool} {s : State} (h : Canonical s) : Canonical (deliverSample b pos bit s) := by
  unfold deliverSample
  split
  · exact h
  · split
    · exact .ite (canonical_takeWitBit h) (canonical_takeCellBit h)
    · exact .ite (canonical_takeWitBit h) h
    · exact .ite (canonical_updPlane h) h
    · exact h

theorem canonical_startBlock {b : Nat} {s : State} (h : Canonical s) : Canonical (startBlock b s) := by
  unfold startBlock
  dsimp only
  split
  · exact h
  · exact .foldl (canonical_updPlane h) (fun _ _ => canonical_deliverSample)

theorem canonical_planeNext {b : Nat} {s : State} (h : Canonical s) : Canonical (planeNext b s) := by
  unfold planeNext
  split
  · exact h
  · exact .ite (canonical_updPlane h) (.ite (canonical_updPlane h) (.ite (canonical_startBlock h) (canonical_updPlane h)))

theorem canonical_bumpDisc {why : CreditKerf} {b : Nat} {s : State} (h : Canonical s) : Canonical (bumpDisc why b s) := by
  unfold bumpDisc
  dsimp only
  split
  · exact .frame h rfl
  · exact .frame h rfl
  · exact h

theorem canonical_kerfBlock {why : CreditKerf} {b : Nat} {s : State} (h : Canonical s) : Canonical (kerfBlock why b s) := by
  unfold kerfBlock
  split
  · exact h
  · exact canonical_bumpDisc (canonical_updBooks (canonical_updPlane h))

theorem canonical_kerfSeed {why : CreditKerf} {b : Nat} {s : State} (h : Canonical s) : Canonical (kerfSeed why b s) := by
  unfold kerfSeed
  split
  · exact h
  · exact canonical_bumpDisc (canonical_updBooks (canonical_updPlane h))

theorem canonical_kerfInProgress {why : CreditKerf} {b : Nat} {s : State} (h : Canonical s) : Canonical (kerfInProgress why b s) := by
  unfold kerfInProgress
  split
  · exact h
  · exact .ite (canonical_kerfBlock h) h

theorem canonical_failBlock {b : Nat} {s : State} (h : Canonical s) : Canonical (failBlock b s) := by
  unfold failBlock
  split
  · exact h
  · exact .ite h (canonical_updPlane (canonical_kerfInProgress h))

theorem canonical_planeResume {b : Nat} {s : State} (h : Canonical s) : Canonical (planeResume b s) := by
  unfold planeResume
  split
  · exact h
  · exact .ite (.ite (canonical_startBlock h) (canonical_updPlane h)) h

theorem canonical_discardBlock {why : CreditKerf} {b : Nat} {s : State} (h : Canonical s) : Canonical (discardBlock why b s) :=
  canonical_planeResume (canonical_kerfInProgress h)

theorem canonical_haltPlane {why : CreditKerf} {b : Nat} {s : State} (h : Canonical s) : Canonical (haltPlane why b s) := by
  unfold haltPlane
  split
  · exact h
  · exact .ite h (canonical_updPlane (canonical_kerfSeed (canonical_kerfBlock h)))

theorem canonical_planeOnBoard {b : Nat} {s : State} (h : Canonical s) : Canonical (planeOnBoard b s) := by
  unfold planeOnBoard
  split
  · exact h
  · split
    · refine .ite ?_ h
      split
      · exact canonical_updPlane h
      · exact canonical_startBlock h
    · exact .ite (canonical_updPlane h) h
    · exact h

theorem canonical_boardRefresh {left : Bool} {b : Nat} {s : State} (h : Canonical s) : Canonical (boardRefresh left b s) := by
  unfold boardRefresh
  dsimp only
  split
  · exact .ite (canonical_planeOnBoard (canonical_updGrn (fun h => h) h))
      (.ite (canonical_planeOnBoard (canonical_updGrn (fun h => h) h)) h)
  · exact .ite h (canonical_planeOnBoard (canonical_updGrn (fun h => h) h))
  · exact .ite (canonical_planeOnBoard (canonical_updGrn (fun h => h) h)) h
  · exact h

theorem canonical_setSum {i : Nat} {s : State} (h : Canonical s) : Canonical (setSum i s) := .frame h rfl

theorem canonical_retireBoard {b cause : Nat} {s : State} (h : Canonical s) : Canonical (retireBoard b cause s) :=
  .ite h (.ite (canonical_raiseFatal (canonical_haltPlane (canonical_post (canonical_setSum (canonical_updGrn (fun h => h) h)))))
    (canonical_haltPlane (canonical_post (canonical_setSum (canonical_updGrn (fun h => h) h)))))

/-! ### Sources -/

theorem canonical_keyCheck {s : State} (h : Canonical s) : Canonical (keyCheck s) := .ite (.frame h rfl) h

theorem canonical_goSrc {code : Nat} {f : Source → Source} {s : State} (h : Canonical s) : Canonical (goSrc code f s) :=
  canonical_keyCheck (canonical_boardRefresh (canonical_updSrc h))

theorem canonical_retireSource {code : Nat} {byHealth : Bool} {s : State} (h : Canonical s) : Canonical (retireSource code byHealth s) :=
  .ite (canonical_retireBoard (canonical_keyCheck (canonical_post (canonical_setSum (canonical_updSrc h)))))
    (.ite (canonical_retireBoard (canonical_keyCheck (canonical_post (canonical_setSum (canonical_updSrc h)))))
      (canonical_keyCheck (canonical_post (canonical_setSum (canonical_updSrc h)))))

theorem canonical_healthRecord {code test : Nat} {seas : Bool} {s : State} (h : Canonical s) :
    Canonical (healthRecord code test seas s) := by
  unfold healthRecord
  dsimp only
  split
  · exact h
  · exact .ite (canonical_setSum h) (.ite (canonical_updSrc (.frame (canonical_post h) rfl)) (canonical_post h))

theorem canonical_countFailure {code : Nat} {seas rct apt : Bool} {s : State} (h : Canonical s) :
    Canonical (countFailure code seas rct apt s) := by
  unfold countFailure
  exact .ite (.frame (canonical_setSum (canonical_updSrc h)) rfl) (canonical_setSum (canonical_updSrc h))

theorem canonical_noteRetry {code : Nat} {s : State} (h : Canonical s) : Canonical (noteRetry code s) := canonical_updSrc h

theorem canonical_sourceFails {code : Nat} {seas rct apt : Bool} {s : State} (h : Canonical s) :
    Canonical (sourceFails code seas rct apt s) := by
  have hcounted : ∀ u, Canonical u → Canonical (noteRetry code (countFailure code seas rct apt u)) := fun _ h =>
    canonical_noteRetry (canonical_countFailure h)
  have hfailed : ∀ b, Canonical (noteRetry code (countFailure code seas rct apt (if seas then s else failBlock b s))) := fun _ =>
    hcounted _ (.ite h (canonical_failBlock h))
  unfold sourceFails
  split
  · exact h
  · refine .ite (canonical_healthRecord (canonical_updGrn (fun hbuf => hbuf) (canonical_countFailure h))) (.ite ?_ ?_)
    · exact canonical_healthRecord (.onlyIf (hcounted _ h) fun _ => canonical_setSum)
    · exact canonical_healthRecord (canonical_planeResume (.ite (canonical_retireSource (hfailed _)) (canonical_goSrc (hfailed _))))

theorem canonical_seasonSample {code : Nat} {xcTested before rct apt : Bool} {s : State} (h : Canonical s) :
    Canonical (seasonSample code xcTested before rct apt s) := by
  unfold seasonSample
  dsimp only
  split
  · exact h
  · exact .ite (.ite (canonical_sourceFails (.onlyIf h (fun _ => canonical_goSrc)))
      (.ite (canonical_sourceFails (.onlyIf h (fun _ => canonical_goSrc))) (.onlyIf h (fun _ => canonical_goSrc))))
      (.ite (canonical_sourceFails h) (.ite h (.ite (canonical_goSrc h) (.ite (canonical_goSrc h) (canonical_sourceFails h)))))

theorem canonical_lineSample {code : Nat} {bit : Bool} {s : State} (h : Canonical s) : Canonical (lineSample code bit s) := by
  unfold lineSample
  dsimp only
  split
  · exact h
  · exact .ite (.foldl (canonical_updSrc h) (fun _ _ => canonical_deliverSample))
      (.ite (canonical_deliverSample (canonical_updSrc h)) (canonical_updSrc h))

theorem canonical_captureEnd {code : Nat} {s : State} (h : Canonical s) : Canonical (captureEnd code s) :=
  .ite (canonical_goSrc (canonical_goSrc (canonical_post (canonical_updGrn (fun h => h) h))))
    (canonical_goSrc (canonical_post (canonical_updGrn (fun h => h) h)))

theorem canonical_captureSample {code : Nat} {bit rct apt : Bool} {s : State} (h : Canonical s) :
    Canonical (captureSample code bit rct apt s) := by
  have hbit : Canonical (updGrn (fun g => { g with cap := captureBit bit g.cap }) s) :=
    canonical_updGrn (fun hbuf => memWfFrom_memSet hbuf (Nat.zero_le _)) h
  have htested := Canonical.onlyIf (c := rct || apt) hbit fun _ => canonical_sourceFails (code := code) (seas := false) (rct := rct) (apt := apt)
  exact .ite (canonical_captureEnd htested) htested

theorem canonical_sample {code : Nat} {bit : Bool} {s : State} (h : Canonical s) : Canonical (sample code bit s) := by
  have hseen : ∀ c f, Canonical (onlyIf c bumpFree (updGrn (updSrc code f) s)) := fun _ _ => .onlyIf (canonical_updSrc h) fun _ => canonical_bumpFree
  unfold sample
  dsimp only
  split
  · exact h
  · refine .ite h ?_
    split
    · exact canonical_seasonSample (hseen _ _)
    · exact .ite (.ite (canonical_lineSample (canonical_sourceFails (hseen _ _))) (canonical_sourceFails (hseen _ _)))
        (canonical_lineSample (hseen _ _))
    · exact canonical_captureSample (hseen _ _)
    · exact .onlyIf (hseen _ _) fun _ => canonical_sourceFails

theorem canonical_grnRefuse {bit : Nat} {s : State} (h : Canonical s) : Canonical (grnRefuse bit s) :=
  canonical_post (canonical_updGrn (fun h => h) h)

theorem canonical_grnEnWrite {b : Nat} {v : W32} {s : State} (h : Canonical s) : Canonical (grnEnWrite b v s) := by
  unfold grnEnWrite
  exact .ite (canonical_grnRefuse h) (.foldl (canonical_updGrn (fun h => h) h) (fun _ _ => canonical_goSrc))

theorem canonical_grnRestart {code : Nat} {s : State} (h : Canonical s) : Canonical (grnRestart code s) := by
  unfold grnRestart
  split
  · exact .ite (canonical_goSrc h) (canonical_grnRefuse h)
  · exact canonical_grnRefuse h

theorem canonical_grnRetire {board : Bool} {idx : Nat} {s : State} (h : Canonical s) : Canonical (grnRetire board idx s) :=
  .ite (.ite (canonical_retireBoard (canonical_updGrn (fun h => h) h)) (canonical_retireSource (canonical_updGrn (fun h => h) h)))
    (canonical_grnRefuse h)

theorem canonical_captureStart {code : Nat} {s : State} (h : Canonical s) : Canonical (captureStart code s) :=
  .ite (canonical_goSrc (canonical_updGrn (fun _ => rfl) h)) (canonical_grnRefuse h)

theorem canonical_rawAdvance {s : State} (h : Canonical s) : Canonical (rawAdvance s) := canonical_updGrn (fun h => h) h

theorem canonical_hltSnapAsk {s : State} (h : Canonical s) : Canonical (hltSnapAsk s) := .frame h rfl

theorem canonical_hltSnapTake {s : State} (h : Canonical s) : Canonical (hltSnapTake s) := .ite h (.frame h rfl)

/-! ### Calibration -/

theorem canonical_calRestart {code : Nat} {s : State} (h : Canonical s) : Canonical (calRestart code s) := .ite (canonical_goSrc h) h

theorem canonical_calApply {c : Cal} {s : State} (h : Canonical s) : Canonical (calApply c s) := by
  unfold calApply
  exact .ite (.foldl (.frame h rfl) (fun _ _ => canonical_calRestart))
    (.frame (.foldl (.frame h rfl) (fun _ _ => canonical_calRestart)) rfl)

theorem canonical_calRestoreGroups {req : ReqId} {groups : BitVec 4} {s : State} (h : Canonical s) :
    Canonical (calRestoreGroups req groups s) := canonical_post (canonical_calApply h)

/-! ### Words -/

theorem canonical_updQ {q : Nat} {f : DQueue → DQueue} {s : State} (h : Canonical s) : Canonical (updQ q f s) := .frame h rfl

theorem canonical_watermarkEvent {q : Nat} {high : Bool} {s : State} (h : Canonical s) : Canonical (watermarkEvent q high s) := by
  unfold watermarkEvent
  dsimp only
  split
  · exact h
  · exact .ite (canonical_post (canonical_updQ h)) h

theorem canonical_relevel {q : Nat} {f : DQueue → DQueue} {s : State} (h : Canonical s) : Canonical (relevel q f s) := by
  unfold relevel
  dsimp only
  split
  · exact h
  · exact .onlyIf (.onlyIf (canonical_updQ h) (fun _ => canonical_watermarkEvent)) (fun _ => canonical_watermarkEvent)

theorem canonical_toFlight {refs : List (Nat × Nat)} {s : State} (h : Canonical s) : Canonical (toFlight refs s) :=
  .foldl (canonical_updBooks h) (fun _ _ => canonical_relevel)

theorem canonical_finishSlots {refs : List (Nat × Nat)} {s : State} (h : Canonical s) : Canonical (finishSlots refs s) :=
  .foldl h (fun _ _ => canonical_relevel)

theorem canonical_deliverWords {refs : List (Nat × Nat)} {n m : Nat} {s : State} (h : Canonical s) : Canonical (deliverWords refs n m s) :=
  canonical_finishSlots (canonical_updBooks h)

theorem canonical_kerfFlight {why : WordKerf} {refs : List (Nat × Nat)} {n : Nat} {s : State} (h : Canonical s) :
    Canonical (kerfFlight why refs n s) := canonical_finishSlots (canonical_updBooks h)

theorem canonical_kerfStack {why : WordKerf} {refs : List (Nat × Nat)} {s : State} (h : Canonical s) : Canonical (kerfStack why refs s) :=
  canonical_finishSlots (canonical_updBooks h)

theorem canonical_countQKerf {q n : Nat} {s : State} (h : Canonical s) : Canonical (countQKerf q n s) := canonical_updQ h

theorem canonical_kerfWords {why : WordKerf} {ws : List AWord} {s : State} (h : Canonical s) : Canonical (kerfWords why ws s) :=
  canonical_updBooks (canonical_kerfStack h)

theorem canonical_passWords {ws : List AWord} {s : State} (h : Canonical s) : Canonical (passWords ws s) :=
  canonical_deliverWords (canonical_toFlight h)

/-! ### The stack array -/

theorem canonical_kerfQueue {q : Nat} {why : WordKerf} {p : DQueue → QEntry → Bool} {s : State} (h : Canonical s) :
    Canonical (kerfQueue q why p s) := by
  unfold kerfQueue
  dsimp only
  split
  · exact h
  · exact .ite h (canonical_countQKerf (canonical_kerfStack h))

theorem canonical_updWait {q key : Nat} {f : Waiter → Waiter} {s : State} (h : Canonical s) : Canonical (updWait q key f s) :=
  canonical_updQ h

theorem canonical_putBack {q : Nat} {v : AWord} {s : State} (h : Canonical s) : Canonical (putBack q v s) := by
  unfold putBack
  dsimp only
  split
  · exact .ite (canonical_updQ h) (canonical_arrayWrite (canonical_updQ h))
  · exact h

theorem canonical_releaseAllot {q key : Nat} {s : State} (h : Canonical s) : Canonical (releaseAllot q key s) := by
  unfold releaseAllot
  split
  · exact h
  · exact .ite h (canonical_kerfQueue (canonical_updWait (.foldl h (fun _ _ => canonical_putBack))))

end Sys2Proof.Machine


/-! PROOFS. The canonical form of every memory over the operations of waits on lanes, jobs, their reads and their writes. -/

namespace Sys2Proof.Machine

/-! ### Waits on lanes -/

theorem canonical_updLane {n : Nat} {f : Lane → Lane} {s : State} (h : Canonical s) : Canonical (updLane n f s) := .frame h rfl

theorem canonical_raiseRequest {n : Nat} {s : State} (h : Canonical s) : Canonical (raiseRequest n s) :=
  canonical_bumpOrd (canonical_updLane h)

theorem canonical_laneWait {n : Nat} {s : State} (h : Canonical s) : Canonical (laneWait n s) := by
  unfold laneWait
  split
  · exact h
  · exact .ite (canonical_raiseRequest (canonical_updLane h)) h

theorem canonical_makeDue {n : Nat} {s : State} (h : Canonical s) : Canonical (makeDue n s) := canonical_laneWait (canonical_updLane h)

theorem canonical_prAdd {n : Nat} {p : PrReq} {s : State} (h : Canonical s) : Canonical (prAdd n p s) := by
  unfold prAdd
  split
  · exact h
  · exact .onlyIf (canonical_updLane h) (fun _ => canonical_laneWait)

theorem canonical_prPlace {q key accepted : Nat} {s : State} (h : Canonical s) : Canonical (prPlace q key accepted s) := by
  unfold prPlace
  refine .ite h ?_
  split
  · exact h
  · exact canonical_bumpFree (canonical_prAdd h)

theorem canonical_prDrop {key : Nat} {s : State} (h : Canonical s) : Canonical (prDrop key s) := by
  unfold prDrop
  dsimp only
  refine .foldl (.frame h rfl) (fun _ _ h => ?_)
  split
  · exact .ite (canonical_laneWait h) h
  · exact h

/-! ### Jobs -/

theorem canonical_updJob {id : Nat} {f : Job → Job} {s : State} (h : Canonical s) : Canonical (updJob id f s) := .frame h rfl

theorem canonical_dropJob {id : Nat} {s : State} (h : Canonical s) : Canonical (dropJob id s) := .frame h rfl

theorem canonical_updStream {r : ReqId} {f : Stream → Stream} {s : State} (h : Canonical s) : Canonical (updStream r f s) := .frame h rfl

theorem canonical_withTxn {f : BitVec 16 → State → State} {s : State} (hf : ∀ x0 u, Canonical u → Canonical (f x0 u)) (h : Canonical s) :
    Canonical (withTxn f s) := hf _ _ (.frame h rfl)

theorem canonical_sendRequest {type addr len : Nat} {payload : List Byte} {fbase : BitVec 22} {t : TxFrame} {s : State} (h : Canonical s) :
    Canonical (sendRequest type addr len payload fbase t s) := canonical_withTxn (fun _ _ h => .frame h rfl) h

theorem canonical_sendReply {p : PortId} {t : TxFrame} {s : State} (h : Canonical s) : Canonical (sendReply p t s) := .frame h rfl

theorem canonical_engRespondAt {lead rstat : Nat} {data : List W32} {unchecked : Bool} {rand : List AWord} {s : State} (h : Canonical s) :
    Canonical (engRespondAt lead rstat data unchecked rand s) := by
  unfold engRespondAt
  dsimp only
  split
  · exact h
  · exact .frame h rfl

theorem canonical_engRespond {rstat : Nat} {data : List W32} {unchecked : Bool} {rand : List AWord} {s : State} (h : Canonical s) :
    Canonical (engRespond rstat data unchecked rand s) := canonical_engRespondAt h

theorem canonical_coreAnswer {status : Nat} {data : List Byte} {unchecked : Bool} {s : State} (h : Canonical s) :
    Canonical (coreAnswer status data unchecked s) := .frame h rfl

theorem canonical_readDone {key : Nat} {a : Acc} {lead status : Nat} {data : List Byte} {ws : List AWord} {s : State} (h : Canonical s) :
    Canonical (readDone key a lead status data ws s) := by
  unfold readDone
  dsimp only
  split
  · exact canonical_sendReply h
  · exact .ite (canonical_engRespondAt h) (canonical_coreAnswer (canonical_passWords h))

theorem canonical_endRead {key : Nat} {a : Acc} {len status : Nat} {ws : List AWord} {s : State} (h : Canonical s) :
    Canonical (endRead key a len status ws s) := canonical_readDone h

theorem canonical_endBurst {key : Nat} {a : Acc} {pre post : List W32} {ws : List AWord} {s : State} (h : Canonical s) :
    Canonical (endBurst key a pre post ws s) := canonical_readDone h

theorem canonical_syncQ {q : Nat} {s : State} (h : Canonical s) : Canonical (syncQ q s) := canonical_updQ h

theorem canonical_syncAll {s : State} (h : Canonical s) : Canonical (syncAll s) := .foldl h (fun _ _ => canonical_syncQ)

theorem canonical_addWaiter {q : Nat} {w : Waiter} {s : State} (h : Canonical s) : Canonical (addWaiter q w s) :=
  canonical_bumpOrd (canonical_syncQ (canonical_updQ h))

theorem canonical_dropWaiter {q key : Nat} {s : State} (h : Canonical s) : Canonical (dropWaiter q key s) :=
  canonical_syncQ (canonical_updQ h)

theorem canonical_dropWaits {id : Nat} {s : State} (h : Canonical s) : Canonical (dropWaits id s) := by
  have hqueues : ∀ (l : List DQueue) u, Canonical u → Canonical { u with stk := { u.stk with queues := l } } := fun _ _ h => .frame h rfl
  exact canonical_prDrop (canonical_syncAll (hqueues _ _ (.foldl h fun _ _ => canonical_releaseAllot)))

theorem canonical_issueWrite {id off : Nat} {bytes : List Byte} {ws : List AWord} {random : Bool} {tag : Option Tag} {s : State}
    (h : Canonical s) : Canonical (issueWrite id off bytes ws random tag s) := by
  unfold issueWrite
  dsimp only
  split
  · exact h
  · exact canonical_sendRequest (canonical_updJob h)

theorem canonical_drawIssue {id fuel : Nat} {s : State} (h : Canonical s) : Canonical (drawIssue id fuel s) := by
  induction fuel generalizing s with
  | zero => exact h
  | succ fuel ih =>
    unfold drawIssue
    split
    · exact h
    · dsimp only
      split
      · exact ih (canonical_issueWrite (canonical_updJob h))
      · refine .ite ?_ h
        split
        · exact .ite (canonical_updJob h) h
        · exact ih (canonical_issueWrite (canonical_updJob h))

theorem canonical_resultIssue {id fuel : Nat} {last : Bool} {s : State} (h : Canonical s) : Canonical (resultIssue id last fuel s) := by
  induction fuel generalizing s with
  | zero => exact h
  | succ fuel ih =>
    unfold resultIssue
    split
    · exact h
    · split
      · exact .ite (ih (canonical_issueWrite (canonical_updJob h))) h
      · exact .ite h (ih (canonical_issueWrite (canonical_updJob h)))

theorem canonical_pullUnsent {id : Nat} {beacons : Bool} {s : State} (h : Canonical s) : Canonical (pullUnsent id beacons s) :=
  .frame h rfl

theorem canonical_kerfFrames {why : WordKerf} {l : List TxFrame} {s : State} (h : Canonical s) : Canonical (kerfFrames why l s) :=
  .foldl h (fun _ _ h => .ite (canonical_kerfFlight h) (canonical_kerfStack h))

theorem canonical_dropUnsent {why : WordKerf} {id : Nat} {s : State} (h : Canonical s) : Canonical (dropUnsent why id s) := by
  unfold dropUnsent
  dsimp only
  split
  · exact h
  · exact canonical_kerfWords (canonical_kerfFrames (canonical_pullUnsent (canonical_updJob h)))

theorem canonical_releaseUnits {id : Nat} {s : State} (h : Canonical s) : Canonical (releaseUnits id s) := by
  obtain ⟨harray, hbuf, hram, hmems⟩ := h
  refine ⟨harray, hbuf, hram, List.forall_mem_map.mpr fun b hb => ?_⟩
  split
  · exact hmems b hb
  · exact hmems b hb

theorem canonical_stopJob {id : Nat} {status : BitVec 8} {why : Option WordKerf} {s : State} (h : Canonical s) :
    Canonical (stopJob id status why s) := by
  have hreleased : ∀ c f, Canonical (releaseUnits id (onlyIf c syncAll (updJob id f (dropWaits id s)))) := fun _ _ =>
    canonical_releaseUnits (.onlyIf (canonical_updJob (canonical_dropWaits h)) fun _ => canonical_syncAll)
  unfold stopJob
  split
  · exact h
  · refine .ite h ?_
    split
    · exact canonical_dropUnsent (hreleased _ _)
    · refine .ite (canonical_drawIssue (hreleased _ _)) (.ite (.ite (canonical_resultIssue ?_) ?_) (hreleased _ _))
      all_goals exact canonical_updJob (hreleased _ _)

theorem canonical_failJob {id : Nat} {status : BitVec 8} {why : Option WordKerf} {s : State} (h : Canonical s) :
    Canonical (failJob id status why s) := by
  unfold failJob
  dsimp only
  split
  · exact h
  · refine .ite (canonical_stopJob h) ?_
    split
    · exact canonical_dropUnsent (canonical_updJob h)
    · exact canonical_updJob h

theorem canonical_completeJob {id : Nat} {s : State} (h : Canonical s) : Canonical (completeJob id s) := by
  unfold completeJob
  dsimp only
  split
  · exact h
  · exact .frame (canonical_dropJob h) rfl

theorem canonical_writeRecord {j : Job} {s : State} (h : Canonical s) : Canonical (writeRecord j s) := by
  unfold writeRecord
  dsimp only
  split
  · exact canonical_sendRequest (canonical_updJob h)
  · exact .ite (canonical_completeJob (.frame h rfl)) (canonical_updJob (.frame h rfl))

theorem canonical_recordStep {s t : State} (h : Canonical s) (hs : recordStep s = some t) : Canonical t := by
  obtain ⟨j, -, rfl⟩ := Option.map_eq_some_iff.mp hs
  exact canonical_writeRecord h

theorem canonical_recordSweep {n : Nat} {s : State} (h : Canonical s) : Canonical (recordSweep n s) := by
  induction n generalizing s with
  | zero => exact h
  | succ n ih =>
    unfold recordSweep
    split
    next t ht => exact ih (canonical_recordStep h ht)
    next => exact h

theorem canonical_markWaiting {s : State} (h : Canonical s) : Canonical (markWaiting s) := .frame h rfl

theorem canonical_sweepRecords {s : State} (h : Canonical s) : Canonical (sweepRecords s) :=
  .ite (canonical_markWaiting (canonical_recordSweep h)) h

theorem canonical_storeWaiting {s : State} (h : Canonical s) : Canonical (storeWaiting s) := by
  unfold storeWaiting
  split
  · exact .ite (canonical_writeRecord h) h
  · exact h

end Sys2Proof.Machine


/-! PROOFS. The canonical form of every memory over the operations of lanes, their seeds, tests and demands. -/

namespace Sys2Proof.Machine

/-! ### Lanes -/

theorem canonical_endIfDone {id : Nat} {s : State} (h : Canonical s) : Canonical (endIfDone id s) := by
  unfold endIfDone
  split
  · exact .ite (canonical_stopJob (canonical_updJob h)) h
  · exact h

theorem canonical_testUnitDone {id unit : Nat} {ok : Bool} {s : State} (h : Canonical s) : Canonical (testUnitDone id unit ok s) :=
  canonical_endIfDone (canonical_updJob h)

theorem canonical_reseedJobs {n : Nat} {sat : Bool} {s : State} (h : Canonical s) : Canonical (reseedJobs n sat s) :=
  .foldl h (fun _ _ h => .onlyIf (canonical_updJob h) (fun _ => canonical_endIfDone))

theorem canonical_mixCheck {id : Nat} {s : State} (h : Canonical s) : Canonical (mixCheck id s) := by
  unfold mixCheck
  split
  · exact .ite (canonical_stopJob (canonical_updJob h)) h
  · exact h

theorem canonical_mixLeave {n : Nat} {s : State} (h : Canonical s) : Canonical (mixLeave n s) := by
  unfold mixLeave
  exact .foldl h (fun _ _ h => canonical_mixCheck (canonical_updJob h))

theorem canonical_mixFeed {n fuel : Nat} {s : State} (h : Canonical s) : Canonical (mixFeed n fuel s) := by
  induction fuel generalizing s with
  | zero => exact h
  | succ fuel ih =>
    unfold mixFeed
    split
    · exact h
    · refine .ite h ?_
      split
      · exact h
      · split
        · exact h
        · split
          · exact h
          · exact ih (canonical_updLane (canonical_updJob h))

theorem canonical_pieceAbsorbed {n : Nat} {s : State} (h : Canonical s) : Canonical (pieceAbsorbed n s) := by
  unfold pieceAbsorbed
  split
  · exact h
  · split
    · exact h
    · exact canonical_mixFeed (canonical_mixCheck (canonical_updJob (canonical_updLane h)))

theorem canonical_rebindQueue {q : Nat} {s : State} (h : Canonical s) : Canonical (rebindQueue q s) := by
  unfold rebindQueue
  dsimp only
  refine .ite ?_ h
  split
  · exact h
  · exact canonical_post (.frame h rfl)

theorem canonical_rebindAll {n : Nat} {s : State} (h : Canonical s) : Canonical (rebindAll n s) :=
  .foldl h (fun _ _ => canonical_rebindQueue)

theorem canonical_placeOrphans {s : State} (h : Canonical s) : Canonical (placeOrphans s) := by
  unfold placeOrphans
  dsimp only
  refine .foldl h (fun _ _ h => ?_)
  split
  · exact h
  · exact .foldl h (fun _ _ => canonical_prPlace)

theorem canonical_placeRefresh {s : State} (h : Canonical s) : Canonical (placeRefresh s) := by
  unfold placeRefresh
  dsimp only
  refine .ite ?_ h
  split
  · exact h
  · exact canonical_bumpFree (canonical_prAdd (.frame h rfl))

theorem canonical_refreshDone {n : Nat} {s : State} (h : Canonical s) : Canonical (refreshDone n s) :=
  canonical_updLane (canonical_prDrop (.frame h rfl))

theorem canonical_laneLeave {n : Nat} {st : LaneState} {s : State} (h : Canonical s) : Canonical (laneLeave n st s) := by
  unfold laneLeave
  dsimp only
  split
  · exact h
  · exact canonical_placeRefresh
      (canonical_placeOrphans (canonical_rebindAll (canonical_mixLeave (canonical_reseedJobs (.frame (canonical_updLane h) rfl)))))

theorem canonical_laneKat {n : Nat} {s : State} (h : Canonical s) : Canonical (laneKat n s) := canonical_laneLeave h

theorem canonical_laneBoundary {n : Nat} {s : State} (h : Canonical s) : Canonical (laneBoundary n s) := by
  unfold laneBoundary
  split
  · exact h
  · exact .ite h (.ite (canonical_laneKat h) (.ite (.onlyIf (canonical_laneLeave h) (fun _ => canonical_updLane)) h))

theorem canonical_laneStart {n : Nat} {s : State} (h : Canonical s) : Canonical (laneStart n s) :=
  canonical_placeRefresh (canonical_placeOrphans (canonical_raiseRequest (canonical_updLane h)))

theorem canonical_lanKatSettle {s : State} (h : Canonical s) : Canonical (lanKatSettle s) := .ite h (.frame h rfl)

theorem canonical_lanKatsGone {n : Nat} {l : List KatWho} {s : State} (h : Canonical s) : Canonical (lanKatsGone n l s) := by
  unfold lanKatsGone
  refine canonical_lanKatSettle ?_
  refine .foldl h (fun _ _ h => ?_)
  split
  · exact canonical_testUnitDone h
  · exact h

theorem canonical_laneFault {n cause : Nat} {s : State} (h : Canonical s) : Canonical (laneFault n cause s) := by
  unfold laneFault
  dsimp only
  split
  · exact h
  · exact .ite (canonical_lanKatsGone (canonical_post (canonical_laneLeave (canonical_updBooks (canonical_updLane h)))))
      (canonical_raiseFatal (canonical_lanKatsGone (canonical_post (canonical_laneLeave (canonical_updBooks (canonical_updLane h))))))

theorem canonical_laneDemand {n : Nat} {s : State} (h : Canonical s) : Canonical (laneDemand n s) := by
  unfold laneDemand
  dsimp only
  split
  · exact h
  · exact .ite (.ite (canonical_raiseRequest (canonical_updLane h))
      (.ite (canonical_laneWait h) (.ite (canonical_raiseRequest (canonical_updLane h)) h))) h

theorem canonical_limitsChanged {s : State} (h : Canonical s) : Canonical (limitsChanged s) := .foldl h (fun _ _ => canonical_laneDemand)

theorem canonical_laneSeeded {n : Nat} {k : Seed} {s : State} (h : Canonical s) : Canonical (laneSeeded n k s) := by
  unfold laneSeeded
  dsimp only
  split
  · exact h
  · exact canonical_mixFeed
      (canonical_reseedJobs (.onlyIf (.onlyIf (canonical_updLane h) (fun _ => canonical_laneWait)) (fun _ => canonical_refreshDone)))

theorem canonical_handover {s : State} (h : Canonical s) : Canonical (handover s) := by
  unfold handover
  dsimp only
  split
  · exact h
  · split
    · exact h
    · split
      · exact h
      · exact .ite (canonical_planeNext (canonical_laneSeeded (canonical_updBooks (canonical_updPlane h))))
          (canonical_laneSeeded (canonical_updBooks (canonical_updPlane h)))

theorem canonical_seedReady {b : Nat} {s : State} (h : Canonical s) : Canonical (seedReady b s) := by
  unfold seedReady
  dsimp only
  split
  · exact h
  · split
    · exact h
    · exact .ite h (.ite (canonical_planeNext (canonical_kerfBlock h)) (.ite
        (canonical_planeNext (canonical_handover (canonical_bumpOrd (canonical_updPlane h))))
        (canonical_handover (canonical_bumpOrd (canonical_updPlane h)))))

theorem canonical_seedAged {b : Nat} {s : State} (h : Canonical s) : Canonical (seedAged b s) := by
  unfold seedAged
  dsimp only
  split
  · exact h
  · exact .ite (.ite (canonical_planeNext (canonical_kerfSeed h)) (canonical_kerfSeed h)) h

theorem canonical_planeKat {b : Nat} {who : KatWho} {s : State} (h : Canonical s) : Canonical (planeKat b who s) := canonical_updPlane h

theorem canonical_plnRun {mask : Nat} {who : KatWho} {s : State} (h : Canonical s) : Canonical (plnRun mask who s) := by
  unfold plnRun
  exact .foldl (.frame h rfl) (fun _ _ => canonical_planeKat)

theorem canonical_plnRunNext {l : List Nat} {s : State} (h : Canonical s) : Canonical (plnRunNext l s) := by
  induction l with
  | nil => exact .frame h rfl
  | cons id ids ih =>
    unfold plnRunNext
    split
    · exact .ite (canonical_plnRun (.frame h rfl)) ih
    · exact ih

theorem canonical_plnTest {id mask : Nat} {s : State} (h : Canonical s) : Canonical (plnTest id mask s) :=
  .ite (.frame h rfl) (canonical_plnRun h)

theorem canonical_planeKatReport {b : Nat} {who : KatWho} {s : State} (h : Canonical s) : Canonical (planeKatReport b who s) := by
  unfold planeKatReport
  dsimp only
  refine .ite ?_ h
  refine .ite ?_ ?_
  · split
    · exact canonical_testUnitDone (.frame h rfl)
    · exact .frame h rfl
  · refine canonical_plnRunNext ?_
    split
    · exact canonical_testUnitDone (.frame h rfl)
    · exact .frame h rfl

theorem canonical_planeKatFailed {b : Nat} {who : KatWho} {s : State} (h : Canonical s) : Canonical (planeKatFailed b who s) :=
  .ite (.frame h rfl) h

theorem canonical_planeKatDone {b : Nat} {compOk hashOk : Bool} {s : State} (h : Canonical s) :
    Canonical (planeKatDone b compOk hashOk s) := by
  unfold planeKatDone
  dsimp only
  split
  · exact h
  · split
    · exact h
    · exact .ite h (.ite
        (.ite (canonical_planeNext (canonical_planeKatReport (canonical_updPlane h))) (canonical_planeKatReport (canonical_updPlane h)))
        (canonical_raiseFatal (canonical_planeKatFailed (canonical_haltPlane (canonical_updPlane h)))))

theorem canonical_plnKatCmd {mask : Nat} {s : State} (h : Canonical s) : Canonical (plnKatCmd mask s) :=
  .ite (canonical_post (.frame h rfl)) (canonical_plnRun h)

theorem canonical_askLaneKat {n : Nat} {who : KatWho} {s : State} (h : Canonical s) : Canonical (askLaneKat n who s) :=
  canonical_laneBoundary (canonical_updLane h)

theorem canonical_lanRun {s : State} (h : Canonical s) : Canonical (lanRun s) := .frame h rfl

theorem canonical_laneKatReport {n : Nat} {who : KatWho} {s : State} (h : Canonical s) : Canonical (laneKatReport n who s) := by
  unfold laneKatReport
  refine canonical_lanKatSettle ?_
  split
  · exact canonical_testUnitDone h
  · exact h

theorem canonical_laneKatFailed {n : Nat} {s : State} (h : Canonical s) : Canonical (laneKatFailed n s) :=
  canonical_lanKatSettle (.frame h rfl)

theorem canonical_laneKatDone {n : Nat} {ok : Bool} {s : State} (h : Canonical s) : Canonical (laneKatDone n ok s) := by
  unfold laneKatDone
  dsimp only
  split
  · exact h
  · split
    · exact h
    · exact .ite h (.ite (canonical_raiseFatal (canonical_laneKatFailed (canonical_updLane h))) (.ite
        (canonical_laneKatReport (canonical_updLane h)) (.ite (canonical_laneStart (canonical_laneKatReport (canonical_updLane h)))
        (canonical_laneLeave (canonical_laneKatReport (canonical_updLane h))))))

theorem canonical_lanErr {bit : Nat} {s : State} (h : Canonical s) : Canonical (lanErr bit s) := .frame h rfl

theorem canonical_lanRefuse {bit : Nat} {s : State} (h : Canonical s) : Canonical (lanRefuse bit s) := canonical_post (canonical_lanErr h)

theorem canonical_lanCmd {mask : Nat} {reseed kat : Bool} {s : State} (h : Canonical s) : Canonical (lanCmd mask reseed kat s) := by
  unfold lanCmd
  exact .ite h (.ite (canonical_post (.onlyIf (.onlyIf h (fun _ => canonical_lanErr)) (fun _ => canonical_lanErr)))
    (.ite (.foldl h (fun _ _ => canonical_makeDue)) (.foldl (canonical_lanRun h) (fun _ _ => canonical_askLaneKat))))

theorem canonical_lanEnWrite {v : W32} {s : State} (h : Canonical s) : Canonical (lanEnWrite v s) := by
  unfold lanEnWrite
  dsimp only
  refine .ite (canonical_lanRefuse h) ?_
  refine .foldl (.frame h rfl) (fun _ _ h => ?_)
  split
  · exact h
  · exact .ite (canonical_laneBoundary (canonical_updLane h)) (.ite (canonical_updLane h) h)

theorem canonical_prUnbind {q : Nat} {s : State} (h : Canonical s) : Canonical (prUnbind q s) := by
  unfold prUnbind
  exact canonical_placeRefresh (canonical_placeOrphans (.foldl (.frame h rfl) (fun _ _ => canonical_laneDemand)))

theorem canonical_lanQbindWrite {q : Nat} {v : W32} {s : State} (h : Canonical s) : Canonical (lanQbindWrite q v s) :=
  .ite (canonical_lanRefuse h) (canonical_prUnbind (.frame h rfl))

theorem canonical_laneTimeCap {n : Nat} {s : State} (h : Canonical s) : Canonical (laneTimeCap n s) := by
  unfold laneTimeCap
  split
  · exact h
  · exact .ite (canonical_makeDue h) h

theorem canonical_settleLanes {s : State} (h : Canonical s) : Canonical (settleLanes s) :=
  .foldl (canonical_placeRefresh (canonical_placeOrphans h)) (fun _ _ => canonical_laneDemand)

theorem canonical_eachBoard {f : Nat → State → State} {s : State} (hf : ∀ x0 u, Canonical u → Canonical (f x0 u)) (h : Canonical s) :
    Canonical (eachBoard f s) := .foldl h (fun _ _ h => hf _ _ h)

theorem canonical_dropMarked {b : Nat} {s : State} (h : Canonical s) : Canonical (dropMarked b s) :=
  canonical_updPlane (.ite (canonical_kerfSeed (canonical_kerfInProgress h)) (canonical_kerfInProgress h))

theorem canonical_afterDrop {b : Nat} {s : State} (h : Canonical s) : Canonical (afterDrop b s) := by
  unfold afterDrop
  split
  · exact .ite (canonical_planeNext h) (canonical_planeResume h)
  · exact h

theorem canonical_restartAll {s : State} (h : Canonical s) : Canonical (restartAll s) := .foldl h (fun _ _ h => .ite (canonical_goSrc h) h)

theorem canonical_forceUnmarked {s : State} (h : Canonical s) : Canonical (forceUnmarked s) :=
  .foldl h (fun _ _ h => .ite (canonical_makeDue (canonical_updLane h)) h)

theorem canonical_modeChange {before : Bool} {s : State} (h : Canonical s) : Canonical (modeChange before s) :=
  .ite (canonical_eachBoard (fun _ _ => canonical_discardBlock) h) (.ite (canonical_forceUnmarked
    (canonical_eachBoard (fun _ _ => canonical_afterDrop) (canonical_restartAll (canonical_eachBoard (fun _ _ => canonical_dropMarked) h))))
    h)

end Sys2Proof.Machine


/-! PROOFS. The canonical form of every memory over the operations of grants and what they give to jobs, reads and peers. -/

namespace Sys2Proof.Machine

/-! ### Grants -/

theorem canonical_beaconFlushed {id : Nat} {s : State} (h : Canonical s) : Canonical (beaconFlushed id s) := by
  unfold beaconFlushed
  dsimp only
  split
  · exact h
  · exact .ite (canonical_stopJob (canonical_updJob (.onlyIf h (fun _ => canonical_kerfWords))))
      (canonical_updJob (canonical_updJob (.onlyIf h (fun _ => canonical_kerfWords))))

theorem canonical_jobAsk {id : Nat} {s : State} (h : Canonical s) : Canonical (jobAsk id s) := by
  unfold jobAsk
  dsimp only
  split
  · exact h
  · refine .ite h ?_
    split
    · exact h
    · exact .ite h (.ite (.ite (canonical_beaconFlushed h) (canonical_stopJob h))
        (.ite (canonical_prPlace (canonical_addWaiter (canonical_updJob h))) (canonical_addWaiter (canonical_updJob h))))

theorem canonical_finishCheck {id : Nat} {s : State} (h : Canonical s) : Canonical (finishCheck id s) := by
  unfold finishCheck
  split
  · exact .ite (canonical_stopJob h) h
  · exact h

theorem canonical_issueResult {id : Nat} {bytes : List Byte} {status : BitVec 8} {s : State} (h : Canonical s) :
    Canonical (issueResult id bytes status s) := canonical_issueWrite (canonical_updJob h)

theorem canonical_permDone {id : Nat} {s : State} (h : Canonical s) : Canonical (permDone id s) := by
  unfold permDone
  dsimp only
  split
  · exact h
  · exact canonical_resultIssue (canonical_prDrop (canonical_updJob (.frame h rfl)))

theorem canonical_permStart {id : Nat} {s : State} (h : Canonical s) : Canonical (permStart id s) := by
  unfold permStart
  dsimp only
  split
  · exact h
  · exact .ite (canonical_permDone (canonical_updJob (.frame h rfl))) (canonical_jobAsk (canonical_updJob (.frame h rfl)))

theorem canonical_permNext {n : Nat} {s : State} (h : Canonical s) : Canonical (permNext n s) := by
  induction n generalizing s with
  | zero => exact h
  | succ n ih =>
    unfold permNext
    refine .ite h ?_
    split
    · exact h
    · exact ih (canonical_permStart h)

theorem canonical_acceptInt {id v : Nat} {tag : Tag} {s : State} (h : Canonical s) : Canonical (acceptInt id v tag s) := by
  unfold acceptInt
  dsimp only
  split
  · exact h
  · exact .ite (canonical_updJob h) (canonical_updJob h)

theorem canonical_acceptSwap {id c : Nat} {s : State} (h : Canonical s) : Canonical (acceptSwap id c s) := canonical_updJob h

theorem canonical_wordsDone {id : Nat} {s : State} (h : Canonical s) : Canonical (wordsDone id s) := by
  unfold wordsDone
  split
  · exact h
  · exact .ite (canonical_prDrop (canonical_syncAll (canonical_updJob h))) h

theorem canonical_resultGo {id : Nat} {s : State} (h : Canonical s) : Canonical (resultGo id s) := by
  unfold resultGo
  split
  · exact canonical_resultIssue h
  · exact h

theorem canonical_distEnd {id : Nat} {s : State} (h : Canonical s) : Canonical (distEnd id s) := by
  unfold distEnd
  split
  · exact .ite (canonical_resultIssue h) h
  · exact h

theorem canonical_distTest {id : Nat} {s : State} (h : Canonical s) : Canonical (distTest id s) := by
  have hcounted : ∀ f a b, Canonical (updJob id f { s with stk := { s.stk with cand := a, rej := b } }) := fun _ _ _ =>
    canonical_updJob (.frame h rfl)
  have htaken : ∀ {c : Prop} [Decidable c] (w : AWord) u, Canonical u →
      Canonical (if c then passWords [w] u else kerfFlight .reject (awRefs [w]) 1 (toFlight (awRefs [w]) u)) := fun _ _ h =>
    .ite (canonical_passWords h) (canonical_kerfFlight (canonical_toFlight h))
  have hnext : ∀ {c d e : Prop} [Decidable c] [Decidable d] [Decidable e] u, Canonical u → Canonical (if c then onlyIf (decide d) (distEnd id) u
      else if e then permDone id u else jobAsk id (wordsDone id u)) := fun _ h =>
    .ite (.onlyIf h fun _ => canonical_distEnd) (.ite (canonical_permDone h) (canonical_jobAsk (canonical_wordsDone h)))
  unfold distTest
  split
  · exact h
  · split
    · exact h
    · exact canonical_updJob h
    · refine hnext _ (.ite ?_ (.ite (canonical_resultGo (canonical_acceptInt ?_)) (.ite (canonical_acceptSwap ?_) ?_)))
      all_goals exact htaken _ _ (hcounted _ _ _)

theorem canonical_mstErr {bit : Nat} {s : State} (h : Canonical s) : Canonical (mstErr bit s) := .frame h rfl

theorem canonical_readFailed {id : Nat} {s : State} (h : Canonical s) : Canonical (readFailed id s) := by
  unfold readFailed
  dsimp only
  split
  · exact h
  · exact canonical_stopJob (canonical_updJob h)

theorem canonical_issueRead {id : Nat} {s : State} (h : Canonical s) : Canonical (issueRead id s) := by
  unfold issueRead
  dsimp only
  split
  · exact h
  · split
    · exact h
    · exact .ite h (.ite (canonical_readFailed (canonical_mstErr h))
        (.ite (.frame (canonical_updJob h) rfl) (canonical_sendRequest (canonical_updJob h))))

theorem canonical_readKeep {id : Nat} {r : SrcRead} {s : State} (h : Canonical s) : Canonical (readKeep id r s) := by
  unfold readKeep
  dsimp only
  split
  · exact canonical_updJob h
  · exact canonical_updJob h
  · exact canonical_updJob h
  · exact .ite (canonical_stopJob h) (canonical_updJob h)
  · exact canonical_updJob h
  · exact canonical_updJob h
  · exact h
  · exact h
  · exact h

theorem canonical_readBegin {id : Nat} {what : ReadFor} {addr total : Nat} {s : State} (h : Canonical s) :
    Canonical (readBegin id what addr total s) := by
  unfold readBegin
  dsimp only
  split
  · exact h
  · refine .ite (canonical_updJob h) ?_
    refine .ite ?_ (.ite (canonical_updJob h) (canonical_stopJob h))
    split
    · exact canonical_stopJob h
    · exact .ite (canonical_updJob h) (canonical_stopJob h)

theorem canonical_batchGo {id : Nat} {s : State} (h : Canonical s) : Canonical (batchGo id s) := by
  unfold batchGo
  dsimp only
  split
  · exact h
  · exact .ite h (.ite h (.ite (canonical_jobAsk (canonical_updJob h)) (.ite (canonical_jobAsk h)
      (.ite (canonical_jobAsk (canonical_updJob (canonical_prDrop h))) (canonical_syncAll (canonical_updJob (canonical_prDrop h)))))))

theorem canonical_fetchRun {id fuel : Nat} {s : State} (h : Canonical s) : Canonical (fetchRun id fuel s) := by
  induction fuel generalizing s with
  | zero => exact h
  | succ fuel ih =>
    unfold fetchRun
    split
    · exact h
    · refine .ite h ?_
      split
      · exact .ite (canonical_issueRead h) (.ite (ih (canonical_readKeep h)) (canonical_issueRead h))
      · split
        · exact canonical_batchGo h
        · exact .ite (.ite (ih (canonical_readBegin (canonical_updJob h))) (canonical_updJob h)) (ih (canonical_readBegin h))

theorem canonical_hashNext {n : Nat} {s : State} (h : Canonical s) : Canonical (hashNext n s) := by
  induction n generalizing s with
  | zero => exact h
  | succ n ih =>
    unfold hashNext
    refine .ite ?_ h
    split
    · exact h
    · exact ih (canonical_fetchRun h)

theorem canonical_takeCoefs {id : Nat} {ws : List AWord} {s : State} (h : Canonical s) : Canonical (takeCoefs id ws s) :=
  canonical_batchGo (canonical_updJob (canonical_updBooks (canonical_passWords h)))

theorem canonical_jobGive {id : Nat} {ws : List AWord} {s : State} (h : Canonical s) : Canonical (jobGive id ws s) := by
  have hruns : ∀ f g, Canonical (updJob id f (updJob id g s)) := fun _ _ => canonical_updJob (canonical_updJob h)
  have hdrawn : ∀ {c : Prop} [Decidable c] f g k, Canonical (drawIssue id 9000 (if c then updJob id f (updJob id k s)
      else updJob id g (updJob id k s))) := fun _ _ _ => canonical_drawIssue (.ite (hruns _ _) (hruns _ _))
  unfold jobGive
  split
  · exact h
  · refine .ite ?_ (.ite (hruns _ _) (.ite ?_ (canonical_takeCoefs (canonical_updJob h))))
    · dsimp only
      split
      · exact hdrawn _ _ _
      · exact .ite (canonical_prDrop (canonical_syncAll (canonical_updJob (hdrawn _ _ _)))) (canonical_jobAsk (hdrawn _ _ _))
    · exact .onlyIf (canonical_jobAsk (canonical_prDrop (hruns _ _))) fun _ => canonical_syncAll

theorem canonical_peerGive {slot : Nat} {ws : List AWord} {s : State} (h : Canonical s) : Canonical (peerGive slot ws s) := by
  unfold peerGive
  dsimp only
  split
  · exact canonical_kerfWords h
  · exact .frame h rfl

theorem canonical_giveWords {w : Waiter} {ws : List AWord} {s : State} (h : Canonical s) : Canonical (giveWords w ws s) := by
  unfold giveWords
  split
  · exact canonical_endRead h
  · exact canonical_endBurst h
  · exact canonical_jobGive h
  · exact canonical_peerGive h

end Sys2Proof.Machine


/-! PROOFS. The canonical form of every memory over the operations of jobs, their parser, their starts and launches. -/

namespace Sys2Proof.Machine

/-! ### Instructions -/

theorem canonical_addJob {j : Job} {s : State} (h : Canonical s) : Canonical (addJob j s) := canonical_bumpOrd (.frame h rfl)

theorem canonical_progRecord {req : ReqId} {path : Path} {words : Nat} {s : State} (h : Canonical s) :
    Canonical (progRecord req path words s) := canonical_addJob h

theorem canonical_rejectJob {j : Job} {status : BitVec 8} {s : State} (h : Canonical s) : Canonical (rejectJob j status s) :=
  canonical_addJob h

theorem canonical_benchKat {n : Nat} {who : KatWho} {s : State} (h : Canonical s) : Canonical (benchKat n who s) :=
  canonical_updBench (fun _ h => h) h

theorem canonical_bneRun {s : State} (h : Canonical s) : Canonical (bneRun s) := .frame h rfl

theorem canonical_bneKatSettle {s : State} (h : Canonical s) : Canonical (bneKatSettle s) := .ite h (.frame h rfl)

theorem canonical_hashKat {who : KatWho} {s : State} (h : Canonical s) : Canonical (hashKat who s) := .frame h rfl

theorem canonical_testStart {id : Nat} {j : Job} {s : State} (h : Canonical s) : Canonical (testStart id j s) := by
  unfold testStart
  exact .ite (canonical_stopJob h) (canonical_endIfDone (.ite (canonical_updJob h) (.ite (canonical_plnTest (canonical_updJob h))
    (.ite (.foldl (canonical_lanRun (canonical_updJob h)) (fun _ _ => canonical_askLaneKat)) (.ite
      (.foldl (canonical_bneRun (canonical_updJob h)) (fun _ _ => canonical_benchKat))
      (.foldl (canonical_bneRun (canonical_updJob h)) (fun _ _ => canonical_hashKat)))))))

theorem canonical_mixStart {id : Nat} {j : Job} {s : State} (h : Canonical s) : Canonical (mixStart id j s) := by
  unfold mixStart
  exact canonical_mixCheck (.foldl (canonical_updJob h) (fun _ _ => canonical_mixFeed))

theorem canonical_reseedStart {id : Nat} {j : Job} {s : State} (h : Canonical s) : Canonical (reseedStart id j s) :=
  .ite (canonical_stopJob h) (canonical_endIfDone (.foldl (canonical_updJob h) (fun _ _ => canonical_makeDue)))

theorem canonical_benchWait {id : Nat} {s : State} (h : Canonical s) : Canonical (benchWait id s) := by
  unfold benchWait
  split
  · exact h
  · exact .ite (canonical_stopJob h) (.ite (canonical_stopJob h) (canonical_updJob h))

theorem canonical_verifyStart {id : Nat} {j : Job} {s : State} (h : Canonical s) : Canonical (verifyStart id j s) :=
  .ite (canonical_stopJob h) (.ite (canonical_benchWait h) (.ite (canonical_stopJob h) (canonical_fetchRun (canonical_updJob h))))

theorem canonical_tallyStart {id : Nat} {s : State} (h : Canonical s) : Canonical (tallyStart id s) :=
  canonical_issueResult (canonical_takeSnapshot h)

theorem canonical_restoreStart {id : Nat} {j : Job} {s : State} (h : Canonical s) : Canonical (restoreStart id j s) :=
  .ite (canonical_stopJob h) (canonical_stopJob (canonical_calRestoreGroups h))

theorem canonical_voidVerdict {v : Nat} {k : Job} {s : State} (h : Canonical s) : Canonical (voidVerdict v k s) :=
  .ite (canonical_dropUnsent (canonical_updJob h)) h

theorem canonical_leaveLine {v : Nat} {s : State} (h : Canonical s) : Canonical (leaveLine v s) := .ite (canonical_updJob (.frame h rfl)) h

theorem canonical_abortTarget {v : Nat} {s : State} (h : Canonical s) : Canonical (abortTarget v s) := by
  unfold abortTarget
  dsimp only
  split
  · exact h
  · exact .ite (canonical_voidVerdict (canonical_updJob h))
      (.foldl (canonical_voidVerdict (canonical_stopJob (canonical_updJob (canonical_leaveLine h)))) (fun _ _ => canonical_mixFeed))

theorem canonical_abortStart {id : Nat} {j : Job} {s : State} (h : Canonical s) : Canonical (abortStart id j s) := by
  unfold abortStart
  dsimp only
  split
  · exact canonical_stopJob h
  · exact canonical_stopJob (canonical_updJob (canonical_abortTarget h))

theorem canonical_startJob {id : Nat} {s : State} (h : Canonical s) : Canonical (startJob id s) := by
  unfold startJob
  dsimp only
  split
  · exact h
  · exact .ite (canonical_jobAsk h) (.ite (canonical_permNext (canonical_updJob h)) (.ite (canonical_mixStart h)
      (.ite (canonical_reseedStart h) (.ite (canonical_updJob h) (.ite (canonical_verifyStart h) (.ite (canonical_benchWait h)
        (.ite (canonical_fetchRun (canonical_updJob h)) (.ite (canonical_tallyStart h) (.ite (canonical_testStart h)
          (.ite (canonical_stopJob (canonical_updJob h)) (.ite (canonical_abortStart h) (canonical_restoreStart h))))))))))))

theorem canonical_acceptJob {j : Job} {at_ : Option (BitVec 32)} {s : State} (h : Canonical s) : Canonical (acceptJob j at_ s) := by
  unfold acceptJob
  exact .ite (.frame (canonical_addJob h) rfl) (canonical_startJob (.frame (canonical_addJob h) rfl))

theorem canonical_syncParser {s : State} (h : Canonical s) : Canonical (syncParser s) := by
  unfold syncParser
  exact .frame (.frame h rfl) rfl

theorem canonical_discardRun {r : ReqId} {s : State} (h : Canonical s) : Canonical (discardRun r s) := by
  unfold discardRun
  split
  · exact h
  · split
    · exact h
    · split
      · exact canonical_progRecord (canonical_updStream h)
      · exact canonical_updStream h

theorem canonical_parsePeg {r : ReqId} {w : Word} {s : State} (h : Canonical s) : Canonical (parsePeg r w s) :=
  .ite (canonical_bumpOrd (canonical_updStream h)) h

theorem canonical_dropAt {r : ReqId} {s : State} (h : Canonical s) : Canonical (dropAt r s) := by
  unfold dropAt
  split
  · exact .ite (canonical_progRecord (canonical_updStream h)) h
  · exact h

theorem canonical_parseOne {r : ReqId} {s : State} (h : Canonical s) : Canonical (parseOne r s) := by
  unfold parseOne
  dsimp only
  split
  · exact h
  · split
    · exact h
    · refine .ite (canonical_discardRun (canonical_updStream (canonical_dropAt (canonical_updStream h)))) ?_
      refine .ite (canonical_progRecord (canonical_dropAt (canonical_updStream h))) ?_
      refine .ite (.ite (canonical_progRecord (canonical_dropAt (canonical_updStream h))) (.ite
        (canonical_parsePeg (canonical_dropAt (canonical_updStream h)))
        (.ite (canonical_updStream (canonical_dropAt (canonical_updStream h))) (canonical_dropAt (canonical_updStream h))))) ?_
      split
      · exact canonical_rejectJob (canonical_updStream (.onlyIf (canonical_updStream h) (fun _ => canonical_dropAt)))
      · exact canonical_acceptJob (canonical_updStream (.onlyIf (canonical_updStream h) (fun _ => canonical_dropAt)))

theorem canonical_parseIf {p : Word → Bool} {s : State} (h : Canonical s) : Canonical (parseIf p s) := by
  unfold parseIf
  dsimp only
  refine .ite h ?_
  split
  · exact h
  · split
    · exact h
    · exact .ite (canonical_syncParser (.frame (canonical_parseOne (canonical_syncParser h)) rfl)) h

theorem canonical_parseOp {op : BitVec 8} {s : State} (h : Canonical s) : Canonical (parseOp op s) := canonical_parseIf h

theorem canonical_appendWords {a : Acc} {ws : List Word} {s : State} (h : Canonical s) : Canonical (appendWords a ws s) := by
  unfold appendWords
  dsimp only
  split
  · exact canonical_updStream (.frame h rfl)
  · exact .frame (.frame h rfl) rfl

theorem canonical_submit {a : Acc} {w : Nat} {bytes : List Byte} {s : State} (h : Canonical s) : Canonical (submit a w bytes s).2 := by
  unfold submit
  dsimp only
  split
  · exact canonical_syncParser (canonical_discardRun (canonical_appendWords h))
  · exact canonical_post (.frame h rfl)

theorem canonical_startFree {r : ReqId} {s : State} (h : Canonical s) : Canonical (startFree r s) :=
  .foldl h (fun _ _ => canonical_startJob)

theorem canonical_fenceRelease {r : ReqId} {s : State} (h : Canonical s) : Canonical (fenceRelease r s) := by
  unfold fenceRelease
  refine .ite h ?_
  split
  · exact h
  · exact canonical_startFree (canonical_updStream h)

theorem canonical_countLaunch {late rej : Bool} {s : State} (h : Canonical s) : Canonical (countLaunch late rej s) := .frame h rfl

theorem canonical_rejectLaunch {id : Nat} {s : State} (h : Canonical s) : Canonical (rejectLaunch id s) := by
  unfold rejectLaunch
  split
  · exact h
  · exact canonical_stopJob (canonical_countLaunch (canonical_updJob h))

theorem canonical_atLaunch {id : Nat} {s : State} (h : Canonical s) : Canonical (atLaunch id s) := by
  unfold atLaunch
  dsimp only
  split
  · exact h
  · split
    · exact h
    · exact .ite h (.ite (canonical_rejectLaunch h) (canonical_startJob (canonical_countLaunch (canonical_updJob h))))

theorem canonical_beaconAsk {id : Nat} {s : State} (h : Canonical s) : Canonical (beaconAsk id s) := by
  unfold beaconAsk
  split
  · exact h
  · exact .ite (canonical_jobAsk (canonical_updJob h)) h

theorem canonical_beaconLaunch {id : Nat} {s : State} (h : Canonical s) : Canonical (beaconLaunch id s) := by
  unfold beaconLaunch
  dsimp only
  split
  · exact h
  · split
    · exact h
    · refine .ite h ?_
      refine .ite (canonical_rejectLaunch h) ?_
      refine .ite (canonical_stopJob (.frame (canonical_countLaunch (canonical_updJob h)) rfl)) ?_
      refine .ite ?_ (.frame (canonical_countLaunch (canonical_updJob h)) rfl)
      split
      · exact canonical_stopJob (.frame (canonical_countLaunch (canonical_updJob h)) rfl)
      · exact .frame (canonical_countLaunch (canonical_updJob h)) rfl

theorem canonical_tagSelWrite {v : W32} {s : State} (h : Canonical s) : Canonical (tagSelWrite v s) := .frame h rfl

theorem canonical_engineLost {s : State} (h : Canonical s) : Canonical (engineLost s) := canonical_raiseFatal (.frame h rfl)

end Sys2Proof.Machine


/-! PROOFS. The canonical form of every memory over the operations of queues, segments, the distribution unit and deliveries. -/

namespace Sys2Proof.Machine

/-! ### Queues -/

theorem canonical_stkRefuse {bit : Nat} {s : State} (h : Canonical s) : Canonical (stkRefuse bit s) := canonical_post (.frame h rfl)

theorem canonical_peerSkipped {s : State} (h : Canonical s) : Canonical (peerSkipped s) := .frame h rfl

theorem canonical_flushWaiter {q : Nat} {w : Waiter} {s : State} (h : Canonical s) : Canonical (flushWaiter q w s) := by
  unfold flushWaiter
  dsimp only
  split
  · exact canonical_prDrop (canonical_endRead (canonical_dropWaiter (canonical_releaseAllot h)))
  · exact canonical_prDrop (canonical_endRead (canonical_dropWaiter (canonical_releaseAllot h)))
  · exact canonical_peerSkipped (canonical_dropWaiter (canonical_releaseAllot h))
  · split
    · exact .ite (canonical_beaconFlushed (canonical_dropWaiter (canonical_releaseAllot h)))
        (canonical_stopJob (canonical_dropWaiter (canonical_releaseAllot h)))
    · exact canonical_dropWaiter (canonical_releaseAllot h)

theorem canonical_flushWaiters {q : Nat} {s : State} (h : Canonical s) : Canonical (flushWaiters q s) := by
  unfold flushWaiters
  dsimp only
  split
  · exact h
  · exact .foldl (.foldl h (fun _ _ => canonical_flushWaiter)) (fun _ _ => canonical_beaconFlushed)

theorem canonical_dropSegments {q : Nat} {why : WordKerf} {s : State} (h : Canonical s) : Canonical (dropSegments q why s) := by
  unfold dropSegments
  dsimp only
  refine .foldl h (fun _ _ h => ?_)
  split
  · exact h
  · exact .ite h (canonical_laneBoundary (canonical_laneDemand (canonical_updLane (canonical_updBooks (canonical_updBooks h)))))

theorem canonical_queueFlush {q : Nat} {s : State} (h : Canonical s) : Canonical (queueFlush q s) := by
  unfold queueFlush
  dsimp only
  split
  · exact h
  · exact canonical_flushWaiters (canonical_kerfQueue (.foldl h (fun _ _ => canonical_releaseAllot)))

theorem canonical_queueVoid {q : Nat} {s : State} (h : Canonical s) : Canonical (queueVoid q s) := by
  unfold queueVoid
  dsimp only
  split
  · exact h
  · exact .ite (canonical_post (canonical_dropSegments (canonical_kerfQueue (canonical_flushWaiters (canonical_updQ h))))) h

theorem canonical_voidCheck {qs : List Nat} {s : State} (h : Canonical s) : Canonical (voidCheck qs s) := by
  unfold voidCheck
  exact .ite (.foldl h (fun _ _ => canonical_queueVoid)) (canonical_raiseFatal (.foldl h (fun _ _ => canonical_queueVoid)))

theorem canonical_retireRegion {r : Nat} {s : State} (h : Canonical s) : Canonical (retireRegion r s) := by
  have hkerf : ∀ (l : List Nat) p, Canonical (l.foldl (fun t q => kerfQueue q .fault p t) s) := fun _ _ => .foldl h fun _ _ => canonical_kerfQueue
  have hregions : ∀ (l : List Region) u, Canonical u → Canonical { u with stk := { u.stk with regions := l } } := fun _ _ h => .frame h rfl
  have hnext : ∀ {c : Prop} [Decidable c] (l : List Nat) u, Canonical u → Canonical (if c then u else voidCheck l u) := fun _ _ h =>
    .ite h (canonical_voidCheck h)
  unfold retireRegion
  refine hnext _ _ (canonical_post ?_)
  split
  · exact hregions _ _ (hregions _ _ (hregions _ _ (hkerf _ _)))
  · exact hregions _ _ (hregions _ _ (hkerf _ _))

theorem canonical_countCe {a : Nat} {s : State} (h : Canonical s) : Canonical (countCe a s) := .frame h rfl

theorem canonical_handleUe {a : Nat} {s : State} (h : Canonical s) : Canonical (handleUe a s) := canonical_retireRegion (.frame h rfl)

theorem canonical_patrolRead {a : Nat} {e : EccResult} {s : State} (h : Canonical s) : Canonical (patrolRead a e s) := by
  unfold patrolRead
  dsimp only
  refine .ite h ?_
  split
  · exact .ite (.frame h rfl) h
  · exact canonical_countCe (.ite (.frame h rfl) h)
  · exact canonical_handleUe (.ite (.frame h rfl) h)

theorem canonical_passVoid {q fuel : Nat} {s : State} (h : Canonical s) : Canonical (passVoid q fuel s) := by
  induction fuel generalizing s with
  | zero => exact h
  | succ fuel ih =>
    unfold passVoid
    split
    · exact h
    · exact .ite (ih (canonical_updQ h)) h

theorem canonical_passVoids {s : State} (h : Canonical s) : Canonical (passVoids s) := .ite (.foldl h (fun _ _ => canonical_passVoid)) h

theorem canonical_deliveryReady {q : Nat} {s : State} (h : Canonical s) : Canonical (deliveryReady q s) :=
  .ite h (canonical_post (.frame h rfl))

theorem canonical_writeSegment {q : Nat} {slots : List Nat} {w : Nat} {ws : List Word} {tag : Tag} {s : State} (h : Canonical s) :
    Canonical (writeSegment q slots w ws tag s) := by
  unfold writeSegment
  dsimp only
  split
  · exact h
  · exact canonical_deliveryReady (canonical_relevel (canonical_updBooks (.foldl h (fun _ _ => canonical_arrayWrite))))

theorem canonical_segmentOffer {n : Nat} {s : State} (h : Canonical s) : Canonical (segmentOffer n s) := by
  unfold segmentOffer
  dsimp only
  split
  · exact h
  · split
    · exact h
    · split
      · exact h
      · exact canonical_laneBoundary (canonical_laneDemand (canonical_writeSegment (canonical_updLane (canonical_updBooks h))))

theorem canonical_laneGenerate {n k : Nat} {l : Lane} {s : State} (h : Canonical s) : Canonical (laneGenerate n k l s).2 :=
  canonical_pieceAbsorbed (canonical_updLane h)

theorem canonical_cutLane {n left : Nat} {s : State} (h : Canonical s) : Canonical (cutLane n left s) :=
  canonical_laneFault (canonical_updBooks h)

theorem canonical_refreshUsed {s : State} (h : Canonical s) : Canonical (refreshUsed s) := .ite h (.frame h rfl)

theorem canonical_laneServe {n : Nat} {l : Lane} {p : PrReq} {cut : Option Nat} {s : State} (h : Canonical s) :
    Canonical (laneServe n l p cut s) := by
  have hgiven : ∀ (w : Waiter) ws q f, Canonical (if ws.isEmpty then updBooks f (laneGenerate n w.need l s).2
      else giveWords w ws (dropWaiter q w.key (updBooks f (laneGenerate n w.need l s).2))) := fun _ _ _ _ =>
    have hmade := canonical_updBooks (canonical_laneGenerate h)
    .ite hmade (canonical_giveWords (canonical_dropWaiter hmade))
  have hnext : ∀ k u, Canonical u → Canonical (if cut.isSome then cutLane n k u else laneBoundary n (laneDemand n u)) := fun _ _ h =>
    .ite (canonical_cutLane h) (canonical_laneBoundary (canonical_laneDemand h))
  unfold laneServe
  split
  · exact h
  · refine hnext _ _ ?_
    split
    · exact hgiven _ _ _ _
    · exact .ite (canonical_prDrop (canonical_refreshUsed (hgiven _ _ _ _))) (hgiven _ _ _ _)

theorem canonical_laneProduce {n : Nat} {l : Lane} {cut : Option Nat} {s : State} (h : Canonical s) :
    Canonical (laneProduce n l cut s) := by
  unfold laneProduce
  dsimp only
  split
  · exact h
  · split
    · exact canonical_laneDemand (canonical_updLane (canonical_updBooks (canonical_laneGenerate h)))
    · exact canonical_cutLane
        (.ite (canonical_updBooks (canonical_laneGenerate h)) (canonical_writeSegment (canonical_updBooks (canonical_laneGenerate h))))

theorem canonical_laneSegment {n : Nat} {cut : Option Nat} {s : State} (h : Canonical s) : Canonical (laneSegment n cut s) := by
  unfold laneSegment
  split
  · exact h
  · refine .ite ?_ (.onlyIf h (fun _ => canonical_laneFault))
    refine .ite h ?_
    split
    · exact .ite (canonical_laneServe h) h
    · exact canonical_laneProduce h

theorem canonical_mixAbsorb {n : Nat} {s : State} (h : Canonical s) : Canonical (mixAbsorb n s) := by
  unfold mixAbsorb
  dsimp only
  split
  · exact h
  · split
    · exact h
    · exact .ite h (canonical_pieceAbsorbed (canonical_updLane h))

theorem canonical_ageScrub {q : Nat} {s : State} (h : Canonical s) : Canonical (ageScrub q s) := by
  unfold ageScrub
  split
  · exact h
  · exact .ite (canonical_updQ (canonical_kerfQueue h)) h

theorem canonical_readWords {q key fuel : Nat} {ecc : GrantEcc} {s : State} (h : Canonical s) :
    Canonical (readWords q key fuel ecc s) := by
  induction fuel generalizing ecc s with
  | zero => exact h
  | succ fuel ih =>
    unfold readWords
    split
    · refine .ite h ?_
      split
      · exact h
      · dsimp only
        split
        · exact ih (canonical_handleUe (canonical_countQKerf (canonical_kerfStack (canonical_updQ h))))
        · exact ih (.onlyIf (canonical_updWait (canonical_updQ h)) fun _ => canonical_countCe)
    · exact h

theorem canonical_grantAllot {q : Nat} {ecc : GrantEcc} {s : State} (h : Canonical s) : Canonical (grantAllot q ecc s) := by
  unfold grantAllot
  dsimp only
  refine .ite h ?_
  split
  · exact canonical_syncQ (canonical_ageScrub h)
  · split
    · exact canonical_syncQ (canonical_ageScrub h)
    · refine .ite (canonical_updQ (canonical_syncQ (canonical_ageScrub h))) ?_
      split
      · exact canonical_readWords (canonical_syncQ (canonical_ageScrub h))
      · exact .ite (canonical_readWords (canonical_syncQ (canonical_ageScrub h)))
          (canonical_syncQ (canonical_giveWords (canonical_updQ (canonical_readWords (canonical_syncQ (canonical_ageScrub h))))))

theorem canonical_takeSlot {a : Acc} {key : Nat} {s : State} (h : Canonical s) : Canonical (takeSlot a key s) := by
  unfold takeSlot
  dsimp only
  split
  · exact .frame h rfl
  · exact .ite (.frame h rfl) (.frame h rfl)

theorem canonical_readWait {a : Acc} {q len : Nat} {what : WaitFor} {cmp : Bool} {s : State} (h : Canonical s) :
    Canonical (readWait a q len what cmp s) := by
  unfold readWait
  dsimp only
  refine .ite (canonical_addWaiter (canonical_takeSlot h)) ?_
  split
  · exact canonical_prPlace (canonical_addWaiter (canonical_takeSlot h))
  · exact canonical_updLane (canonical_addWaiter (canonical_takeSlot h))

theorem canonical_stallingRead {a : Acc} {q len : Nat} {what : WaitFor} {hold cmp : Bool} {s : State} (h : Canonical s) :
    Canonical (stallingRead a q len what hold cmp s) := by
  unfold stallingRead
  dsimp only
  refine .ite ?_ ?_
  · split
    · exact canonical_sendReply h
    · exact h
  · refine .ite h ?_
    split
    · exact canonical_readWait h
    · exact canonical_bumpOrd (canonical_endRead (canonical_takeSlot (.ite (.frame h rfl) h)))

theorem canonical_deliveryRead {a : Acc} {q len : Nat} {hold cmp : Bool} {s : State} (h : Canonical s) :
    Canonical (deliveryRead a q len hold cmp s) := canonical_stallingRead h

theorem canonical_cmpRefresh {s : State} (h : Canonical s) : Canonical (cmpRefresh s) :=
  .ite h (canonical_bumpOrd (canonical_placeRefresh (.frame h rfl)))

theorem canonical_stallWaiter {q : Nat} {w : Waiter} {s : State} (h : Canonical s) : Canonical (stallWaiter q w s) := by
  unfold stallWaiter
  dsimp only
  split
  · exact canonical_prDrop (canonical_endRead (canonical_updQ (canonical_dropWaiter (canonical_releaseAllot h))))
  · exact canonical_prDrop (canonical_endRead (canonical_updQ (canonical_dropWaiter (canonical_releaseAllot h))))
  · exact canonical_peerSkipped (canonical_updQ (canonical_dropWaiter (canonical_releaseAllot h)))
  · split
    · exact canonical_updQ (canonical_dropWaiter (canonical_releaseAllot h))
    · exact canonical_stopJob (canonical_updQ (canonical_dropWaiter (canonical_releaseAllot h)))

theorem canonical_stallExpire {w : WaitId} {s : State} (h : Canonical s) : Canonical (stallExpire w s) := by
  unfold stallExpire
  split
  · split
    · exact .ite (canonical_stallWaiter h) h
    · exact h
  · split
    · exact .ite (canonical_stopJob h) h
    · exact h
  · split
    · exact .ite (canonical_failJob h) h
    · exact h

theorem canonical_dropKinds {p : PortId} {ks : List TxKind} {s : State} (h : Canonical s) : Canonical (dropKinds p ks s) := .frame h rfl

theorem canonical_endWrite {id no : Nat} {st : WState} {s : State} (h : Canonical s) : Canonical (endWrite id no st s) :=
  canonical_updJob h

theorem canonical_endBeacon {id : Nat} {st : WState} {s : State} (h : Canonical s) : Canonical (endBeacon id st s) := by
  unfold endBeacon
  split
  · exact canonical_endWrite h
  · exact h

theorem canonical_forceJob {k : TxKind} {s : State} (h : Canonical s) : Canonical (forceJob k s) := by
  unfold forceJob
  split
  · exact canonical_endWrite (canonical_failJob h)
  · exact canonical_endBeacon (canonical_failJob h)
  · exact h

theorem canonical_markForced {q : Nat} {s : State} (h : Canonical s) : Canonical (markForced q s) := by
  unfold markForced
  dsimp only
  split
  · exact h
  · exact .ite h (.foldl
      (canonical_post (canonical_updQ (.foldl (canonical_dropKinds h) (fun _ _ h => canonical_countQKerf (canonical_kerfFlight h)))))
      (fun _ _ => canonical_forceJob))

theorem canonical_resultDrop {p : PortId} {txn : BitVec 16} {s : State} (h : Canonical s) : Canonical (resultDrop p txn s) := by
  unfold resultDrop
  dsimp only
  split
  · exact h
  · split
    · exact .ite (canonical_forceJob (canonical_dropKinds h)) h
    · exact h

theorem canonical_queueOn {q : Nat} {s : State} (h : Canonical s) : Canonical (queueOn q s) := by
  unfold queueOn
  dsimp only
  split
  · exact h
  · exact .ite h (.ite (canonical_queueVoid (canonical_relevel h)) (canonical_stkRefuse h))

theorem canonical_queueOffWrite {q : Nat} {flush : Bool} {s : State} (h : Canonical s) : Canonical (queueOffWrite q flush s) := by
  unfold queueOffWrite
  dsimp only
  split
  · exact h
  · exact .ite h (.ite (.onlyIf (canonical_stkRefuse h) (fun _ => canonical_queueFlush))
      (canonical_updQ (canonical_dropSegments (canonical_updQ (canonical_queueFlush h)))))

theorem canonical_dqCtrlWrite {q : Nat} {v : W32} {s : State} (h : Canonical s) : Canonical (dqCtrlWrite q v s) :=
  .ite (.onlyIf (canonical_queueOn (canonical_updQ h)) (fun _ => canonical_queueFlush)) (canonical_queueOffWrite (canonical_updQ h))

theorem canonical_dqConfigWrite {q : Nat} {size : Bool} {v : W32} {s : State} (h : Canonical s) :
    Canonical (dqConfigWrite q size v s) := by
  unfold dqConfigWrite
  dsimp only
  split
  · exact h
  · exact .ite (canonical_stkRefuse h) (.ite (canonical_updQ h) (canonical_updQ h))

theorem canonical_dqWmWrite {q : Nat} {v : W32} {s : State} (h : Canonical s) : Canonical (dqWmWrite q v s) := canonical_updQ h

theorem canonical_stkTagSel {v : W32} {s : State} (h : Canonical s) : Canonical (stkTagSel v s) := .frame h rfl

end Sys2Proof.Machine


/-! PROOFS. The canonical form of every memory over the operations of benches, the hash unit, and frames at the ring ports. -/

namespace Sys2Proof.Machine

/-! ### Benches -/

theorem canonical_bneRefuse {n bit : Nat} {s : State} (h : Canonical s) : Canonical (bneRefuse n bit s) := canonical_post (.frame h rfl)

theorem canonical_syncBench {s : State} (h : Canonical s) : Canonical (syncBench s) := .frame h rfl

theorem canonical_benchJobStart {s : State} (h : Canonical s) : Canonical (benchJobStart s) := by
  unfold benchJobStart
  dsimp only
  refine .ite h ?_
  split
  · exact canonical_syncBench h
  · exact canonical_fetchRun (canonical_updBench (fun _ h => h) (canonical_updJob (.frame (canonical_syncBench h) rfl)))

theorem canonical_denyOrphans {s : State} (h : Canonical s) : Canonical (denyOrphans s) := .foldl h (fun _ _ => canonical_stopJob)

theorem canonical_starveWaiters {s : State} (h : Canonical s) : Canonical (starveWaiters s) :=
  .ite h (.foldl h (fun _ _ => canonical_stopJob))

theorem canonical_benchSettle {s : State} (h : Canonical s) : Canonical (benchSettle s) := by
  refine canonical_starveWaiters (canonical_denyOrphans (canonical_benches (fun b hb => ?_) h))
  split
  · rfl
  · exact hb

theorem canonical_idleTouch {s : State} (h : Canonical s) : Canonical (idleTouch s) :=
  canonical_benches (fun b hb => by split <;> exact hb) h

theorem canonical_benchClaim {r : ReqId} {n : Nat} {s : State} (h : Canonical s) : Canonical (benchClaim r n s) :=
  .ite (canonical_updBench (fun _ h => h) h) (canonical_bneRefuse h)

theorem canonical_endOwner {n : Nat} {s : State} (h : Canonical s) : Canonical (endOwner n s) := canonical_updBench (fun _ _ => rfl) h

theorem canonical_benchRelease {r : ReqId} {n : Nat} {s : State} (h : Canonical s) : Canonical (benchRelease r n s) := by
  unfold benchRelease
  split
  · exact h
  · exact .ite (canonical_bneRefuse h) (.ite (canonical_updBench (fun _ h => h) h) (canonical_benchSettle (canonical_endOwner h)))

theorem canonical_benchIdleTimeout {n : Nat} {s : State} (h : Canonical s) : Canonical (benchIdleTimeout n s) := by
  unfold benchIdleTimeout
  split
  · exact h
  · split
    · exact h
    · exact .ite (canonical_post (canonical_benchSettle (canonical_endOwner h))) h

theorem canonical_benchWindow {r : ReqId} {n off : Nat} {op : WindowOp} {s : State} (h : Canonical s) :
    Canonical (benchWindow r n off op s).2.2 := by
  have htouched : ∀ t, Canonical (updBench n (fun x => { x with idleSlow := t }) s) := fun _ => canonical_updBench (fun _ h => h) h
  have hite : ∀ {c : Prop} [Decidable c] {x y : Nat × List Byte × State}, Canonical x.2.2 → Canonical y.2.2 →
      Canonical (if c then x else y).2.2 := fun hx hy => by
    split
    · exact hx
    · exact hy
  unfold benchWindow
  split
  · exact h
  · refine hite (canonical_bneRefuse h) (hite (canonical_bneRefuse h) ?_)
    cases op with
    | read k => exact htouched _
    | write bs => exact canonical_updBench (fun _ hm => memWf_memWrite hm) (htouched _)

theorem canonical_benchEnd {n : Nat} {s : State} (h : Canonical s) : Canonical (benchEnd n s) := by
  unfold benchEnd
  split
  · exact h
  · split
    · exact h
    · exact canonical_updJob (canonical_updBench (fun _ h => h) h)

theorem canonical_verdictEnd {n id : Nat} {status : BitVec 8} {count : Nat} {confirmed : Bool} {s : State} (h : Canonical s) :
    Canonical (verdictEnd n id status count confirmed s) := canonical_stopJob (canonical_benchEnd (canonical_updJob h))

theorem canonical_mismatch {n id : Nat} {s : State} (h : Canonical s) : Canonical (mismatch n id s) := by
  unfold mismatch
  dsimp only
  split
  · exact h
  · exact canonical_post (canonical_updBench (fun _ h => h) (canonical_verdictEnd h))

theorem canonical_verifyVerdict {n id : Nat} {j : Job} {agree : Bool} {s : State} (h : Canonical s) :
    Canonical (verifyVerdict n id j agree s) := .ite (.ite (canonical_verdictEnd h) (canonical_mismatch h)) (canonical_verdictEnd h)

theorem canonical_batchEnd {n id : Nat} {j : Job} {ok : List Nat} {s : State} (h : Canonical s) : Canonical (batchEnd n id j ok s) :=
  canonical_issueResult (canonical_benchEnd (canonical_updJob h))

theorem canonical_batchVerdict {n id : Nat} {j : Job} {agree : Bool} {s : State} (h : Canonical s) :
    Canonical (batchVerdict n id j agree s) :=
  .ite (canonical_batchEnd h)
    (.ite h (.ite (.ite (canonical_batchEnd h) (canonical_mismatch h)) (.ite h (.ite (canonical_mismatch h) (canonical_batchEnd h)))))

theorem canonical_benchVerdict {n : Nat} {agree : Bool} {s : State} (h : Canonical s) : Canonical (benchVerdict n agree s) := by
  unfold benchVerdict
  split
  · exact h
  · split
    · exact h
    · exact .ite h (.ite (canonical_verifyVerdict h) (canonical_batchVerdict h))

theorem canonical_dropBenchKats {n : Nat} {s : State} (h : Canonical s) : Canonical (dropBenchKats n s) := by
  unfold dropBenchKats
  split
  · exact h
  · refine canonical_bneKatSettle ?_
    refine .foldl (canonical_updBench (fun _ h => h) h) (fun _ _ h => ?_)
    split
    · exact canonical_testUnitDone h
    · exact h

theorem canonical_retireBench {n cause : Nat} {s : State} (h : Canonical s) : Canonical (retireBench n cause s) :=
  canonical_post (canonical_dropBenchKats (canonical_updBench (fun _ _ => rfl) h))

theorem canonical_benchClearDone {n : Nat} {s : State} (h : Canonical s) : Canonical (benchClearDone n s) := by
  unfold benchClearDone
  split
  · exact h
  · refine .ite h (.ite (canonical_benchSettle (canonical_retireBench h)) (canonical_updBench (fun x hx => ?_) h))
    show memWf (if x.zeroAll then [] else x.mem) = true
    split
    · rfl
    · exact hx

theorem canonical_ucodeUncorrectable {s : State} (h : Canonical s) : Canonical (ucodeUncorrectable s) := by
  unfold ucodeUncorrectable
  dsimp only
  refine canonical_benchSettle ?_
  refine .foldl h (fun _ _ h => ?_)
  refine canonical_retireBench ?_
  split
  · exact canonical_stopJob h
  · exact h

theorem canonical_ucodeStoreError {unc : Bool} {s : State} (h : Canonical s) : Canonical (ucodeStoreError unc s) :=
  .ite h (.ite (canonical_ucodeUncorrectable (canonical_post (.frame h rfl))) (canonical_post (.frame h rfl)))

theorem canonical_bneKatCmd {v : W32} {s : State} (h : Canonical s) : Canonical (bneKatCmd v s) := by
  unfold bneKatCmd
  exact .ite (canonical_bneRefuse h) (.onlyIf (.foldl (canonical_bneRun h) (fun _ _ => canonical_benchKat)) (fun _ => canonical_hashKat))

theorem canonical_bneKatReport {unit : Nat} {who : KatWho} {ok : Bool} {s : State} (h : Canonical s) :
    Canonical (bneKatReport unit who ok s) := by
  unfold bneKatReport
  dsimp only
  split
  · exact .ite (canonical_testUnitDone (canonical_bneKatSettle (.frame h rfl))) (canonical_bneKatSettle (.frame h rfl))
  · exact canonical_bneKatSettle (.frame h rfl)

theorem canonical_benchKatDone {n : Nat} {ok : Bool} {s : State} (h : Canonical s) : Canonical (benchKatDone n ok s) := by
  unfold benchKatDone
  split
  · exact h
  · split
    · exact h
    · exact .ite h (.ite (canonical_bneKatReport (canonical_updBench (fun _ h => h) h))
        (canonical_raiseFatal (canonical_bneKatReport (canonical_updBench (fun _ _ => rfl) h))))

theorem canonical_hashKatDone {ok : Bool} {s : State} (h : Canonical s) : Canonical (hashKatDone ok s) := by
  unfold hashKatDone
  dsimp only
  split
  · exact h
  · exact .ite (canonical_bneKatReport (.frame h rfl)) (canonical_raiseFatal (canonical_bneKatReport (.frame h rfl)))

theorem canonical_syncHash {s : State} (h : Canonical s) : Canonical (syncHash s) := .frame h rfl

theorem canonical_digestDone {id : Nat} {r : SrcRead} {d : List Byte} {s : State} (h : Canonical s) : Canonical (digestDone id r d s) := by
  unfold digestDone
  dsimp only
  split
  · exact canonical_issueResult (canonical_updJob (canonical_updJob h))
  · exact canonical_fetchRun (canonical_updJob (canonical_updJob h))
  · exact canonical_fetchRun (canonical_updJob (canonical_updJob h))
  · exact .ite (canonical_fetchRun (canonical_updJob (canonical_updJob h))) (canonical_benchWait (canonical_updJob (canonical_updJob h)))

theorem canonical_hashTurnDone {s : State} (h : Canonical s) : Canonical (hashTurnDone s) := by
  unfold hashTurnDone
  dsimp only
  refine .ite h ?_
  split
  · exact canonical_syncHash h
  · split
    · exact canonical_syncHash h
    · split
      · exact canonical_syncHash h
      · exact .ite (canonical_digestDone (canonical_updJob (.frame (canonical_syncHash h) rfl)))
          (canonical_updJob (.frame (canonical_syncHash h) rfl))

/-! ### Ports -/

theorem canonical_onPort {p : PortId} {f : Port → Port} {s : State} (h : Canonical s) : Canonical (onPort p f s) := .frame h rfl

theorem canonical_giveCredit {p : PortId} {pool : Nat} {s : State} (h : Canonical s) : Canonical (giveCredit p pool s) :=
  canonical_onPort h

theorem canonical_rxFrame {p : PortId} {f : Frame} {s : State} (h : Canonical s) : Canonical (rxFrame p f s) :=
  .ite (canonical_onPort h) (canonical_giveCredit (canonical_onPort h))

theorem canonical_rxAccess {p : PortId} {hold mark : Bool} {s : State} (h : Canonical s) : Canonical (rxAccess p hold mark s) :=
  .ite (canonical_onPort h) (canonical_giveCredit (canonical_onPort h))

theorem canonical_noteSent {p : PortId} {t : TxFrame} {s : State} (h : Canonical s) : Canonical (noteSent p t s) := .ite (.frame h rfl) h

theorem canonical_noteBcast {p : PortId} {t : TxFrame} {s : State} (h : Canonical s) : Canonical (noteBcast p t s) := .ite (.frame h rfl) h

theorem canonical_freeTransit {t : TxFrame} {s : State} (h : Canonical s) : Canonical (freeTransit t s) := by
  unfold freeTransit
  split
  · exact canonical_giveCredit h
  · exact h

theorem canonical_sendAt {p : PortId} {i : Nat} {s : State} (h : Canonical s) : Canonical (sendAt p i s) := by
  unfold sendAt
  dsimp only
  split
  · exact h
  · exact .ite (canonical_freeTransit (canonical_noteBcast (canonical_noteSent (canonical_onPort h))))
      (.onlyIf (canonical_freeTransit (canonical_noteBcast (canonical_noteSent (canonical_onPort h)))) (fun _ => canonical_toFlight))

theorem canonical_pumpPort {p : PortId} {n : Nat} {s : State} (h : Canonical s) : Canonical (pumpPort p n s) := by
  induction n generalizing s with
  | zero => exact h
  | succ n ih =>
    unfold pumpPort
    split
    · exact h
    · exact ih (canonical_sendAt h)

theorem canonical_creditWait {p : PortId} {s : State} (h : Canonical s) : Canonical (creditWait p s) := canonical_onPort h

theorem canonical_pump {s : State} (h : Canonical s) : Canonical (pump s) :=
  canonical_creditWait (canonical_creditWait (canonical_pumpPort (canonical_pumpPort h)))

theorem canonical_sendIdent {p : PortId} {s : State} (h : Canonical s) : Canonical (sendIdent p s) := .ite (canonical_onPort h) h

theorem canonical_sendIdents {s : State} (h : Canonical s) : Canonical (sendIdents s) := canonical_sendIdent (canonical_sendIdent h)

theorem canonical_linkSend {p : PortId} {s : State} (h : Canonical s) : Canonical (linkSend p s) := .ite (canonical_onPort h) h

theorem canonical_replay {p : PortId} {s : State} (h : Canonical s) : Canonical (replay p s) := canonical_onPort h

theorem canonical_freeHeld {key : Nat} {s : State} (h : Canonical s) : Canonical (freeHeld key s) :=
  .ite (canonical_giveCredit (canonical_onPort (.ite (canonical_giveCredit (canonical_onPort h)) h)))
    (.ite (canonical_giveCredit (canonical_onPort h)) h)

theorem canonical_markJob {id marked : Nat} {s : State} (h : Canonical s) : Canonical (markJob id marked s) := .ite h (canonical_updJob h)

theorem canonical_frameAcked {t : TxFrame} {s : State} (h : Canonical s) : Canonical (frameAcked t s) := by
  have hdelivered : Canonical (if t.words = 0 then s else deliverWords t.refs t.words t.marked s) := .ite h (canonical_deliverWords h)
  have hsame : Canonical (if t.words = 0 then s else s) := .ite h h
  unfold frameAcked
  cases t.kind with
  | held key => exact canonical_freeHeld hdelivered
  | beacon id => exact canonical_markJob (canonical_endBeacon hdelivered)
  | peer => exact hdelivered
  | jobEvent id => exact canonical_completeJob hsame
  | _ => exact hsame

theorem canonical_linkRx {p : PortId} {w : Word} {s : State} (h : Canonical s) : Canonical (linkRx p w s) := by
  unfold linkRx
  exact .ite h (.ite
    (canonical_replay (.foldl (.onlyIf (canonical_onPort h) (fun _ => canonical_bumpFree)) (fun _ _ => canonical_frameAcked)))
    (.foldl (.onlyIf (canonical_onPort h) (fun _ => canonical_bumpFree)) (fun _ _ => canonical_frameAcked)))

theorem canonical_frameCrcError {p : PortId} {bad : Bool} {s : State} (h : Canonical s) : Canonical (frameCrcError p bad s) :=
  .ite h (canonical_onPort h)

theorem canonical_replayTimer {p : PortId} {s : State} (h : Canonical s) : Canonical (replayTimer p s) := .ite (canonical_replay h) h

theorem canonical_forward {p : PortId} {pool : Nat} {f : Frame} {s : State} (h : Canonical s) : Canonical (forward p pool f s) :=
  .frame h rfl

theorem canonical_forwardBcast {p : PortId} {f : Frame} {resid : Nat} {s : State} (h : Canonical s) :
    Canonical (forwardBcast p f resid s) := .ite h (.ite (.ite (.frame h rfl) h) (canonical_forward h))

theorem canonical_rxBad {p : PortId} {f : Frame} {s : State} (h : Canonical s) : Canonical (rxBad p f s) :=
  .ite (.frame h rfl) (canonical_post (canonical_onPort (.frame h rfl)))

theorem canonical_ringRxBad {p : PortId} {f : Frame} {s : State} (h : Canonical s) : Canonical (ringRxBad p f s) :=
  .ite (canonical_rxBad (.onlyIf (canonical_rxFrame h) (fun _ => canonical_giveCredit))) h

theorem canonical_transitFrame {p : PortId} {f : Frame} {resid : Nat} {s : State} (h : Canonical s) :
    Canonical (transitFrame p f resid s) :=
  .ite (canonical_forward (canonical_rxFrame h)) (.ite (canonical_forwardBcast (canonical_rxFrame h)) h)

end Sys2Proof.Machine


/-! PROOFS. The canonical form of every memory over the operations of ports that fail, the hierarchy, and fabric time. -/

namespace Sys2Proof.Machine

/-! ### Failures -/

theorem canonical_takeBack {id : Nat} {s : State} (h : Canonical s) : Canonical (takeBack id s) := by
  unfold takeBack
  dsimp only
  split
  · exact h
  · exact canonical_pullUnsent (canonical_updJob h)

theorem canonical_rebuild {id : Nat} {s : State} (h : Canonical s) : Canonical (rebuild id s) :=
  .ite (canonical_pullUnsent (canonical_updJob h)) (canonical_updJob (canonical_pullUnsent (canonical_updJob h)))

theorem canonical_reserve {id : Nat} {nos : List Nat} {s : State} (h : Canonical s) : Canonical (reserve id nos s) := by
  unfold reserve
  dsimp only
  split
  · exact h
  · exact .ite (canonical_updJob h) (.ite (canonical_rebuild (canonical_updJob h)) (.ite (.onlyIf (canonical_jobAsk
      (canonical_prDrop (canonical_dropWaiter (canonical_releaseAllot (canonical_updJob (canonical_takeBack (canonical_updJob h)))))))
      (fun _ => canonical_drawIssue)) (canonical_updJob h)))

theorem canonical_reroute {p : PortId} {s : State} (h : Canonical s) : Canonical (reroute p s) :=
  .ite h (.ite (canonical_onPort h) (canonical_onPort (canonical_onPort h)))

theorem canonical_requeueStores {ps : List PortId} {s : State} (h : Canonical s) : Canonical (requeueStores ps s) := by
  unfold requeueStores
  exact .foldr (.frame (.foldl h (fun _ _ => canonical_onPort)) rfl) (fun _ _ => canonical_onPort)

theorem canonical_lostReply {t : TxFrame} {s : State} (h : Canonical s) : Canonical (lostReply t s) := by
  unfold lostReply
  dsimp only
  split
  · exact canonical_freeHeld (.frame h rfl)
  · exact h

theorem canonical_lostBeacon {k : TxKind} {s : State} (h : Canonical s) : Canonical (lostBeacon k s) := by
  unfold lostBeacon
  split
  · exact canonical_endBeacon h
  · exact h

theorem canonical_breakFrame {p : PortId} {s : State} (h : Canonical s) : Canonical (breakFrame p s) := .frame h rfl

theorem canonical_sendBreak {p : PortId} {s : State} (h : Canonical s) : Canonical (sendBreak p s) :=
  .onlyIf (canonical_reroute h) (fun _ => canonical_breakFrame)

theorem canonical_failoverNote {from_ : PortId ⊕ BitVec 12} {cause n : Nat} {s : State} (h : Canonical s) :
    Canonical (failoverNote from_ cause n s) := .frame h rfl

theorem canonical_declareLost {ps : List PortId} {s : State} (h : Canonical s) : Canonical (declareLost ps s) := by
  unfold declareLost
  exact .foldl (.foldl (.foldl (.frame (canonical_requeueStores h) rfl) (fun _ _ h => .ite h (canonical_kerfFlight h)))
    (fun _ _ => canonical_lostReply)) (fun _ _ => canonical_lostBeacon)

theorem canonical_failover {ps : List PortId} {from_ : PortId ⊕ BitVec 12} {cause : Nat} {s : State} (h : Canonical s) :
    Canonical (failover ps from_ cause s) := by
  unfold failover
  dsimp only
  refine .foldl ?_ (fun _ _ => canonical_reserve)
  refine canonical_failoverNote ?_
  refine canonical_post ?_
  split
  · exact canonical_sendBreak (canonical_declareLost h)
  · exact canonical_declareLost h

theorem canonical_failoverJoin {p : PortId} {s : State} (h : Canonical s) : Canonical (failoverJoin p s) := by
  unfold failoverJoin
  exact .foldl (.frame (canonical_reroute (canonical_declareLost h)) rfl) (fun _ _ => canonical_reserve)

theorem canonical_enterService {p : PortId} {s : State} (h : Canonical s) : Canonical (enterService p s) :=
  .onlyIf (canonical_post (canonical_onPort h)) (fun _ => canonical_post)

theorem canonical_portTrain {p : PortId} {s : State} (h : Canonical s) : Canonical (portTrain p s) :=
  .ite (canonical_onPort (.frame h rfl))
    (canonical_sendIdent (canonical_post (.onlyIf (canonical_onPort (.frame h rfl)) (fun _ => canonical_replay))))

theorem canonical_failPort {p : PortId} {cause : Nat} {s : State} (h : Canonical s) : Canonical (failPort p cause s) :=
  .ite (.ite (canonical_reroute (canonical_post (canonical_onPort h)))
    (.ite (canonical_failoverJoin (canonical_post (canonical_onPort h))) (canonical_failover (canonical_post (canonical_onPort h))))) h

theorem canonical_identRx {p : PortId} {w : Word} {s : State} (h : Canonical s) : Canonical (identRx p w s) :=
  .ite h
    (.ite (canonical_post (canonical_onPort (canonical_onPort h))) (.ite (canonical_failPort (canonical_onPort h)) (canonical_onPort h)))

theorem canonical_lossOfLock {p : PortId} {s : State} (h : Canonical s) : Canonical (lossOfLock p s) :=
  canonical_failPort (canonical_onPort h)

theorem canonical_highBer {p : PortId} {s : State} (h : Canonical s) : Canonical (highBer p s) := canonical_failPort (canonical_onPort h)

theorem canonical_retransLimit {p : PortId} {s : State} (h : Canonical s) : Canonical (retransLimit p s) := .ite (canonical_failPort h) h

theorem canonical_creditTimeout {p : PortId} {s : State} (h : Canonical s) : Canonical (creditTimeout p s) := .ite (canonical_failPort h) h

theorem canonical_restoreTimer {p : PortId} {s : State} (h : Canonical s) : Canonical (restoreTimer p s) :=
  .ite (canonical_enterService h) h

theorem canonical_restoreCmd {bits : Nat} {s : State} (h : Canonical s) : Canonical (restoreCmd bits s) :=
  .ite (canonical_enterService (.ite (canonical_enterService h) h)) (.ite (canonical_enterService h) h)

theorem canonical_ckRingAbsent {s : State} (h : Canonical s) : Canonical (ckRingAbsent s) :=
  canonical_reroute (canonical_reroute (.frame h rfl))

theorem canonical_breakRx {p : PortId} {f : Frame} {s : State} (h : Canonical s) : Canonical (breakRx p f s) := by
  unfold breakRx
  exact .ite h (.ite (canonical_forwardBcast (canonical_rxFrame h)) (.ite (.frame (canonical_forwardBcast (canonical_rxFrame h)) rfl)
    (canonical_failover (.frame (canonical_forwardBcast (canonical_rxFrame h)) rfl))))

theorem canonical_beaconRx {p : PortId} {f : Frame} {s : State} (h : Canonical s) : Canonical (beaconRx p f s) :=
  .ite h (canonical_forwardBcast (canonical_rxFrame h))

theorem canonical_dropOutst {o : Outst} {s : State} (h : Canonical s) : Canonical (dropOutst o s) := .frame h rfl

theorem canonical_wrAckRx {p : PortId} {f : Frame} {s : State} (h : Canonical s) : Canonical (wrAckRx p f s) := by
  unfold wrAckRx
  dsimp only
  refine .ite h ?_
  split
  · exact canonical_rxFrame h
  · split
    · exact canonical_completeJob (canonical_dropOutst (canonical_rxFrame h))
    · exact .ite (canonical_finishCheck
        (canonical_endWrite (canonical_markJob (.onlyIf (canonical_dropOutst (canonical_rxFrame h)) (fun _ => canonical_deliverWords)))))
        (canonical_endWrite
          (canonical_failJob (canonical_markJob (.onlyIf (canonical_dropOutst (canonical_rxFrame h)) (fun _ => canonical_deliverWords)))))
    · exact canonical_rxFrame h

theorem canonical_readArrives {id : Nat} {data : List Byte} {s : State} (h : Canonical s) : Canonical (readArrives id data s) := by
  unfold readArrives
  split
  · exact h
  · split
    · exact h
    · exact .ite h (canonical_fetchRun (canonical_updJob h))

theorem canonical_rdRspRx {p : PortId} {f : Frame} {s : State} (h : Canonical s) : Canonical (rdRspRx p f s) := by
  unfold rdRspRx
  dsimp only
  refine .ite h ?_
  split
  · exact canonical_rxFrame h
  · split
    · exact .ite (canonical_readArrives (canonical_dropOutst (canonical_rxFrame h)))
        (canonical_readFailed (canonical_dropOutst (canonical_rxFrame h)))
    · exact canonical_rxFrame h

theorem canonical_enumRx {p : PortId} {f : Frame} {s : State} (h : Canonical s) : Canonical (enumRx p f s) := by
  unfold enumRx
  exact .ite h (.ite (canonical_post (canonical_sendIdents (canonical_sendReply (.frame (canonical_rxFrame h) rfl))))
    (canonical_sendReply (canonical_rxFrame h)))

/-! ### Hierarchy -/

theorem canonical_sendPlain {t : TxFrame} {s : State} (h : Canonical s) : Canonical (sendPlain t s) := .frame h rfl

theorem canonical_updWorker {k : Nat} {f : Worker → Worker} {s : State} (h : Canonical s) : Canonical (updWorker k f s) := .frame h rfl

theorem canonical_fabricAlarm {o : BitVec 12} {cause idx : BitVec 8} {s : State} (h : Canonical s) :
    Canonical (fabricAlarm o cause idx s) := canonical_sendPlain h

theorem canonical_raiseFabric {o : BitVec 12} {cause idx : BitVec 8} {s : State} (h : Canonical s) :
    Canonical (raiseFabric o cause idx s) := canonical_fabricAlarm (.frame h rfl)

theorem canonical_alarmTx {s : State} (h : Canonical s) : Canonical (alarmTx s) :=
  .ite (canonical_raiseFabric h) (.ite (canonical_sendPlain h) h)

theorem canonical_announceTx {s : State} (h : Canonical s) : Canonical (announceTx s) := by
  unfold announceTx
  exact .ite h (.frame (.foldl (canonical_sendPlain (.frame h rfl)) (fun _ _ => canonical_fabricAlarm)) rfl)

theorem canonical_hierIn {p : PortId} {f : Frame} {resid : Nat} {s : State} (h : Canonical s) : Canonical (hierIn p f resid s) :=
  .onlyIf (canonical_rxFrame h) (fun _ => canonical_forwardBcast)

theorem canonical_takeManager {src : BitVec 12} {s : State} (h : Canonical s) : Canonical (takeManager src s) :=
  .ite h (.ite (.frame h rfl) (canonical_post (.frame h rfl)))

theorem canonical_announceRx {p : PortId} {f : Frame} {s : State} (h : Canonical s) : Canonical (announceRx p f s) := by
  unfold announceRx
  dsimp only
  refine .ite h ?_
  refine .ite (canonical_hierIn h) ?_
  split
  · exact canonical_takeManager (canonical_hierIn h)
  · exact .ite (canonical_post (.frame (canonical_hierIn h) rfl)) (canonical_hierIn h)
  · exact .ite (canonical_takeManager (.frame (canonical_hierIn h) rfl)) (canonical_hierIn h)

theorem canonical_standbyTimeout {s : State} (h : Canonical s) : Canonical (standbyTimeout s) := .ite (canonical_post (.frame h rfl)) h

theorem canonical_mgrForeign {f : Frame} {s : State} (h : Canonical s) : Canonical (mgrForeign f s) := by
  unfold mgrForeign
  exact .ite (.frame h rfl) (canonical_post (.frame (.frame h rfl) rfl))

theorem canonical_fromManager {f : Frame} {g : State → State} {s : State} (hg : ∀ u, Canonical u → Canonical (g u)) (h : Canonical s) :
    Canonical (fromManager f g s) := .ite h (.ite (hg _ h) (canonical_mgrForeign h))

theorem canonical_helloTx {s : State} (h : Canonical s) : Canonical (helloTx s) := .ite h (canonical_sendPlain (.frame h rfl))

theorem canonical_helloRx {p : PortId} {f : Frame} {s : State} (h : Canonical s) : Canonical (helloRx p f s) := by
  unfold helloRx
  dsimp only
  refine .ite h ?_
  refine .ite (canonical_hierIn h) ?_
  split
  · exact canonical_updWorker (canonical_hierIn h)
  · exact canonical_post (.frame (canonical_hierIn h) rfl)
  · exact canonical_post (canonical_hierIn h)

theorem canonical_slotExpire {k : Nat} {s : State} (h : Canonical s) : Canonical (slotExpire k s) := by
  unfold slotExpire
  dsimp only
  split
  · exact .ite (canonical_post (.frame h rfl)) h
  · exact h

theorem canonical_peerTx {k : Nat} {s : State} (h : Canonical s) : Canonical (peerTx k s) := by
  unfold peerTx
  dsimp only
  split
  · exact h
  · exact .ite h (.ite (canonical_peerSkipped (canonical_updWorker h)) (canonical_addWaiter (canonical_updWorker h)))

theorem canonical_peerStore {f : Frame} {s : State} (h : Canonical s) : Canonical (peerStore f s) := .ite h (.frame h rfl)

theorem canonical_peerRx {p : PortId} {f : Frame} {s : State} (h : Canonical s) : Canonical (peerRx p f s) :=
  .ite h (canonical_fromManager (fun _ => canonical_peerStore) (canonical_hierIn h))

theorem canonical_gatherTx {k : Nat} {s : State} (h : Canonical s) : Canonical (gatherTx k s) := by
  unfold gatherTx
  dsimp only
  split
  · exact h
  · exact .ite h (canonical_sendPlain (canonical_updWorker (.frame h rfl)))

theorem canonical_gatherReply {seq : Nat} {s : State} (h : Canonical s) : Canonical (gatherReply seq s) := by
  unfold gatherReply
  exact canonical_sendPlain (canonical_sendPlain (.frame (canonical_takeSnapshot h) rfl))

theorem canonical_gatherRx {p : PortId} {f : Frame} {s : State} (h : Canonical s) : Canonical (gatherRx p f s) :=
  .ite h (canonical_fromManager (fun _ => canonical_gatherReply) (canonical_hierIn h))

theorem canonical_reportRx {p : PortId} {f : Frame} {health : Bool} {s : State} (h : Canonical s) : Canonical (reportRx p f health s) := by
  unfold reportRx
  dsimp only
  refine .ite h ?_
  split
  · exact canonical_hierIn h
  · exact .ite (canonical_hierIn h) (canonical_updWorker (canonical_hierIn h))

theorem canonical_gatherStale {k : Nat} {s : State} (h : Canonical s) : Canonical (gatherStale k s) := by
  unfold gatherStale
  split
  · exact .ite (canonical_post (canonical_updWorker h)) h
  · exact h

theorem canonical_alarmRx {p : PortId} {f : Frame} {s : State} (h : Canonical s) : Canonical (alarmRx p f s) :=
  .ite h (.ite (canonical_raiseFabric (canonical_hierIn h)) (canonical_hierIn h))

theorem canonical_recordFabric {f : Frame} {s : State} (h : Canonical s) : Canonical (recordFabric f s) :=
  .ite h (canonical_post (.frame h rfl))

theorem canonical_fabricAlarmRx {p : PortId} {f : Frame} {s : State} (h : Canonical s) : Canonical (fabricAlarmRx p f s) :=
  .ite h (.ite (canonical_hierIn h)
    (.ite (canonical_recordFabric (canonical_hierIn h)) (canonical_fromManager (fun _ => canonical_recordFabric) (canonical_hierIn h))))

/-! ### Fabric time -/

theorem canonical_countUp {s : State} (h : Canonical s) : Canonical (countUp s) := .frame h rfl

theorem canonical_resched {s : State} (h : Canonical s) : Canonical (resched s) := .ite (.frame h rfl) h

theorem canonical_timeStep {src : Nat} {new : BitVec 80} {corr : ℤ} {s : State} (h : Canonical s) :
    Canonical (timeStep src new corr s) := by
  unfold timeStep
  exact canonical_postEvent (.frame (canonical_resched (.frame h rfl)) rfl)

theorem canonical_enterTrack {s : State} (h : Canonical s) : Canonical (enterTrack s) := .onlyIf (.frame h rfl) (fun _ => canonical_post)

theorem canonical_sampleApply {src : Nat} {own : Bool} {e : ℤ} {s : State} (h : Canonical s) : Canonical (sampleApply src own e s) := by
  unfold sampleApply
  exact .ite (canonical_timeStep (.ite (canonical_enterTrack (.frame h rfl)) h))
    (.frame (.ite (canonical_enterTrack (.frame h rfl)) h) rfl)

theorem canonical_meetHere {s : State} (h : Canonical s) : Canonical (meetHere s) := .frame h rfl

theorem canonical_timeSample {src : Nat} {own : Bool} {e : ℤ} {s : State} (h : Canonical s) : Canonical (timeSample src own e s) :=
  .ite h (canonical_sampleApply (canonical_meetHere h))

theorem canonical_timeSet {wrap : BitVec 16} {ns : BitVec 32} {s : State} (h : Canonical s) : Canonical (timeSet wrap ns s) :=
  canonical_timeStep (canonical_meetHere h)

theorem canonical_timeAdj {v : W32} {s : State} (h : Canonical s) : Canonical (timeAdj v s) := canonical_timeSample h

theorem canonical_applyHeld {s : State} (h : Canonical s) : Canonical (applyHeld s) := by
  unfold applyHeld
  dsimp only
  split
  · exact h
  · split
    · exact canonical_timeSet (.frame h rfl)
    · exact canonical_timeAdj (.frame h rfl)

theorem canonical_timCmd {v : W32} {s : State} (h : Canonical s) : Canonical (timCmd v s) := by
  unfold timCmd
  exact .ite h (.ite (canonical_applyHeld (.frame (canonical_applyHeld h) rfl)) (.frame h rfl))

theorem canonical_timeHoldover {s : State} (h : Canonical s) : Canonical (timeHoldover s) := .ite (canonical_post (.frame h rfl)) h

theorem canonical_syncTake {p : PortId} {f : Frame} {s : State} (h : Canonical s) : Canonical (syncTake p f s) :=
  .ite (canonical_timeSample h) h

theorem canonical_syncRx {p : PortId} {f : Frame} {s : State} (h : Canonical s) : Canonical (syncRx p f s) :=
  .ite h (.ite (canonical_bumpFree (canonical_hierIn h))
    (canonical_fromManager (fun _ => canonical_syncTake) (canonical_bumpFree (canonical_hierIn h))))

theorem canonical_syncTx {s : State} (h : Canonical s) : Canonical (syncTx s) := .ite h (canonical_sendPlain (.frame h rfl))

theorem canonical_syncInIgnored {s : State} (h : Canonical s) : Canonical (syncInIgnored s) := by
  unfold syncInIgnored
  exact .ite (.frame h rfl) (canonical_post (.frame (.frame h rfl) rfl))

theorem canonical_syncInEdge {s : State} (h : Canonical s) : Canonical (syncInEdge s) := by
  unfold syncInEdge
  exact .ite h (.ite (canonical_syncInIgnored h) (.ite (.frame h rfl) (canonical_timeSample (.frame (.frame h rfl) rfl))))

theorem canonical_ckTimeLost {s : State} (h : Canonical s) : Canonical (ckTimeLost s) := .ite h (canonical_post (.frame h rfl))

theorem canonical_refclkLost {s : State} (h : Canonical s) : Canonical (refclkLost s) :=
  canonical_ckRingAbsent (.onlyIf h (fun _ => canonical_ckTimeLost))

theorem canonical_ckTimeRestored {s : State} (h : Canonical s) : Canonical (ckTimeRestored s) := .ite h (canonical_post (.frame h rfl))

theorem canonical_timeTick {s : State} (h : Canonical s) : Canonical (timeTick s) := by
  unfold timeTick
  exact .ite h (.ite (.frame (.frame h rfl) rfl) (canonical_applyHeld (canonical_countUp (.frame h rfl))))

theorem canonical_syncOutPulse {s : State} (h : Canonical s) : Canonical (syncOutPulse s) := by
  unfold syncOutPulse
  dsimp only
  split
  · exact h
  · exact .ite h (.frame h rfl)

theorem canonical_syncOutEnd {s : State} (h : Canonical s) : Canonical (syncOutEnd s) := .ite (.frame h rfl) h

theorem canonical_syncOutStart {v : W32} {s : State} (h : Canonical s) : Canonical (syncOutStart v s) := canonical_resched (.frame h rfl)

theorem canonical_timCtrlWrite {v : W32} {s : State} (h : Canonical s) : Canonical (timCtrlWrite v s) := by
  unfold timCtrlWrite
  exact .ite (.frame (.onlyIf (.frame h rfl) (fun _ => canonical_bumpFree)) rfl) (.onlyIf (.frame h rfl) (fun _ => canonical_bumpFree))

end Sys2Proof.Machine


/-! PROOFS. The canonical form of every memory over the operations of the local serial port, register reads, and boot. -/

namespace Sys2Proof.Machine

/-! ### The local serial port -/

theorem canonical_answer {a : Acc} {write : Bool} {status : Nat} {data : List Byte} {un : Bool} {s : State} (h : Canonical s) :
    Canonical (answer a write status data un s) := by
  unfold answer
  split
  · exact canonical_sendReply h
  · exact .ite (canonical_coreAnswer h) h

theorem canonical_slvErr {bit : Nat} {s : State} (h : Canonical s) : Canonical (slvErr bit s) := .frame h rfl

theorem canonical_engineSwitch {s : State} (h : Canonical s) : Canonical (engineSwitch s) := .ite h (.frame h rfl)

theorem canonical_lspFill {s : State} (h : Canonical s) : Canonical (lspFill s) := by
  unfold lspFill
  dsimp only
  split
  · exact h
  · exact .ite h (canonical_toFlight (.frame h rfl))

theorem canonical_respShift {k : Nat} {s : State} (h : Canonical s) : Canonical (respShift k s) := by
  unfold respShift
  dsimp only
  split
  · exact h
  · exact .ite (.frame h rfl) (canonical_lspFill (canonical_deliverWords (canonical_toFlight (.frame h rfl))))

theorem canonical_engFormat {w : W32} {s : State} (h : Canonical s) : Canonical (engFormat w s) :=
  canonical_engRespond (canonical_slvErr (.frame h rfl))

theorem canonical_engTake {words : List (List Bool)} {s : State} (h : Canonical s) : Canonical (engTake words s) := by
  unfold engTake
  dsimp only
  split
  · exact h
  · exact .ite h
      (.ite (canonical_slvErr h) (.ite (canonical_engFormat (canonical_bumpFree h)) (.ite (.frame h rfl) (canonical_engFormat h))))

theorem canonical_engSlots {ready : Bool} {words : List (List Bool)} {s : State} (h : Canonical s) :
    Canonical (engSlots ready words s).2 := canonical_engTake (.onlyIf h (fun _ => canonical_respShift))

theorem canonical_rawSlot {b : List Bool} {s : State} (h : Canonical s) : Canonical (rawSlot b s).2 := by
  unfold rawSlot
  exact .ite (.frame (.ite (canonical_slvErr h) (.frame h rfl)) rfl) (canonical_slvErr (.ite (canonical_slvErr h) (.frame h rfl)))

theorem canonical_rawSlots {l : List (List Bool)} {s : State} (h : Canonical s) : Canonical (rawSlots l s).2 := by
  induction l generalizing s with
  | nil => exact h
  | cons b bs ih => exact ih (canonical_rawSlot h)

theorem canonical_shortWord {words : List (List Bool)} {s : State} (h : Canonical s) : Canonical (shortWord words s) := by
  unfold shortWord
  dsimp only
  split
  · exact .ite (.frame h rfl) h
  · exact h

theorem canonical_lspTransfer {mosi : List Bool} {s : State} (h : Canonical s) : Canonical (lspTransfer mosi s) := by
  unfold lspTransfer
  dsimp only
  refine .ite h ?_
  refine .ite (.frame (.frame (canonical_engineSwitch h) rfl) rfl) ?_
  refine .frame ?_ rfl
  refine canonical_shortWord ?_
  split
  · exact canonical_engSlots (.frame (.frame (canonical_engineSwitch h) rfl) rfl)
  · exact canonical_rawSlots (.frame (.frame (canonical_engineSwitch h) rfl) rfl)

theorem canonical_lspPeriods {bits : List Bool} {l : List (Nat × List Bool)} {s : State} (h : Canonical s) :
    Canonical (lspPeriods bits l s) := by
  induction l generalizing bits s with
  | nil => exact canonical_lspTransfer h
  | cons x rest ih =>
    exact .ite (ih h) (.ite (ih (canonical_lspTransfer h))
      (.ite (ih (canonical_lspTransfer (canonical_bumpFree h))) (ih (canonical_bumpFree h))))

theorem canonical_updXip {w : Nat} {f : XipCfg → XipCfg} {s : State} (h : Canonical s) : Canonical (updXip w f s) := .frame h rfl

theorem canonical_xipStart {s : State} (h : Canonical s) : Canonical (xipStart s) := by
  unfold xipStart
  dsimp only
  split
  · exact .ite h (.onlyIf (.frame h rfl) (fun _ => canonical_bumpFree))
  · exact h

theorem canonical_dselSync {s : State} (h : Canonical s) : Canonical (dselSync s) := .ite h (.frame h rfl)

theorem canonical_xipReply {o : XipOp} {status : Nat} {data : List Byte} {s : State} (h : Canonical s) :
    Canonical (xipReply o status data s) := by
  unfold xipReply
  dsimp only
  split
  · exact canonical_answer h
  · exact .ite (canonical_readArrives h) (canonical_readFailed h)
  · exact .frame h rfl

theorem canonical_xipNext {s : State} (h : Canonical s) : Canonical (xipNext s) := canonical_xipStart (canonical_dselSync (.frame h rfl))

theorem canonical_xipComplete {o : XipOp} {data : List Byte} {s : State} (h : Canonical s) : Canonical (xipComplete o data s) := by
  unfold xipComplete
  dsimp only
  split
  · exact canonical_xipReply (.frame h rfl)
  · exact canonical_xipReply h

theorem canonical_xipDone {data : List Byte} {s : State} (h : Canonical s) : Canonical (xipDone data s) := by
  unfold xipDone
  dsimp only
  split
  · exact h
  · refine .ite h ?_
    refine .ite (.ite h (.ite (canonical_dselSync (.frame h rfl)) (canonical_xipNext (canonical_xipComplete (.frame h rfl))))) ?_
    split
    · exact h
    · exact .ite h (canonical_xipNext (canonical_xipComplete (.frame h rfl)))

theorem canonical_writeOn {o : XipOp} {rest : List XipOp} {s : State} (h : Canonical s) : Canonical (writeOn o rest s) :=
  .ite (canonical_xipNext (canonical_xipReply (.frame h rfl))) (.frame h rfl)

theorem canonical_flashPoll {sr : Byte} {s : State} (h : Canonical s) : Canonical (flashPoll sr s) := by
  unfold flashPoll
  dsimp only
  split
  · exact h
  · exact .ite h (.ite (canonical_writeOn (canonical_updXip (.frame h rfl))) (canonical_updXip (.frame h rfl)))

theorem canonical_pollTimeout {s : State} (h : Canonical s) : Canonical (pollTimeout s) := by
  unfold pollTimeout
  dsimp only
  split
  · exact h
  · exact .ite (canonical_xipNext (canonical_xipReply (canonical_mstErr (.frame h rfl)))) h

theorem canonical_xipQueue {o : XipOp} {s : State} (h : Canonical s) : Canonical (xipQueue o s) := canonical_xipStart (.frame h rfl)

theorem canonical_xipAccess {a : Acc} {w : Nat} {write : Bool} {off len : Nat} {data : List Byte} {s : State} (h : Canonical s) :
    Canonical (xipAccess a w write off len data s) :=
  .ite (canonical_answer (.onlyIf h (fun _ => canonical_post))) (.ite (canonical_answer (.onlyIf h (fun _ => canonical_post)))
    (.ite (canonical_answer (.onlyIf
      (.onlyIf (.onlyIf (.onlyIf h (fun _ => canonical_post)) (fun _ => canonical_mstErr)) (fun _ => canonical_mstErr))
      (fun _ => canonical_mstErr))) (canonical_xipQueue h)))

theorem canonical_rawCommand {v : W32} {s : State} (h : Canonical s) : Canonical (rawCommand v s) :=
  .ite (.onlyIf (.onlyIf (.onlyIf h (fun _ => canonical_mstErr)) (fun _ => canonical_mstErr)) (fun _ => canonical_mstErr))
    (canonical_xipQueue (.frame h rfl))

theorem canonical_xipEndWaiting {p : XipOp → Bool} {status : Nat} {f : State → State} {s : State} (hf : ∀ u, Canonical u → Canonical (f u))
    (h : Canonical s) : Canonical (xipEndWaiting p status f s) := by
  unfold xipEndWaiting
  exact .foldl (.frame h rfl) (fun _ _ h => canonical_xipReply (hf _ h))

theorem canonical_roleSwitch {s : State} (h : Canonical s) : Canonical (roleSwitch s) := by
  unfold roleSwitch
  exact .ite h (canonical_dselSync (.frame (canonical_xipEndWaiting (fun _ => canonical_mstErr) (.frame h rfl)) rfl))

theorem canonical_flashLock {l0 l1 : Bool} {s : State} (h : Canonical s) : Canonical (flashLock l0 l1 s) :=
  canonical_xipEndWaiting (fun _ => canonical_mstErr) (.frame h rfl)

theorem canonical_xipHalt {s : State} (h : Canonical s) : Canonical (xipHalt s) := canonical_xipEndWaiting (fun _ h => h) h

/-! ### Register reads -/

theorem canonical_mbxEnd {s : State} (h : Canonical s) : Canonical (mbxEnd s) := .frame h rfl

theorem canonical_familyReadEffect {off : Nat} {s : State} (h : Canonical s) : Canonical (familyReadEffect off s) := by
  unfold familyReadEffect
  dsimp only
  split
  · exact .frame h rfl
  · exact .onlyIf h (fun _ => canonical_updLane)
  · exact canonical_updQ h
  · exact .onlyIf h (fun _ => canonical_bumpFree)
  · exact h

theorem canonical_regAfter {r : ReqId} {off : Nat} {s : State} (h : Canonical s) : Canonical (regAfter r off s) := by
  unfold regAfter
  dsimp only
  split
  · exact .frame h rfl
  · exact .frame h rfl
  · exact .frame h rfl
  · exact .onlyIf h (fun _ => canonical_mbxEnd)
  · exact canonical_updGrn (fun h => h) h
  · exact canonical_rawAdvance h
  · exact .frame h rfl
  · exact .frame h rfl
  · exact .frame h rfl
  · exact .frame h rfl
  · exact .frame h rfl
  · exact .frame h rfl
  · exact .frame h rfl
  · exact canonical_onPort h
  · exact canonical_onPort h
  · exact .frame h rfl
  · exact .frame h rfl
  · exact .frame h rfl
  · exact .frame h rfl
  · exact .onlyIf h (fun _ h => .frame h rfl)
  · exact canonical_familyReadEffect h

/-! ### Boot -/

theorem canonical_tamperPort {p : PortId} {s : State} (h : Canonical s) : Canonical (tamperPort p s) := by
  unfold tamperPort
  dsimp only
  refine .foldl (canonical_onPort h) (fun _ _ h => ?_)
  split
  · exact canonical_freeHeld (canonical_kerfFlight h)
  · exact canonical_endBeacon (canonical_kerfFlight h)
  · exact canonical_kerfFlight h
  · exact h

/-- Tamper hold clears the capture buffer, the control core's memory and every operand memory. -/
theorem canonical_tamperStop {s : State} (h : Canonical s) : Canonical (tamperStop s) :=
  ⟨h.1, rfl, rfl, List.forall_mem_map.mpr fun _ _ => rfl⟩

theorem canonical_tamperAct {s : State} (h : Canonical s) : Canonical (tamperAct s) := by
  cases ht : s.sys.tamper with
  | true =>
    rw [tamperAct_of_tamper ht]
    exact h
  | false =>
    have hstop : Canonical (tamperStopped s) := canonical_tamperStop (canonical_tamperPort (canonical_tamperPort h))
    rw [tamperAct_eq ht]
    exact .foldl (.foldl (canonical_raiseFatal hstop) fun _ _ => canonical_haltPlane) fun _ _ => canonical_retireBoard

theorem canonical_tamperPulse {ns : Nat} {s : State} (h : Canonical s) : Canonical (tamperPulse ns s) :=
  .ite (canonical_tamperAct h) (.ite h (.ite (canonical_tamperAct (canonical_bumpFree h)) (canonical_bumpFree h)))

theorem canonical_imageBus {l : List Byte} {s : State} (h : Canonical s) : Canonical (imageBus l s) := .frame h rfl

theorem canonical_bootEnter {l : List Byte} {agree : Bool} {s : State} (h : Canonical s) : Canonical (bootEnter l agree s) := by
  obtain ⟨harray, hbuf, -, hmems⟩ := h
  have hloaded : ∀ x : Sil, Canonical { s with
      core := { s.core with
        ram := memWrite [] 0 (imgBytes l (imgLe l 0x10 4) (imgLe l 0x14 4)), entry := some (BitVec.ofNat 32 (imgLe l 0x18 4)) }
      sil := x } := fun _ => ⟨harray, hbuf, memWf_memWrite rfl, hmems⟩
  refine .ite ⟨harray, hbuf, memWf_memWrite rfl, List.forall_mem_map.mpr fun b hb => ?_⟩ (.onlyIf (hloaded _) fun _ => canonical_post)
  split
  · exact hmems b hb
  · exact hmems b hb

theorem canonical_bootStop {stage cause : Nat} {s : State} (h : Canonical s) : Canonical (bootStop stage cause s) := .frame h rfl

theorem canonical_tryImage {base : Nat} {l : List Byte} {agree : Bool} {s : State} (h : Canonical s) :
    Canonical (tryImage base l agree s).2 := by
  unfold tryImage
  exact .frame (canonical_imageBus h) rfl

theorem canonical_romBoot {x : BootFlash} {s : State} (h : Canonical s) : Canonical (romBoot x s) := by
  unfold romBoot
  exact .ite h (.ite (canonical_bootStop h) (.ite (canonical_bootStop h) (.ite (canonical_bootEnter (canonical_tryImage h))
    (.ite (canonical_bootStop (canonical_tryImage h)) (.ite (canonical_bootEnter (canonical_tryImage (.frame (canonical_tryImage h) rfl)))
      (canonical_bootStop (canonical_tryImage (.frame (canonical_tryImage h) rfl))))))))

theorem canonical_bootClose {s : State} (h : Canonical s) : Canonical (bootClose s) :=
  canonical_post (.ite
    (canonical_enterService (.ite (canonical_enterService (canonical_sendIdents (.frame h rfl))) (canonical_sendIdents (.frame h rfl))))
    (.ite (canonical_enterService (canonical_sendIdents (.frame h rfl))) (canonical_sendIdents (.frame h rfl))))

theorem canonical_compatSet {en pin : Bool} {s : State} (h : Canonical s) : Canonical (compatSet en pin s) :=
  canonical_modeChange (.frame h rfl)

theorem canonical_slowSelect {v : W32} {s : State} (h : Canonical s) : Canonical (slowSelect v s) := .frame h rfl

theorem canonical_slowclkLost {s : State} (h : Canonical s) : Canonical (slowclkLost s) := .ite (canonical_post (.frame h rfl)) h

theorem canonical_paceEnd {x : PaceMeasure} {s : State} (h : Canonical s) : Canonical (paceEnd x s) :=
  .ite (canonical_postEvent (.frame h rfl)) (.frame h rfl)

end Sys2Proof.Machine


/-! PROOFS. The canonical form of every memory over the operations of register writes, guarded pairs and the mailbox. -/

namespace Sys2Proof.Machine

/-! ### Register writes -/

theorem canonical_lockViol {r : ReqId} {off : Nat} {s : State} (h : Canonical s) : Canonical (lockViol r off s) := by
  unfold lockViol
  exact .ite (.frame h rfl) (canonical_post (.frame (.frame h rfl) rfl))

theorem canonical_bootOnly {r : ReqId} {off : Nat} {f : State → State} {s : State} (hf : ∀ u, Canonical u → Canonical (f u))
    (h : Canonical s) : Canonical (bootOnly r off f s) := .ite (canonical_lockViol h) (hf _ h)

theorem canonical_guardNote {r : ReqId} {off : Nat} {s : State} (h : Canonical s) : Canonical (guardNote r off s) := .frame h rfl

theorem canonical_guardBroken {r : ReqId} {off : Nat} {s : State} (h : Canonical s) : Canonical (guardBroken r off s) :=
  canonical_guardNote (.frame h rfl)

theorem canonical_disarm {r : ReqId} {s : State} (h : Canonical s) : Canonical (disarm r s) := .frame h rfl

theorem canonical_breakArm {r : ReqId} {s : State} (h : Canonical s) : Canonical (breakArm r s) := by
  unfold breakArm
  split
  · exact canonical_guardBroken (canonical_disarm h)
  · exact h

theorem canonical_breakOthers {r : ReqId} {off : Nat} {s : State} (h : Canonical s) : Canonical (breakOthers r off s) :=
  .foldl h (fun _ _ => canonical_breakArm)

theorem canonical_calRestorePair {r : ReqId} {v : W32} {s : State} (h : Canonical s) : Canonical (calRestorePair r v s) := by
  unfold calRestorePair
  exact .frame (.ite h (canonical_calRestoreGroups h)) rfl

theorem canonical_capturePair {v : W32} {s : State} (h : Canonical s) : Canonical (capturePair v s) :=
  .ite (canonical_captureStart (canonical_updGrn (fun h => h) h)) (canonical_updGrn (fun h => h) h)

theorem canonical_retryPair {v : W32} {s : State} (h : Canonical s) : Canonical (retryPair v s) := .frame h rfl

theorem canonical_timCmdPair {v : W32} {s : State} (h : Canonical s) : Canonical (timCmdPair v s) := by
  unfold timCmdPair
  exact .frame (canonical_timCmd h) rfl

theorem canonical_mstCmdPair {v : W32} {s : State} (h : Canonical s) : Canonical (mstCmdPair v s) := by
  unfold mstCmdPair
  exact .frame (.ite (canonical_rawCommand h) h) rfl

theorem canonical_flashLockPair {v : W32} {s : State} (h : Canonical s) : Canonical (flashLockPair v s) := by
  unfold flashLockPair
  exact .frame (canonical_flashLock h) rfl

theorem canonical_guardApply {r : ReqId} {g : Nat} {v : W32} {s : State} (h : Canonical s) : Canonical (guardApply r g v s) := by
  unfold guardApply
  split
  · exact .ite (canonical_lockViol h) (.onlyIf h (fun _ => canonical_bootClose))
  · exact canonical_compatSet h
  · exact canonical_calRestorePair h
  · exact canonical_grnRetire h
  · exact canonical_capturePair h
  · exact canonical_retryPair h
  · exact canonical_timCmdPair h
  · exact canonical_mstCmdPair h
  · exact canonical_flashLockPair h
  · exact h

theorem canonical_guardRefusal {g : Nat} {v : W32} {s : State} (h : Canonical s) : Canonical (guardRefusal g v s) := by
  unfold guardRefusal
  split
  · exact canonical_grnRetire h
  · exact canonical_captureStart h
  · exact canonical_rawCommand h
  · exact h

theorem canonical_guardComplete {r : ReqId} {g : Nat} {v : W32} {s : State} (h : Canonical s) : Canonical (guardComplete r g v s) :=
  .ite (canonical_guardRefusal (canonical_guardNote (.frame h rfl))) (canonical_guardApply h)

theorem canonical_guardArm {r : ReqId} {g : Nat} {v : W32} {s : State} (h : Canonical s) : Canonical (guardArm r g v s) := by
  unfold guardArm
  exact .ite (canonical_guardNote (.frame (canonical_breakOthers (canonical_breakArm h)) rfl))
    (.frame (canonical_breakOthers (canonical_breakArm h)) rfl)

theorem canonical_guardComp {r : ReqId} {g : Nat} {w : W32} {s : State} (h : Canonical s) : Canonical (guardComp r g w s) := by
  unfold guardComp
  dsimp only
  split
  · exact canonical_guardBroken (canonical_breakOthers h)
  · exact .ite (canonical_guardBroken (canonical_breakArm (canonical_breakOthers h))) (.ite
      (canonical_guardComplete (canonical_disarm (canonical_breakOthers h)))
      (canonical_guardNote (canonical_disarm (.frame (canonical_breakOthers h) rfl))))

theorem canonical_guardTimeout {r : ReqId} {s : State} (h : Canonical s) : Canonical (guardTimeout r s) := by
  unfold guardTimeout
  split
  · exact .ite h (canonical_breakArm h)
  · exact h

theorem canonical_guardExpire {s : State} (h : Canonical s) : Canonical (guardExpire s) := by
  unfold guardExpire
  exact .foldl (.frame h rfl) (fun _ _ => canonical_guardBroken)

theorem canonical_guardWrite {r : ReqId} {g off : Nat} {v : W32} {s : State} (h : Canonical s) : Canonical (guardWrite r g off v s) :=
  .ite (canonical_lockViol (canonical_breakArm (canonical_guardExpire h)))
    (.ite (canonical_guardArm (canonical_guardExpire h)) (canonical_guardComp (canonical_guardExpire h)))

theorem canonical_sysWrite {off : Nat} {v : W32} {s : State} (h : Canonical s) : Canonical (sysWrite off v s) := by
  unfold sysWrite
  dsimp only
  split
  · exact canonical_slowSelect h
  · exact .frame h rfl
  · exact h

theorem canonical_hltRespWrite {v : W32} {s : State} (h : Canonical s) : Canonical (hltRespWrite v s) :=
  canonical_modeChange (.frame h rfl)

theorem canonical_silApply {off : Nat} {v : W32} {s : State} (h : Canonical s) : Canonical (silApply off v s) := by
  unfold silApply
  dsimp only
  split
  · exact canonical_hltRespWrite h
  · exact .frame h rfl
  · exact canonical_limitsChanged (.frame h rfl)
  · exact .frame h rfl
  · exact .frame h rfl
  · exact .frame h rfl
  · split
    · exact .frame h rfl
    · exact .frame h rfl
    · exact h

theorem canonical_silWrite {r : ReqId} {off : Nat} {v : W32} {s : State} (h : Canonical s) : Canonical (silWrite r off v s) :=
  .ite (canonical_bootOnly (fun _ => canonical_silApply) h) h

theorem canonical_calWrite {r : ReqId} {off : Nat} {v : W32} {s : State} (h : Canonical s) : Canonical (calWrite r off v s) := by
  unfold calWrite
  split
  · exact h
  · exact .ite (canonical_lockViol h) (canonical_calApply h)

theorem canonical_grnWrite {off : Nat} {v : W32} {s : State} (h : Canonical s) : Canonical (grnWrite off v s) := by
  unfold grnWrite
  dsimp only
  split
  · exact .onlyIf h (fun _ => canonical_grnRestart)
  · exact canonical_updGrn (fun h => h) h
  · split
    · exact canonical_grnEnWrite h
    · exact h

theorem canonical_hltWrite {off : Nat} {v : W32} {s : State} (h : Canonical s) : Canonical (hltWrite off v s) := by
  unfold hltWrite
  dsimp only
  split
  · exact .onlyIf h (fun _ => canonical_hltSnapAsk)
  · split
    · exact .frame h rfl
    · exact canonical_updSrc h
    · exact canonical_updSrc h
    · exact h

theorem canonical_plnWrite {off : Nat} {v : W32} {s : State} (h : Canonical s) : Canonical (plnWrite off v s) := by
  unfold plnWrite
  dsimp only
  split
  · exact .onlyIf h (fun _ => canonical_plnKatCmd)
  · exact .frame h rfl
  · exact .onlyIf h (fun _ h => .frame h rfl)
  · split
    · exact canonical_updPlane h
    · exact canonical_updPlane h
    · exact h

theorem canonical_lanWrite {off : Nat} {v : W32} {s : State} (h : Canonical s) : Canonical (lanWrite off v s) := by
  unfold lanWrite
  dsimp only
  split
  · exact canonical_limitsChanged (.frame h rfl)
  · exact canonical_limitsChanged (.frame h rfl)
  · exact .frame h rfl
  · exact canonical_lanEnWrite h
  · exact canonical_lanCmd h
  · exact .frame h rfl
  · split
    · exact canonical_lanQbindWrite h
    · exact canonical_updLane h
    · exact h

theorem canonical_queueWrite {q k : Nat} {v : W32} {s : State} (h : Canonical s) : Canonical (queueWrite q k v s) := by
  unfold queueWrite
  split
  · exact canonical_dqCtrlWrite h
  · exact canonical_dqConfigWrite h
  · exact canonical_dqConfigWrite h
  · exact canonical_dqWmWrite h
  · exact canonical_updQ h
  · exact canonical_updQ h
  · exact h

theorem canonical_stkWrite {off : Nat} {v : W32} {s : State} (h : Canonical s) : Canonical (stkWrite off v s) := by
  unfold stkWrite
  dsimp only
  split
  · exact .frame h rfl
  · exact .frame h rfl
  · exact .frame h rfl
  · exact .frame h rfl
  · exact .frame h rfl
  · exact .frame h rfl
  · exact canonical_stkTagSel h
  · exact .frame h rfl
  · exact .frame h rfl
  · split
    · exact canonical_queueWrite h
    · exact h

theorem canonical_jobWrite {off : Nat} {v : W32} {s : State} (h : Canonical s) : Canonical (jobWrite off v s) := by
  unfold jobWrite
  dsimp only
  split
  · exact .frame h rfl
  · exact .frame h rfl
  · exact .frame h rfl
  · exact canonical_tagSelWrite h
  · split
    · exact .frame h rfl
    · exact h

theorem canonical_bneWrite {r : ReqId} {off : Nat} {v : W32} {s : State} (h : Canonical s) : Canonical (bneWrite r off v s) := by
  unfold bneWrite
  dsimp only
  split
  · exact .frame h rfl
  · exact .onlyIf h (fun _ => canonical_bneKatCmd)
  · exact .frame h rfl
  · exact .frame h rfl
  · split
    · exact .onlyIf (.onlyIf h (fun _ => canonical_benchRelease)) (fun _ => canonical_benchClaim)
    · exact canonical_updBench (fun _ h => h) h
    · exact h

theorem canonical_retryWrite {v : W32} {s : State} (h : Canonical s) : Canonical (retryWrite v s) := .frame h rfl

theorem canonical_mgrCtrlWrite {v : W32} {s : State} (h : Canonical s) : Canonical (mgrCtrlWrite v s) := .ite (.frame h rfl) h

theorem canonical_ringWrite {off : Nat} {v : W32} {s : State} (h : Canonical s) : Canonical (ringWrite off v s) := by
  unfold ringWrite
  dsimp only
  split
  · exact .frame h rfl
  · exact canonical_restoreCmd (.frame h rfl)
  · exact .frame h rfl
  · exact canonical_retryWrite h
  · exact .frame h rfl
  · exact canonical_onPort h
  · exact canonical_onPort h
  · exact canonical_onPort h
  · exact canonical_onPort h
  · exact .frame h rfl
  · exact .frame h rfl
  · exact canonical_mgrCtrlWrite h
  · exact .frame h rfl
  · split
    · exact .frame h rfl
    · exact h

theorem canonical_syncTxWrite {v : W32} {s : State} (h : Canonical s) : Canonical (syncTxWrite v s) := .ite (.frame h rfl) h

theorem canonical_timWrite {off : Nat} {v : W32} {s : State} (h : Canonical s) : Canonical (timWrite off v s) := by
  unfold timWrite
  dsimp only
  split
  · exact canonical_timCtrlWrite h
  · exact .frame h rfl
  · exact .frame h rfl
  · exact .frame h rfl
  · exact canonical_syncTxWrite h
  · exact .frame h rfl
  · exact .frame h rfl
  · exact canonical_syncOutStart h
  · exact .frame h rfl
  · exact canonical_resched (.frame h rfl)
  · exact .frame h rfl
  · exact .frame h rfl
  · exact .frame h rfl
  · exact .frame h rfl
  · exact .frame h rfl
  · exact .frame h rfl
  · exact h

theorem canonical_txDataWrite {v : W32} {s : State} (h : Canonical s) : Canonical (txDataWrite v s) :=
  .ite h (.ite (canonical_slvErr h) (.frame h rfl))

theorem canonical_xipWriteReg {w k : Nat} {v : W32} {s : State} (h : Canonical s) : Canonical (xipWriteReg w k v s) := by
  unfold xipWriteReg
  split
  · exact canonical_updXip h
  · exact canonical_updXip h
  · exact .ite h (canonical_updXip h)
  · exact canonical_updXip h
  · exact canonical_updXip h
  · exact h

theorem canonical_lspWrite {off : Nat} {v : W32} {s : State} (h : Canonical s) : Canonical (lspWrite off v s) := by
  unfold lspWrite
  dsimp only
  split
  · exact .frame h rfl
  · exact .frame h rfl
  · exact canonical_txDataWrite h
  · exact .frame h rfl
  · exact .ite h (canonical_dselSync (.frame h rfl))
  · exact .frame h rfl
  · split
    · exact canonical_xipWriteReg h
    · exact canonical_xipWriteReg h
    · exact .frame h rfl
    · exact h

theorem canonical_evtWrite {off : Nat} {v : W32} {s : State} (h : Canonical s) : Canonical (evtWrite off v s) := by
  unfold evtWrite
  dsimp only
  split
  · exact .frame h rfl
  · exact .frame h rfl
  · exact .frame h rfl
  · split
    · exact .frame h rfl
    · exact h

theorem canonical_cmpWrite {off : Nat} {v : W32} {s : State} (h : Canonical s) : Canonical (cmpWrite off v s) :=
  .ite h (.ite (canonical_grnEnWrite h) (.ite (canonical_cmpRefresh h) h))

theorem canonical_plainWrite {r : ReqId} {off : Nat} {v : W32} {s : State} (h : Canonical s) : Canonical (plainWrite r off v s) := by
  unfold plainWrite
  split
  · exact canonical_sysWrite h
  · exact canonical_silWrite h
  · exact canonical_calWrite h
  · exact canonical_grnWrite h
  · exact canonical_hltWrite h
  · exact canonical_plnWrite h
  · exact canonical_lanWrite h
  · exact canonical_stkWrite h
  · exact canonical_jobWrite h
  · exact canonical_bneWrite h
  · exact canonical_ringWrite h
  · exact canonical_timWrite h
  · exact .ite (canonical_bootOnly (fun _ h => .onlyIf h (fun _ => canonical_roleSwitch)) h) (canonical_lspWrite h)
  · exact canonical_evtWrite h
  · exact canonical_cmpWrite h
  · exact h

end Sys2Proof.Machine


/-! PROOFS. The canonical form of every memory over the operations of accesses, the fatal alarm, and the end of a step. -/

namespace Sys2Proof.Machine

/-! ### Accesses -/

theorem canonical_mbxFail {err : Nat} {s : State} (h : Canonical s) : Canonical (mbxFail err s) := .frame h rfl

theorem canonical_mbxRead {r : ReqId} {item : Nat} {s : State} (h : Canonical s) : Canonical (mbxRead r item s) :=
  .ite (canonical_mbxFail h) (.frame h rfl)

theorem canonical_mbxApply {r : ReqId} {item : Nat} {s : State} (h : Canonical s) : Canonical (mbxApply r item s) :=
  .ite (.onlyIf (canonical_mbxFail h) (fun _ => canonical_lockViol)) (.frame h rfl)

theorem canonical_mbxSelect {r : ReqId} {v : W32} {s : State} (h : Canonical s) : Canonical (mbxSelect r v s) := by
  unfold mbxSelect
  exact .ite (.ite (canonical_mbxEnd (.frame h rfl)) h)
    (.ite h (.ite (canonical_mbxRead (.frame h rfl)) (.ite (canonical_mbxApply (.frame h rfl)) (.frame (.frame h rfl) rfl))))

theorem canonical_mbxTimeout {s : State} (h : Canonical s) : Canonical (mbxTimeout s) := .ite (canonical_mbxEnd h) h

theorem canonical_mbxTouch {r : ReqId} {off : Nat} {s : State} (h : Canonical s) : Canonical (mbxTouch r off s) := by
  unfold mbxTouch
  exact .ite (.ite (.frame (canonical_mbxTimeout h) rfl) (canonical_mbxTimeout h)) h

theorem canonical_mbxWrite {r : ReqId} {off : Nat} {v : W32} {s : State} (h : Canonical s) : Canonical (mbxWrite r off v s) := by
  unfold mbxWrite
  dsimp only
  refine .ite (canonical_mbxSelect h) ?_
  split
  · exact .ite (.frame h rfl) h
  · exact h

theorem canonical_readOne {r : ReqId} {off : Nat} {s : State} (h : Canonical s) : Canonical (readOne r off s).2 :=
  canonical_breakArm (canonical_regAfter (canonical_mbxTouch h))

theorem canonical_writeOne {r : ReqId} {off : Nat} {v : W32} {s : State} (h : Canonical s) : Canonical (writeOne r off v s) := by
  unfold writeOne
  dsimp only
  split
  · exact canonical_guardWrite h
  · exact .ite (canonical_mbxWrite (canonical_mbxTouch (canonical_breakArm h))) (canonical_plainWrite (canonical_breakArm h))

theorem canonical_readMany {r : ReqId} {off n : Nat} {s : State} (h : Canonical s) : Canonical (readMany r off n s).2 := by
  induction n generalizing off s with
  | zero => exact h
  | succ n ih => exact ih (canonical_readOne h)

theorem canonical_writeMany {r : ReqId} {off : Nat} {vs : List W32} {s : State} (h : Canonical s) :
    Canonical (writeMany r off vs s) := by
  induction vs generalizing off s with
  | nil => exact h
  | cons v vs ih => exact ih (canonical_writeOne h)

theorem canonical_regRead {r : ReqId} {off n : Nat} {s : State} (h : Canonical s) : Canonical (regRead r off n s).2.2 := by
  unfold regRead
  dsimp only
  split
  · exact h
  · exact canonical_readMany h

theorem canonical_cmpRead {a : Acc} {off n : Nat} {s : State} (h : Canonical s) : Canonical (cmpRead a off n s) :=
  .ite (canonical_deliveryRead (canonical_breakArm h))
    (.ite h (canonical_stallingRead (canonical_readMany (canonical_breakArm (canonical_readMany h)))))

theorem canonical_regWrite {r : ReqId} {off : Nat} {ws : List W32} {s : State} (h : Canonical s) :
    Canonical (regWrite r off ws s).2 := by
  unfold regWrite
  split
  · exact h
  · exact canonical_writeMany h

theorem canonical_takeRequest {p : PortId} {hold mark : Bool} {s : State} (h : Canonical s) : Canonical (takeRequest p hold mark s) :=
  canonical_rxAccess h

theorem canonical_dropHold {p : PortId} {hold : Bool} {s : State} (h : Canonical s) : Canonical (dropHold p hold s) :=
  .onlyIf h (fun _ => canonical_giveCredit)

theorem canonical_arrive {a : Acc} {hold write : Bool} {f : Acc → State → State} {s : State} (hf : ∀ x0 u, Canonical u → Canonical (f x0 u))
    (h : Canonical s) : Canonical (arrive a hold write f s) := by
  unfold arrive
  dsimp only
  split
  · exact .ite h (.ite (canonical_answer (canonical_dropHold (canonical_takeRequest h)))
      (.ite (canonical_answer (canonical_dropHold (canonical_takeRequest h))) (hf _ _ (canonical_takeRequest h))))
  · exact .ite (.ite (hf _ _ h) h) (.ite (hf _ _ h) h)

theorem canonical_readAccess {a : Acc} {off n : Nat} {s : State} (h : Canonical s) : Canonical (readAccess a off n s) := by
  unfold readAccess
  dsimp only
  split
  · exact .ite (canonical_answer (canonical_takeRequest h)) (canonical_arrive (fun _ _ h => canonical_answer (canonical_regRead h)) h)
  · exact canonical_arrive (fun _ _ h => canonical_answer (canonical_regRead h)) h

theorem canonical_writeAccess {a : Acc} {off : Nat} {ws : List W32} {s : State} (h : Canonical s) : Canonical (writeAccess a off ws s) :=
  canonical_arrive (fun _ _ h => canonical_answer (canonical_regWrite h)) h

theorem canonical_windowRead {a : Acc} {q len : Nat} {hold : Bool} {s : State} (h : Canonical s) : Canonical (windowRead a q len hold s) :=
  canonical_arrive (fun _ _ => canonical_deliveryRead) h

theorem canonical_cmpData {a : Acc} {off n : Nat} {s : State} (h : Canonical s) : Canonical (cmpData a off n s) := by
  unfold cmpData
  refine .ite ?_ (canonical_readAccess h)
  refine canonical_arrive (fun _ _ h => ?_) h
  split
  · exact canonical_cmpRead h
  · split
    · exact canonical_answer (canonical_dropHold h)
    · exact canonical_answer h

theorem canonical_windowWrite {s : State} (h : Canonical s) : Canonical (windowWrite s).2 := canonical_stkRefuse h

theorem canonical_benchAccess {r : ReqId} {n off : Nat} {op : WindowOp} {s : State} (h : Canonical s) :
    Canonical (benchAccess r n off op s).2.2 := by
  unfold benchAccess
  split
  · exact .onlyIf h (fun _ => canonical_bneRefuse)
  · exact canonical_benchWindow h

theorem canonical_unmapped {a : Acc} {off : Nat} {write : Bool} {s : State} (h : Canonical s) : Canonical (unmapped a off write s) :=
  .ite (canonical_arrive (fun _ _ => canonical_answer) h) (.ite (canonical_arrive (fun _ _ => canonical_answer) h) h)

theorem canonical_engXip {w : Nat} {write : Bool} {off n : Nat} {data : List Byte} {s : State} (h : Canonical s) :
    Canonical (engXip w write off n data s) := canonical_engRespond (canonical_xipAccess h)

theorem canonical_engReadAt {off n : Nat} {s : State} (h : Canonical s) : Canonical (engReadAt off n s) :=
  .ite (canonical_engRespond h) (.ite (.ite (canonical_cmpRead h) (canonical_engRespond (canonical_regRead h)))
    (.ite (canonical_deliveryRead h)
      (.ite (canonical_engRespond (canonical_benchAccess h)) (.ite (canonical_engXip h) (canonical_engRespond h)))))

theorem canonical_engAck {rstat n : Nat} {s : State} (h : Canonical s) : Canonical (engAck rstat n s) :=
  canonical_engRespond (.frame h rfl)

theorem canonical_engWriteAt {off : Nat} {ws : List W32} {s : State} (h : Canonical s) : Canonical (engWriteAt off ws s) :=
  .ite (canonical_engAck h) (.ite (canonical_engAck (canonical_regWrite h)) (.ite (canonical_engAck (canonical_windowWrite h))
    (.ite (canonical_engAck (canonical_submit h))
      (.ite (canonical_engAck (canonical_benchAccess h)) (.ite (canonical_engXip h) (canonical_engAck h))))))

theorem canonical_engRead {s : State} (h : Canonical s) : Canonical (engRead s) := by
  unfold engRead
  split
  · exact canonical_engReadAt h
  · exact h

theorem canonical_engWrite {s : State} (h : Canonical s) : Canonical (engWrite s) := by
  unfold engWrite
  split
  · exact canonical_engWriteAt h
  · exact h

/-! ### The end of a step -/

theorem canonical_freezeQueues {s : State} (h : Canonical s) : Canonical (freezeQueues s) := .frame h rfl

theorem canonical_haltJobs {s : State} (h : Canonical s) : Canonical (haltJobs s) :=
  .foldl h (fun _ _ h => .ite h
    (.ite (canonical_voidVerdict (canonical_stopJob h)) (canonical_voidVerdict (canonical_dropUnsent (canonical_updJob h)))))

theorem canonical_haltParser {s : State} (h : Canonical s) : Canonical (haltParser s) := .frame h rfl

theorem canonical_haltWaits {q : Nat} {s : State} (h : Canonical s) : Canonical (haltWaits q s) := by
  unfold haltWaits
  dsimp only
  split
  · exact h
  · refine .foldl h (fun _ _ h => ?_)
    split
    · exact canonical_endRead (canonical_dropWaiter h)
    · exact canonical_endRead (canonical_dropWaiter h)
    · exact canonical_peerSkipped (canonical_dropWaiter h)
    · exact canonical_dropWaiter h

theorem canonical_haltPort {p : PortId} {s : State} (h : Canonical s) : Canonical (haltPort p s) :=
  canonical_kerfFrames (canonical_onPort h)

theorem canonical_haltEngine {s : State} (h : Canonical s) : Canonical (haltEngine s) := by
  unfold haltEngine
  dsimp only
  split
  · exact h
  · exact canonical_kerfWords (canonical_kerfFlight (.frame h rfl))

theorem canonical_haltQueue {q : Nat} {s : State} (h : Canonical s) : Canonical (haltQueue q s) := by
  unfold haltQueue
  dsimp only
  split
  · exact h
  · exact .ite h (canonical_kerfStack h)

theorem canonical_haltLanes {s : State} (h : Canonical s) : Canonical (haltLanes s) :=
  canonical_updBooks (canonical_lanKatSettle (.frame h rfl))

theorem canonical_haltPlanes {s : State} (h : Canonical s) : Canonical (haltPlanes s) := .foldl h (fun _ _ => canonical_haltPlane)

theorem canonical_haltBenches {s : State} (h : Canonical s) : Canonical (haltBenches s) :=
  canonical_bneKatSettle (canonical_benches (fun _ _ => rfl) h)

theorem canonical_alarmBegun {s : State} (h : Canonical s) : Canonical (alarmBegun s) := by
  have hjobs : Canonical (haltJobs (freezeQueues { s with hlt := { s.hlt with alarm := false } })) :=
    canonical_haltJobs (canonical_freezeQueues (.frame h rfl))
  have hwaits : ∀ u, Canonical u → Canonical ((List.range 16).foldl (fun t q => haltWaits q t) (haltEngine (haltParser u))) := fun _ h =>
    .foldl (canonical_haltEngine (canonical_haltParser h)) fun _ _ => canonical_haltWaits
  have hqueues : ∀ u, Canonical u → Canonical ((List.range 16).foldl (fun t q => haltQueue q t) (haltPort .b (haltPort .a u))) :=
    fun _ h => .foldl (canonical_haltPort (canonical_haltPort h)) fun _ _ => canonical_haltQueue
  unfold alarmBegun
  exact hqueues _ (hwaits _ hjobs)

theorem canonical_alarmEnded {s : State} (h : Canonical s) : Canonical (alarmEnded s) := by
  have hclear : ∀ u, Canonical u → Canonical { u with stk := { u.stk with
      clearing := true, building := none, cmpLane := none, cmpAcc := none } } := fun _ h => .frame h rfl
  exact canonical_alarmTx (canonical_xipHalt (hclear _ (canonical_haltBenches (canonical_haltPlanes (canonical_haltLanes h)))))

theorem canonical_alarmSettle {s : State} (h : Canonical s) : Canonical (alarmSettle s) := by
  cases ha : s.hlt.alarm with
  | false =>
    rw [alarmSettle, ha]
    exact h
  | true =>
    rw [alarmSettle_of_alarm ha]
    exact canonical_alarmEnded (canonical_alarmBegun h)

theorem canonical_settleJobs {s : State} (h : Canonical s) : Canonical (settleJobs s) :=
  .ite h (canonical_syncHash (canonical_syncBench (canonical_benchSettle (canonical_hashNext (canonical_permNext h)))))

theorem canonical_notePath {s : State} (h : Canonical s) : Canonical (notePath s) := .ite (.frame h rfl) h

theorem canonical_settleRing {s : State} (h : Canonical s) : Canonical (settleRing s) :=
  canonical_linkSend (canonical_linkSend (canonical_pump (canonical_reroute (canonical_reroute (canonical_notePath h)))))

theorem canonical_finishUp {s : State} (h : Canonical s) : Canonical (finishUp s) :=
  canonical_settleLanes (canonical_passVoids (canonical_settleRing (canonical_dselSync (canonical_xipStart
    (canonical_lspFill
      (canonical_syncParser (canonical_sweepRecords (canonical_idleTouch (canonical_settleJobs (canonical_alarmSettle h))))))))))

theorem canonical_act {f : State → State} {s : State} (hf : ∀ u, Canonical u → Canonical (f u)) (h : Canonical s) : Canonical (act f s) :=
  .ite (canonical_finishUp (hf _ h)) h

theorem canonical_clockOn {s : State} (h : Canonical s) : Canonical (clockOn s) := by
  unfold clockOn
  exact .ite (.frame (.frame h rfl) rfl) (.frame h rfl)

theorem canonical_tick {s : State} (h : Canonical s) : Canonical (tick s) :=
  canonical_act (fun _ h => canonical_timeTick (canonical_clockOn h)) h

/-! ### Rows -/

theorem canonical_oddAccess {a : Acc} {write : Bool} {off len : Nat} {s : State} (h : Canonical s) :
    Canonical (oddAccess a write off len s) := canonical_arrive (fun _ _ => canonical_answer) h

theorem canonical_deliveryWrite {a : Acc} {q : Nat} {s : State} (h : Canonical s) : Canonical (deliveryWrite a q s) :=
  .ite (canonical_arrive (fun _ _ h => canonical_answer (canonical_windowWrite h)) h) h

theorem canonical_submitDone {a : Acc} {w : Nat} {bytes : List Byte} {s : State} (h : Canonical s) : Canonical (submitDone a w bytes s) :=
  canonical_answer (canonical_submit h)

theorem canonical_submitRow {a : Acc} {w : Nat} {bytes : List Byte} {s : State} (h : Canonical s) : Canonical (submitRow a w bytes s) := by
  unfold submitRow
  split
  · exact .ite (.ite (canonical_submitDone (canonical_takeRequest h)) h) (.ite (canonical_arrive (fun _ _ => canonical_submitDone) h) h)
  · exact .ite (canonical_arrive (fun _ _ => canonical_submitDone) h) h

theorem canonical_benchRow {a : Acc} {n off : Nat} {op : WindowOp} {s : State} (h : Canonical s) : Canonical (benchRow a n off op s) :=
  .ite (canonical_arrive (fun _ _ h => canonical_answer (canonical_benchAccess h)) h) h

theorem canonical_xipRow {a : Acc} {w : Nat} {write : Bool} {off len : Nat} {data : List Byte} {s : State} (h : Canonical s) :
    Canonical (xipRow a w write off len data s) := .ite (canonical_arrive (fun _ _ => canonical_xipAccess) h) h

theorem canonical_raceBit {n : Nat} {bit : Bool} {s : State} (h : Canonical s) : Canonical (raceBit n bit s) := .ite (canonical_sample h) h

theorem canonical_laneTimeout {n : Nat} {s : State} (h : Canonical s) : Canonical (laneTimeout n s) := by
  unfold laneTimeout
  split
  · exact .ite (canonical_laneFault h) h
  · exact h

theorem canonical_talSnapTake {s : State} (h : Canonical s) : Canonical (talSnapTake s) := by
  unfold talSnapTake
  exact .ite h (.frame (canonical_takeSnapshot h) rfl)

theorem canonical_benchTestDone {u : BenchUnit} {ok : Bool} {s : State} (h : Canonical s) : Canonical (benchTestDone u ok s) := by
  unfold benchTestDone
  split
  · exact canonical_benchKatDone h
  · exact canonical_hashKatDone h

theorem canonical_engNop {s : State} (h : Canonical s) : Canonical (engNop s) := h

end Sys2Proof.Machine


/-! PROOFS. Every step keeps the canonical form of every memory: command by command the operations' own rules say so. -/

namespace Sys2Proof.Machine

/-! ### Accesses to registers, and the other commands -/

theorem canonical_accessStep {s t : State} (hs : Canonical s) (h : AccessStep s t) : Canonical t := by
  cases h with
  | none => exact hs
  | write => exact canonical_writeAccess hs
  | read => exact canonical_readAccess hs
  | cmp => exact canonical_cmpData hs
  | odd => exact canonical_oddAccess hs

theorem canonical_accessDone {s t : State} (hs : Canonical s) (h : AccessDone s t) : Canonical t := by
  obtain h | ⟨u, hu, h⟩ := h
  · rw [h]
    exact hs
  · rw [h]
    exact canonical_finishUp (canonical_accessStep hs hu)

/-- A command whose operation keeps the form. -/
theorem canonical_row {f : State → State} {s t : State} (hf : ∀ u, Canonical u → Canonical (f u)) (hs : Canonical s)
    (h : (.next (act f s) : Host.Outcome State Fault Refusal) = .next t) : Canonical t := by
  obtain rfl := Host.Outcome.next.inj h
  exact canonical_act hf hs

/-- The commands that are neither those of power nor accesses to registers. -/
theorem canonical_exec_other {c : Instr} {s t : State} (hc : (isPowerRow c || isAccessRow c) = false) (hs : Canonical s)
    (h : exec c s = .next t) : Canonical t := by
  cases c
  case romBoot => exact canonical_row (fun _ => canonical_romBoot) hs h
  case tamper => exact canonical_row (fun _ => canonical_tamperPulse) hs h
  case slowclkLost => exact canonical_row (fun _ => canonical_slowclkLost) hs h
  case paceWindowEnd => exact canonical_row (fun _ => canonical_paceEnd) hs h
  case race => exact canonical_row (fun _ => canonical_raceBit) hs h
  case witnessSample => exact canonical_row (fun _ => canonical_sample) hs h
  case hltSnapDone => exact canonical_row (fun _ => canonical_hltSnapTake) hs h
  case seedReady => exact canonical_row (fun _ => canonical_seedReady) hs h
  case seedHandover => exact canonical_row (fun _ => canonical_handover) hs h
  case heldSeedAged => exact canonical_row (fun _ => canonical_seedAged) hs h
  case planeKatDone => exact canonical_row (fun _ => canonical_planeKatDone) hs h
  case talSnapDone => exact canonical_row (fun _ => canonical_talSnapTake) hs h
  case laneSegment => exact canonical_row (fun _ => canonical_laneSegment) hs h
  case laneKatDone => exact canonical_row (fun _ => canonical_laneKatDone) hs h
  case laneTimeCap => exact canonical_row (fun _ => canonical_laneTimeCap) hs h
  case laneHandshakeTimeout => exact canonical_row (fun _ => canonical_laneTimeout) hs h
  case mixPieceAbsorb => exact canonical_row (fun _ => canonical_mixAbsorb) hs h
  case segmentOffer => exact canonical_row (fun _ => canonical_segmentOffer) hs h
  case patrolRead => exact canonical_row (fun _ => canonical_patrolRead) hs h
  case ageScrub => exact canonical_row (fun _ => canonical_ageScrub) hs h
  case deliveryRead => exact canonical_row (fun _ => canonical_windowRead) hs h
  case deliveryWindowWrite => exact canonical_row (fun _ => canonical_deliveryWrite) hs h
  case grantAllot => exact canonical_row (fun _ => canonical_grantAllot) hs h
  case stallLimitExpire => exact canonical_row (fun _ => canonical_stallExpire) hs h
  case markForced => exact canonical_row (fun _ => canonical_markForced) hs h
  case resultWriteDrop => exact canonical_row (fun _ => canonical_resultDrop) hs h
  case distCandidate => exact canonical_row (fun _ => canonical_distTest) hs h
  case arrayClearDone => exact canonical_row (fun _ => canonical_clearDone) hs h
  case submissionWrite => exact canonical_row (fun _ => canonical_submitRow) hs h
  case draw | drawn | drawp | mix | reseed | peg | atInstr | beacon | verify | batch | digest | tally | test | note | abort | restore |
    endMark => exact canonical_row (fun _ => canonical_parseOp) hs h
  case unknownOpcode => exact canonical_row (fun _ => canonical_parseIf) hs h
  case atLaunch => exact canonical_row (fun _ => canonical_atLaunch) hs h
  case beaconGrantRequest => exact canonical_row (fun _ => canonical_beaconAsk) hs h
  case beaconLaunch => exact canonical_row (fun _ => canonical_beaconLaunch) hs h
  case fenceRelease => exact canonical_row (fun _ => canonical_fenceRelease) hs h
  case eventQueueStore => exact canonical_row (fun _ => canonical_storeWaiting) hs h
  case benchIdleTimeout => exact canonical_row (fun _ => canonical_benchIdleTimeout) hs h
  case benchJobStart => exact canonical_row (fun _ => canonical_benchJobStart) hs h
  case benchVerdict => exact canonical_row (fun _ => canonical_benchVerdict) hs h
  case benchClearDone => exact canonical_row (fun _ => canonical_benchClearDone) hs h
  case benchKatDone => exact canonical_row (fun _ => canonical_benchTestDone) hs h
  case ucodeStoreError => exact canonical_row (fun _ => canonical_ucodeStoreError) hs h
  case benchWindowAccess => exact canonical_row (fun _ => canonical_benchRow) hs h
  case hashTurnDone => exact canonical_row (fun _ => canonical_hashTurnDone) hs h
  case portTrain => exact canonical_row (fun _ => canonical_portTrain) hs h
  case identRx => exact canonical_row (fun _ => canonical_identRx) hs h
  case linkRx => exact canonical_row (fun _ => canonical_linkRx) hs h
  case frameCrcError => exact canonical_row (fun _ => canonical_frameCrcError) hs h
  case replayTimer => exact canonical_row (fun _ => canonical_replayTimer) hs h
  case portRestoreTimer => exact canonical_row (fun _ => canonical_restoreTimer) hs h
  case lossOfLock => exact canonical_row (fun _ => canonical_lossOfLock) hs h
  case highBer => exact canonical_row (fun _ => canonical_highBer) hs h
  case retransmissionLimit => exact canonical_row (fun _ => canonical_retransLimit) hs h
  case creditTimeout => exact canonical_row (fun _ => canonical_creditTimeout) hs h
  case breakRx => exact canonical_row (fun _ => canonical_breakRx) hs h
  case ringRxBad => exact canonical_row (fun _ => canonical_ringRxBad) hs h
  case transitFrame => exact canonical_row (fun _ => canonical_transitFrame) hs h
  case wrAckRx => exact canonical_row (fun _ => canonical_wrAckRx) hs h
  case rdRspRx => exact canonical_row (fun _ => canonical_rdRspRx) hs h
  case unmappedAccess => exact canonical_row (fun _ => canonical_unmapped) hs h
  case enumFrame => exact canonical_row (fun _ => canonical_enumRx) hs h
  case beaconRx => exact canonical_row (fun _ => canonical_beaconRx) hs h
  case announceTx => exact canonical_row (fun _ => canonical_announceTx) hs h
  case announceRx => exact canonical_row (fun _ => canonical_announceRx) hs h
  case mgrStandbyTimeout => exact canonical_row (fun _ => canonical_standbyTimeout) hs h
  case helloTx => exact canonical_row (fun _ => canonical_helloTx) hs h
  case helloRx => exact canonical_row (fun _ => canonical_helloRx) hs h
  case workerSlotExpire => exact canonical_row (fun _ => canonical_slotExpire) hs h
  case peerTx => exact canonical_row (fun _ => canonical_peerTx) hs h
  case peerRx => exact canonical_row (fun _ => canonical_peerRx) hs h
  case gatherTx => exact canonical_row (fun _ => canonical_gatherTx) hs h
  case gatherRx => exact canonical_row (fun _ => canonical_gatherRx) hs h
  case reportTallyRx | reportHealthRx => exact canonical_row (fun _ => canonical_reportRx) hs h
  case gatherStale => exact canonical_row (fun _ => canonical_gatherStale) hs h
  case alarmRx => exact canonical_row (fun _ => canonical_alarmRx) hs h
  case fabricAlarmRx => exact canonical_row (fun _ => canonical_fabricAlarmRx) hs h
  case syncTx => exact canonical_row (fun _ => canonical_syncTx) hs h
  case syncRx => exact canonical_row (fun _ => canonical_syncRx) hs h
  case ckTimeLost => exact canonical_row (fun _ => canonical_ckTimeLost) hs h
  case ckTimeRestored => exact canonical_row (fun _ => canonical_ckTimeRestored) hs h
  case syncInEdge => exact canonical_row (fun _ => canonical_syncInEdge) hs h
  case timeHoldover => exact canonical_row (fun _ => canonical_timeHoldover) hs h
  case syncOutPulse => exact canonical_row (fun _ => canonical_syncOutPulse) hs h
  case syncOutPulseEnd => exact canonical_row (fun _ => canonical_syncOutEnd) hs h
  case lspTransfer => exact canonical_row (fun _ => canonical_lspPeriods) hs h
  case engineRead => exact canonical_row (fun _ => canonical_engRead) hs h
  case engineWrite => exact canonical_row (fun _ => canonical_engWrite) hs h
  case engineNop => exact canonical_row (fun _ => canonical_engNop) hs h
  case engineSwitch => exact canonical_row (fun _ => canonical_engineSwitch) hs h
  case xipRead | xipWrite => exact canonical_row (fun _ => canonical_xipRow) hs h
  case flashPoll => exact canonical_row (fun _ => canonical_flashPoll) hs h
  case pollTimeout => exact canonical_row (fun _ => canonical_pollTimeout) hs h
  case xipTransactionDone => exact canonical_row (fun _ => canonical_xipDone) hs h
  case guardTimeout => exact canonical_row (fun _ => canonical_guardTimeout) hs h
  case mbxHoldTimeout => exact canonical_row (fun _ => canonical_mbxTimeout) hs h
  case ckRingAbsent => exact canonical_row (fun _ => canonical_refclkLost) hs h
  case jobEngineLost => exact canonical_row (fun _ => canonical_engineLost) hs h
  all_goals cases hc

theorem canonical_exec {c : Instr} {s t : State} (hp : isPowerRow c = false) (hs : Canonical s) (h : exec c s = .next t) : Canonical t := by
  by_cases ha : isAccessRow c = true
  · exact canonical_accessDone hs (accessDone_of_exec ha h)
  · exact canonical_exec_other (by simp [hp, ha]) hs h

/-! ### Power -/

/-- A fresh node has empty memories. -/
theorem canonical_fresh {s r : State} (h : Fresh s r) : Canonical r := by
  obtain ⟨is832, x, p, k, rfl⟩ := h
  refine ⟨rfl, rfl, rfl, fun b hb => ?_⟩
  cases is832 with
  | true =>
    have hmem : ∀ c ∈ (State.atRelease true x).bne.benches, memWf c.mem = true := List.forall_mem_replicate.mpr (.inr rfl)
    exact hmem b hb
  | false =>
    have hmem : ∀ c ∈ (State.atRelease false x).bne.benches, memWf c.mem = true := List.forall_mem_replicate.mpr (.inr rfl)
    exact hmem b hb

theorem canonical_powerStep {s t : State} (hs : Canonical s) (h : PowerStep s t) : Canonical t := by
  cases h with
  | pins p => exact .frame hs rfl
  | lost hr => exact canonical_fresh hr
  | released hr => exact canonical_finishUp (canonical_fresh hr)
  | tampered hr => exact canonical_finishUp (canonical_tamperAct (canonical_fresh hr))

/-- Settles O7: every operation keeps the form, a tick is one, and a node whose volatile state was lost has empty memories. -/
theorem stepKeepsMemoriesCanonical : Obligations.StepKeepsMemoriesCanonical := by
  intro s t hs h
  rw [← canonical_iff] at hs ⊢
  unfold step at h
  split at h
  next =>
    cases h
    exact canonical_tick hs
  next c rest _ =>
    have hs' : Canonical { s with pending := rest } := hs
    cases hc : isPowerRow c with
    | true => exact canonical_powerStep hs' (powerStep_of_exec hc h)
    | false => exact canonical_exec hc hs' h

end Sys2Proof.Machine
